-- ==== Sys2Proof/Word.lean ====
section
/-! DEFINITION. The word types of the register space and of ring space. -/

namespace Sys2Proof

/-- A register or table word: 32 bits, bit 31 most significant (R6). -/
abbrev Word := BitVec 32

/-- One byte of ring space, a record or an envelope. -/
abbrev Byte := BitVec 8

end Sys2Proof
end

