-- ==== Sys2Proof/Syntax.lean ====
section
/-! DEFINITION. The commands of the block: one constructor for each row of spec/opcode_table.json, with the
operands a sender gives. The table gives no bits and no operands; the operands here are what the rule of the row
says the step depends on (log entry 1). `h` is always the issuing host, 0 to 3. -/

namespace Sys2Proof

/-- What a receiver of a GOOSE frame checks (R378): the frame as decoded under the BER rules. -/
structure GooseFrame where
  /-- port of arrival: 0 STA_A, 1 STA_B, 2 PRO_A, 3 PRO_B (R388) -/
  port : Nat
  /-- source address -/
  source : Nat
  /-- sequence number of a valid redundancy control trailer, on the station pair (R373) -/
  trailer : Option Nat
  /-- destination address, bytes 0 to 5 as one number, byte 0 lowest -/
  dst : Nat
  /-- APPID of the frame -/
  appid : Nat
  /-- the Ethertype is 0x88B8, the length field matches, the length is at most 1,522 and the goosePdu decodes -/
  wellFormed : Bool
  /-- the gocbRef string -/
  ref : List (BitVec 8)
  /-- simulation bit -/
  sim : Bool
  /-- ndsCom -/
  ndsCom : Bool
  /-- test -/
  test : Bool
  /-- stNum -/
  stNum : BitVec 32
  /-- sqNum -/
  sqNum : BitVec 32
  /-- timeAllowedtoLive, ms -/
  tal : Nat
  /-- the dataset members: type (0 BOOLEAN, 1 INT32, 2 FLOAT32, 3 OCTET STRING of 48 bytes) and bytes -/
  members : List (Nat × List (BitVec 8))
  deriving DecidableEq, Repr

/-- What resets a PCIe host port (R369), or moves the level of its PERST_N (R450, R452). -/
inductive PortReset where
  /-- the link is lost -/
  | linkLoss
  /-- a hot reset -/
  | hotReset
  /-- a function-level reset -/
  | functionReset
  /-- PERST_N goes low, or high again -/
  | perst (low : Bool)
  deriving DecidableEq, Repr

/-- The commands. -/
inductive Instr where
  | registerWrite (h : Nat) (way : BitVec 8) (off : Nat) (v : Word)
  | rwcValueWrite (h off : Nat) (v : Word)
  | errcodeWrite (h page : Nat) (v : Word)
  | irqStatClear (h page : Nat) (v : Word)
  | claim (h page : Nat) (arg : BitVec 24)
  | release (h page : Nat) (arg : BitVec 24)
  | breakClaim (h page : Nat) (arg : BitVec 24)
  | key (h page : Nat) (arg : BitVec 24)
  | keyExpiry (h page : Nat)
  | modeRequestWatch (h : Nat)
  | modeRequestEnergize (h : Nat)
  | modeRequestFollow (h : Nat)
  | modeRequestForm (h : Nat)
  | modeRequestService (h : Nat)
  | holdRequest (h : Nat) (v : Word)
  | holdLatchClear (h : Nat) (v : Word)
  | beatStart
  | scheduleEntryFire (entry : Nat)
  | blankWindowEnd (cmp : Nat)
  | scheduleEntryWrite (h entry word : Nat) (v : Word)
  | cellReport (port : Nat) (bytes : List Byte) (errs : Nat)
  | cellCharged (cell : Nat)
  | cellAbsent (cell : Nat)
  | reportCutoff
  | joinStepRepeat (cell : Nat)
  | pipelineStart
  | standbyCopyHandover
  | computeDeadline (lateA lateB : Bool)
  | devtimeSet (h : Nat) (v : Word)
  | ptpSyncReceive (port domain : Nat) (offset : Int)
  | ptpHoldover
  | lockDeclared
  | lockLost
  | flywheelEntry
  | flywheelEnd
  | slewEnd
  | angDivWrite (h : Nat) (v : Word)
  | divTakeEffect
  | angCfgWrite (h : Nat) (v : Word)
  | adcSwtrig (h : Nat) (v : Word)
  | sequenceDelayExpiry (seq : Nat)
  | entryHold (seq : Nat)
  | conversionEnd (bank slot : Nat) (raw : BitVec 16) (overload : Bool)
  | resultDelivery
  | calibrationStep
  | spareCalibrationEnd (offset gain : Int) (converged : Bool)
  | slotHandover
  | calStarved
  | sliceCalibrationEnd (offset gain : Int) (converged : Bool)
  | calsetLoad (h : Nat)
  | calsetDataWrite (h : Nat) (v : Word)
  | calsetWrite (h : Nat)
  | calsetWritten
  | comparatorAssert (cmp : Nat) (uv : Int)
  | comparatorRelease (cmp : Nat) (uv : Int)
  | sampledWindow (live : Bool)
  | comparatorSubstitute (h circuit : Nat) (v : Word)
  | probeReturn (ring : Nat) (counterClockwise : Bool) (delay : Nat)
  | portDown (port cause : Nat)
  | portSubstitute (h : Nat) (v : Word)
  | lnkCtrlWrite (h ring : Nat) (v : Word)
  | cellTableWrite (h cell byte : Nat) (v : Word)
  | tripAssert (line : Nat)
  | tripClear (line : Nat)
  | tripSw (h : Nat) (v : Word)
  | lhbPeriodBoundary (out : Nat)
  | lhbCommit (h : Nat) (v : Word)
  | modulatorEvent (ev : Nat)
  | streamStopped
  | fabricClockStop
  | counterClear (h : Nat) (v : Word)
  | forceLhb (h : Nat) (v : Word)
  | forceCell (h : Nat) (v : Word)
  | slotStagingWrite (h slot byte : Nat) (v : Word)
  | slotCommit (h slot : Nat) (v : Word)
  | setpointWrite (h slot : Nat) (v : Word)
  | loopRelease (h : Nat) (v : Word)
  | snapshotCapture (h : Nat)
  | snapshotRelease (h : Nat)
  | closeStart (h : Nat)
  | closeAbort (h : Nat)
  | closeStepAdvance
  | closeWaitTimeout
  | grdOpen (h : Nat) (v : Word)
  | stopZeroCurrent
  | transferToFormComplete
  | transferToFollowComplete
  | neutralCurrent
  | neutralClear
  | trackerPeriodEnd (cell : Nat)
  | sweepStart (cell : Nat)
  | sweepPointEnd (cell : Nat)
  | globalSweepDue
  | globalSweepRequest (h : Nat) (v : Word)
  | historyWrite
  | storeDispatchWrite (h : Nat) (v : Word)
  | subFail (cell : Nat)
  | bypassFail (cell : Nat)
  | manualSubstitution (h : Nat) (v : Word)
  | rideReturn
  | profileTrip (row : Nat)
  | profileLoad (h profile : Nat)
  | profileStagingWrite (h profile byte : Nat) (v : Word)
  | profileCommit (h profile : Nat)
  | profileAbandon (h profile : Nat)
  | profileWritten
  | chipEnd
  | islandAction
  | passiveIslandDetect (why : Nat)
  | gridBack
  | reconOk
  | heartbeat (eng : Nat) (seq : BitVec 32)
  | heartbeatMissing (eng : Nat)
  | leaseExpiry
  | guardEnd
  | engineFault (eng cause : Nat)
  | gafferFrozen
  | forcedSwitchover (h : Nat)
  | switchoverJudgementEnd
  | testDue
  | engineJoin (h eng slot : Nat)
  | engineReload (h eng slot : Nat)
  | engineHalt (h eng : Nat)
  | engineOff (h eng : Nat)
  | rejoinStageEnd (eng : Nat) (pass : Bool)
  | rejoinTimeout (eng : Nat)
  | autojoin (eng : Nat)
  | safetyTick (si : BitVec 16) (mirrors readback : BitVec 8)
  | discrepancyFault (pair : Nat)
  | crossLinkExchange (good differ : Bool) (x y : BitVec 4)
  | channelFault (channel : Nat)
  | groupCommand (h : Nat) (v : Word)
  | feedbackConfirm (group : Nat)
  | feedbackTimeout (group : Nat)
  | mirrorDisagree (group : Nat)
  | darkPulse (switch : Nat)
  | darkPulseEnd (switch : Nat) (readOff readOn : Bool)
  | switchStuckOn (switch : Nat)
  | testPulse (line : Nat)
  | crossfaultCheck (line : Nat) (si : BitVec 16)
  | sealSample (noX ncX noY ncY : BitVec 8)
  | sealChange (sealIx : Nat)
  | sealFault (sealIx : Nat)
  | envelopeCopy (net : Nat) (bytes : List Byte) (rx : Nat)
  | envelopeUnpaired (net source : Nat)
  | networkSilent (net : Nat)
  | permitWindowEnd (source : Nat)
  | itsupLatch
  | safetyAck (h : Nat)
  | ringEnable (h ring : Nat) (v : Word)
  | ringDisable (h ring : Nat) (v : Word)
  | cmdDoorbell (h ring : Nat) (v : Word)
  | ringHeadWrite (h ring : Nat) (v : Word)
  | nop (ring : Nat)
  | read (ring : Nat)
  | write (ring : Nat)
  | writePair (ring : Nat)
  | imageOpen (ring : Nat)
  | imageData (ring : Nat)
  | imageClose (ring : Nat)
  | logRead (ring : Nat)
  | msixDeferred (h : Nat)
  | eventWindowClose (h code subject : Nat)
  | versionNegotiate (h : Nat) (v : Word)
  | hostResetRequest (h : Nat)
  | releaseAll (h : Nat)
  | hostPortReset (h : Nat) (what : PortReset)
  | logQueueDrain
  | pdelayReqSend (port : Nat)
  | pdelayReqAnswer (port domain : Nat)
  | ptpAnnounceTimeout (port : Nat)
  | prpFrameReceive (port source seq : Nat) (trailer : Bool)
  | prpSupervisionSend
  | prpPath (lan : Nat) (lost : Bool)
  | networkLinkChange (port : Nat) (up : Bool)
  | gooseReceive (frame : GooseFrame)
  | subTimeout (entry : Nat)
  | gooseRetransmit (pub : Nat)
  | svSample (stream : Nat)
  | recorderManualTrigger (h : Nat) (v : Word)
  | recordEnd
  | recordDelivery
  | recorderVersionNegotiate (h : Nat) (v : Word)
  | sramScrub (bank row corrected : Nat)
  | dramScrub (corrected : Nat)
  | uncorrectableError (location item : Nat) (addr : Word)
  | complementScan (location off : Nat) (x xn : Word)
  | ciWrite (h slot : Nat)
  | ciApply (h slot : Nat)
  | ciErase (h slot : Nat)
  | ciOperationEnd (verified signed : Bool)
  | bootApply
  | lifecycleChange (h target : Nat)
  | lifecycleWipeEnd
  | auxRise (rc3sel : Bool)
  | auxFall
  | railPowerGood (ch : Nat)
  | softStartEnd (ch : Nat) (preb : Bool)
  | coreRailPgLoss (ch : Nat)
  | pgLost
  | railSyncValid (kHz : Nat)
  | railSyncLost
  | currentLimit (ch : Nat)
  | bstuv (ch : Nat)
  | bootstrapRecover (ch : Nat)
  | outputOvervoltage (ch : Nat) (above : Bool)
  | driverSupplyUv (ch : Nat) (low : Bool)
  | railLatch (ch cause : Nat)
  | railEnRestart
  | voltageCommand (h ch : Nat) (v : Word)
  | burstEntry (ch : Nat)
  | burstExit (ch : Nat)
  | referenceGood (ref : Nat)
  | referenceLost (ref : Nat)
  | holdoverTimeout
  | referenceRevert
  | loopLock (loop count : Nat)
  | loopLockLoss (loop count : Nat) (fast : Bool)
  | fabricRetryEnd (locked : Bool)
  | dllLost (port : Nat)
  | sentinelSample (no nc : BitVec 8) (tamp : BitVec 2)
  | sentinelReadingChange (input : Nat)
  | alertFrameStart
  | alertFrameAbort
  | alertFrameComplete
  | alertRetry
  | aliveStamp
  | bandChange (mV : Nat)
  | cellCutoff (midWrite : Bool)
  | cellProtection (kind : Nat)
  | sentinelColdStart
  | sentinelHandover
  | tamperConfigWrite (h : Nat) (v : Word)
  | senStatRead (h : Nat)
  | resetPin (low : Bool)
  | softwareReset (h : Nat)
  | resetRelease (failed : List Nat)
  | blockReady (block : Nat)
  | readinessTimeout (block : Nat)
  | hostLinkUp (h : Nat)
  | tapReset
  | idcode
  | samplePreload (cells : List Bool)
  | extest (cells : List Bool)
  | extestPulse (cells : List Bool)
  | extestTrain (cells : List Bool)
  | highz
  | clamp
  | bypass (code : BitVec 8)
  | switchingCycle (ch : Nat) (start pulse enable : Bool)
  | reverseCurrentLimit (ch : Nat)
  | refDisagree (tenthPpm : Int)
  | ringPortSync (port : Nat)
  | ptpAnnounceReceive (port domain : Nat) (gm : BitVec 64) (cls : BitVec 8) (utcOfs : BitVec 16) (rank : Nat)
  | pdelayRespReceive (port domain delay : Nat)
  | engineBoot (passA passB : Bool)
  | imageCommandComplete (signed : Bool) (format minsrev : BitVec 8) (version : Word) (hstv : BitVec 16)
  | cellProtectionRelease (kind : Nat)
  | analogDieFault
  | flashDieFault
  deriving DecidableEq, Repr

end Sys2Proof
end

