-- ==== Sys2Proof/Machine/Map.lean ====
section
/-! DEFINITION. A sparse table with one canonical form: keys strictly rising, and no entry equal to what an
unlisted key reads as. Ring space, the register words and every indexed table of the machine are held so. -/

namespace Sys2Proof.Map

/-- The value at key `k`; an unlisted key reads as `d k`. -/
def get {α : Type} (d : Nat → α) (k : Nat) : List (Nat × α) → α
  | [] => d k
  | (j, v) :: m => if j = k then v else get d k m

/-- Put an entry before the keys above it, in place of one with its own key. -/
def insert {α : Type} (k : Nat) (v : α) : List (Nat × α) → List (Nat × α)
  | [] => [(k, v)]
  | (j, w) :: m => if k < j then (k, v) :: (j, w) :: m else if k = j then (k, v) :: m else (j, w) :: insert k v m

/-- Take the entry of a key out. -/
def remove {α : Type} (k : Nat) : List (Nat × α) → List (Nat × α)
  | [] => []
  | (j, w) :: m => if k < j then (j, w) :: m else if k = j then m else (j, w) :: remove k m

/-- Write `v` at key `k`; writing what an unlisted key reads as takes the entry out. -/
def put {α : Type} [DecidableEq α] (d : Nat → α) (k : Nat) (v : α) (m : List (Nat × α)) : List (Nat × α) :=
  if v = d k then remove k m else insert k v m

/-- Whether every key of `m` lies above `k`. -/
def above {α : Type} (k : Nat) : List (Nat × α) → Bool
  | [] => true
  | (j, _) :: _ => decide (k < j)

/-- The canonical form: keys strictly rising, no entry equal to what an unlisted key reads as. -/
def wf {α : Type} [DecidableEq α] (d : Nat → α) : List (Nat × α) → Bool
  | [] => true
  | (k, v) :: m => decide (v ≠ d k) && above k m && wf d m

/-- Keys strictly rising. -/
def rising {α : Type} : List (Nat × α) → Bool
  | [] => true
  | (k, _) :: m => above k m && rising m

end Sys2Proof.Map
end

