-- ==== Sys2Proof/Config.lean ====
section
/-! DEFINITION. The values the manual leaves open, as constants without a body: nothing can be proved about
which value they take. Log entries 10 to 16 name them. -/

namespace Sys2Proof.Config

/-- A word the manual leaves open, one for each count of `State.free` (log entry 10). -/
opaque freeValue : Nat → BitVec 32

/-- Whether an inexact quotient of engine arithmetic is rounded up; R9 states the format and the
saturation and no rounding (log entry 11). -/
opaque roundUp : Int → Nat → Bool

/-- Whether the sine of an ANG32 angle that is not a multiple of 90 degrees, scaled by 2^28, is taken away from zero; R9 states
no rounding (log entry 12). -/
opaque sinUp : BitVec 32 → Bool

/-- Whether the angle of a vector that is no whole count of ANG32 is taken to the next count (log entry 12). -/
opaque angleUp : Int → Int → Bool

/-- The word held in engine SRAM at a word index, which a halted engine shows (R463); the manual gives no
contents (log entry 13). -/
opaque engineSram : Nat → Nat → BitVec 32

/-- The upper and the lower resistor of the divider on HARV_SET, in ohms, 0 for a lower one that is shorted (R435): the
board's (log entry 194). -/
opaque harvUpper : Nat

/-- See `harvUpper`. -/
opaque harvLower : Nat

/-- BLKVER of a block, by page index: the manual gives the fields and no value (log entry 14). -/
opaque blockVersion : Nat → BitVec 16

/-- Whether the header of a configuration image says TYPE 2, network: the manual names the fields of the header and not
their places (log entry 16). -/
opaque imageIsNetwork : List (BitVec 8) → Bool

/-- The string sets a network image holds, bit n: the manual does not give the form of its body (log entry 16). -/
opaque imageStrings : List (BitVec 8) → BitVec 16

/-- The level of an observed clock, by CODE, IDX and monotone time: its phase is open (R461, log entry 229). -/
opaque observe : Nat → Nat → Nat → Bool

/-- The level of an observed pulse, by CODE and the time since it began: its width is open (R461, log entry 229). -/
opaque observePulse : Nat → Nat → Bool

/-- The voltage of an observed analog signal that the device does not hold, µV, by CODE, IDX and monotone time (R460, log entry
229). -/
opaque observeUv : Nat → Nat → Nat → Int

end Sys2Proof.Config
end

