-- ==== Sys2Proof/Machine/Operands.lean ====
section
/-! DEFINITION. Fields of words, byte order, the fixed-point formats of R9 and R10 and their arithmetic, and the
CRCs of records, log entries and envelopes. -/

namespace Sys2Proof

/-! Fields of words (R6: bit 31 is the most significant). -/

/-- Bits `[lo + len - 1 : lo]` of a word, as a number. -/
def fld (w : Word) (lo len : Nat) : Nat := w.toNat / 2 ^ lo % 2 ^ len

/-- One bit of a word. -/
def bitAt (w : Word) (i : Nat) : Bool := w.getLsbD i

/-- Bits of a number. -/
def nfld (n lo len : Nat) : Nat := n / 2 ^ lo % 2 ^ len

/-- The mask of `len` bits from bit `lo`. -/
def maskOf (lo len : Nat) : Word := BitVec.ofNat 32 ((2 ^ len - 1) * 2 ^ lo)

/-- A word with the field `[lo + len - 1 : lo]` set to `v` (modulo the width of the field). -/
def setFld (w : Word) (lo len v : Nat) : Word :=
  (w &&& ~~~ (maskOf lo len)) ||| BitVec.ofNat 32 (v % 2 ^ len * 2 ^ lo)

/-- 1 for true. -/
def b2n (b : Bool) : Nat := if b then 1 else 0

/-- A bit at a place of a word. -/
def bitW (i : Nat) (b : Bool) : Word := BitVec.ofNat 32 (b2n b * 2 ^ i)

/-- A number placed at bit `lo` of a word, in `len` bits. -/
def at_ (lo len v : Nat) : Word := BitVec.ofNat 32 (v % 2 ^ len * 2 ^ lo)

/-- A word of the number. -/
def wd (n : Nat) : Word := BitVec.ofNat 32 n

/-- A word of the integer, two's complement. -/
def wi (i : Int) : Word := BitVec.ofInt 32 i

/-- A number of `n` bits read as two's complement. -/
def sx (n v : Nat) : Int := if v % 2 ^ n < 2 ^ (n - 1) then (v % 2 ^ n : Nat) else (v % 2 ^ n : Nat) - (2 ^ n : Nat)

/-- A field read as two's complement. -/
def sfld (w : Word) (lo len : Nat) : Int := sx len (fld w lo len)

/-- A counter of `bits` bits that saturates. -/
def satInc (bits n k : Nat) : Nat := min (n + k) (2 ^ bits - 1)

/-- The bits set in a number, low bit first, below `n`. -/
def bitsSet (n w : Nat) : List Nat := (List.range n).filter fun i => w.testBit i

/-- Set or clear a bit of a number. -/
def setBit (w i : Nat) (b : Bool) : Nat :=
  if w.testBit i then (if b then w else w - 2 ^ i) else (if b then w + 2 ^ i else w)

/-! Byte order (R6: little-endian). -/

/-- The number a list of bytes spells, lowest byte first. -/
def leNat : List Byte → Nat
  | [] => 0
  | b :: bs => b.toNat + 256 * leNat bs

/-- The number a list of bytes spells, highest byte first. -/
def beNat (bs : List Byte) : Nat := leNat bs.reverse

/-- `n` bytes of a number, lowest first. -/
def leBytes : Nat → Nat → List Byte
  | 0, _ => []
  | n + 1, v => BitVec.ofNat 8 v :: leBytes n (v / 256)

/-- `n` bytes of a number, highest first. -/
def beBytes (n v : Nat) : List Byte := (leBytes n v).reverse

/-- `n` bytes of a list from byte `o`; bytes beyond its end read as 0. -/
def slice (bs : List Byte) (o n : Nat) : List Byte :=
  (List.range n).map fun i => bs.getD (o + i) 0

/-- Field of `n` bytes at byte `o`, little-endian. -/
def byteFld (bs : List Byte) (o n : Nat) : Nat := leNat (slice bs o n)

/-- Pad with zero bytes, or cut, to `n` bytes. -/
def padTo (n : Nat) (bs : List Byte) : List Byte := slice bs 0 n

/-! Lists as tables. -/

/-- Change the entry at an index. -/
def modAt {α : Type} (f : α → α) : Nat → List α → List α
  | _, [] => []
  | 0, a :: as => f a :: as
  | n + 1, a :: as => a :: modAt f n as

/-- Put a value at an index. -/
def setAt {α : Type} (v : α) (n : Nat) (l : List α) : List α := modAt (fun _ => v) n l

/-- Sum of integers. -/
def isum : List Int → Int
  | [] => 0
  | a :: as => a + isum as

/-- Sum of numbers. -/
def nsum : List Nat → Nat
  | [] => 0
  | a :: as => a + nsum as

/-! Fixed-point arithmetic (R9, R10). Values of PU32 are held as integers of 2⁻²⁸ pu. -/

/-- 1.0 pu (R9). -/
def pu : Int := 0x10000000

/-- Saturation at the ends of the PU32 range (R9). -/
def sat (x : Int) : Int := max (-0x80000000) (min 0x7FFFFFFF x)

/-- Limits of an integer. -/
def clampI (lo hi x : Int) : Int := max lo (min hi x)

/-- The absolute value. -/
def absI (x : Int) : Int := if x < 0 then -x else x

/-- A quotient: exact where it divides; otherwise one of the two neighbouring integers, which one being open
(log entry 11). A zero divisor gives 0, and no caller divides by it. -/
def quo (num : Int) (den : Nat) : Int :=
  if den = 0 then 0
  else if num % (den : Int) = 0 then num / (den : Int)
  else if Config.roundUp num den then num / (den : Int) + 1 else num / (den : Int)

/-- A quotient of integers of either sign. -/
def quoI (num den : Int) : Int := if den < 0 then quo (-num) den.natAbs else quo num den.natAbs

/-- A quotient of numbers. -/
def quoN (num den : Nat) : Nat := (quo num den).toNat

/-- Product of two PU32 values (R9: saturated). -/
def pmul (a b : Int) : Int := sat (quo (a * b) 0x10000000)

/-- Quotient of two PU32 values; 0 for a zero divisor, which callers rule out. -/
def pdiv (a b : Int) : Int := if b = 0 then 0 else sat (quoI (a * 0x10000000) b)

/-- Sum of PU32 values (R9: saturated). -/
def padd (a b : Int) : Int := sat (a + b)

/-- Difference of PU32 values. -/
def psub (a b : Int) : Int := sat (a - b)

/-- A value scaled by a ratio of numbers. -/
def scale (a : Int) (num : Int) (den : Nat) : Int := sat (quo (a * num) den)

/-- A per-unit value given in units of 2⁻¹⁶ pu. -/
def pu16 (n : Nat) : Int := n * 4096

/-- A per-unit value given as a count over `den` to one unit. -/
def puFrac (n : Int) (den : Nat) : Int := quo (n * 0x10000000) den

/-- Integer square root from below, by bisection on the bits from `2 ^ n`. -/
def isqrtFrom : Nat → Nat → Nat → Nat
  | 0, _, r => r
  | n + 1, x, r => if (r + 2 ^ n) * (r + 2 ^ n) ≤ x then isqrtFrom n x (r + 2 ^ n) else isqrtFrom n x r

/-- Square root of a non-negative integer: exact for a square, else one of its two neighbours (log entry 11). -/
def isqrt (x : Int) : Int :=
  let n := x.toNat
  let r := isqrtFrom 48 n 0
  if r * r = n then r else if Config.roundUp x 2 then r + 1 else r

/-- The length of a vector of two PU32 components. -/
def vlen (a b : Int) : Int := sat (isqrt (a * a + b * b))

/-- π in units of 2⁻⁹⁶. -/
abbrev piFix : Nat := 248902613312231085230521944622

/-- The sine of `q` counts of ANG32 in the first quadrant, 2⁻²⁸, from below: 17 terms of its series in 2⁻⁹⁶. -/
def sinQuarter (q : Nat) : Nat :=
  let one := 2 ^ 96
  let x := q * piFix / 2 ^ 31
  let h := (List.range 17).foldl (fun h i => one - x * x / one * h / (one * ((34 - 2 * i) * (35 - 2 * i)))) one
  x * h / 2 ^ 164

/-- The sine of an ANG32 angle, 2⁻²⁸ (R10): exact at the quadrants, else one of its two neighbours, which one being open
(log entry 12). -/
def sinA (a : Word) : Int :=
  let n := a.toNat / 2 ^ 30
  let r := a.toNat % 2 ^ 30
  if r = 0 then (if n = 1 then pu else if n = 3 then -pu else 0)
  else
    let m : Nat := sinQuarter (if n % 2 = 0 then r else 2 ^ 30 - r) + (if Config.sinUp a then 1 else 0)
    if n < 2 then (m : Int) else -(m : Int)

/-- The cosine of an ANG32 angle. -/
def cosA (a : Word) : Int := sinA (a + 0x40000000#32)

/-- The next `n` binary digits of the angle of (x, y) as a fraction of a turn, below those in `m`, and whether they are all of
it. Squaring a vector as a complex number doubles its angle; 100 bits of it are kept. -/
def turnBits : Nat → Int → Int → Nat → Nat × Bool
  | 0, x, y, m => (m, y == 0 && decide (0 < x))
  | n + 1, x, y, m =>
    let u := x * x - y * y
    let v := 2 * x * y
    let k : Int := ((2 ^ (Nat.log2 (max u.natAbs v.natAbs) - 100) : Nat) : Int)
    turnBits n (u / k) (v / k) (2 * m + (if y < 0 ∨ (y = 0 ∧ x < 0) then 1 else 0))

/-- The angle of the vector (x, y), from the x axis towards the y axis, as ANG32: a whole count where it is one, 0 for the
zero vector, else one of its two neighbours, which one being open (log entry 12). -/
def atanA (y x : Int) : Word :=
  if x = 0 ∧ y = 0 then 0#32
  else
    let a := turnBits 32 x y 0
    BitVec.ofNat 32 (a.1 + (if !a.2 && Config.angleUp y x then 1 else 0))

/-- The ANG32 count of an angle in tenths of a degree. -/
def deg10 (n : Int) : Int := quo (n * 0x100000000) 3600

/-- The difference of two angles, read as signed (R10). -/
def angDiff (a b : Word) : Int := (a - b).toInt

/-! CRCs (R119, R361, R330): bitwise, reflected. -/

/-- One bit of a reflected CRC with polynomial `p`. -/
def crcBit (p : Nat) (c : Nat) : Nat := if c % 2 = 1 then Nat.xor (c / 2) p else c / 2

/-- One byte of a reflected CRC. -/
def crcByte (p : Nat) (c : Nat) (b : Byte) : Nat :=
  let x := Nat.xor c b.toNat
  crcBit p (crcBit p (crcBit p (crcBit p (crcBit p (crcBit p (crcBit p (crcBit p x)))))))

/-- A reflected CRC of bytes with initial value and final exclusive-or. -/
def crcR (p init fin : Nat) (bs : List Byte) : Nat := Nat.xor (bs.foldl (crcByte p) init) fin

/-- CRC-32 (IEEE 802.3). -/
def crc32 (bs : List Byte) : Nat := crcR 0xEDB88320 0xFFFFFFFF 0xFFFFFFFF bs

/-- One bit of the sentinel's CRC-16, most significant bit first (R439). -/
def crc16Bit (c : Nat) : Nat := if 0x8000 ≤ c then Nat.xor (c * 2 % 0x10000) 0x1021 else c * 2

/-- One byte of it. -/
def crc16Byte (c : Nat) (b : Byte) : Nat :=
  crc16Bit (crc16Bit (crc16Bit (crc16Bit (crc16Bit (crc16Bit (crc16Bit (crc16Bit (Nat.xor c (b.toNat * 256)))))))))

/-- CRC-16 with polynomial 0x1021 and initial value 0xFFFF (R439). -/
def crc16 (bs : List Byte) : Nat := bs.foldl crc16Byte 0xFFFF

/-- CRC-32C (Castagnoli). -/
def crc32c (bs : List Byte) : Nat := crcR 0x82F63B78 0xFFFFFFFF 0xFFFFFFFF bs

end Sys2Proof
end

