-- ==== Sys2Proof/Machine/Addr.lean ====
section
/-! DEFINITION. Window offsets of the registers, one name each, from the register tables of the chapters; for the LNK,
ENG and HST pages the offset within the page. -/

namespace Sys2Proof.A


/-! Registers of R34. -/
abbrev DEV_CULLET_IDX : Nat := 0x00100
abbrev DEV_CULLET_ENT : Nat := 0x00104
abbrev DEV_CULLET_FOR : Nat := 0x00108
abbrev DEV_CULLET_SUM : Nat := 0x0010C

/-! Registers of R44. -/
abbrev DEV_ID : Nat := 0x00040
abbrev DEV_MODE : Nat := 0x00044
abbrev DEV_MODE_T_LO : Nat := 0x00048
abbrev DEV_MODE_T_HI : Nat := 0x0004C
abbrev DEV_MODE_REQ : Nat := 0x00050
abbrev DEV_MODE_REQ_N : Nat := 0x00054
abbrev DEV_HOLD_REQ : Nat := 0x00058
abbrev DEV_HOLD_LATCH : Nat := 0x0005C
abbrev DEV_HOLD_COND : Nat := 0x00060
abbrev DEV_READY_MAP : Nat := 0x00064
abbrev DEV_READY_LNK : Nat := 0x00068

/-! Registers of R86. -/
abbrev ANG_CFG : Nat := 0x20040
abbrev ANG_STAT : Nat := 0x20044
abbrev ANG_DIV : Nat := 0x20048
abbrev ANG_FBAND : Nat := 0x2004C
abbrev ANG_LOCK : Nat := 0x20050
abbrev ANG_FLY : Nat := 0x20054
abbrev ANG_JMP : Nat := 0x20058
abbrev ANG_NOW : Nat := 0x2005C
abbrev ANG_FREQ : Nat := 0x20060
abbrev ANG_DIFF : Nat := 0x20064
abbrev ANG_JMP_LAST : Nat := 0x20068
abbrev ANG_BEAT : Nat := 0x2006C
abbrev ANG_SEQ : Nat := 0x20070
abbrev ANG_BSTART_LO : Nat := 0x20074
abbrev ANG_BSTART_HI : Nat := 0x20078
abbrev ANG_BLEN : Nat := 0x2007C
abbrev DEVTIME_LO : Nat := 0x200C0
abbrev DEVTIME_HI : Nat := 0x200C4
abbrev DEVTIME_SET_LO : Nat := 0x200C8
abbrev DEVTIME_SET_HI : Nat := 0x200CC
abbrev DEVTIME_CFG : Nat := 0x200D0
abbrev DEVTIME_STAT : Nat := 0x200D4
abbrev DEVTIME_OFS : Nat := 0x200D8
abbrev DEVTIME_RATE : Nat := 0x200DC

/-! Registers of R113. -/
abbrev ADC_ACQ3 : Nat := 0x30040
abbrev ADC_SWTRIG : Nat := 0x30044
abbrev ADC_SEQ_OVR : Nat := 0x30048
abbrev ADC_SLOTMAP_B0_LO : Nat := 0x30050
abbrev ADC_SLOTMAP_B0_HI : Nat := 0x30054
abbrev ADC_SLOTMAP_B1_LO : Nat := 0x30058
abbrev ADC_SLOTMAP_B1_HI : Nat := 0x3005C
abbrev ADC_CAL_CFG : Nat := 0x30060
abbrev ADC_CAL_STAT : Nat := 0x30064
abbrev ADC_RED_THR : Nat := 0x30068
abbrev ADC_STAT : Nat := 0x3006C

/-! Registers of R114. -/
abbrev ADC_CALSET_IDX : Nat := 0x31040
abbrev ADC_CALSET_DATA : Nat := 0x31044
abbrev ADC_CALSET_CMD : Nat := 0x31048
abbrev ADC_CALSET_CMD_N : Nat := 0x3104C
abbrev ADC_WMON_OUT : Nat := 0x31300

/-! Registers of R115. -/
abbrev CMP_CFG_G : Nat := 0x32040
abbrev CMP_LIVE : Nat := 0x32044
abbrev CMP_SUB16 : Nat := 0x32048
abbrev CMP_SUB16_N : Nat := 0x3204C
abbrev CMP_SUB17 : Nat := 0x32050
abbrev CMP_SUB17_N : Nat := 0x32054

/-! Registers of R148 (offsets within the page). -/
abbrev LNK_CTRL : Nat := 0x00040
abbrev LNK_STAT : Nat := 0x00044
abbrev LNK_TRIPSEL : Nat := 0x00048
abbrev LNK_TRIPSEL_N : Nat := 0x0004C
abbrev LNK_TEW : Nat := 0x00050
abbrev LNK_TWE : Nat := 0x00054
abbrev LNK_TDLV : Nat := 0x00058
abbrev LNK_TREP : Nat := 0x0005C
abbrev LNK_LINKED : Nat := 0x00060
abbrev LNK_CNT_CRC : Nat := 0x00064
abbrev LNK_CNT_LATE : Nat := 0x00068
abbrev LNK_CNT_ABORT : Nat := 0x0006C
abbrev LNK_CNT_MISS : Nat := 0x00070

/-! Registers of R150. -/
abbrev LNKC_SUB_SEL : Nat := 0x50040
abbrev LNKC_SUB : Nat := 0x50044
abbrev LNKC_SUB_N : Nat := 0x50048

/-! Registers of R174. -/
abbrev MOD_CFG : Nat := 0x60040
abbrev MOD_STAT : Nat := 0x60044
abbrev MOD_TRIPFILT_LO : Nat := 0x60048
abbrev MOD_TRIPFILT_HI : Nat := 0x6004C
abbrev MOD_TRIP_LIVE : Nat := 0x60050
abbrev MOD_TRIP_LATCH : Nat := 0x60054
abbrev MOD_TRIP_SW : Nat := 0x60058
abbrev MOD_TRIP_SW_N : Nat := 0x6005C
abbrev MOD_CNT_CLR : Nat := 0x60064
abbrev MOD_LHB_COMMIT : Nat := 0x60080
abbrev MOD_LHB_OUT : Nat := 0x60084
abbrev MOD_SRC : Nat := 0x60088
abbrev MOD_FORCE_LHB : Nat := 0x60090
abbrev MOD_FORCE_LHB_N : Nat := 0x60094
abbrev MOD_FORCE_CSEL : Nat := 0x60098
abbrev MOD_FORCE_CELL : Nat := 0x6009C
abbrev MOD_FORCE_CELL_N : Nat := 0x600A0

/-! Registers of R203. -/
abbrev LPE_STAT : Nat := 0x70040
abbrev LPE_CAP : Nat := 0x70044
abbrev LPE_UNITS : Nat := 0x70048
abbrev LPE_RELEASE : Nat := 0x7004C
abbrev LPE_SNAP : Nat := 0x70050
abbrev LPE_SNAPSTAT : Nat := 0x70054
abbrev LPE_ENG : Nat := 0x70058

/-! Registers of R231. -/
abbrev GRD_VBASE : Nat := 0x80040
abbrev GRD_IBASE : Nat := 0x80044
abbrev GRD_SBASE : Nat := 0x80048
abbrev GRD_STAT : Nat := 0x8004C
abbrev GRD_CFG : Nat := 0x80050
abbrev GRD_KCELL : Nat := 0x80054
abbrev GRD_V0MAX : Nat := 0x80058
abbrev GRD_INLIM : Nat := 0x8005C
abbrev GRD_ILIM : Nat := 0x80060
abbrev GRD_ILIM_N : Nat := 0x80064
abbrev GRD_PLIM : Nat := 0x80068
abbrev GRD_PLIM_N : Nat := 0x8006C
abbrev GRD_STOP : Nat := 0x80070
abbrev GRD_OPEN : Nat := 0x80074
abbrev GRD_SC : Nat := 0x80080
abbrev GRD_SC_WAIT : Nat := 0x80084
abbrev GRD_CLOSE : Nat := 0x80088
abbrev GRD_CLOSE_N : Nat := 0x8008C
abbrev GRD_CLS_STAT : Nat := 0x80090
abbrev GRD_SC_MEAS : Nat := 0x80094
abbrev GRD_ROT_H : Nat := 0x800A0
abbrev GRD_ROT_D : Nat := 0x800A4
abbrev GRD_FORM_P : Nat := 0x800A8
abbrev GRD_FORM_P_N : Nat := 0x800AC
abbrev GRD_FORM_V : Nat := 0x800B0
abbrev GRD_FORM_V_N : Nat := 0x800B4
abbrev GRD_FORM_Q : Nat := 0x800B8
abbrev GRD_FORM_Q_N : Nat := 0x800BC
abbrev GRD_KQ : Nat := 0x800C0
abbrev GRD_XFER : Nat := 0x800C4
abbrev GRD_ROT_F : Nat := 0x800C8
abbrev GRD_ROT_PACC : Nat := 0x800CC
abbrev GRD_IMB_A : Nat := 0x800EC
abbrev GRD_V0 : Nat := 0x800FC

/-! Registers of R260. -/
abbrev BPT_CFG : Nat := 0x90040
abbrev BPT_STAT : Nat := 0x90044
abbrev BPT_SWEEP : Nat := 0x90048
abbrev BPT_JUMP : Nat := 0x9004C
abbrev BPT_HSPAN : Nat := 0x90050
abbrev BPT_BURST : Nat := 0x90054
abbrev BPT_SUB : Nat := 0x90058
abbrev BPT_STORE_P : Nat := 0x90060
abbrev BPT_STORE_P_N : Nat := 0x90064
abbrev BPT_PREQ : Nat := 0x90068
abbrev BPT_PREQ_N : Nat := 0x9006C
abbrev BPT_HEAD_DIS : Nat := 0x90070
abbrev BPT_HEAD_CHG : Nat := 0x90074
abbrev BPT_EAVAIL : Nat := 0x90078
abbrev BPT_DISP : Nat := 0x9007C
abbrev BPT_SUBST : Nat := 0x90080
abbrev BPT_SUBST_N : Nat := 0x90084
abbrev BPT_CNT : Nat := 0x90088
abbrev BPT_HIST_T_LO : Nat := 0x90090
abbrev BPT_HIST_T_HI : Nat := 0x90094

/-! Registers of R287. -/
abbrev RTI_STAT : Nat := 0xA0040
abbrev RTI_PSEL : Nat := 0xA0044
abbrev RTI_PEDIT : Nat := 0xA0048
abbrev RTI_PEDIT_N : Nat := 0xA004C
abbrev RTI_PEDIT_ST : Nat := 0xA0050
abbrev RTI_ULOW : Nat := 0xA0054
abbrev RTI_RIDE : Nat := 0xA0058
abbrev RTI_RIDE_CNT : Nat := 0xA005C
abbrev RTI_FREQ : Nat := 0xA0060
abbrev RTI_ROCOF : Nat := 0xA0064
abbrev RTI_TRIPWHY : Nat := 0xA0068
abbrev RTI_SIG_SHIFT : Nat := 0xA006C
abbrev RTI_SIG_SHIFT_N : Nat := 0xA0070
abbrev RTI_SIG_STAT : Nat := 0xA0074
abbrev RTI_ZMAG : Nat := 0xA0078
abbrev RTI_ZANG : Nat := 0xA007C
abbrev RTI_PCEIL : Nat := 0xA0080
abbrev RTI_ISLWHY : Nat := 0xA0084

/-! Registers of R310 (offsets within the page). -/
abbrev ENG_STAT : Nat := 0x00040
abbrev ENG_CTRL : Nat := 0x00044
abbrev ENG_CTRL_N : Nat := 0x00048
abbrev ENG_VER : Nat := 0x0004C
abbrev ENG_FAULT : Nat := 0x00050
abbrev ENG_LOAD : Nat := 0x00054
abbrev ENG_OVR : Nat := 0x00058
abbrev ENG_SYNC : Nat := 0x0005C
abbrev ENG_HB : Nat := 0x00060

/-! Registers of R312. -/
abbrev GAF_STAT : Nat := 0xB8040
abbrev GAF_CFG : Nat := 0xB8044
abbrev GAF_FORCE : Nat := 0xB8048
abbrev GAF_FORCE_N : Nat := 0xB804C
abbrev GAF_LEASE : Nat := 0xB8050
abbrev GAF_SWCNT : Nat := 0xB8054
abbrev GAF_SW_T_LO : Nat := 0xB8058
abbrev GAF_SW_T_HI : Nat := 0xB805C
abbrev GAF_TEST : Nat := 0xB8060
abbrev GAF_TEST_A_LO : Nat := 0xB8064
abbrev GAF_TEST_A_HI : Nat := 0xB8068
abbrev GAF_TEST_B_LO : Nat := 0xB806C
abbrev GAF_TEST_B_HI : Nat := 0xB8070
abbrev GAF_BOOT : Nat := 0xB8074
abbrev GAF_BOOT_N : Nat := 0xB8078
abbrev GAF_IMG_STAT : Nat := 0xB807C
abbrev GAF_IMG0_VER : Nat := 0xB8080
abbrev GAF_IMG1_VER : Nat := 0xB8084

/-! Registers of R340. -/
abbrev SAF_STAT : Nat := 0xC0040
abbrev SAF_LATCH : Nat := 0xC0044
abbrev SAF_ACK : Nat := 0xC0048
abbrev SAF_ACK_N : Nat := 0xC004C
abbrev SAF_GRP_CMD : Nat := 0xC0050
abbrev SAF_GRP_CMD_N : Nat := 0xC0054
abbrev SAF_GRP_CFG : Nat := 0xC0058
abbrev SAF_TEST_CFG : Nat := 0xC005C
abbrev SAF_SEAL : Nat := 0xC0070
abbrev SAF_SI_LIVE : Nat := 0xC0074
abbrev SAF_TP_CFG : Nat := 0xC0078

/-! Registers of R342. -/
abbrev SAF_IT_CFG : Nat := 0xC1040
abbrev SAF_IT_STAT : Nat := 0xC1044
abbrev SAF_IT_CNT_A : Nat := 0xC1048
abbrev SAF_IT_CNT_B : Nat := 0xC104C
abbrev SAF_IT_CNT_P : Nat := 0xC1050
abbrev SAF_IT_VER : Nat := 0xC1054

/-! Registers of R370 (offsets within the page). -/
abbrev HST_ID : Nat := 0x00040
abbrev HST_VER : Nat := 0x00044
abbrev HST_VCAP : Nat := 0x00048
abbrev HST_CTRL : Nat := 0x0004C
abbrev HST_EVMASK : Nat := 0x00050
abbrev HST_CLAIM_LO : Nat := 0x00054
abbrev HST_CLAIM_HI : Nat := 0x00058
abbrev HST_EVTAG : Nat := 0x00080

/-! Registers of R371. -/
abbrev QUE_STAT : Nat := 0xD8040
abbrev QUE_OWNER_0 : Nat := 0xD8050
abbrev QUE_OWNER_1 : Nat := 0xD8054
abbrev QUE_OWNER_2 : Nat := 0xD8058
abbrev QUE_OWNER_3 : Nat := 0xD805C
abbrev QUE_LOG_MASK : Nat := 0xD8060
abbrev QUE_LOG_STAT : Nat := 0xD8064
abbrev QUE_LOG_LOST : Nat := 0xD8068
abbrev QUE_LOG_SEQ : Nat := 0xD806C

/-! Registers of R388. -/
abbrev NET_STAT : Nat := 0xE0040
abbrev NET_CFG : Nat := 0xE0044
abbrev NET_MAC_LO : Nat := 0xE0048
abbrev NET_MAC_HI : Nat := 0xE004C
abbrev NET_VLAN : Nat := 0xE0050
abbrev NET_PRP_CFG : Nat := 0xE0054
abbrev NET_PRP_CNT : Nat := 0xE0058
abbrev NET_PTP_CFG : Nat := 0xE0060
abbrev NET_PTP_STAT : Nat := 0xE0064
abbrev NET_PTP_GM_LO : Nat := 0xE0068
abbrev NET_PTP_GM_HI : Nat := 0xE006C
abbrev NET_PTP_MPD : Nat := 0xE0070
abbrev NET_PRO_CNT : Nat := 0xE0090

/-! Registers of R406. -/
abbrev REC_STAT : Nat := 0xF0040
abbrev REC_CFG : Nat := 0xF0044
abbrev REC_CH0 : Nat := 0xF0048
abbrev REC_EVMASK : Nat := 0xF004C
abbrev REC_TRIGMASK : Nat := 0xF0050
abbrev REC_PRE : Nat := 0xF0054
abbrev REC_POST : Nat := 0xF0058
abbrev REC_MAXLEN : Nat := 0xF005C
abbrev REC_TRIG : Nat := 0xF0060
abbrev REC_HOSTMASK : Nat := 0xF0064
abbrev REC_CNT : Nat := 0xF0068

/-! Registers of R407. -/
abbrev MEM_ECC_SRAM : Nat := 0xF8040
abbrev MEM_ECC_DRAM : Nat := 0xF8044
abbrev MEM_UE_ADDR : Nat := 0xF8048
abbrev MEM_FLASH_STAT : Nat := 0xF804C
abbrev MEM_CI_CMD : Nat := 0xF8050
abbrev MEM_CI_CMD_N : Nat := 0xF8054
abbrev MEM_CI_BUF : Nat := 0xF8058
abbrev MEM_CI_LEN : Nat := 0xF805C
abbrev MEM_CI_STAT : Nat := 0xF8060
abbrev MEM_CI_BOOT : Nat := 0xF8064
abbrev MEM_CI_VALID : Nat := 0xF8068

/-! Registers of R408. -/
abbrev LCY_STATE : Nat := 0x01040
abbrev LCY_CMD : Nat := 0x01044
abbrev LCY_CMD_N : Nat := 0x01048
abbrev LCY_STAT : Nat := 0x0104C
abbrev LCY_CYCLES : Nat := 0x01050

/-! Registers of R423. -/
abbrev RAIL_STAT : Nat := 0x11040
abbrev RAIL_CFG : Nat := 0x11044
abbrev RAIL_SYNC_F : Nat := 0x11048
abbrev RAIL_LASTOFF : Nat := 0x1104C

/-! Registers of R433. -/
abbrev CLK_STAT : Nat := 0x10040
abbrev CLK_REFCFG : Nat := 0x10044
abbrev CLK_SSC : Nat := 0x10048
abbrev CLK_HOLD_T : Nat := 0x1004C
abbrev CLK_LOSS_CNT : Nat := 0x10050
abbrev CLK_CNT_ENG : Nat := 0x10054
abbrev CLK_CNT_FAB : Nat := 0x10058
abbrev CLK_DLL_LO : Nat := 0x1005C
abbrev CLK_DLL_HI : Nat := 0x10060
abbrev CLK_REFDIFF : Nat := 0x10064

/-! Registers of R447. -/
abbrev SEN_STAT : Nat := 0x12040
abbrev SEN_CFG : Nat := 0x12044
abbrev SEN_TAMP_CFG : Nat := 0x12048
abbrev SEN_VCELL : Nat := 0x1204C
abbrev SEN_VHARV : Nat := 0x12050
abbrev SEN_RTC_LO : Nat := 0x12054
abbrev SEN_RTC_HI : Nat := 0x12058
abbrev SEN_GAP_FROM_LO : Nat := 0x1205C
abbrev SEN_GAP_FROM_HI : Nat := 0x12060
abbrev SEN_GAP_TO_LO : Nat := 0x12064
abbrev SEN_GAP_TO_HI : Nat := 0x12068
abbrev SEN_LOG_STAT : Nat := 0x1206C
abbrev SEN_LOG_IDX : Nat := 0x12070
abbrev SEN_CNT : Nat := 0x12084
abbrev SEN_BASE : Nat := 0x12088

/-! Registers of R464. -/
abbrev DBG_RSTCAUSE : Nat := 0x02040
abbrev DBG_RSTCNT : Nat := 0x02044
abbrev DBG_SWRST : Nat := 0x02048
abbrev DBG_SWRST_N : Nat := 0x0204C
abbrev DBG_ATB_0 : Nat := 0x02050
abbrev DBG_ATB_1 : Nat := 0x02054
abbrev DBG_ENG_ADDR : Nat := 0x02070
abbrev DBG_ENG_DATA : Nat := 0x02074
abbrev DBG_READY_T : Nat := 0x02078
/-! First offsets and strides of the register arrays. -/
abbrev ADC_SEQ_CFG (n : Nat) : Nat := 0x30080 + 4 * n
abbrev ADC_SEQ_STAT (n : Nat) : Nat := 0x300C0 + 4 * n
abbrev ADC_GATHER (s e : Nat) : Nat := 0x30800 + 0x80 * s + 4 * e
abbrev ADC_WMON_CFG (n : Nat) : Nat := 0x31200 + 8 * n
abbrev ADC_WMON_LIM (n : Nat) : Nat := 0x31204 + 8 * n
abbrev ADC_RESULT (s e : Nat) : Nat := 0x31800 + 0x80 * s + 4 * e
abbrev CMP_CFG (n : Nat) : Nat := 0x32100 + 0x10 * n
abbrev CMP_THR (n : Nat) : Nat := 0x32104 + 0x10 * n
abbrev LNK (k off : Nat) : Nat := 0x40000 + 0x1000 * k + off
abbrev LNKC_PORT (code : Nat) : Nat := 0x50100 + 4 * code
abbrev MOD_MEV (n : Nat) : Nat := 0x600C0 + 4 * n
abbrev LHB (k off : Nat) : Nat := 0x60100 + 0x40 * k + off
abbrev LPE_HOLDMAP (w : Nat) : Nat := 0x70080 + 4 * w
abbrev GRD_POFF (x : Nat) : Nat := 0x800E0 + 4 * x
abbrev GRD_CURT (x : Nat) : Nat := 0x800F0 + 4 * x
abbrev GRD_RSCALE (tag : Nat) : Nat := 0x80100 + 4 * (tag - 0x80)
abbrev ENG (e off : Nat) : Nat := 0xB0000 + 0x1000 * e + off
abbrev SAF_GRP_STAT (g : Nat) : Nat := 0xC0060 + 4 * g
abbrev SAF_SIP_CFG (p : Nat) : Nat := 0xC0080 + 4 * p
abbrev SAF_SIP_STAT (p : Nat) : Nat := 0xC00A0 + 4 * p
abbrev SAF_IT_SRC_ID (n : Nat) : Nat := 0xC1100 + 0x10 * n
abbrev SAF_IT_SEED (n : Nat) : Nat := 0xC1104 + 0x10 * n
abbrev SAF_IT_SRC_CTRL (n : Nat) : Nat := 0xC110C + 0x10 * n
abbrev HST (h off : Nat) : Nat := 0xD0000 + 0x1000 * h + off
abbrev QUE_OWNER (n : Nat) : Nat := 0xD8050 + 4 * n
abbrev QUE_RING_CFG (n : Nat) : Nat := 0xD8400 + 0x10 * n
abbrev QUE_RING_BASE (n : Nat) : Nat := 0xD8404 + 0x10 * n
abbrev QUE_RING_HEAD (n : Nat) : Nat := 0xD8408 + 0x10 * n
abbrev QUE_RING_TAIL (n : Nat) : Nat := 0xD840C + 0x10 * n
abbrev NET_PORT_CNT (p : Nat) : Nat := 0xE0080 + 4 * p
abbrev NET_PUBVAL (n : Nat) : Nat := 0xE00C0 + 4 * n
abbrev NET_SV (m off : Nat) : Nat := 0xE0100 + 0x10 * m + off
abbrev NET_PUB (n off : Nat) : Nat := 0xE0400 + 0x40 * n + off
abbrev NET_SUB (n off : Nat) : Nat := 0xE0800 + 0x20 * n + off
abbrev REC_SLOT (n : Nat) : Nat := 0xF0080 + 4 * n
abbrev REC_HVER (h : Nat) : Nat := 0xF0100 + 4 * h
abbrev LCY_KEYHASH (n : Nat) : Nat := 0x1080 + 4 * n
abbrev RAIL_CH_CFG (c : Nat) : Nat := 0x11100 + 0x20 * c
abbrev RAIL_VSET (c : Nat) : Nat := 0x11104 + 0x20 * c
abbrev RAIL_VNOW (c : Nat) : Nat := 0x1110C + 0x20 * c
abbrev RAIL_CH_STAT (c : Nat) : Nat := 0x11110 + 0x20 * c
abbrev RAIL_CH_CNT (c : Nat) : Nat := 0x11114 + 0x20 * c
abbrev DBG_DOB (n : Nat) : Nat := 0x2060 + 4 * n
abbrev CELL (c off : Nat) : Nat := 0x01000000 + 0x100 * c + off
abbrev SLOT (n off : Nat) : Nat := 0x01100000 + 0x80 * n + off
abbrev SCHED (n off : Nat) : Nat := 0x01200000 + 0x10 * n + off
abbrev TRACKER (c off : Nat) : Nat := 0x01300000 + 0x40 * c + off
abbrev PROFILE (p off : Nat) : Nat := 0x01400000 + 0x400 * p + off

end Sys2Proof.A
end

