-- ==== Sys2Proof/Machine/State.lean ====
section
/-! DEFINITION. The state of the block: every register, table, queue, counter, mode and pin the manual gives it, as
plain data, and the queue of waiting commands. Words a host writes are held in one sparse store by window offset;
what the device itself drives is held by name, and the read views of it are computed (Views.lean). -/

namespace Sys2Proof.Machine

/-- Why a step stops with a fault. No meaning of this model stops: an access outside the register space or ring
space is ignored and reported as the manual says (R30, R345). -/
inductive Fault where
  /-- raised by no meaning; it stands so that the type has a member (safe: nothing is stopped by it) -/
  | none
  deriving DecidableEq, Repr

/-- Why a command has no meaning. -/
inductive Refusal where
  /-- raised by an arm of exec that has no meaning yet (safe: the run stops there) -/
  | notModelled (mnemonic : String)
  deriving DecidableEq, Repr

/-! ## Names -/

/-- Device modes (R46): WAKE 0x1 to SERVICE 0x8. -/
inductive Mode where
  | wake | watch | energize | follow | form | ride | hold | service
  deriving DecidableEq, Repr

/-- Status codes (R18). -/
inductive Status where
  | ok | badOpcode | badArg | notInMode | notOwner | busy | complementMismatch | version | sealed | energy
  | notReady | fenced | lifecycle | timeout | lost | internal
  deriving DecidableEq, Repr

/-- Lifecycle states (R408). -/
inductive Lifecycle where
  | blank | provisioned | field | returned
  deriving DecidableEq, Repr

/-- DEVTIME_STAT.SYNC (R87). -/
inductive Sync where
  | unset | free | host | ptp | holdover
  deriving DecidableEq, Repr

/-- Cell states (R60). -/
inductive CellState where
  | absent | linked | charged | active | spare | bypassed | retired | stale
  deriving DecidableEq, Repr

/-- Pool states of a spare member (R36). -/
inductive Pool where
  | idle | rotation | substituted | exhausted
  deriving DecidableEq, Repr

/-- What a quantity of the pipeline is in a beat (R92). -/
inductive Validity where
  | valid | carried | invalid
  deriving DecidableEq, Repr

/-! ## What leaves the device -/

/-- What a frame sent by the station pair carries. -/
inductive Pdu where
  /-- a publication: entry, string set, confRev, stNum, sqNum, timeAllowedtoLive in ms and member values (R381, R382) -/
  | goose (pub str : Nat) (confRev stNum sqNum : Word) (tal : Nat) (vals : List Word)
  /-- a sampled value frame: stream, svID string, confRev, smpCnt, smpSynch and the eight sampled values (R383, R384) -/
  | sv (stream str confRev smpCnt synch : Nat) (vals : List Word)
  /-- a PRP supervision frame (R373) -/
  | supervision
  /-- a Pdelay request, an answer, or the answer's follow-up, of a domain (R374) -/
  | pdelay (part domain : Nat)
  deriving DecidableEq, Repr

/-- A frame sent by a station port (R372, R373, R377, R382, R384). -/
structure NetFrame where
  /-- port: 0 STA_A, 1 STA_B -/
  port : Nat
  /-- source address: NET_MAC -/
  src : Nat
  /-- destination address, where an entry gives it -/
  dst : Nat
  /-- NET_VLAN -/
  vlan : Word
  /-- APPID, where an entry gives it -/
  appid : Nat
  /-- redundancy control trailer: sequence number, LAN identifier, size -/
  trailer : Option (Nat × Nat × Nat)
  /-- what it carries -/
  pdu : Pdu
  deriving DecidableEq, Repr

/-- What leaves by the links and pins, newest first in `Fabric.out`. -/
inductive Out where
  /-- a downstream record handed to both ports of a ring, its 64 data bytes (R119, R120) -/
  | frame (ring : Nat) (bytes : List Byte)
  /-- an MSI-X message of a host: vector (R350) -/
  | msix (h vector : Nat)
  /-- a disconnect demand to both safety channels (R55) -/
  | demand
  /-- a command word of the alert output, byte by byte (R441) -/
  | alert (byte : Byte)
  /-- a frame of the station pair (R372) -/
  | net (frame : NetFrame)
  /-- bits shifted out of TDO -/
  | tdo (bits : List Bool)
  /-- the frame under way on a ring is cut short by K30.7 at both ports (R119, R135) -/
  | abort (ring : Nat)
  deriving DecidableEq, Repr

/-! ## Hosts -/

/-- One hardware ring of the QUE page (R353). -/
structure Ring where
  /-- SIZE code -/
  size : Nat
  /-- TYPE: 0 CMD, 1 CPL, 2 EVT, 3 REC -/
  type : Nat
  /-- EN -/
  en : Bool
  /-- IEN -/
  ien : Bool
  /-- PAIR -/
  pair : Nat
  /-- BASE, byte offset in ring space -/
  base : Nat
  /-- HEAD, consumer index -/
  head : Nat
  /-- TAIL, producer index -/
  tail : Nat
  deriving DecidableEq, Repr

/-- A coalescing window of a host (R364). -/
structure EvWindow where
  /-- receiving host -/
  host : Nat
  /-- CODE -/
  code : Nat
  /-- SUBJECT -/
  subject : Nat
  /-- monotone instant the window opened -/
  opened : Nat
  /-- occurrences held since -/
  count : Nat
  /-- DEVTIME ns of the first of them -/
  first : Nat
  /-- DEVTIME ns of the last of them -/
  last : Nat
  /-- STATUS of the last of them -/
  status : Status
  /-- DETAIL of the last of them -/
  detail : List Byte
  deriving DecidableEq, Repr

/-- An entry waiting for the persistent log (R367, R368). -/
structure LogItem where
  /-- CODE -/
  code : Nat
  /-- SUBJECT -/
  subject : Nat
  /-- STATUS -/
  status : Status
  /-- SRC: 0 device, 1 sentinel -/
  src : Nat
  /-- COUNT -/
  count : Nat
  /-- DEVTIME of the first occurrence -/
  time : Nat
  /-- first 8 detail bytes -/
  detail : List Byte
  /-- the entry of the sentinel log that it reports, by index (R445) -/
  sen : Option Nat := none
  deriving DecidableEq, Repr

/-- The persistent log (R367, R368, R371). -/
structure PLog where
  /-- the entries in flash by index, 32 bytes each -/
  entries : List (Nat × List Byte)
  /-- NEXT, next entry index -/
  next : Nat
  /-- WRAPPED -/
  wrapped : Bool
  /-- SEQ of the newest entry -/
  seq : Nat
  /-- queued SEAL_CHANGE, HOLD_ENTERED and class 2 events, oldest first -/
  queue : List LogItem
  /-- monotone instants of the entries written in the last 1,000 ms, newest first -/
  writes : List Nat
  /-- QUE_LOG_LOST -/
  lost : Nat
  /-- events lost since the last LOG_GAP -/
  gapLost : Nat
  /-- their classes, as a bit map -/
  gapClasses : Nat
  /-- entries of the sentinel written and not yet marked as posted there (R445) -/
  taken : List LogItem
  deriving DecidableEq, Repr

/-- An occurrence of an event (R361, R362). -/
structure Event where
  /-- page -/
  page : Nat
  /-- NUM -/
  num : Nat
  /-- SUBJECT; 0xFFFF none -/
  subject : Nat
  /-- STATUS -/
  status : Status
  /-- DETAIL -/
  detail : List Byte
  /-- the hosts it goes to, bit h -/
  hosts : Nat
  /-- COUNT, 1 but for OVERFLOW (R365) -/
  count : Nat := 1
  deriving DecidableEq, Repr

/-- An event entry formed while no engine may write host rings (R292, R298). -/
structure HeldPost where
  /-- the host whose EVT ring it is for -/
  host : Nat
  /-- CODE -/
  code : Nat
  /-- SUBJECT -/
  subject : Nat
  /-- STATUS -/
  status : Status
  /-- FIRST -/
  first : Nat
  /-- LAST -/
  last : Nat
  /-- COUNT -/
  count : Nat
  /-- FLAGS -/
  flags : Nat
  /-- DETAIL -/
  detail : List Byte
  deriving DecidableEq, Repr

/-- Events, rings, ring space and interrupts: what every raise of an event may change, and nothing else. -/
structure Fabric where
  /-- pending flags by host × 0x1000 + page (R350) -/
  irq : List (Nat × Word)
  /-- the 64 hardware rings -/
  rings : List Ring
  /-- HST_EVTAG of the four hosts, and the entries the recorder has taken -/
  tag : List Nat
  /-- HST_EVLOSS by host × 16 + class -/
  loss : List (Nat × Nat)
  /-- open coalescing windows, oldest first -/
  windows : List EvWindow
  /-- the persistent log -/
  log : PLog
  /-- ring space: bytes by offset, canonical; an unlisted byte reads 0 after the wipe (R351, R403) -/
  mem : List Host.Cell
  /-- monotone instant of the last MSI-X message by host × 128 + vector -/
  msixSent : List (Nat × Nat)
  /-- MSI-X vectors held back within 20 µs, as host × 128 + vector -/
  msixHeld : List Nat
  /-- no engine may write host rings now: event entries wait for the grant (R292, R298) -/
  holding : Bool
  /-- the entries held back, oldest first -/
  held : List HeldPost
  /-- events that posting and logging have raised themselves (OVERFLOW, LOG_GAP, log queue full), and whether their log entry
  is settled and written -/
  own : List (Event × Option Bool)
  /-- whether the page interrupt of each host was last asserted -/
  pageInt : List Bool
  /-- what has left by links and pins, newest first -/
  out : List Out
  deriving DecidableEq, Repr

/-- A command taken from a CMD ring whose completion is not yet posted (R358). -/
structure Taken where
  /-- CMD ring -/
  ring : Nat
  /-- the host that issued it -/
  host : Nat
  /-- OPCODE -/
  opcode : Nat
  /-- TAG -/
  tag : Nat
  /-- PAIR of its ring when it was taken -/
  pair : Nat
  /-- HOST as the entry has it -/
  echo : Nat
  /-- what LOG_READ copies to ring space ahead of its completion -/
  copy : Option (Nat × List Byte)
  /-- its status and result, once they stand and only the posting is still to come -/
  done : Option (Status × List Byte)
  deriving DecidableEq, Repr

/-- The open image session (R359). -/
structure ImageSession where
  /-- host that opened it -/
  host : Nat
  /-- slot being written -/
  slot : Nat
  /-- bytes written so far -/
  written : Nat
  deriving DecidableEq, Repr

/-- Host windows, claims and what is pending in them. -/
structure Hosts where
  /-- claims: first page of the block ↦ host; a block not listed is not claimed (R347) -/
  claims : List (Nat × Nat)
  /-- armed keys: host × 0x1000 + page ↦ monotone instant of expiry (R349) -/
  keys : List (Nat × Nat)
  /-- RW-C pending holders: host × 0x200_0000 + offset ↦ value (R14) -/
  holder : List (Nat × Word)
  /-- upper words written and not yet applied: host × 0x200_0000 + offset (R7) -/
  upper : List (Nat × Word)
  /-- upper words latched by a read of the low word (R7) -/
  latched : List (Nat × Word)
  /-- ERRCODE and IRQ_EN of each window: host × 0x200_0000 + offset (R12) -/
  win : List (Nat × Word)
  /-- HST_VER.SEL of the four hosts (R360) -/
  sel : List Nat
  /-- the host's port is up -/
  link : List Bool
  /-- PERST_N of HP_0 and HP_1 is low (R450, R452) -/
  perst : List Bool
  /-- monotone instant at which link training of HP_0 and HP_1 began, while it runs (R452) -/
  train : List (Option Nat)
  /-- staging words of loop slots: host × 0x8000 + slot × 0x20 + word (R199) -/
  staging : List (Nat × Word)
  /-- commands taken whose completion is still to be posted -/
  taken : List Taken
  /-- the open image session -/
  session : Option ImageSession
  deriving DecidableEq, Repr

/-! ## Modes -/

/-- The device mode (R46, R53). -/
structure Modes where
  /-- DEV_MODE.CUR -/
  cur : Mode
  /-- DEV_MODE.PREV; none after reset -/
  prev : Option Mode
  /-- DEV_MODE.TGT -/
  tgt : Mode
  /-- DEV_MODE.TRANS -/
  trans : Bool
  /-- DEV_MODE.LAST_STAT -/
  lastStat : Status
  /-- DEV_MODE.WHY -/
  why : Nat
  /-- DEVTIME, ns, of the last change of CUR -/
  since : Nat
  /-- the change decided in this beat, in force from the next beat start -/
  next : Option Mode
  /-- the mode RIDE returns to -/
  rideFrom : Mode
  /-- the transition under way was asked for by a host (its end sets LAST_STAT) -/
  asked : Bool
  /-- DEV_HOLD_LATCH -/
  latch : Nat
  /-- DEV_HOLD_COND -/
  cond : Nat
  /-- HIST of the cullet pool members by index (R36, kept) -/
  hist : List (Nat × Nat)
  /-- cell held at a cell member index 0x00 to 0x17 (R35) -/
  members : List (Nat × Nat)
  deriving DecidableEq, Repr

/-! ## Power, reset and lifecycle -/

/-- What the part is: fixed at manufacture (R5, R45). -/
structure Part where
  /-- cell capacity: 384, 192 or 96 -/
  cells : Nat
  /-- SREV -/
  srev : Nat
  /-- serial number of the device -/
  serial : Nat
  deriving DecidableEq, Repr

/-- Supply, reset and readiness (R450 to R455). -/
structure Reset where
  /-- no supply: DARK -/
  dark : Bool
  /-- internal reset in force -/
  held : Bool
  /-- reset sources active now, bits of R465 -/
  sources : Nat
  /-- DBG_RSTCAUSE -/
  cause : Nat
  /-- DBG_RSTCNT -/
  count : Nat
  /-- READY bit 0 of each block, bits of DEV_READY_MAP (R50) -/
  ready : Nat
  /-- monotone instant of the last reset release -/
  released : Nat
  /-- DBG_READY_T, µs, once it is known -/
  readyT : Option Nat
  /-- blocks that have missed their readiness limit, bits of DEV_READY_MAP (R455) -/
  late : Nat
  /-- the pin-driving boundary scan instruction in force (R458) -/
  scan : Option Nat
  /-- TAP instruction register (R456) -/
  ir : Nat
  /-- the boundary cells as sampled or preloaded -/
  cells : List Bool
  /-- bypass register of the TAP -/
  tapBypass : Bool
  deriving DecidableEq, Repr

/-- Lifecycle controller (R404, R408). -/
structure Lcy where
  /-- STATE -/
  state : Lifecycle
  /-- target of the change under way -/
  target : Option Lifecycle
  /-- WIPE percent -/
  wipe : Nat
  /-- CYCLES -/
  cycles : Nat
  deriving DecidableEq, Repr

/-! ## Time and angle -/

/-- DEVTIME and its discipline (R63 to R67). Times are counts of 2⁻³² ns. -/
structure Clock where
  /-- time since the model's beginning, never stepped -/
  mono : Nat
  /-- DEVTIME -/
  dev : Nat
  /-- applied rate correction, ppb -/
  rate : Int
  /-- SYNC -/
  sync : Sync
  /-- STEP_PEND -/
  stepPend : Bool
  /-- a decided step not yet applied: ns, the SYNC it sets, beat starts until it applies -/
  step : Option (Int × Sync × Nat)
  /-- beats still to carry a TIME record with PROBE after a step (R67) -/
  stepProbes : Nat
  /-- DEVTIME_OFS -/
  ofs : Int
  deriving DecidableEq, Repr

/-- Angle unit (R68 to R79). -/
structure Angle where
  /-- LOCK -/
  lock : Bool
  /-- EVER -/
  ever : Bool
  /-- FLY -/
  fly : Bool
  /-- SLEW -/
  slew : Bool
  /-- CLAMP -/
  clamp : Bool
  /-- FOUT -/
  fout : Bool
  /-- SRC: 0 free-run, 1 tracker, 2 virtual rotor -/
  src : Nat
  /-- beats run -/
  beats : Bool
  /-- beat index in the cycle -/
  idx : Nat
  /-- cycle count -/
  cyc : Nat
  /-- beat count since reset -/
  seq : Nat
  /-- DEVTIME of the start of this beat, a whole ns in units of 2⁻³² ns -/
  bstart : Nat
  /-- length of this beat, 2⁻³² ns -/
  blen : Nat
  /-- monotone instant this beat began -/
  began : Nat
  /-- schedule entries that have fired in this beat -/
  fired : List Nat
  /-- start of the next beat in DEVTIME with its fraction, 2⁻³² ns; the instant fixed is this, rounded (R77) -/
  next : Nat
  /-- effective angle rate, 2⁻¹⁶ Hz -/
  rate : Nat
  /-- measured frequency of the tracker, 2⁻¹⁶ Hz -/
  freq : Nat
  /-- D of the last pipeline, signed ANG32 (R74) -/
  d : Int
  /-- a D has been formed since tracking began or resumed -/
  dOk : Bool
  /-- the phase the tracker's own loop stands at in FORM, minus ANG32 -/
  diff : Int
  /-- last phase jump, signed ANG32 -/
  jmpLast : Int
  /-- a difference closed at the slew rate without a PHASE_JUMP (R75) -/
  quiet : Bool
  /-- the phase and voltage conditions of R69 have held at every beat of this cycle -/
  okCycle : Bool
  /-- phase error above LOSS_ERR at a beat of this cycle -/
  lossCycle : Bool
  /-- a beat of flywheel or slew in this cycle -/
  skipCycle : Bool
  /-- sum and count of the measured frequency over this cycle -/
  fsum : Nat
  /-- beats summed -/
  fcnt : Nat
  /-- mean frequency of the last whole cycle -/
  fmean : Nat
  /-- consecutive cycles meeting R69 -/
  lockRun : Nat
  /-- consecutive cycles above LOSS_ERR (R70) -/
  lossRun : Nat
  /-- consecutive cycles outside the band (R70) -/
  bandRun : Nat
  /-- monotone instant flywheel began -/
  flyFrom : Nat
  /-- beats the voltage has stayed at or above FLY_V + 0.05 pu in flywheel -/
  flyOk : Nat
  /-- DIV in force -/
  div : Nat
  /-- ANG_DIV.PEND -/
  divPend : Bool
  deriving DecidableEq, Repr

/-! ## Measurement -/

/-- Where a gather sequence stands (R96, R97). -/
inductive SeqPhase where
  | idle | delay | waiting | running | preempted
  deriving DecidableEq, Repr

/-- A gather sequence (R94 to R98, R113). -/
structure Seq where
  /-- where it stands -/
  phase : SeqPhase
  /-- ADC_SEQ_CFG in force at its trigger -/
  cfg : Word
  /-- its 32 entries in force at its trigger -/
  entries : List Word
  /-- ADC_ACQ3 in force at its trigger, ns -/
  acq3 : Nat
  /-- NEXT, the entry acquired next -/
  next : Nat
  /-- monotone instant its DELAY expires -/
  due : Nat
  /-- PREEMPT -/
  preempt : Nat
  /-- EXEC -/
  exec : Nat
  deriving DecidableEq, Repr

/-- A conversion under way (R96). -/
structure Conv where
  /-- sequence -/
  seq : Nat
  /-- entry -/
  entry : Nat
  /-- the entry's word -/
  word : Word
  /-- slice, within the bank -/
  slice : Nat
  /-- the channel differs from the slot's previous conversion -/
  newChan : Bool
  /-- the gain differs from the channel's previous conversion -/
  newGain : Bool
  /-- its acquisition was shorter than 250 ns -/
  short : Bool
  /-- it belongs to an injected execution -/
  inj : Bool
  /-- it is the last of its execution -/
  last : Bool
  /-- monotone instant it ends -/
  ends : Nat
  deriving DecidableEq, Repr

/-- A service slot (R93). -/
structure Slot where
  /-- slice serving it, within the bank -/
  slice : Nat
  /-- sequence and entry being acquired, and the monotone instant the acquisition has lasted long enough -/
  acq : Option (Nat × Nat × Nat)
  /-- conversion under way -/
  conv : Option Conv
  /-- channel of its previous conversion -/
  lastChan : Option Nat
  deriving DecidableEq, Repr

/-- The averaging filter and settling count of an entry (R99, R100). -/
structure Filt where
  /-- valid conversions, newest first -/
  vals : List Int
  /-- their RANGE and SPARE_SOURCE flags, newest first, bit 0 and bit 1 -/
  flags : List Nat
  /-- invalid conversions still to come -/
  inval : Nat
  /-- the entry's word at its last conversion -/
  word : Word
  deriving DecidableEq, Repr

/-- A result word on its way (R96). -/
structure Delivery where
  /-- sequence -/
  seq : Nat
  /-- entry -/
  entry : Nat
  /-- result word -/
  word : Word
  /-- monotone instant of delivery -/
  due : Nat
  /-- last result of the sequence's execution -/
  last : Bool
  /-- gain code of the conversion -/
  gain : Nat
  deriving DecidableEq, Repr

/-- State of a quantity formed from one or two members (R92). -/
structure Pair where
  /-- consecutive beats in disagreement -/
  dis : Nat
  /-- consecutive beats in agreement -/
  agree : Nat
  /-- a disagreement has been declared -/
  declared : Bool
  /-- consecutive beats carried -/
  carried : Nat
  /-- value, PU32 -/
  value : Int
  /-- one converter LSB of the value, PU32 (R193) -/
  lsb : Int
  /-- state of the quantity -/
  valid : Validity
  deriving DecidableEq, Repr

/-- Where the calibration rotation stands (R102). -/
inductive RotPhase where
  | idle | spareCal | takeOver | sliceCal | takeBack
  deriving DecidableEq, Repr

/-- Converters, gathers, calibration and comparators. -/
structure Adc where
  /-- the 16 sequences -/
  seqs : List Seq
  /-- the 20 service slots, bank 1 from index 10 -/
  slots : List Slot
  /-- ADC_SEQ_OVR -/
  ovr : Nat
  /-- filters by sequence × 32 + entry -/
  filts : List (Nat × Filt)
  /-- gain of the channel's previous conversion, by channel -/
  gains : List (Nat × Nat)
  /-- latest result words by sequence × 32 + entry; 0x0010_0000 where unlisted -/
  results : List (Nat × Word)
  /-- result words on their way, oldest first -/
  flight : List Delivery
  /-- latest valid result delivered in this beat, by role tag: VALUE and gain code -/
  roles : List (Nat × (Int × Nat))
  /-- quantities by their first tag (A) -/
  pairs : List (Nat × Pair)
  /-- ADC_WMON_OUT -/
  wmon : Nat
  /-- pool state of the 24 slices by number; home slices read idle while healthy -/
  slices : List Pool
  /-- rotation: where it stands -/
  rot : RotPhase
  /-- rotation: slot index 0 to 19 -/
  rotSlot : Nat
  /-- slices that a substituted spare slice stands in for: spare ↦ failed slice -/
  cover : List (Nat × Nat)
  /-- gather entries written since the last beat start, as sequence × 32 + entry -/
  dirty : List Nat
  /-- gather entries a host has written since reset -/
  written : List Nat
  /-- the analog die has failed outside its spares (kept) -/
  dieFail : Bool
  /-- spare comparators found failed, bit 0 circuit 16, bit 1 circuit 17 -/
  cmpFail : Nat
  /-- rotation: spare slice, number 0 to 23 -/
  rotSpare : Nat
  /-- rotation: the slot's own slice -/
  rotOwn : Nat
  /-- rotation: monotone instant the present wait ends -/
  rotDue : Nat
  /-- monotone instant the present step of the rotation began -/
  rotFrom : Nat
  /-- STEPS -/
  rotSteps : Nat
  /-- NOCAL of bank 0 and bank 1 -/
  nocal : List Bool
  /-- calibration set in force, words not zero -/
  calset : List (Nat × Word)
  /-- staging buffer -/
  staging : List (Nat × Word)
  /-- CALSET: 0 NONE, 1 FACTORY, 2 USER -/
  calsetSrc : Nat
  /-- the record in flash (kept) -/
  calsetFlash : List (Nat × Word)
  /-- its CRC and format hold (kept) -/
  calsetOk : Bool
  /-- a set is being written to flash -/
  calsetBusy : Bool
  /-- the written set waits for the next beat start -/
  calsetNext : Bool
  /-- outputs of the comparator circuits 0 to 17 ahead of blanking -/
  cmpRaw : Nat
  /-- level of the inputs AIN_00 to AIN_47, µV; an unlisted input stands at 0 -/
  ain : List (Nat × Int)
  /-- the live part of a window of sampled operation -/
  cmpLive : Bool
  /-- monotone instant the live part of the last such window began -/
  cmpAt : Nat
  /-- blanking windows by comparator: monotone instant they end -/
  blank : List (Nat × Nat)
  deriving DecidableEq, Repr

/-! ## Cell rings -/

/-- A ring port (R150). -/
structure Port where
  /-- SYNC -/
  sync : Bool
  /-- LOS -/
  los : Bool
  /-- TXFAULT -/
  txFault : Bool
  /-- port code whose role it carries; 0x3F none. A spare port's is kept in flash (R147) -/
  serves : Nat
  /-- LCERR -/
  lcerr : Nat
  /-- the delay-locked line of this code, of a ring end or a spare port, is locked (R431) -/
  dll : Bool
  /-- it has gone down, and its transmitter is dark until it is in sync again (R146) -/
  down : Bool
  deriving DecidableEq, Repr

/-- A ring (R140, R146, R148). -/
structure RingSt where
  /-- READY -/
  ready : Bool
  /-- TEW, 0.1 ns -/
  tew : Nat
  /-- TWE, 0.1 ns -/
  twe : Nat
  /-- a probe has measured TEW -/
  gotEw : Bool
  /-- a probe has measured TWE -/
  gotWe : Bool
  /-- probes have passed clockwise and counter-clockwise since the last break -/
  pass : Bool × Bool
  /-- a probe is on its way clockwise and counter-clockwise -/
  probing : Bool × Bool
  /-- a break or a failed port has been met since the ring was last closed -/
  broke : Bool
  /-- CLOSED -/
  closed : Bool
  /-- BRK_CW; 0x1F none -/
  brkCw : Nat
  /-- BRK_CCW -/
  brkCcw : Nat
  /-- RING_MARGIN has been raised for the present failure -/
  margin : Bool
  /-- cut index of the last CUT -/
  cutIndex : Nat
  /-- a cut is in force in this beat -/
  cut : Bool
  /-- a trip line has cut it in this beat -/
  tripped : Bool
  /-- frames that leave its ports: the instant of the first data byte, and the bytes -/
  wire : List (Nat × List Byte)
  /-- beats until the next periodic probe -/
  probeIn : Nat
  /-- CRC failures clockwise -/
  crcCw : Nat
  /-- CRC failures counter-clockwise -/
  crcCcw : Nat
  /-- late reports -/
  late : Nat
  /-- aborted frames -/
  aborts : Nat
  /-- cell-beats without a valid report -/
  missed : Nat
  deriving DecidableEq, Repr

/-- Steps of joining (R141). -/
inductive Join where
  | align | offer | select | identify | config | done
  deriving DecidableEq, Repr

/-- What the device holds of a cell on its ring (R143). -/
structure CellLink where
  /-- STATE -/
  st : CellState
  /-- PROTO -/
  proto : Nat
  /-- a valid report arrived at W in the last judged beat -/
  cw : Bool
  /-- a valid report arrived at E in the last judged beat -/
  ccw : Bool
  /-- REASON -/
  reason : Nat
  /-- SEEN, 64 bits -/
  seen : Nat
  /-- MISS -/
  miss : Nat
  /-- CRCERR -/
  crcErr : Nat
  /-- DLY_E -/
  dlyE : Nat
  /-- DLY_W -/
  dlyW : Nat
  /-- FWD last reported -/
  fwd : Nat
  /-- LAST_REPORT -/
  last : List Byte
  /-- a valid report has arrived at W in this beat -/
  atW : Bool
  /-- a valid report has arrived at E in this beat -/
  atE : Bool
  /-- a report has been accepted for this beat -/
  got : Bool
  /-- consecutive beats without one -/
  run : Nat
  /-- a valid report has been accepted since the cell was last ABSENT -/
  known : Bool
  /-- warnings counted, FAULT bits 16 to 21 (R124) -/
  warns : List Nat
  /-- consecutive beats inside the charged window -/
  charged : Nat
  /-- step of joining -/
  join : Join
  /-- beats since the request of the step was sent; 0 not sent -/
  joinAge : Nat
  /-- version chosen and sent in SELECT -/
  ver : Nat
  /-- TAG of the request -/
  joinTag : Nat
  /-- time base aligned -/
  aligned : Bool
  /-- the low word of an IDENTIFY reply, while the high word is awaited -/
  idLow : Option Nat
  /-- a BYPASS record waits for the management window: LATCH or UNLATCH -/
  latchReq : Option Bool
  /-- that request stands since this beat, and waits for the window of the next (R255) -/
  latchNew : Bool
  /-- bypass latched by the device -/
  latched : Bool
  deriving DecidableEq, Repr

/-- The rings and their cells. -/
structure Rings where
  /-- the 34 ports by code -/
  ports : List Port
  /-- the 16 rings -/
  rings : List RingSt
  /-- cells by number; an unlisted cell is ABSENT and never linked -/
  cells : List (Nat × CellLink)
  /-- the report cutoff of this beat has passed -/
  cutoff : Bool
  /-- words 0x00 and 0x04 of cell entries written and not yet in force: cell, byte, old and new value (R24, R143) -/
  acts : List (Nat × Nat × Word × Word)
  deriving DecidableEq, Repr

/-! ## Modulation and trips -/

/-- A leg of a cell or of a local output between two beats or periods (R156 to R159). -/
structure Leg where
  /-- level it holds -/
  level : Bool
  /-- enable in the last beat -/
  en : Bool
  /-- ns from its last change of level to the end of the last beat -/
  since : Int
  /-- error accumulator E, ns -/
  acc : Int
  /-- the edge that opens an interval was withheld, and the crossing that closes it is withheld too (R157) -/
  withheld : Bool
  /-- DROP -/
  drop : Nat
  /-- STR -/
  str : Nat
  /-- ACCCLR -/
  accClr : Nat
  deriving DecidableEq, Repr

/-- What the modulator holds of a cell (R155). -/
structure CellMod where
  /-- leg 0 -/
  leg0 : Leg
  /-- leg 1 -/
  leg1 : Leg
  /-- CUTB -/
  cutb : Nat
  /-- voltage weight w, PU32 -/
  weight : Int
  /-- edge entries of the record last computed -/
  edges : List Word
  /-- VREF of that record -/
  vref : Int
  /-- VREF of the record executed in this beat -/
  vrun : Int
  deriving DecidableEq, Repr

/-- A local half-bridge output (R164 to R167, R176). -/
structure Lhb where
  /-- pending pair PER, CMP -/
  pend : Option (Nat × Nat)
  /-- APER -/
  aper : Nat
  /-- ACMP -/
  acmp : Nat
  /-- CUT -/
  cut : Bool
  /-- SAFE -/
  safe : Bool
  /-- CLAMP -/
  clamp : Bool
  /-- LHB_CFG in force -/
  cfg : Word
  /-- LHB_DT in force -/
  dt : Word
  /-- LHB_SLOT in force -/
  slot : Nat
  /-- its leg, in units of half a nanosecond -/
  leg : Leg
  /-- CUTP -/
  cutp : Nat
  /-- the output stage drives the pins; both are low otherwise -/
  on : Bool
  /-- level at the last period boundary -/
  first : Bool
  /-- edges of the present period: half nanoseconds from its start, and the level -/
  edges : List (Int × Bool)
  /-- monotone instant of its last period boundary -/
  start : Nat
  deriving DecidableEq, Repr

/-- Modulator, local outputs and trip lines. -/
structure Modulator where
  /-- cells by number -/
  cells : List (Nat × CellMod)
  /-- the 12 local outputs -/
  lhb : List Lhb
  /-- OVM of the three phases -/
  ovm : List Nat
  /-- MOD_SRC: 0xA, 0xB or 0 -/
  src : Nat
  /-- the engine granted the pontil whose stream the outputs have not taken yet (R167) -/
  take : Option Nat
  /-- modulator events that are due: the event and its instant (R168) -/
  mev : List (Nat × Nat)
  /-- filtered trip lines -/
  lines : Nat
  /-- MOD_TRIP_LATCH -/
  latch : Nat
  /-- the fabric clock has stopped (R167) -/
  fabStop : Bool
  /-- phase voltage references at the start and the end of the next beat, PU32 -/
  vph : List (Int × Int)
  deriving DecidableEq, Repr

/-! ## Loop engine -/

/-- STATE of a loop slot (R187). -/
inductive SlotState where
  | idle | run | outHold
  deriving DecidableEq, Repr

/-- State words of a loop slot (R185, R187), the same in every engine in step. -/
structure LoopSlot where
  /-- STATE -/
  st : SlotState
  /-- SATH -/
  sath : Bool
  /-- SATL -/
  satl : Bool
  /-- INHIB -/
  inhib : Bool
  /-- HCAUSE -/
  hcause : Nat
  /-- FRZCNT -/
  frz : Nat
  /-- HOLDS -/
  holds : Nat
  /-- OUT -/
  out : Int
  /-- ERR -/
  err : Int
  /-- INTG -/
  intg : Int
  /-- RS1 -/
  rs1 : Int
  /-- RS2 -/
  rs2 : Int
  /-- notch states N1S and N2S, four words -/
  notch : List Word
  /-- SP_USED -/
  spUsed : Int
  /-- EXEC -/
  exec : Nat
  /-- freeze reference; none after a state clear -/
  frzRef : Option Int
  /-- the next execution is the first after a release (R196) -/
  released : Bool
  deriving DecidableEq, Repr

/-- A quantity of the pipeline (R183, R184). -/
structure Quant where
  /-- valid as a source -/
  ok : Bool
  /-- value, PU32 -/
  val : Int
  /-- one LSB, PU32 (R193) -/
  lsb : Int
  deriving DecidableEq, Repr

/-- Loop engine and measurement pipeline. -/
structure Loop where
  /-- state words by slot -/
  slots : List (Nat × LoopSlot)
  /-- quantities by index (R183) -/
  quants : List (Nat × Quant)
  /-- the nine phase values of the last 257 beats, newest first, for the quarter-cycle delay (R207) -/
  hist : List (List Int)
  /-- beat starts of the last 257 beats, newest first, in a scale no step moves, 2⁻³² ns (R179) -/
  starts : List Nat
  /-- sum of the steps applied, ns -/
  stepped : Int
  /-- entries committed and not yet in use: the slot, and whether its state is cleared (R199, R200) -/
  commits : List (Nat × Bool)
  /-- a capture is asked for (R202) -/
  snapReq : Bool
  /-- it is made in this beat -/
  snapArm : Bool
  /-- the held snapshot: ANG_SEQ, the state words, and the set-points that waited -/
  snap : Option (Nat × List (Nat × LoopSlot) × List Nat)
  /-- the pipeline of this beat has run -/
  done : Bool
  /-- the shadow copies of this beat's records have been handed over (R295) -/
  copied : Bool
  /-- the leading copies of this beat's records have been handed over -/
  handed : Bool
  /-- slots a host has released since the beat start, which the engines execute from the next one on (R24) -/
  fresh : List Nat
  deriving DecidableEq, Repr

/-! ## Grid current -/

/-- A transfer under way (R221, R222). -/
inductive Xfer where
  | none
  /-- FOLLOW to FORM; true for one started by islanding -/
  | toForm (isl : Bool)
  | toFollow
  deriving DecidableEq, Repr

/-- The stop of R229 and R230. -/
inductive Stop where
  | none
  /-- references falling, by this much pu per second -/
  | ramp (rate : Int)
  /-- main group commanded open -/
  | main
  /-- series group commanded open -/
  | series
  deriving DecidableEq, Repr

/-- Grid current and grid-forming control (R211 to R232). -/
structure Grd where
  /-- NEUT -/
  neut : Bool
  /-- V0SAT -/
  v0sat : Bool
  /-- CURT -/
  curtOn : Bool
  /-- ILIMA -/
  ilima : Bool
  /-- PLIMA -/
  plima : Bool
  /-- STEP of the close sequence, 0 to 5 -/
  step : Nat
  /-- RESULT -/
  result : Nat
  /-- SCOK -/
  scok : Bool
  /-- monotone instant of START -/
  closeFrom : Nat
  /-- monotone instant since which the synchro-check has held in step SYNC; none while it does not -/
  scFrom : Option Nat
  /-- DA, signed ANG32 -/
  da : Int
  /-- DV, PU32 -/
  dv : Int
  /-- DA of the last 1,025 beats, newest first -/
  daHist : List Int
  /-- trim of the magnitude, PU32 (R225) -/
  trimV : Int
  /-- trim of the angle, signed ANG32 -/
  trimA : Int
  /-- rotor frequency, PU32 of nominal -/
  omega : Int
  /-- the rotor is held at an edge of the operating band -/
  wClamp : Bool
  /-- GRD_ROT_PACC -/
  pacc : Int
  /-- P_ref -/
  pref : Int
  /-- V_set -/
  vset : Int
  /-- Q_set -/
  qset : Int
  /-- which references follow their set-points: bit 0 P_ref, 1 V_set, 2 Q_set (R221) -/
  chase : Nat
  /-- those of them written since, which follow from the next beat start -/
  chaseNext : Nat
  /-- V_ref of the last beat outside RIDE (R220) -/
  vref : Int
  /-- transfer under way -/
  xfer : Xfer
  /-- its beats: 0 it begins at the next beat start, 1 its first beat, 2 a later one -/
  xferAt : Nat
  /-- stop under way -/
  stop : Stop
  /-- beats |i⁺| and |i⁻| have stayed below 0.02 pu -/
  lowBeats : Nat
  /-- positive references in force, after the limits -/
  idRef : Int
  /-- see idRef -/
  iqRef : Int
  /-- negative-sequence references in force -/
  inD : Int
  /-- see inD -/
  inQ : Int
  /-- the id demand is clamped from above -/
  idHi : Bool
  /-- the id demand is clamped from below -/
  idLo : Bool
  /-- the iq demand is clamped from above -/
  iqHi : Bool
  /-- the iq demand is clamped from below -/
  iqLo : Bool
  /-- power reduction by step 1 of R212, PU32 of S_B -/
  pcut : Int
  /-- phase targets before curtailment -/
  poff : List Int
  /-- curtailment per phase -/
  curt : List Int
  /-- imbalance amplitude -/
  imbA : Int
  /-- V0 -/
  v0 : Int
  /-- angle of v0 against ANG32 -/
  v0ang : Word
  /-- power of each phase in the last beat, PU32 of S_B / 3 -/
  ppow : List Int
  /-- consecutive beats of neutral current above INLIM -/
  neutRun : Nat
  /-- monotone instant since which it has stayed below INLIM / 2 -/
  neutLow : Option Nat
  /-- what the engines go on with until the next beat start, a host having changed `stop` in this beat (R24) -/
  stopHeld : Option Stop
  /-- a host has started the close sequence in this beat: the engines begin it at the next beat start (R24) -/
  startHeld : Bool
  deriving DecidableEq, Repr

/-! ## Tracking and power allocation -/

/-- STATE of a tracker (R246). -/
inductive TrkState where
  | off | queued | start | track | global | curtailed | frozen
  deriving DecidableEq, Repr

/-- What was measured over one whole cycle (R239). -/
structure Window where
  /-- sum of the power of each beat, mW -/
  sum : Int
  /-- beats -/
  beats : Nat
  /-- of them with a carried report -/
  carried : Nat
  /-- VTGT changed within it -/
  moved : Bool
  deriving DecidableEq, Repr

/-- A lehr ramp (R253). -/
structure Lehr where
  /-- monotone instant it began -/
  began : Nat
  /-- its length, 2⁻³² ns -/
  span : Nat
  /-- power it started from, W -/
  p0 : Nat
  /-- a ramp of charge -/
  charge : Bool
  deriving DecidableEq, Repr

/-- Tracker and budget of a cell (R246). -/
structure Tracker where
  /-- STATE -/
  st : TrkState
  /-- HISTU -/
  histu : Bool
  /-- DIR -/
  up : Bool
  /-- VOID -/
  void : Bool
  /-- REV -/
  rev : Bool
  /-- SWPT -/
  swpt : Nat
  /-- RUN -/
  run : Nat
  /-- VTGT, 0.1 V -/
  vtgt : Nat
  /-- STEP, 0.1 V -/
  step : Nat
  /-- VBEST -/
  vbest : Nat
  /-- VCTR -/
  vctr : Nat
  /-- PBEST, W -/
  pbest : Int
  /-- PMEAS, W -/
  pmeas : Int
  /-- PMEAS and VTGT of the previous valid window -/
  prev : Option (Int × Nat)
  /-- POFFER, PU32 of S_B / 3 -/
  offer : Int
  /-- PSHARE -/
  share : Int
  /-- the battery's part of it -/
  batt : Int
  /-- EAVAIL, Wh -/
  eavail : Nat
  /-- PAFF, W -/
  paff : Nat
  /-- PAFFC, W -/
  paffc : Nat
  /-- RSV -/
  rsv : Bool
  /-- the ramp under way -/
  lehr : Option Lehr
  /-- no further share in a direction, charge or not, until SOC is 2 clear of its limit, and the weight of the cell when
  its ramp began (R253) -/
  barred : Option (Bool × Nat)
  /-- the last report showed discharge at or below FLOOR (R254) -/
  floored : Bool
  /-- HAGE -/
  hage : Nat
  /-- SWEEPS -/
  sweeps : Nat
  /-- JUMPS -/
  jumps : Nat
  /-- STEPS -/
  steps : Nat
  /-- range of the sweep, 0.1 V -/
  lo : Nat
  /-- see lo -/
  hi : Nat
  /-- best point of the sweep so far: PMEAS, VTGT -/
  best : Option (Int × Nat)
  /-- cycles since the period or point began -/
  cycles : Nat
  /-- the cycle under way -/
  now : Window
  /-- the last whole cycle -/
  last : Window
  /-- the state CURTAILED returns to -/
  resume : TrkState
  /-- the state FROZEN returns to -/
  held : TrkState
  /-- the period has begun again since the last cycle start -/
  fresh : Bool
  deriving DecidableEq, Repr

/-- A substitution whose spare has still to open its bypass (R255). -/
structure Subst where
  /-- failed cell -/
  failed : Nat
  /-- spare -/
  spare : Nat
  /-- phase -/
  phase : Nat
  /-- monotone instant TOUT expires -/
  due : Nat
  deriving DecidableEq, Repr

/-- Trackers, allocator and substitution. -/
structure Bpt where
  /-- trackers by cell -/
  cells : List (Nat × Tracker)
  /-- a global sweep is under way -/
  gsw : Bool
  /-- its cells that have not swept yet -/
  gswLeft : List Nat
  /-- HEADLOW -/
  headLow : Bool
  /-- BPT_HEAD_DIS -/
  headDis : Int
  /-- BPT_HEAD_CHG -/
  headChg : Int
  /-- BPT_EAVAIL, Wh -/
  eavail : Nat
  /-- BPT_DISP -/
  disp : Int
  /-- SUBS -/
  subs : Nat
  /-- SUBFAIL -/
  subFail : Nat
  /-- substitutions waiting -/
  waiting : List Subst
  /-- failed cells awaited to close their bypass: cell ↦ monotone instant TOUT expires -/
  closing : List (Nat × Nat)
  /-- member cells that stand in: spare cell ↦ failed cell (DEV_CULLET_FOR) -/
  standIn : List (Nat × Nat)
  /-- cells of the pool found failed or given up -/
  spent : List Nat
  /-- stamp of the history set in force; 0 none -/
  histT : Nat
  /-- SYNC when it was written -/
  histSync : Sync
  /-- its records: cell ↦ serial, VBEST, PBEST -/
  hist : List (Nat × (Nat × Nat × Int))
  /-- time spent in FOLLOW or FORM since the last history set, 2⁻³² ns -/
  histRun : Nat
  /-- time spent in FOLLOW or FORM since the last periodic global sweep fell due -/
  sweepRun : Nat
  /-- a start sweep has been queued since START_DONE -/
  starting : Bool
  deriving DecidableEq, Repr

/-! ## Ride-through -/

/-- A timer of a trip row: since when its condition has held, and beats it has lapsed (R273). -/
structure Timer where
  /-- monotone instant it started -/
  since : Option Nat
  /-- beats the condition has been absent -/
  lapse : Nat
  deriving DecidableEq, Repr

/-- Ride-through and islanding unit (R263 to R288). -/
structure Rti where
  /-- profile words in flash by profile × 256 + word (kept) -/
  store : List (Nat × Word)
  /-- profile of the open edit -/
  edit : Option Nat
  /-- its staging words -/
  staging : List (Nat × Word)
  /-- the commit under way: profile -/
  busy : Option Nat
  /-- LAST -/
  lastStat : Status
  /-- PACT; none while no profile is in force -/
  act : Option Nat
  /-- words of the profile in force -/
  words : List (Nat × Word)
  /-- word 0x05C in effect -/
  sigWord : Word
  /-- ISLACT in effect -/
  islact : Nat
  /-- the selected profile whose refusal has been reported -/
  refused : Option Nat
  /-- U_low, PU32 of √3 V_B -/
  ulow : Int
  /-- U_high -/
  uhigh : Int
  /-- consecutive beats beyond an entry threshold, low and high -/
  entLow : Nat
  /-- see entLow -/
  entHigh : Nat
  /-- monotone start of the beat in which RIDE entry was decided -/
  rideT : Nat
  /-- CAUSE -/
  cause : Nat
  /-- RIDE entries -/
  rides : Nat
  /-- PROFILE latches -/
  latches : Nat
  /-- TRIPWHY -/
  tripWhy : Nat
  /-- sums and counts of U⁺ over the cycles outside RIDE, newest first: the present one and 50 before it -/
  upHist : List (Int × Nat)
  /-- U_pre -/
  upre : Int
  /-- id_pre -/
  idPre : Int
  /-- iq_pre -/
  iqPre : Int
  /-- monotone instant since which the return band has held -/
  bandFrom : Option Nat
  /-- monotone instant of the last phase jump above PJ_RIDE -/
  pjFrom : Option Nat
  /-- a phase jump of this beat awaits judgement -/
  jump : Option Int
  /-- f, 2⁻¹⁶ Hz -/
  freq : Nat
  /-- f at the cycle starts with the monotone instant, newest first, at most 51 -/
  fHist : List (Nat × Nat)
  /-- ROCOF, 2⁻¹⁶ Hz/s -/
  rocof : Int
  /-- timers: FU_1 to FU_4, FO_1 to FO_4, ROCOF, LOCK, passive frequency, passive ROCOF -/
  timers : List Timer
  /-- recovery ceiling of id*; none when not in force -/
  recov : Option Int
  /-- power ceiling of R285 -/
  pceil : Int
  /-- TIME of RTI_RIDE once RIDE has ended, ms -/
  rideMs : Nat
  /-- monotone instant since which the reconnection conditions have held -/
  reconFrom : Option Nat
  /-- RECON_OK has been raised for the present PROFILE or ISLAND condition -/
  reconDone : Bool
  /-- beats begun since the last return from RIDE, that of the return included, at most 8,192 -/
  sinceRide : Nat
  /-- SEED in use -/
  seed : Nat
  /-- the six latest chips, the next to come in bit 0 -/
  chips : Nat
  /-- position of the present chip in the sequence, 0 to 62 -/
  chipPos : Nat
  /-- the signature runs -/
  sigOn : Bool
  /-- the present chip is still valid -/
  chipOk : Bool
  /-- every beat of the present cycle has been in FOLLOW or FORM -/
  cycRun : Bool
  /-- a chip has ended and the correlator has not yet taken it -/
  chipDue : Bool
  /-- v⁻ over the second half of the present chip: sums and beats -/
  vnd : Int
  /-- see vnd -/
  vnq : Int
  /-- see vnd -/
  vnBeats : Nat
  /-- the window of valid chips, newest first: chip, v⁻d, v⁻q -/
  window : List (Bool × Int × Int)
  /-- valid chips towards arming -/
  validN : Nat
  /-- ARMED -/
  armed : Bool
  /-- |Z|, 2⁻¹⁶ pu -/
  zmag : Int
  /-- angle of Z -/
  zang : Word
  /-- consecutive chip ends with |Z| above ZTHR -/
  zOver : Nat
  /-- consecutive chip ends with |Z| below ZTHR / 2 -/
  zUnder : Nat
  /-- a detection to act on in the next beat: detector -/
  detect : Option Nat
  /-- ISL -/
  isl : Bool
  /-- ISLWHY -/
  islWhy : Nat
  deriving DecidableEq, Repr

/-! ## Engines and Gaffer -/

/-- STATE of an engine (R310). -/
inductive EngState where
  | off | test | load | sync | standby | active | fenced | halted
  deriving DecidableEq, Repr

/-- An engine (R290 to R311). -/
structure Engine where
  /-- STATE -/
  st : EngState
  /-- TX -/
  tx : Bool
  /-- LEAD -/
  lead : Bool
  /-- SLOT -/
  slot : Nat
  /-- CLKBK -/
  clkBk : Bool
  /-- ENGx_VER -/
  ver : Word
  /-- CAUSE -/
  cause : Nat
  /-- SEQ of ENGx_FAULT -/
  faultSeq : Nat
  /-- LAST and WORST of ENGx_LOAD, 0.1 % -/
  load : Nat × Nat
  /-- overruns -/
  ovr : Nat
  /-- consecutive overruns -/
  consec : Nat
  /-- last rejoin time, ms -/
  syncMs : Nat
  /-- rejoins -/
  rejoins : Nat
  /-- heartbeats sent -/
  hb : Nat
  /-- monotone instant from which a missing heartbeat is reckoned: the last one, or coming into step -/
  hbAt : Option Nat
  /-- monotone instant of the last heartbeat sent, and the ANG_SEQ it carried -/
  hbSent : Option Nat
  /-- see hbSent -/
  hbSeq : Word
  /-- it has declared a fault and not yet sent its last heartbeat -/
  flag : Bool
  /-- it sends no heartbeat any more -/
  mute : Bool
  /-- fenced: its paths are cut (R294) -/
  cut : Bool
  /-- a HALT takes effect at the next beat start -/
  haltReq : Bool
  /-- the snapshot is loaded: it is in step at the beat start at which ANG32 crosses 0 (R304) -/
  synced : Bool
  /-- the slot of a JOIN that waits for the fence of a halted holder (R306) -/
  joinLater : Option Nat
  /-- monotone instant the rejoin, and its present stage, began -/
  joinAt : Nat × Nat
  /-- monotone instant an automatic JOIN is due -/
  autoAt : Option Nat
  /-- monotone instant of the last automatic JOIN -/
  autoLast : Option Nat
  deriving DecidableEq, Repr

/-- A microcode slot (R307). -/
structure ImageSlot where
  /-- an image has been written and closed, and its signature verifies -/
  signed : Bool
  /-- Format -/
  format : Nat
  /-- MINSREV -/
  minsrev : Nat
  /-- version word -/
  version : Word
  /-- HSTV: lowest and highest command set version -/
  hstv : Nat × Nat
  /-- the bytes IMAGE_DATA has written since the slot was erased -/
  body : List Byte
  deriving DecidableEq, Repr

/-- The Gaffer (R291 to R313). -/
structure Gaffer where
  /-- the holder: 0 A, 1 B -/
  holder : Option Nat
  /-- monotone instant the lease ends -/
  lease : Nat
  /-- monotone instant the guard ends -/
  guard : Option Nat
  /-- FROZEN -/
  frozen : Bool
  /-- FORCING -/
  forcing : Bool
  /-- its judgement is still to be written -/
  judging : Bool
  /-- DEVTIME at the end of the judgement window, ns -/
  winEnd : Nat
  /-- monotone instant TEST_DUE was last raised while a test has been due -/
  dueAt : Option Nat
  /-- an engine has been granted the pontil since the last reset -/
  served : Bool
  /-- release of a forced switchover not yet granted -/
  released : Bool
  /-- monotone instant of the release -/
  releaseAt : Nat
  /-- DEVTIME of the last grant, ns -/
  swT : Nat
  /-- LASTWHY -/
  why : Nat
  /-- why the lease will expire -/
  nextWhy : Nat
  /-- the engine that held the pontil before the guard -/
  former : Nat
  /-- the timing roles change at the next beat start -/
  leadNext : Bool
  /-- forced switchovers -/
  forced : Nat
  /-- other grants after expiry -/
  others : Nat
  /-- judgement: beat starts since the release, and since the grant -/
  judged : Nat × Nat
  /-- judgement: the grant has come -/
  granted : Bool
  /-- judgement: conditions 1 to 4 not met, bit k - 1 -/
  failed : Nat
  /-- GAF_TEST (kept) -/
  test : Word
  /-- GAF_TEST_A (kept) -/
  testA : Nat
  /-- GAF_TEST_B (kept) -/
  testB : Nat
  /-- ALT -/
  alt : Bool
  /-- the two slots (kept) -/
  slots : List ImageSlot
  /-- VERDIFF -/
  verDiff : Bool
  /-- the engines have booted since the last reset (R297) -/
  booted : Bool
  /-- engines A and B -/
  engines : List Engine
  deriving DecidableEq, Repr

/-! ## Safety -/

/-- A safe disconnect group (R317 to R320). -/
structure Group where
  /-- CMD: commanded energised -/
  cmd : Bool
  /-- monotone instant of the last command -/
  cmdAt : Nat
  /-- SDO_H on -/
  h : Bool
  /-- SDO_L on -/
  l : Bool
  /-- mirror A closed -/
  fba : Bool
  /-- mirror B closed -/
  fbb : Bool
  /-- CONF: 0 none, 1 confirmed open, 2 confirmed closed, 3 changing -/
  conf : Nat
  /-- FBFAIL -/
  fbFail : Bool
  /-- TFAIL -/
  tFail : Bool
  /-- SKIP -/
  skip : Nat
  /-- ticks the mirrors have read the commanded state -/
  good : Nat
  /-- ticks the mirrors have disagreed -/
  disagree : Nat
  /-- ticks SDO_H and SDO_L have read back on while commanded off, at most 6 (R319) -/
  onH : Nat
  /-- see onH -/
  onL : Nat
  /-- ticks the feedback has not followed the command -/
  wrong : Nat
  /-- a dark pulse under way: true on SDO_H, and the monotone instant it began -/
  pulse : Option (Bool × Nat)
  /-- SDO_H reads on, as last read back -/
  rdH : Bool
  /-- see rdH -/
  rdL : Bool
  deriving DecidableEq, Repr

/-- A two-channel input pair (R321 to R325). -/
structure Sip where
  /-- channel A in run -/
  a : Bool
  /-- channel B in run -/
  b : Bool
  /-- discrepancy latch -/
  disc : Bool
  /-- crossfault latch -/
  cross : Bool
  /-- ARM -/
  arm : Bool
  /-- discrepancy counter -/
  cnt : Nat
  deriving DecidableEq, Repr

/-- A seal switch (R326). -/
structure Seal where
  /-- value: closed -/
  val : Bool
  /-- invalid -/
  bad : Bool
  /-- a value has been taken -/
  known : Bool
  /-- reading awaiting its second sample -/
  cand : Option Bool
  /-- samples the pins have read equal in succession -/
  equal : Nat
  /-- samples X and Y have differed in succession -/
  differ : Nat
  /-- good samples in succession -/
  good : Nat
  deriving DecidableEq, Repr

/-- A copy of an envelope held for agreement (R331). -/
structure Copy where
  /-- network: 0 A, 1 B -/
  net : Nat
  /-- source index -/
  src : Nat
  /-- SEQ -/
  seq : Nat
  /-- CMD -/
  cmd : Nat
  /-- the 48 bytes -/
  bytes : List Byte
  /-- monotone instant of arrival -/
  at_ : Nat
  /-- it has acted, singly -/
  acted : Bool
  /-- age at arrival, ns -/
  age : Int
  deriving DecidableEq, Repr

/-- An intertrip source (R330 to R333). -/
structure Source where
  /-- blocked -/
  blocked : Bool
  /-- monotone instant its permission window ends -/
  window : Option Nat
  /-- last SEQ accepted on network A and B -/
  seqA : Option Nat
  /-- see seqA -/
  seqB : Option Nat
  deriving DecidableEq, Repr

/-- The safety channels (R314 to R343). -/
structure Safety where
  /-- X_OK -/
  xOk : Bool
  /-- Y_OK -/
  yOk : Bool
  /-- LINK -/
  link : Bool
  /-- SAF_LATCH -/
  latch : Nat
  /-- the four groups -/
  groups : List Group
  /-- the host's words as the channels have them since their last tick (R343) -/
  used : List (Nat × Word)
  /-- the eight input pairs -/
  sips : List Sip
  /-- SI levels -/
  si : Nat
  /-- monotone instant of the channels' last tick -/
  tickAt : Nat
  /-- monotone instant until which each TP line's pulse, and 100 µs after it, lasts -/
  tpUntil : List Nat
  /-- the eight seal switches -/
  seals : List Seal
  /-- raw SEALx_NO -/
  sealNo : Nat
  /-- raw SEALx_NC -/
  sealNc : Nat
  /-- copies held -/
  copies : List Copy
  /-- the eight sources -/
  sources : List Source
  /-- monotone instant of the last valid copy on network A and B -/
  lastOk : List Nat
  /-- silent -/
  silent : List Bool
  /-- the first single copy since the other network fell silent has been reported -/
  single : List Bool
  /-- the condition of ITSUP: both networks have been silent for SUP, and no valid copy has come since (R334) -/
  itCond : Bool
  /-- accepted and rejected copies of network A and B -/
  itCnt : List (Nat × Nat)
  /-- disagreeing pairs -/
  itDis : Nat
  /-- unpaired copies -/
  itUnp : Nat
  /-- cross-link frames missing in succession -/
  missing : Nat
  /-- exchanges whose verdicts differed, in succession -/
  differ : Nat
  deriving DecidableEq, Repr

/-! ## Networks -/

/-- A subscription (R378 to R380). -/
structure Sub where
  /-- VALUE -/
  value : Word
  /-- VALID -/
  valid : Bool
  /-- TALEXP -/
  talExp : Bool
  /-- TEST -/
  test : Bool
  /-- stNum and sqNum of the last accepted frame -/
  num : Option (Nat × Nat)
  /-- LAST -/
  last : Word
  /-- monotone instant supervision expires -/
  due : Option Nat
  deriving DecidableEq, Repr

/-- A publication (R381, R382). -/
structure Pub where
  /-- STNUM -/
  stNum : Nat
  /-- SQNUM -/
  sqNum : Nat
  /-- member values last sent -/
  vals : List Word
  /-- a frame has been sent -/
  sent : Bool
  /-- present retransmission interval, ms -/
  ms : Nat
  /-- monotone instant of the next retransmission -/
  due : Nat
  deriving DecidableEq, Repr

/-- A master seen on a PTP port (R375). -/
structure Master where
  /-- grandmaster identity -/
  gm : Nat
  /-- clockClass -/
  cls : Nat
  /-- UTC offset -/
  utc : Nat
  /-- its rank under the best master clock algorithm, lower better -/
  rank : Nat
  /-- monotone instant of its last Announce -/
  heard : Nat
  deriving DecidableEq, Repr

/-- Station and protection networks (R372 to R390). -/
structure Net where
  /-- LINK, bit p -/
  link : Nat
  /-- LAN A and LAN B not lost -/
  prpOk : List Bool
  /-- DUP -/
  dup : Nat
  /-- frames with a trailer taken of late: source, sequence, monotone instant -/
  seen : List (Nat × Nat × Nat)
  /-- trailer sequence number of the next frame sent -/
  prpSeq : Nat
  /-- monotone instant of the last frame with a trailer of LAN A and LAN B -/
  lanAt : List Nat
  /-- monotone instant of the last supervision frame sent -/
  prpAt : Option Nat
  /-- monotone instant of the last Pdelay_Req of STA_A and STA_B -/
  pdelayAt : List (Option Nat)
  /-- PTP STATE -/
  ptp : Nat
  /-- PORT -/
  port : Nat
  /-- masters of STA_A and STA_B -/
  masters : List (Option Master)
  /-- peer delay of STA_A and STA_B, ns -/
  delay : List Nat
  /-- monotone instant of the last Sync used -/
  syncAt : Option Nat
  /-- a Sync has been used since the present port was followed -/
  calibrated : Bool
  /-- DEVTIME, ns, at which each port took its last frame (R377) -/
  rxStamp : List Nat
  /-- DEVTIME, ns, at which each port sent its last PTP event message (R377) -/
  txStamp : List Nat
  /-- accepted and discarded frames of the four ports -/
  cnt : List (Nat × Nat)
  /-- MALF -/
  malf : Nat
  /-- OTHER -/
  other : Nat
  /-- subscriptions by entry -/
  subs : List (Nat × Sub)
  /-- VALUE and VALID of the entries as the engines hold them since the beat start, by entry -/
  subsUsed : List (Nat × (Word × Bool))
  /-- publications by entry -/
  pubs : List (Nat × Pub)
  /-- DEVTIME, ns, of the last sample sent of each stream -/
  smpLast : List Nat
  /-- values of the pipeline quantities of the present and the previous beat, with the beat start, ns, and all that DEVTIME had
  stepped by then -/
  smpVals : List (Nat × Int × List (Validity × Int))
  /-- string sets of the network image in force, bit n -/
  strings : Nat
  /-- string sets that come into force at the next beat start -/
  stringsNext : Option Nat
  /-- envelopes handed to the safety channels and not yet judged: network, bytes, receive timestamp, source index (R385) -/
  handed : List (Nat × List Byte × Nat × Nat)
  deriving DecidableEq, Repr

/-! ## Recorder and memories -/

/-- A recorder frame (R393). -/
structure Frame where
  /-- its bytes, header included, padded -/
  bytes : List Byte
  /-- DEVTIME it carries, ns -/
  time : Nat
  deriving DecidableEq, Repr

/-- The delivery of a record to a host (R397). -/
structure RecHost where
  /-- the host -/
  host : Nat
  /-- the next entry: 0 the HEAD, then the TRIGs, then the place in the record's bytes -/
  next : Nat
  /-- the record bytes sent -/
  sent : List Byte
  deriving DecidableEq, Repr

/-- A record (R395). -/
structure Rec where
  /-- record number -/
  no : Nat
  /-- start, DEVTIME ns -/
  start : Nat
  /-- end, DEVTIME ns -/
  stop : Nat
  /-- PRESHORT -/
  short : Bool
  /-- CAP -/
  cap : Bool
  /-- the first 8 triggers: time, source bit -/
  trigs : List (Nat × Nat)
  /-- triggers counted -/
  count : Nat
  /-- hosts still to receive it -/
  hosts : List RecHost
  /-- frames omitted -/
  omitted : Nat
  deriving DecidableEq, Repr

/-- The recorder (R393 to R398, R406). -/
structure Recorder where
  /-- frames held, oldest first -/
  frames : List Frame
  /-- frames that wait for the grant, oldest first (R298) -/
  waiting : List Frame
  /-- VALUE and VALID of the subscriptions by entry, as recorded for each beat that began at a DEVTIME, oldest first (R379) -/
  subs : List (Nat × List (Nat × (Word × Bool)))
  /-- the open record -/
  opened : Option Rec
  /-- held records, oldest first -/
  held : List Rec
  /-- number of the next record -/
  next : Nat
  /-- MISSED -/
  missed : Nat
  /-- UNSENT -/
  unsent : Nat
  /-- SEL of the four hosts -/
  sel : List Nat
  deriving DecidableEq, Repr

/-- A configuration image slot (R401). -/
structure CiSlot where
  /-- valid -/
  valid : Bool
  /-- TYPE -/
  type : Nat
  /-- the image -/
  bytes : List Byte
  deriving DecidableEq, Repr

/-- Memories and data integrity (R391, R399 to R402, R407). -/
structure Memories where
  /-- corrected SRAM words -/
  sramC : Nat
  /-- uncorrectable SRAM errors -/
  sramU : Nat
  /-- corrected DRAM words -/
  dramC : Nat
  /-- uncorrectable DRAM errors -/
  dramU : Nat
  /-- MEM_UE_ADDR -/
  ue : Word
  /-- MEM_FLASH_STAT.FAIL -/
  flashFail : Bool
  /-- the DRAM die has failed -/
  dramFail : Bool
  /-- spare rows used of each SRAM bank -/
  rows : List Nat
  /-- corrected errors of a row in the last hour: bank × 4096 + row ↦ monotone instants -/
  rowErrs : List (Nat × List Nat)
  /-- the eight configuration image slots (kept) -/
  ci : List CiSlot
  /-- the command under way: CMD, SLOT, host, image -/
  ciOp : Option (Nat × Nat × Nat × List Byte)
  /-- MEM_CI_STAT.LAST -/
  ciLast : Status
  /-- FAILIDX -/
  ciFail : Nat
  /-- the boot apply is still to run -/
  bootPend : Bool
  /-- the slot that MEM_CI_BOOT names has been written or erased since: the boot apply is empty (kept, R409) -/
  bootVoid : Bool
  /-- corrupted complement pairs: offset ↦ the pair as it reads (R400) -/
  corrupt : List (Nat × (Word × Word))
  deriving DecidableEq, Repr

/-! ## Rails -/

/-- Where a rail channel stands (R411, R417, R419). -/
inductive RailSt where
  | off | soft | on
  deriving DecidableEq, Repr

/-- A rail channel (R410 to R424). RC_1 takes its reference from RC_0. -/
structure RailCh where
  /-- off, in soft start, or on -/
  st : RailSt
  /-- PG -/
  pg : Bool
  /-- reference, µV, at the instant below -/
  vFrom : Nat
  /-- monotone instant the present movement of the reference began -/
  vAt : Nat
  /-- target of the reference, µV -/
  vTgt : Nat
  /-- slew in force, µV in 10 µs -/
  slew : Nat
  /-- in burst mode -/
  burst : Bool
  /-- high side held off for its bootstrap -/
  bstuv : Bool
  /-- the bootstrap has reached 4.2 V: BSTUV clears at the next cycle start (R416) -/
  bstOk : Bool
  /-- the current limit acted in the present cycle -/
  ilimNow : Bool
  /-- ILIM: it acted in the last cycle -/
  ilim : Bool
  /-- the reverse limit acted in the present cycle -/
  negcNow : Bool
  /-- NEGC: it acted in the last cycle -/
  negc : Bool
  /-- OV -/
  ov : Bool
  /-- DRVUV -/
  drvuv : Bool
  /-- PREB -/
  preb : Bool
  /-- CONSEC -/
  consec : Nat
  /-- cycles of the last 8 in which the limit acted, the latest in bit 0 -/
  last8 : Nat
  /-- bootstrap events counted -/
  cntB : Nat
  /-- current-limited cycles counted -/
  cntI : Nat
  /-- current limit in force, 0.5 mV -/
  limit : Nat
  /-- phase offset in force, 90° -/
  phase : Nat
  /-- pulse signal of the controller (R414) -/
  pulse : Bool
  /-- enable signal of the controller (R414) -/
  enable : Bool
  /-- monotone instant its soft start ended, while power good has not been reached since (R418) -/
  pgDue : Option Nat
  deriving DecidableEq, Repr

/-- The rail controller. -/
structure Rail where
  /-- channels RC_0 to RC_3 -/
  ch : List RailCh
  /-- RC3_SEL read at the first rise of the auxiliary input; none before -/
  rc3sel : Option Bool
  /-- the auxiliary input has passed its rising threshold and not fallen below 8.2 V -/
  aux : Bool
  /-- a latch is in force: channel and cause -/
  latch : Option (Nat × Nat)
  /-- RAIL_LASTOFF channel and cause -/
  last : Option (Nat × Nat)
  /-- a latch preceded this start -/
  lastValid : Bool
  /-- LASTOFF is still to be raised once RAIL is ready -/
  lastReport : Bool
  /-- frequency of a valid RAIL_SYNC input, kHz -/
  sync : Option Nat
  /-- a loss of RAIL_SYNC met in burst, to take effect at burst exit (R422) -/
  lossPend : Bool
  /-- SYNC_LOST has been raised, and RAIL_SYNC has not been valid since (R412) -/
  wasLost : Bool
  /-- channels that leave burst mode at their next cycle start (R421) -/
  burstEnds : List Nat
  /-- RAIL_SYNC is followed -/
  follow : Bool
  /-- rail frequency now, kHz -/
  kHz : Nat
  /-- cycles still to move to the frequency below -/
  move : Nat
  /-- frequency being moved to, kHz -/
  goal : Nat
  deriving DecidableEq, Repr

/-! ## Clocks -/

/-- The clock unit (R426 to R434). -/
structure Clk where
  /-- references good -/
  good : List Bool
  /-- monotone instant each reference last became good -/
  goodAt : List Nat
  /-- REFUSE -/
  use : Nat
  /-- HOLD: holdover, with the monotone instant it began -/
  hold : Option Nat
  /-- loops that have not yet declared lock since a reference was selected out of holdover, bits A, B, F0, F1 (R430) -/
  relock : Nat
  /-- FAB -/
  fab : Nat
  /-- LOCK: A, B, F0, F1 -/
  lock : List Bool
  /-- pool state of the fabric loop not in use -/
  pool : Pool
  /-- a fabric loop is being retried -/
  retry : Bool
  /-- monotone instant the retry began -/
  retryAt : Nat
  /-- last window counts: A, B, F0, F1 -/
  counts : List Nat
  /-- CLK_HOLD_T, µs -/
  holdT : Nat
  /-- fabric takeovers -/
  takeovers : Nat
  /-- losses of loop A and loop B -/
  losses : List Nat
  /-- reference losses -/
  refLoss : Nat
  /-- CLK_REFDIFF, 0.1 ppm -/
  refDiff : Int
  /-- CLK_SSC in force since the last reset -/
  ssc : Word
  deriving DecidableEq, Repr

/-! ## Sentinel -/

/-- An alert frame under way (R441, R442). -/
structure AlertFrame where
  /-- index of its entry -/
  entry : Nat
  /-- monotone instant of its start -/
  start : Nat
  /-- its 20 bytes -/
  bytes : List Byte
  deriving DecidableEq, Repr

/-- The sentinel domain (R435 to R449). All of it but `frame` is kept through loss of supply while the domain lives. -/
structure Sentinel where
  /-- the domain runs -/
  alive : Bool
  /-- BAND -/
  band : Nat
  /-- SEN_VCELL, mV -/
  vcell : Nat
  /-- SEN_VHARV, mV -/
  vharv : Nat
  /-- HARV -/
  harv : Bool
  /-- CHG -/
  chg : Bool
  /-- CELLFLT -/
  cellFlt : Bool
  /-- protections acting now: 0 over-voltage, 1 over-current, 2 charge temperature, 3 discharge temperature -/
  prot : Nat
  /-- ARMED -/
  armed : Bool
  /-- SYNCD -/
  syncd : Bool
  /-- sentinel clock, 2⁻³² ns -/
  rtc : Nat
  /-- count since the cold start, 2⁻³² ns -/
  sinceCold : Nat
  /-- GAP open -/
  gap : Bool
  /-- SEN_GAP_FROM -/
  gapFrom : Nat
  /-- SEN_GAP_TO -/
  gapTo : Nat
  /-- the alive stamp -/
  stamp : Nat
  /-- the alive stamp from which the last cold start opened its gap -/
  stampCold : Nat
  /-- sentinel clock of the next periodic stamp, ns -/
  stampDue : Nat
  /-- log entries by index, 16 bytes; an unlisted entry is erased -/
  log : List (Nat × List Byte)
  /-- NEXT -/
  next : Nat
  /-- seal baseline -/
  baseSeal : Nat
  /-- seal switches whose baseline reading is invalid -/
  baseBad : Nat
  /-- tamper baseline -/
  baseTamp : Nat
  /-- last two samples of each of the ten inputs: reading 0, 1 or 2 and how often in succession -/
  cand : List (Nat × Nat)
  /-- frame in progress -/
  frame : Option AlertFrame
  /-- entries that wait for the end of a frame: TYPE, SUBJECT, DETAIL, TIME, FLAGS -/
  waiting : List (Nat × Nat × Nat × Nat × Nat)
  /-- consecutive aborts -/
  aborts : Nat
  /-- monotone instant a retry is allowed after an abort -/
  retryAt : Option Nat
  /-- a frame was refused: it is retried at the next rise through 3.70 V -/
  refused : Bool
  /-- TXSUSP -/
  txSusp : Bool
  /-- DEFER -/
  defer : Nat
  /-- ABORT -/
  abort : Nat
  /-- TORN -/
  torn : Nat
  /-- LOST -/
  lost : Nat
  /-- unposted entries lost since the last start are still to be reported -/
  lostReport : Bool
  /-- TIME of the BLIND entry while blind -/
  blind : Option Nat
  /-- inputs not yet judged since a blind interval or a gap, bit i -/
  unjudged : Nat
  /-- the TIME a change found on one of them carries -/
  bound : Nat
  /-- monotone instant at which the pulse of SEAL_COM for the last sample began -/
  comAt : Option Nat
  deriving DecidableEq, Repr

/-! ## The machine -/

/-- The state of the block. -/
structure State where
  /-- the model's own counter of free values (log entry 10); no part of the device -/
  free : Nat
  /-- what the part is -/
  part : Part
  /-- words a host has written, by window offset; an unlisted word reads its reset value -/
  regs : List (Nat × Word)
  /-- those words as the engines and comparators have them since the last beat start (R24) -/
  used : List (Nat × Word)
  /-- set-point words written in RIDE, by window offset: not used until RIDE has returned (R59) -/
  rideWait : List Nat
  /-- supply, reset, readiness, boundary scan -/
  pwr : Reset
  /-- lifecycle -/
  lcy : Lcy
  /-- DEVTIME -/
  clock : Clock
  /-- host windows -/
  hosts : Hosts
  /-- device mode and HOLD causes -/
  modes : Modes
  /-- angle unit -/
  ang : Angle
  /-- converters, gathers and comparators -/
  adc : Adc
  /-- cell rings -/
  rings : Rings
  /-- modulator, local outputs, trip lines -/
  modu : Modulator
  /-- loop engine -/
  loop : Loop
  /-- grid current -/
  grd : Grd
  /-- trackers and power allocation -/
  bpt : Bpt
  /-- ride-through and islanding -/
  rti : Rti
  /-- engines and Gaffer -/
  gaf : Gaffer
  /-- safety channels -/
  saf : Safety
  /-- networks -/
  net : Net
  /-- recorder -/
  reco : Recorder
  /-- memories -/
  mem : Memories
  /-- rails -/
  rail : Rail
  /-- clocks -/
  clk : Clk
  /-- sentinel -/
  sen : Sentinel
  /-- events, rings and interrupts -/
  ev : Fabric
  /-- commands waiting, first in, first out -/
  pending : List Instr
  deriving DecidableEq, Repr

/-! ## Reset

The machine right after internal reset has ended at power-on (R451, R455): WAKE, the blocks that are ready at
release ready, nothing claimed, nothing in ring space. Values the manual gives no reset for, and kept values of a part
that has run nothing yet, are named in log entry 15. -/

/-- A leg that has never switched. -/
def legReset : Leg :=
  { level := false, en := false, since := 0, acc := 0, withheld := false, drop := 0, str := 0, accClr := 0 }

/-- A cell never linked (R60). -/
def cellLinkReset : CellLink :=
  { st := .absent, proto := 0, cw := false, ccw := false, reason := 0, seen := 0, miss := 0, crcErr := 0, dlyE := 0,
    dlyW := 0, fwd := 0, last := List.replicate 32 0, atW := false, atE := false, got := false, run := 0, known := false,
    warns := List.replicate 6 0, charged := 0,
    join := .align, joinAge := 0, ver := 0, joinTag := 0, aligned := false, idLow := none, latchReq := none, latchNew := false, latched := false }

/-- What the modulator holds of a cell before its first record. -/
def cellModReset : CellMod :=
  { leg0 := legReset, leg1 := legReset, cutb := 0, weight := 0, edges := List.replicate 8 0, vref := 0, vrun := 0 }

/-- A loop slot that has not executed. -/
def loopSlotReset : LoopSlot :=
  { st := .idle, sath := false, satl := false, inhib := false, hcause := 0, frz := 0, holds := 0, out := 0, err := 0,
    intg := 0, rs1 := 0, rs2 := 0, notch := [0, 0, 0, 0], spUsed := 0, exec := 0, frzRef := none, released := false }

/-- A whole cycle with nothing measured. -/
def windowReset : Window := { sum := 0, beats := 0, carried := 0, moved := false }

/-- A tracker that is off. -/
def trackerReset : Tracker :=
  { st := .off, histu := false, up := false, void := false, rev := false, swpt := 0, run := 0, vtgt := 0, step := 0,
    vbest := 0, vctr := 0, pbest := 0, pmeas := 0, prev := none, offer := 0, share := 0, batt := 0, eavail := 0,
    paff := 0, paffc := 0, rsv := false, lehr := none, barred := none, floored := false, hage := 0xFFFFFFFF, sweeps := 0, jumps := 0, steps := 0,
    lo := 0, hi := 0, best := none, cycles := 0, now := windowReset, last := windowReset, resume := .off, held := .off, fresh := false }

/-- A quantity with no measurement. -/
def quantReset : Quant := { ok := false, val := 0, lsb := 0 }

/-- A pair of members with no measurement (R92). -/
def pairReset : Pair :=
  { dis := 0, agree := 0, declared := false, carried := 0, value := 0, lsb := 0, valid := .invalid }

/-- A filter with no conversion (R100). -/
def filtReset : Filt := { vals := [], flags := [], inval := 0, word := 0xFFFFFFFF#32 }

/-- A subscription that has accepted no frame. -/
def subReset : Sub := { value := 0, valid := false, talExp := false, test := false, num := none, last := 0, due := none }

/-- A publication that has sent nothing. -/
def pubReset : Pub := { stNum := 0, sqNum := 0, vals := [], sent := false, ms := 0, due := 0 }

/-- A ring that is not enabled (R148, R149). -/
def ringStReset : RingSt :=
  { ready := false, tew := 0, twe := 0, gotEw := false, gotWe := false, pass := (false, false), probing := (false, false),
    broke := false, closed := false, brkCw := 0x1F, brkCcw := 0x1F,
    margin := false, cutIndex := 0, cut := false, tripped := false, wire := [], probeIn := 0, crcCw := 0, crcCcw := 0, late := 0, aborts := 0,
    missed := 0 }

/-- A port with no light; spares stand idle. -/
def portReset (serves : Nat) : Port :=
  { sync := false, los := true, txFault := false, serves := serves, lcerr := 0, dll := false, down := false }

/-- A local output at reset (R176). -/
def lhbReset : Lhb :=
  { pend := none, aper := 0x4E20, acmp := 0, cut := false, safe := false, clamp := false, cfg := 0x3C0#32, dt := 0x07D003E8#32,
    slot := 0, leg := legReset, cutp := 0, on := false, first := false, edges := [], start := 0 }

/-- An engine at reset (R297). -/
def engineReset : Engine :=
  { st := .test, tx := false, lead := false, slot := 0, clkBk := false, ver := 0, cause := 0, faultSeq := 0,
    load := (0, 0), ovr := 0, consec := 0, syncMs := 0, rejoins := 0, hb := 0, hbAt := none, hbSent := none, hbSeq := 0, flag := false,
    mute := false, cut := false, haltReq := false, synced := false, joinLater := none, joinAt := (0, 0), autoAt := none, autoLast := none }

/-- A disconnect group at reset: off, its mirrors not yet read. -/
def groupReset : Group :=
  { cmd := false, cmdAt := 0, h := false, l := false, fba := false, fbb := false, conf := 0, fbFail := false,
    tFail := false, skip := 0, good := 0, disagree := 0, onH := 0, onL := 0, wrong := 0, pulse := none, rdH := false, rdL := false }

/-- An input pair at reset. -/
def sipReset : Sip := { a := false, b := false, disc := false, cross := false, arm := false, cnt := 0 }

/-- A seal switch not yet read. -/
def sealReset : Seal :=
  { val := false, bad := false, known := false, cand := none, equal := 0, differ := 0, good := 0 }

/-- An intertrip source at reset. -/
def sourceReset : Source := { blocked := false, window := none, seqA := none, seqB := none }

/-- A timer that does not run. -/
def timerReset : Timer := { since := none, lapse := 0 }

/-- A rail channel in regulation at its start target. -/
def railChReset (mV phase : Nat) : RailCh :=
  { st := .on, pg := true, vFrom := mV * 1000, vAt := 0, vTgt := mV * 1000, slew := 10000, burst := false,
    bstuv := false, bstOk := false, ilimNow := false, ilim := false, negcNow := false, negc := false, ov := false,
    drvuv := false, preb := false, consec := 0, last8 := 0, cntB := 0, cntI := 0, limit := 100, phase := phase, pulse := false, enable := false, pgDue := none }

/-- A gather sequence at reset. -/
def seqReset : Seq :=
  { phase := .idle, cfg := 0, entries := [], acq3 := 250, next := 0, due := 0, preempt := 0, exec := 0 }

/-- A hardware ring at reset. -/
def ringReset : Ring :=
  { size := 0, type := 0, en := false, ien := false, pair := 0, base := 0, head := 0, tail := 0 }

def resetReset : Reset :=
  { dark := false, held := false, sources := 0, cause := 1, count := 0, ready := 0x31C10E, released := 0, readyT := none, late := 0,
    scan := none, ir := 0x01, cells := [], tapBypass := false }

def hostsReset : Hosts :=
  { claims := [], keys := [], holder := [], upper := [], latched := [], win := [], sel := [0, 0, 0, 0],
    link := [false, false, true, true], perst := [false, false], train := [none, none], staging := [], taken := [], session := none }

def modesReset : Modes :=
  { cur := .wake, prev := none, tgt := .wake, trans := false, lastStat := .ok, why := 0, since := 0, next := none,
    rideFrom := .follow, asked := false, latch := 0, cond := 0, hist := [], members := [] }

def clockReset : Clock :=
  { mono := 0, dev := 0, rate := 0, sync := .unset, stepPend := false, step := none, stepProbes := 0, ofs := 0 }

def angleReset : Angle :=
  { lock := false, ever := false, fly := false, slew := false, clamp := false, fout := false, src := 0, beats := false,
    idx := 0, cyc := 0, seq := 0, bstart := 0, blen := 50000 * 4294967296, began := 0, fired := [], next := 0, rate := 0x320000, freq := 0x320000,
    d := 0, dOk := false, diff := 0, jmpLast := 0, quiet := false, okCycle := false, lossCycle := false, skipCycle := false,
    fsum := 0, fcnt := 0, fmean := 0x320000, lockRun := 0, lossRun := 0, bandRun := 0, flyFrom := 0, flyOk := 0,
    div := 400, divPend := false }

/-- Converters at reset. The first step of the rotation may begin as soon as ADC is ready (DESIGN CHOICE, log entry 234). -/
def adcReset : Adc :=
  { seqs := List.replicate 16 seqReset,
    slots := (List.range 20).map fun i => { slice := i % 10, acq := none, conv := none, lastChan := none },
    ovr := 0, filts := [], gains := [], results := [], flight := [], roles := [], pairs := [], wmon := 0,
    slices := List.replicate 24 .idle, cover := [], dirty := [], written := [], dieFail := false, cmpFail := 0, rot := .idle, rotSlot := 0, rotSpare := 0, rotOwn := 0, rotDue := 0, rotFrom := 0, rotSteps := 0,
    nocal := [false, false], calset := [], staging := [], calsetSrc := 0,
    calsetFlash := [(0, 1#32), (1, 1#32), (1023, 0x1B070F52#32)], calsetOk := true, calsetBusy := false, calsetNext := false,
    cmpRaw := 0, ain := [], cmpLive := false, cmpAt := 0, blank := [] }

def ringsReset : Rings :=
  { ports := (List.range 34).map fun i => portReset (if i < 32 then i else 0x3F),
    rings := List.replicate 16 ringStReset, cells := [], cutoff := false, acts := [] }

def moduReset : Modulator :=
  { cells := [], lhb := List.replicate 12 lhbReset, ovm := [0, 0, 0], src := 0, take := none, mev := [], lines := 0, latch := 0, fabStop := false,
    vph := [(0, 0), (0, 0), (0, 0)] }

def loopReset : Loop :=
  { slots := [], quants := [], hist := [], starts := [], stepped := 0, commits := [], snapReq := false, snapArm := false,
    snap := none, done := false, handed := false, copied := false, fresh := [] }

def grdReset : Grd :=
  { neut := false, v0sat := false, curtOn := false, ilima := false, plima := false, step := 0, result := 0, scok := false,
    closeFrom := 0, scFrom := none, da := 0, dv := 0, daHist := [], trimV := 0, trimA := 0, omega := 0, wClamp := false, pacc := 0,
    pref := 0, vset := 0, qset := 0, chase := 0, chaseNext := 0, vref := 0, xfer := .none, xferAt := 0, stop := .none, lowBeats := 0, idRef := 0,
    iqRef := 0, inD := 0, inQ := 0, idHi := false, idLo := false, iqHi := false, iqLo := false, pcut := 0,
    poff := [0, 0, 0], curt := [0, 0, 0], imbA := 0, v0 := 0, v0ang := 0, ppow := [0, 0, 0], neutRun := 0,
    neutLow := none, stopHeld := none, startHeld := false }

def bptReset : Bpt :=
  { cells := [], gsw := false, gswLeft := [], headLow := false, headDis := 0, headChg := 0, eavail := 0, disp := 0,
    subs := 0, subFail := 0, waiting := [], closing := [], standIn := [], spent := [], histT := 0,
    histSync := .unset, hist := [], histRun := 0, sweepRun := 0, starting := false }

def rtiReset : Rti :=
  { store := [], edit := none, staging := [], busy := none, lastStat := .ok, act := none, words := [], sigWord := 0,
    islact := 0, refused := none, ulow := 0, uhigh := 0, entLow := 0, entHigh := 0, rideT := 0, cause := 0, rides := 0,
    latches := 0, tripWhy := 0, upHist := [], upre := 0, idPre := 0, iqPre := 0, bandFrom := none, pjFrom := none,
    jump := none, freq := 0, fHist := [], rocof := 0, timers := List.replicate 12 timerReset, recov := none, pceil := 0,
    rideMs := 0, reconFrom := none, reconDone := false, sinceRide := 0, seed := 0, chips := 0, chipPos := 0,
    sigOn := false, chipOk := false, cycRun := false, chipDue := false, vnd := 0, vnq := 0, vnBeats := 0, window := [], validN := 0, armed := false,
    zmag := 0, zang := 0, zOver := 0, zUnder := 0, detect := none, isl := false, islWhy := 0 }

/-- A slot with no image. -/
def slotErased : ImageSlot := { signed := false, format := 0, minsrev := 0, version := 0, hstv := (0, 0), body := [] }

def gafReset : Gaffer :=
  { holder := none, lease := 0, guard := none, frozen := false, forcing := false, judging := false, winEnd := 0, dueAt := none, served := false, released := false, releaseAt := 0,
    swT := 0, why := 0, nextWhy := 0, former := 0, leadNext := false, forced := 0, others := 0, judged := (0, 0),
    granted := false, failed := 0, test := 0, testA := 0, testB := 0,
    alt := false,
    slots := [{ signed := true, format := 1, minsrev := 0, version := 1, hstv := (1, 2), body := [] }, slotErased],
    verDiff := false, booted := false, engines := [engineReset, engineReset] }

def safReset : Safety :=
  { xOk := false, yOk := false, link := false, latch := 0, groups := List.replicate 4 groupReset, used := [],
    sips := List.replicate 8 sipReset, si := 0, tickAt := 0, tpUntil := [0, 0, 0, 0], seals := List.replicate 8 sealReset,
    sealNo := 0, sealNc := 0, copies := [], sources := List.replicate 8 sourceReset, lastOk := [0, 0],
    silent := [false, false], single := [false, false], itCond := false, itCnt := [(0, 0), (0, 0)], itDis := 0, itUnp := 0, missing := 0,
    differ := 0 }

def netReset : Net :=
  { link := 0, prpOk := [false, false], dup := 0, seen := [], prpSeq := 0, lanAt := [0, 0],
    prpAt := none, pdelayAt := [none, none], ptp := 0, port := 0, masters := [none, none],
    delay := [0, 0], syncAt := none, calibrated := false, rxStamp := [0, 0, 0, 0], txStamp := [0, 0], cnt := [(0, 0), (0, 0), (0, 0), (0, 0)], malf := 0, other := 0, subs := [],
    subsUsed := [], pubs := [], smpLast := [0, 0], smpVals := [], strings := 0,
    stringsNext := none, handed := [] }

def recoReset : Recorder :=
  { frames := [], waiting := [], subs := [], opened := none, held := [], next := 0, missed := 0, unsent := 0, sel := [1, 1, 1, 1] }

def memReset : Memories :=
  { sramC := 0, sramU := 0, dramC := 0, dramU := 0, ue := 0, flashFail := false, dramFail := false,
    rows := List.replicate 24 0, rowErrs := [], ci := List.replicate 8 { valid := false, type := 0, bytes := [] },
    ciOp := none, ciLast := .ok, ciFail := 0, bootPend := false, bootVoid := false, corrupt := [] }

def railReset : Rail :=
  { ch := [railChReset 800 0, railChReset 800 2, railChReset 1800 1, railChReset 3300 3], rc3sel := some false,
    aux := true, latch := none, last := none, lastValid := false, lastReport := false, sync := none, lossPend := false, wasLost := false, burstEnds := [],
    follow := false, kHz := 1000, move := 0, goal := 1000 }

def clkReset : Clk :=
  { good := [true, true], goodAt := [0, 0], use := 0, hold := none, relock := 0, fab := 0,
    lock := [true, true, true, true], pool := .idle, retry := false, retryAt := 0, counts := [0, 0, 0, 0], holdT := 0, takeovers := 0,
    losses := [0, 0], refLoss := 0, refDiff := 0, ssc := 0 }

def senReset : Sentinel :=
  { alive := true, band := 0, vcell := 0, vharv := 0, harv := false, chg := false, cellFlt := false, prot := 0,
    armed := false, syncd := false, rtc := 0, sinceCold := 0, gap := false, gapFrom := 0, gapTo := 0, stamp := 0, stampCold := 0,
    stampDue := 600000000000, log := [], next := 0, baseSeal := 0, baseBad := 0, baseTamp := 0,
    cand := List.replicate 10 (0, 0), frame := none, waiting := [], aborts := 0, retryAt := none,
    refused := false, txSusp := false, defer := 0, abort := 0, torn := 0, lost := 0, lostReport := false, blind := none,
    unjudged := 0, bound := 0, comAt := none }

def plogReset : PLog :=
  { entries := [], next := 0, wrapped := false, seq := 0, queue := [], writes := [], lost := 0, gapLost := 0,
    gapClasses := 0, taken := [] }

def fabricReset : Fabric :=
  { irq := [], rings := List.replicate 64 ringReset, tag := [0, 0, 0, 0, 0], loss := [], windows := [], log := plogReset,
    mem := [], msixSent := [], msixHeld := [], holding := true, held := [], own := [], pageInt := [false, false, false, false],
    out := [] }

/-- The machine right after reset (R451, R455). -/
def State.reset : State :=
  { free := 0, part := { cells := 384, srev := 0xB1, serial := 0 }, regs := [], used := [], rideWait := [],
    pwr := resetReset, lcy := { state := .blank, target := none, wipe := 0, cycles := 0 }, clock := clockReset,
    hosts := { hostsReset with train := [some 0, some 0] }, modes := modesReset, ang := angleReset, adc := adcReset, rings := ringsReset, modu := moduReset,
    loop := loopReset, grd := grdReset, bpt := bptReset, rti := rtiReset, gaf := gafReset, saf := safReset,
    net := netReset, reco := recoReset, mem := memReset, rail := railReset, clk := clkReset, sen := senReset,
    ev := fabricReset, pending := [] }

end Sys2Proof.Machine
end

