-- ==== Sys2Proof/Machine/RegMap.lean ====
section
/-! DEFINITION. What a host can write: every writable register and table word with its access class, reset value,
defined bits, the modes in which a write is legal, and the ranges that depend on the value alone. Every other word of a
listed page is read only. -/

namespace Sys2Proof.Machine

/-- Access classes of a written register (R13). No register of the map is RW-K. -/
inductive Cls where
  | rw | wo | w1c | rwc
  deriving DecidableEq, Repr

/-- A writable register, or an array of them. -/
structure Row where
  /-- window offset of the first -/
  first : Nat
  /-- how many -/
  count : Nat := 1
  /-- bytes from one to the next -/
  stride : Nat := 4
  /-- access class -/
  cls : Cls := .rw
  /-- reset value -/
  reset : Word := 0#32
  /-- bits that are not reserved and not read only -/
  mask : Word
  /-- modes in which a write is legal: bit k for the mode with code k -/
  modes : Nat := 0x1FE
  /-- the ranges and codes that depend on the value alone -/
  ok : Word → Bool := fun _ => true

/-- Whether an offset is one of a row's registers. -/
def Row.has (r : Row) (o : Nat) : Bool :=
  decide (r.first ≤ o) && decide ((o - r.first) / r.stride < r.count) && decide ((o - r.first) % r.stride = 0)

/-- WAKE, WATCH, HOLD and SERVICE. -/
abbrev mStop : Nat := 0x186
/-- WAKE, WATCH and SERVICE. -/
abbrev mBase : Nat := 0x106
/-- SERVICE. -/
abbrev mService : Nat := 0x100
/-- WATCH, ENERGIZE, FOLLOW, FORM, RIDE and HOLD: set-points (R59). -/
abbrev mSet : Nat := 0x0FC
/-- WATCH, HOLD and SERVICE: profile edits (R59). -/
abbrev mEdit : Nat := 0x184

/-- A field within limits. -/
def inR (w : Word) (lo len a b : Nat) : Bool := decide (a ≤ fld w lo len) && decide (fld w lo len ≤ b)

/-- A PU32 value within limits. -/
def inPu (w : Word) (a b : Int) : Bool := decide (a ≤ w.toInt) && decide (w.toInt ≤ b)

/-- DEV, LCY and DBG pages (R34, R44, R408, R464). -/
def rowsDev : List Row :=
  [{ first := A.DEV_CULLET_IDX, mask := 0x7F#32, ok := fun v => inR v 0 32 0 0x50 },
   { first := A.DEV_MODE_REQ, cls := .rwc, reset := 1#32, mask := 0xF#32,
     ok := fun v => [2, 3, 4, 5, 8].contains (fld v 0 4) },
   { first := A.DEV_HOLD_REQ, cls := .wo, mask := 0xFFFFFFFF#32, ok := fun v => v == 0xF807#32 },
   { first := A.DEV_HOLD_LATCH, cls := .w1c, mask := 0x1FFF#32 }]

def rowsLcy : List Row :=
  [{ first := A.LCY_CMD, cls := .rwc, mask := 3#32, modes := mService },
   { first := A.LCY_KEYHASH 0, count := 12, mask := 0xFFFFFFFF#32 }]

/-- Highest IDX of an analog observe code; none for a code outside the table (R460). -/
def atbMax : Nat → Option Nat
  | 0 => some 0 | 1 => some 47 | 2 => some 17 | 3 => some 1 | 4 => some 3 | 5 => some 3 | 6 => some 3 | 7 => some 1
  | 8 => some 1 | _ => none

/-- Highest IDX of a digital observe code (R461). -/
def dobMax : Nat → Option Nat
  | 0 => some 0 | 1 => some 0 | 2 => some 7 | 3 => some 7 | 4 => some 17 | 5 => some 15 | 6 => some 23 | 7 => some 0x21
  | 8 => some 1 | 9 => some 0 | 10 => some 1 | 11 => some 0 | 12 => some 3 | 13 => some 1 | 14 => some 0 | _ => none

/-- Whether CODE and IDX of a test multiplexer name a signal. -/
def muxOk (m : Nat → Option Nat) (v : Word) : Bool :=
  match m (fld v 0 8) with
  | some k => decide (fld v 8 6 ≤ k)
  | none => false

def rowsDbg : List Row :=
  [{ first := A.DBG_SWRST, cls := .rwc, mask := 0xFFFFFFFF#32, modes := 0x182, ok := fun v => v == 1#32 },
   { first := A.DBG_ATB_0, count := 2, mask := 0x3FFF#32, modes := mService, ok := muxOk atbMax },
   { first := 0x2060, count := 4, mask := 0x3FFF#32, modes := mService, ok := muxOk dobMax },
   { first := A.DBG_ENG_ADDR, mask := 0x803FFFFC#32 }]

/-- CLK, RAIL and SEN pages (R433, R423, R447). -/
def rowsClk : List Row :=
  [{ first := A.CLK_REFCFG, mask := 3#32, modes := mStop },
   { first := A.CLK_SSC, mask := 0x33#32, modes := mService, ok := fun v => inR v 0 2 0 2 && inR v 4 2 0 2 }]

/-- PHASE, BURST, SLEW and ILIM of a rail channel (R424). -/
def railCfgOk (v : Word) : Bool := inR v 8 8 1 100 && inR v 16 8 20 200

def rowsRail : List Row :=
  [{ first := A.RAIL_CFG, reset := 0x1064#32, mask := 0x13FF#32, modes := 0x102,
     ok := fun v => inR v 0 8 40 220 && inR v 8 2 0 2 },
   { first := A.RAIL_CH_CFG 0, reset := 0x640A10#32, mask := 0xFFFF13#32, modes := mStop, ok := railCfgOk },
   { first := A.RAIL_CH_CFG 1, reset := 0x640A12#32, mask := 0xFFFF13#32, modes := mStop, ok := railCfgOk },
   { first := A.RAIL_CH_CFG 2, reset := 0x640A11#32, mask := 0xFFFF13#32, modes := mStop, ok := railCfgOk },
   { first := A.RAIL_CH_CFG 3, reset := 0x640A13#32, mask := 0xFFFF13#32, modes := mStop, ok := railCfgOk },
   { first := A.RAIL_VSET 0, count := 2, stride := 0x20, cls := .rwc, reset := 0x320#32, mask := 0x1FFF#32, modes := mStop,
     ok := fun v => inR v 0 13 760 840 },
   { first := A.RAIL_VSET 2, cls := .rwc, reset := 0x708#32, mask := 0x1FFF#32, modes := mStop,
     ok := fun v => inR v 0 13 1710 1890 },
   { first := A.RAIL_VSET 3, cls := .rwc, reset := 0xCE4#32, mask := 0x1FFF#32, modes := mStop }]

def rowsSen : List Row :=
  [{ first := A.SEN_CFG, reset := 0x50301#32, mask := 0xFFFF01#32, modes := mStop, ok := fun v => inR v 16 8 5 250 },
   { first := A.SEN_TAMP_CFG, reset := 3#32, mask := 0x33#32, modes := mService },
   { first := A.SEN_LOG_IDX, mask := 0xFF#32 }]

/-- ANG page (R86, R87). -/
def rowsAng : List Row :=
  [{ first := A.ANG_CFG, reset := 0x140#32, mask := 0xFF1#32, modes := mBase, ok := fun v => inR v 4 8 5 50 },
   { first := A.ANG_DIV, reset := 0x190#32, mask := 0x7FF#32, modes := mBase,
     ok := fun v => inR v 0 11 128 1024 && decide (fld v 0 11 % 8 = 0) },
   { first := A.ANG_FBAND, reset := 0x157C1194#32, mask := 0xFFFFFFFF#32, modes := mBase },
   { first := A.ANG_LOCK, reset := 0x320A0A#32, mask := 0xFFFFFF#32, modes := mBase,
     ok := fun v => decide (fld v 0 8 < fld v 16 8) },
   { first := A.ANG_FLY, reset := 0x0BB80014#32, mask := 0xFFFF00FF#32, modes := mBase,
     ok := fun v => inR v 0 8 10 40 && inR v 16 16 100 10000 },
   { first := A.ANG_JMP, reset := 0xA0064#32, mask := 0xFF01FF#32, modes := mBase,
     ok := fun v => inR v 0 9 20 450 && inR v 16 8 1 90 },
   { first := A.DEVTIME_SET_LO, cls := .wo, mask := 0xFFFFFFFF#32, modes := mStop },
   { first := A.DEVTIME_SET_HI, cls := .wo, mask := 0xFFFFFFFF#32, modes := mStop },
   { first := A.DEVTIME_CFG, reset := 0x646400#32, mask := 0xFFFFFF01#32, modes := mStop,
     ok := fun v => inR v 8 8 1 200 && inR v 16 16 1 65535 }]

/-- ADC and CMP pages (R113 to R115). -/
def rowsAdc : List Row :=
  [{ first := A.ADC_ACQ3, reset := 0xFA#32, mask := 0xFFF#32, modes := mStop, ok := fun v => inR v 0 12 125 4000 },
   { first := A.ADC_SWTRIG, cls := .wo, mask := 0xFFFF#32 },
   { first := A.ADC_SEQ_OVR, cls := .w1c, mask := 0xFFFF#32 },
   { first := A.ADC_CAL_CFG, reset := 0x640003E8#32, mask := 0xFF00FFFF#32, modes := mStop,
     ok := fun v => inR v 0 16 100 60000 && inR v 24 8 10 255 },
   { first := A.ADC_RED_THR, reset := 0x80CCD#32, mask := 0xFFFFFF#32, modes := mStop, ok := fun v => inR v 16 8 1 255 },
   { first := A.ADC_SEQ_CFG 0, reset := 0x8000#32, mask := 0xFFFFFFFF#32, modes := mStop },
   { first := A.ADC_SEQ_CFG 1, reset := 0x8001#32, mask := 0xFFFFFFFF#32, modes := mStop },
   { first := A.ADC_SEQ_CFG 2, count := 14, mask := 0xFFFFFFFF#32, modes := mStop },
   { first := A.ADC_GATHER 0 0, reset := 0x800000#32, mask := 0xFFFFFF#32, modes := mStop },
   { first := A.ADC_GATHER 0 1, reset := 0x810001#32, mask := 0xFFFFFF#32, modes := mStop },
   { first := A.ADC_GATHER 0 2, reset := 0x828002#32, mask := 0xFFFFFF#32, modes := mStop },
   { first := A.ADC_GATHER 1 0, reset := 0x860003#32, mask := 0xFFFFFF#32, modes := mStop },
   { first := A.ADC_GATHER 1 1, reset := 0x870004#32, mask := 0xFFFFFF#32, modes := mStop },
   { first := A.ADC_GATHER 1 2, reset := 0x888005#32, mask := 0xFFFFFF#32, modes := mStop },
   { first := A.ADC_GATHER 0 0, count := 512, mask := 0xFFFFFF#32, modes := mStop }]

def rowsAdc2 : List Row :=
  [{ first := A.ADC_CALSET_IDX, mask := 0x3FF#32, modes := mService },
   { first := A.ADC_CALSET_DATA, mask := 0xFFFFFFFF#32, modes := mService },
   { first := A.ADC_CALSET_CMD, cls := .rwc, mask := 0xFFFFFFFF#32, modes := mService,
     ok := fun v => v == 1#32 || v == 2#32 },
   { first := A.ADC_WMON_CFG 0, count := 32, stride := 8, mask := 0x701FF#32 },
   { first := A.ADC_WMON_LIM 0, count := 32, stride := 8, reset := 0x7FFF8000#32, mask := 0xFFFFFFFF#32,
     ok := fun v => decide (sfld v 0 16 ≤ sfld v 16 16) }]

def rowsCmp : List Row :=
  [{ first := A.CMP_CFG_G, mask := 1#32 },
   { first := A.CMP_SUB16, cls := .rwc, reset := 0x1F#32, mask := 0x1F#32, modes := mService,
     ok := fun v => inR v 0 5 0 15 || fld v 0 5 == 0x1F },
   { first := A.CMP_SUB17, cls := .rwc, reset := 0x1F#32, mask := 0x1F#32, modes := mService,
     ok := fun v => inR v 0 5 0 15 || fld v 0 5 == 0x1F },
   { first := A.CMP_CFG 0, count := 16, stride := 0x10, mask := 0x80FF037F#32, modes := mStop,
     ok := fun v => inR v 0 6 0 47 },
   { first := A.CMP_THR 0, count := 16, stride := 0x10, cls := .rwc, reset := 0x3FF#32, mask := 0x3FF#32, modes := mStop }]

/-- LNK pages and the LNKC page (R148 to R150). -/
def rowsLnk : List Row :=
  [{ first := A.LNK 0 A.LNK_CTRL, count := 16, stride := 0x1000, reset := 0x10#32, mask := 0xFF1#32,
     ok := fun v => inR v 4 8 1 255 },
   { first := A.LNK 0 A.LNK_TRIPSEL, count := 16, stride := 0x1000, cls := .rwc, mask := 0xFF#32 }]

def rowsLnkc : List Row :=
  [{ first := A.LNKC_SUB_SEL, reset := 0x20#32, mask := 0x3F#32, ok := fun v => inR v 0 6 0 0x21 },
   { first := A.LNKC_SUB, cls := .rwc, reset := 0x3F#32, mask := 0x3F#32, modes := mService,
     ok := fun v => inR v 0 6 0 0x1F || fld v 0 6 == 0x3F }]

/-- No field of `n` fields of two bits is 0b11 (R163). -/
def noThree : Nat → Nat → Bool
  | 0, _ => true
  | n + 1, w => decide (w % 4 ≠ 3) && noThree n (w / 4)

/-- MOD page (R174 to R177). -/
def rowsMod : List Row :=
  [{ first := A.MOD_CFG, reset := 3#32, mask := 0x3F#32, modes := mBase, ok := fun v => inR v 0 6 1 32 },
   { first := A.MOD_TRIPFILT_LO, count := 2, mask := 0xFFFFFFFF#32, modes := mStop },
   { first := A.MOD_TRIP_LATCH, cls := .w1c, mask := 0xFF#32 },
   { first := A.MOD_TRIP_SW, cls := .rwc, mask := 0xFF#32, modes := mService },
   { first := A.MOD_CNT_CLR, cls := .wo, mask := 0xFFFFFFFF#32, ok := fun v => v == 1#32 },
   { first := A.MOD_LHB_COMMIT, cls := .wo, mask := 0xFFF#32 },
   { first := A.MOD_FORCE_LHB, cls := .rwc, mask := 0xFFFFFF#32, modes := mService },
   { first := A.MOD_FORCE_CSEL, reset := 0x1FF#32, mask := 0x1FF#32, modes := mService,
     ok := fun v => inR v 0 9 0 383 || fld v 0 9 == 0x1FF },
   { first := A.MOD_FORCE_CELL, cls := .rwc, mask := 0xF#32, modes := mService },
   { first := A.MOD_MEV 0, count := 16, mask := 0xFFFFFFF7#32, modes := mStop },
   { first := A.LHB 0 0, count := 12, stride := 0x40, reset := 0x3C0#32, mask := 0x80FF0FF7#32, modes := mStop,
     ok := fun v => inR v 0 2 0 1 && !bitAt v 4 },
   { first := A.LHB 0 4, count := 12, stride := 0x40, reset := 0x07D003E8#32, mask := 0xFFFFFFFF#32, modes := mStop,
     ok := fun v => inR v 0 16 200 10000 && inR v 16 16 1000 50000 },
   { first := A.LHB 0 8, count := 12, stride := 0x40, reset := 0x4E20#32, mask := 0x3FFFFF#32 },
   { first := A.LHB 0 0xC, count := 12, stride := 0x40, mask := 0x3FFFFF#32 },
   { first := A.LHB 0 0x10, count := 12, stride := 0x40, mask := 0x3FF#32, modes := mStop }]

/-- LPE page (R203). -/
def rowsLpe : List Row :=
  [{ first := A.LPE_RELEASE, cls := .wo, mask := 0x3FF03FF#32,
     ok := fun v => decide (fld v 0 10 + fld v 16 10 = 0x3FF) },
   { first := A.LPE_SNAP, cls := .wo, mask := 0xFFFFFFFF#32, ok := fun v => v == 1#32 || v == 2#32 }]

/-- GRD page (R231 to R233). -/
def rowsGrd : List Row :=
  [{ first := A.GRD_VBASE, mask := 0xFFFFF#32, modes := mBase, ok := fun v => inR v 0 20 10000 600000 },
   { first := A.GRD_IBASE, mask := 0xFFFFF#32, modes := mBase, ok := fun v => inR v 0 20 100 500000 },
   { first := A.GRD_CFG, reset := 0x8002#32, mask := 0xFF03#32, modes := mStop, ok := fun v => inR v 8 8 1 128 },
   { first := A.GRD_KCELL, reset := 0x400#32, mask := 0xFFFF#32, modes := mStop, ok := fun v => inR v 0 16 0 0x4000 },
   { first := A.GRD_V0MAX, reset := 0x3333#32, mask := 0xFFFF#32, modes := mStop, ok := fun v => inR v 0 16 0 0x4CCC },
   { first := A.GRD_INLIM, reset := 0x51F#32, mask := 0xFFFF#32, modes := mStop },
   { first := A.GRD_ILIM, cls := .rwc, reset := 0x1199999A#32, mask := 0xFFFFFFFF#32, modes := mStop,
     ok := fun v => inPu v 0x199999A 0x18000000 },
   { first := A.GRD_PLIM, cls := .rwc, reset := 0x10000000#32, mask := 0xFFFFFFFF#32, modes := mSet,
     ok := fun v => inPu v 0 0x13333333 },
   { first := A.GRD_STOP, reset := 0x140064#32, mask := 0xFFFFFFFF#32, modes := mStop,
     ok := fun v => inR v 0 16 1 1000 && inR v 16 16 10 200 },
   { first := A.GRD_OPEN, cls := .wo, mask := 0xFFFFFFFF#32, ok := fun v => v == 0xFE01#32 },
   { first := A.GRD_SC, reset := 0x0A05320A#32, mask := 0xFFFFFFFF#32, modes := mStop,
     ok := fun v => inR v 0 8 1 255 && inR v 8 8 1 255 && inR v 16 8 1 255 && inR v 24 8 1 255 },
   { first := A.GRD_SC_WAIT, reset := 0x2710#32, mask := 0xFFFF#32, modes := mStop, ok := fun v => inR v 0 16 1000 60000 },
   { first := A.GRD_CLOSE, cls := .rwc, mask := 0xFFFFFFFF#32, modes := 0x008, ok := fun v => v == 1#32 || v == 2#32 },
   { first := A.GRD_ROT_H, reset := 0x1F4#32, mask := 0xFFFF#32, modes := mStop, ok := fun v => inR v 0 16 50 1000 },
   { first := A.GRD_ROT_D, reset := 0x1400#32, mask := 0xFFFF#32, modes := mStop, ok := fun v => inR v 0 16 0 0xC800 },
   { first := A.GRD_FORM_P, cls := .rwc, mask := 0xFFFFFFFF#32, modes := mSet,
     ok := fun v => inPu v (-0x13333333) 0x13333333 },
   { first := A.GRD_FORM_V, cls := .rwc, reset := 0x10000000#32, mask := 0xFFFFFFFF#32, modes := mSet,
     ok := fun v => inPu v 0xCCCCCCD 0x13333333 },
   { first := A.GRD_FORM_Q, cls := .rwc, mask := 0xFFFFFFFF#32, modes := mSet,
     ok := fun v => inPu v (-0x13333333) 0x13333333 },
   { first := A.GRD_KQ, reset := 0xCCD#32, mask := 0xFFFF#32, modes := mStop, ok := fun v => inR v 0 16 0 0x3333 },
   { first := A.GRD_XFER, reset := 0x32#32, mask := 0xFFFF#32, modes := mStop, ok := fun v => inR v 0 16 1 1000 },
   { first := A.GRD_RSCALE 0x80, count := 22, mask := 0xFFFFFFFF#32, modes := mBase }]

/-- BPT page (R260 to R262). -/
def rowsBpt : List Row :=
  [{ first := A.BPT_CFG, reset := 0xF0105#32, mask := 0xFFFF01FF#32, modes := mStop,
     ok := fun v => inR v 0 8 2 255 && inR v 16 16 0 1440 },
   { first := A.BPT_SWEEP, cls := .wo, mask := 0xFFFFFFFF#32, modes := 0x030, ok := fun v => v == 1#32 },
   { first := A.BPT_JUMP, reset := 0xCCD#32, mask := 0xFFFF#32, modes := mStop, ok := fun v => inR v 0 16 1 0xFFFF },
   { first := A.BPT_HSPAN, reset := 0x9B#32, mask := 0xFFFF#32, modes := mStop, ok := fun v => inR v 0 16 10 1000 },
   { first := A.BPT_BURST, reset := 0x07D00064#32, mask := 0xFFFFFFFF#32, modes := mStop,
     ok := fun v => inR v 0 16 1 6000 && inR v 16 16 200 30000 },
   { first := A.BPT_SUB, reset := 0xC8#32, mask := 0xFFFF#32, modes := mStop, ok := fun v => inR v 0 16 20 2000 },
   { first := A.BPT_STORE_P, cls := .rwc, mask := 0xFFFFFFFF#32, modes := mSet,
     ok := fun v => inPu v (-0x13333333) 0x13333333 },
   { first := A.BPT_PREQ, cls := .rwc, mask := 0xFFFFFFFF#32, modes := mSet, ok := fun v => inPu v 0 0x13333333 },
   { first := A.BPT_SUBST, cls := .rwc, reset := 0x1FF01FF#32, mask := 0x1FF01FF#32, modes := mService,
     ok := fun v => inR v 0 9 0 383 && inR v 16 9 0 383 }]

/-- RTI page (R287 to R289). -/
def rowsRti : List Row :=
  [{ first := A.RTI_PEDIT, cls := .rwc, mask := 0x70F#32, modes := mEdit, ok := fun v => inR v 0 4 1 3 },
   { first := A.RTI_SIG_SHIFT, cls := .rwc, mask := 0x3F#32, modes := mEdit }]

/-- ENGA, ENGB and GAF pages (R310 to R313). -/
def rowsEng : List Row :=
  [{ first := A.ENG 0 A.ENG_CTRL, count := 2, stride := 0x1000, cls := .rwc, mask := 0x10F#32,
     ok := fun v => inR v 0 4 1 4 }]

def rowsGaf : List Row :=
  [{ first := A.GAF_CFG, reset := 0xA80000#32, mask := 0x3FF0003#32, modes := mStop, ok := fun v => inR v 16 10 1 720 },
   { first := A.GAF_FORCE, cls := .rwc, mask := 0xFFFFFFFF#32, modes := 0x1B4, ok := fun v => v == 1#32 },
   { first := A.GAF_BOOT, cls := .rwc, mask := 1#32 }]

/-- Each role is held by exactly one group (R317). -/
def rolesOk (v : Word) : Bool :=
  (List.range 4).all fun r => decide (((List.range 4).filter fun g => fld v (2 * g) 2 == r).length = 1)

/-- SAF pages (R340 to R343). -/
def rowsSaf : List Row :=
  [{ first := A.SAF_ACK, cls := .rwc, mask := 0xFFFFFFFF#32, ok := fun v => v == 1#32 },
   { first := A.SAF_GRP_CMD, cls := .rwc, mask := 3#32 },
   { first := A.SAF_GRP_CFG, reset := 0xE4#32, mask := 0xFF#32, modes := mService, ok := rolesOk },
   { first := A.SAF_TEST_CFG, reset := 0x64012C#32, mask := 0x3FF03FF#32, modes := mService,
     ok := fun v => inR v 0 10 200 800 && inR v 16 10 20 500 },
   { first := A.SAF_TP_CFG, reset := 0x64#32, mask := 0x3FF#32, modes := mService, ok := fun v => inR v 0 10 10 1000 },
   { first := A.SAF_SIP_CFG 0, count := 8, reset := 0x640040#32, mask := 0x7FF00FF#32, modes := mService,
     ok := fun v => inR v 0 2 0 2 && decide (fld v 4 2 ≠ fld v 6 2) && inR v 16 11 10 2000 &&
       (fld v 0 2 == 0 || inR v 2 2 1 2) }]

def rowsSaf2 : List Row :=
  [{ first := A.SAF_IT_CFG, reset := 0x03E801F4#32, mask := 0x3FFF1FFF#32, modes := mService,
     ok := fun v => inR v 0 13 20 5000 && inR v 16 14 100 10000 },
   { first := A.SAF_IT_SRC_ID 0, count := 8, stride := 0x10, mask := 0xFFFFFFFF#32, modes := mService },
   { first := A.SAF_IT_SEED 0, count := 8, stride := 0x10, cls := .rwc, mask := 0xFFFFFFFF#32, modes := mService },
   { first := A.SAF_IT_SRC_CTRL 0, count := 8, stride := 0x10, mask := 0x73#32, modes := mService }]

/-- HST and QUE pages (R353, R370, R371). -/
def rowsHst : List Row :=
  [{ first := A.HST 0 A.HST_VER, count := 4, stride := 0x1000, mask := 0xFFFF#32,
     ok := fun v => inR v 0 8 1 255 && decide (fld v 0 8 ≤ fld v 8 8) },
   { first := A.HST 0 A.HST_CTRL, count := 4, stride := 0x1000, cls := .wo, mask := 3#32,
     ok := fun v => decide (v.toNat < 4) },
   { first := A.HST 0 A.HST_EVMASK, count := 4, stride := 0x1000, reset := 0xFFFF#32, mask := 0xFFFF#32 }]

def rowsQue : List Row :=
  [{ first := A.QUE_OWNER 0, mask := 0xFFFFFFFF#32, modes := mService },
   { first := A.QUE_OWNER 1, reset := 0x55555555#32, mask := 0xFFFFFFFF#32, modes := mService },
   { first := A.QUE_OWNER 2, reset := 0xAAAAAAAA#32, mask := 0xFFFFFFFF#32, modes := mService },
   { first := A.QUE_OWNER 3, reset := 0xFFFFFFFF#32, mask := 0xFFFFFFFF#32, modes := mService },
   { first := A.QUE_LOG_MASK, reset := 0xFFFF#32, mask := 0xFFFF#32 },
   { first := A.QUE_RING_CFG 0, count := 64, stride := 0x10, mask := 0x3FFF#32, ok := fun v => inR v 0 4 0 10 },
   { first := A.QUE_RING_BASE 0, count := 64, stride := 0x10, mask := 0x1FFFFFF#32 },
   { first := A.QUE_RING_HEAD 0, count := 64, stride := 0x10, mask := 0xFFFF#32 },
   { first := A.QUE_RING_TAIL 0, count := 64, stride := 0x10, mask := 0xFFFF#32 }]

/-- NET page (R380 to R390). Entry words of publications and subscriptions are judged on the whole entry. -/
def rowsNet : List Row :=
  [{ first := A.NET_CFG, reset := 0xF#32, mask := 0xF0F#32, modes := mStop },
   { first := A.NET_MAC_LO, mask := 0xFFFFFFFF#32, modes := mStop },
   { first := A.NET_MAC_HI, mask := 0xFFFF#32, modes := mStop },
   { first := A.NET_VLAN, reset := 0x4000#32, mask := 0xFFFF#32, modes := mStop },
   { first := A.NET_PRP_CFG, reset := 0x019007D0#32, mask := 0xFFFFFFFF#32, modes := mStop,
     ok := fun v => inR v 0 16 200 10000 && inR v 16 16 10 1000 },
   { first := A.NET_PTP_CFG, reset := 0x0BB80300#32, mask := 0xFFFF03FF#32, modes := mStop,
     ok := fun v => inR v 8 2 1 3 && inR v 16 16 1000 60000 },
   { first := A.NET_PUBVAL 0, count := 16, mask := 0xFFFFFFFF#32 },
   { first := A.NET_SV 0 0, count := 2, stride := 0x10, mask := 0xF03#32, modes := mStop },
   { first := A.NET_SV 0 4, count := 2, stride := 0x10, reset := 0x4000#32, mask := 0xFFFF#32, modes := mStop },
   { first := A.NET_SV 0 8, count := 2, stride := 0x10, mask := 0xFFFFFFFF#32, modes := mStop },
   { first := A.NET_SV 0 12, count := 2, stride := 0x10, mask := 0xFFFFFFFF#32, modes := mStop },
   { first := A.NET_PUB 0 0, count := 16, stride := 0x40, mask := 0xF1F#32, modes := mStop },
   { first := A.NET_PUB 0 4, count := 16, stride := 0x40, reset := 0x03E80000#32, mask := 0xFFFFFFFF#32, modes := mStop,
     ok := fun v => inR v 16 16 100 60000 },
   { first := A.NET_PUB 0 8, count := 16, stride := 0x40, mask := 0xFFFFFFFF#32, modes := mStop },
   { first := A.NET_PUB 0 12, count := 16, stride := 0x40, mask := 0xFFFF#32, modes := mStop },
   { first := A.NET_PUB 0 16, count := 16, stride := 0x40, reset := 1#32, mask := 0xFFFFFFFF#32, modes := mStop },
   { first := A.NET_PUB 0 0x14, count := 16, stride := 0x40, mask := 0xFFFF#32, modes := mStop },
   { first := A.NET_PUB 0 0x18, count := 16, stride := 0x40, mask := 0xFFFF#32, modes := mStop },
   { first := A.NET_PUB 0 0x1C, count := 16, stride := 0x40, mask := 0xFFFF#32, modes := mStop },
   { first := A.NET_PUB 0 0x20, count := 16, stride := 0x40, mask := 0xFFFF#32, modes := mStop },
   { first := A.NET_PUB 0 0x24, count := 16, stride := 0x40, mask := 0xFFFF#32, modes := mStop },
   { first := A.NET_PUB 0 0x28, count := 16, stride := 0x40, mask := 0xFFFF#32, modes := mStop },
   { first := A.NET_PUB 0 0x2C, count := 16, stride := 0x40, mask := 0xFFFF#32, modes := mStop },
   { first := A.NET_PUB 0 0x30, count := 16, stride := 0x40, mask := 0xFFFF#32, modes := mStop },
   { first := A.NET_SUB 0 0, count := 64, stride := 0x20, mask := 0x737F#32, modes := mStop },
   { first := A.NET_SUB 0 4, count := 64, stride := 0x20, mask := 0xFFFF#32, modes := mStop },
   { first := A.NET_SUB 0 8, count := 64, stride := 0x20, mask := 0xFFFFFFFF#32, modes := mStop },
   { first := A.NET_SUB 0 12, count := 64, stride := 0x20, mask := 0xFFFF#32, modes := mStop },
   { first := A.NET_SUB 0 16, count := 64, stride := 0x20, mask := 0xFFFFFFFF#32, modes := mStop }]

/-- REC and MEM pages (R406, R407, R409). -/
def rowsRec : List Row :=
  [{ first := A.REC_CFG, mask := 0xFFFF#32, modes := mStop },
   { first := A.REC_CH0, reset := 0xFFFFFF#32, mask := 0xFFFFFF#32, modes := mStop },
   { first := A.REC_EVMASK, reset := 0x1C49#32, mask := 0xFFFF#32, modes := mStop },
   { first := A.REC_TRIGMASK, reset := 0x7F#32, mask := 0x7D#32, modes := mStop },
   { first := A.REC_PRE, reset := 0x3E8#32, mask := 0xFFFFFFFF#32, modes := mStop, ok := fun v => inR v 0 32 0 4000 },
   { first := A.REC_POST, reset := 0x7D0#32, mask := 0xFFFFFFFF#32, modes := mStop, ok := fun v => inR v 0 32 10 4000 },
   { first := A.REC_MAXLEN, reset := 0x1770#32, mask := 0xFFFFFFFF#32, modes := mStop, ok := fun v => inR v 0 32 100 10000 },
   { first := A.REC_TRIG, cls := .wo, mask := 0xFFFFFFFF#32, ok := fun v => v == 1#32 },
   { first := A.REC_HOSTMASK, reset := 0xF#32, mask := 0xF#32, modes := mStop },
   { first := A.REC_SLOT 0, count := 32, mask := 0x83FF#32, modes := mStop },
   { first := A.REC_HVER 0, count := 4, reset := 0x101#32, mask := 0xFFFF#32 }]

def rowsMem : List Row :=
  [{ first := A.MEM_CI_CMD, cls := .rwc, mask := 0x7F#32, ok := fun v => inR v 0 4 1 3 },
   { first := A.MEM_CI_BUF, mask := 0xFFFFFFFF#32, ok := fun v => decide (v.toNat % 64 = 0 ∧ v.toNat < 0x2000000) },
   { first := A.MEM_CI_LEN, mask := 0xFFFFFFFF#32, ok := fun v => decide (v.toNat ≤ 0x200000) },
   { first := A.MEM_CI_BOOT, reset := 0xF#32, mask := 0xF#32, ok := fun v => inR v 0 4 0 7 || fld v 0 4 == 0xF }]

/-- The writable registers of the page with an index. -/
def rowsOf (page : Nat) : List Row :=
  if page < 0x30 then
    if page = 0 then rowsDev else if page = 1 then rowsLcy else if page = 2 then rowsDbg
    else if page = 0x10 then rowsClk else if page = 0x11 then rowsRail else if page = 0x12 then rowsSen
    else if page = 0x20 then rowsAng else []
  else if page < 0x90 then
    if page = 0x30 then rowsAdc else if page = 0x31 then rowsAdc2 else if page = 0x32 then rowsCmp
    else if 0x40 ≤ page ∧ page < 0x50 then rowsLnk else if page = 0x50 then rowsLnkc
    else if page = 0x60 then rowsMod else if page = 0x70 then rowsLpe else if page = 0x80 then rowsGrd else []
  else
    if page = 0x90 then rowsBpt else if page = 0xA0 then rowsRti else if page = 0xB0 ∨ page = 0xB1 then rowsEng
    else if page = 0xB8 then rowsGaf else if page = 0xC0 then rowsSaf else if page = 0xC1 then rowsSaf2
    else if 0xD0 ≤ page ∧ page < 0xD4 then rowsHst else if page = 0xD8 then rowsQue
    else if page = 0xE0 then rowsNet else if page = 0xF0 then rowsRec else if page = 0xF8 then rowsMem else []

/-- The row of a page register. -/
def rowAt (o : Nat) : Option Row := (rowsOf (o / 0x1000)).find? fun r => r.has o

/-! Tables (R29): the words of an entry by their byte offset, as defined bits and reset value. -/

/-- Cell table entry words a host writes (R143, R144, R155, R236): defined bits. -/
def cellMask (b : Nat) : Word :=
  if b < 0x40 then
    if b = 0x00 then 0x81FF7F3F#32
    else if b = 0x04 then 0xFFF#32 else if b = 0x08 ∨ b = 0x0C then 0xFFFFFFFF#32 else 0#32
  else if b < 0x60 then (if b = 0x40 then 0x1FFFF#32 else 0#32)
  else if b < 0xA0 then
    if b = 0x60 then 0xFFFFFFFF#32 else if b = 0x64 then 0xFFFFFF#32 else if b = 0x68 then 0xFFFF#32
    else if b = 0x6C then 0xFFFFFFFF#32 else if b = 0x70 then 0xFFFFFFFF#32 else if b = 0x74 then 0xFFFF#32
    else if b = 0x78 then 3#32 else 0#32
  else if b < 0xC0 then
    if b = 0xA0 then 0xFFFF#32 else if b = 0xA4 ∨ b = 0xA8 then 0xFFFFFFFF#32 else if b = 0xAC then 0xFFFF#32
    else if b < 0xB0 then 0#32 else 0xFFFFFFFF#32
  else 0#32

/-- Reset value of a cell table word. -/
def cellReset (b : Nat) : Word :=
  if b = 0x00 then 2#32 else if b = 0x04 then 0xD00#32 else if b = 0x40 then 2000#32 else if b = 0x64 then 0x145005#32
  else if b = 0x6C then 0xBE280000#32 else if b = 0x78 then 3#32 else if b = 0xA0 then 1000#32 else 0#32

/-- Words of a cell entry that are state, written by the device only. -/
def cellRo (b : Nat) : Bool :=
  (decide (0x10 ≤ b) && decide (b < 0x40)) || (decide (0x44 ≤ b) && decide (b < 0x60)) || decide (0xC0 ≤ b)

/-- Loop slot entry (R185). -/
def slotMask (b : Nat) : Word :=
  if b = 0x00 then 0xFFFFF7F#32 else if b = 0x04 then 0xFF1FFF#32
  else if b = 0x08 ∨ b = 0x0C ∨ b = 0x10 then 0xF00073FF#32
  else if b = 0x14 then 0x83FF#32
  else if b < 0x3C then 0xFFFFFFFF#32 else if b = 0x40 ∨ b = 0x44 then 0xFFFFFFFF#32 else 0#32

/-- Reset value of a loop slot word. -/
def slotReset (b : Nat) : Word :=
  if b = 0x28 then 0x10000000#32 else if b = 0x2C then 0xF0000000#32 else if b = 0x44 then 0xFFFFFFFF#32 else 0#32

/-- Beat schedule entry (R81). -/
def schedMask (b : Nat) : Word :=
  if b = 0 then 0xFFFF03FF#32 else if b = 4 then 0x3FFFFFF#32 else if b = 8 then 0xFFFF01FE#32 else 1#32

/-- Reset value of a beat schedule word (R83). -/
def schedReset (n b : Nat) : Word :=
  if b = 8 then 0x1FE#32
  else if n = 0 ∧ b = 4 then 0x10001#32 else if n = 1 ∧ b = 4 then 0x10101#32
  else if n < 2 ∧ b = 12 then 1#32 else 0#32

/-- What a word reads while nothing has written it since reset (R28, R29). -/
def resetWord (o : Nat) : Word :=
  if o < 0x1000000 then (match rowAt o with | some r => r.reset | none => 0#32)
  else if o < 0x1018000 then cellReset (o % 0x100)
  else if 0x1100000 ≤ o ∧ o < 0x1120000 then slotReset (o % 0x80)
  else if 0x1200000 ≤ o ∧ o < 0x1204000 then schedReset ((o - 0x1200000) / 16) (o % 16)
  else 0#32

/-- Registers kept through a reset (R405, R447): held in flash or in the sentinel's own cells. -/
def keptRegs : List Nat :=
  [A.GAF_BOOT, A.CLK_SSC, A.MEM_CI_BOOT, A.SEN_CFG, A.SEN_TAMP_CFG] ++ (List.range 12).map fun i => 0x1080 + 4 * i

end Sys2Proof.Machine
end

