-- ==== Sys2Proof/Machine/Ops.lean ====
section
/-! DEFINITION. The named operations over registers, ring space and time, and the codes of modes and statuses. -/

namespace Sys2Proof.Machine

/-! ## Codes -/

/-- The code of a mode (R46). -/
def Mode.code : Mode → Nat
  | .wake => 1 | .watch => 2 | .energize => 3 | .follow => 4 | .form => 5 | .ride => 6 | .hold => 7 | .service => 8

/-- Whether a mode lies in a set given with bit k for code k. -/
def Mode.within (m : Mode) (set : Nat) : Bool := set.testBit m.code

/-- ENERGIZE, FOLLOW, FORM and RIDE: the power stages switch. -/
def Mode.switching (m : Mode) : Bool := m.within 0x78

/-- The code of a status (R18). -/
def Status.code : Status → Nat
  | .ok => 0 | .badOpcode => 1 | .badArg => 2 | .notInMode => 3 | .notOwner => 4 | .busy => 5 | .complementMismatch => 6
  | .version => 7 | .sealed => 8 | .energy => 9 | .notReady => 10 | .fenced => 11 | .lifecycle => 12 | .timeout => 13
  | .lost => 14 | .internal => 15

/-- The place of a status in the order of R19; those that order does not name come last. -/
def Status.rank : Status → Nat
  | .badOpcode => 1 | .version => 2 | .badArg => 3 | .complementMismatch => 4 | .notOwner => 5 | .lifecycle => 6
  | .notInMode => 7 | .sealed => 8 | .notReady => 9 | .fenced => 10 | .busy => 11 | .energy => 12 | _ => 13

/-- The code of a lifecycle state (R408). -/
def Lifecycle.code : Lifecycle → Nat
  | .blank => 0 | .provisioned => 1 | .field => 2 | .returned => 3

/-- PROVISIONED or FIELD. -/
def Lifecycle.inUse : Lifecycle → Bool
  | .provisioned => true | .field => true | _ => false

/-- The code of DEVTIME_STAT.SYNC (R87). -/
def Sync.code : Sync → Nat
  | .unset => 0 | .free => 1 | .host => 2 | .ptp => 3 | .holdover => 4

/-- The first refusal that applies, in the order of R19; OK if none does. -/
def firstOf : List (Bool × Status) → Status
  | [] => .ok
  | (c, st) :: rest =>
    let r := firstOf rest
    if c then (if r = .ok ∨ st.rank ≤ r.rank then st else r) else r

/-! ## Registers -/

/-- A word a host has written, as it reads in the register space. -/
def State.reg (s : State) (o : Nat) : Word := Map.get resetWord o s.regs

/-- The same word as the engines have it since the last beat start (R24). -/
def State.ureg (s : State) (o : Nat) : Word := Map.get resetWord o s.used

/-- Store a word. -/
def State.putReg (s : State) (o : Nat) (v : Word) : State := { s with regs := Map.put resetWord o v s.regs }

/-- Store a word that engines and comparators use at once. -/
def State.putBoth (s : State) (o : Nat) (v : Word) : State :=
  { s with regs := Map.put resetWord o v s.regs, used := Map.put resetWord o v s.used }

/-- Whether the block with a bit of DEV_READY_MAP is ready (R50). -/
def State.ready (s : State) (bit : Nat) : Bool := s.pwr.ready.testBit bit

/-- The device is powered and out of reset: registers can be read and commands act. -/
def State.live (s : State) : Bool := !s.pwr.dark && !s.pwr.held

/-! ## Time -/

/-- One nanosecond, in the model's unit of time. -/
abbrev ns : Nat := 4294967296

/-- Microseconds. -/
def us (n : Nat) : Nat := n * 1000 * ns

/-- Milliseconds. -/
def ms (n : Nat) : Nat := n * 1000000 * ns

/-- One period of the fabric clock at 400 MHz, 2.5 ns (R426). -/
abbrev fabricPeriod : Nat := 10737418240

/-- Monotone time. -/
def State.now (s : State) : Nat := s.clock.mono

/-- DEVTIME in ns (R11). -/
def State.devNs (s : State) : Nat := s.clock.dev / ns

/-- Time passes up to a monotone instant; it never goes back. DEVTIME advances at its applied rate while the device is
out of reset (R63, R66), and the sentinel's clock while the domain lives (R443). -/
def State.advance (s : State) (t : Nat) : State :=
  let dt := t - s.clock.mono
  let dd := ((dt : Int) + (dt : Int) * s.clock.rate / 1000000000).toNat
  { s with
    clock := { s.clock with mono := s.clock.mono + dt, dev := if s.live then s.clock.dev + dd else s.clock.dev },
    sen := if s.sen.alive then { s.sen with rtc := s.sen.rtc + dt, sinceCold := s.sen.sinceCold + dt } else s.sen }

/-- The monotone time in which DEVTIME advances by a span, at its applied rate. -/
def State.span (s : State) (d : Nat) : Nat :=
  let r := (1000000000 + s.clock.rate).toNat
  (d * 1000000000 + r - 1) / r

/-- A DEVTIME rounded to the whole nanosecond (R77). -/
def wholeNs (t : Nat) : Nat := (t + ns / 2) / ns * ns

/-- A time moved by a step, never below 0. -/
def movedBy (t : Nat) (ofs : Int) : Nat := ((t : Int) + ofs * 4294967296).toNat

/-- Seconds in the unit of time. -/
abbrev second : Nat := 1000000000 * 4294967296

/-! ## The execution beat (R20, R77) -/

/-- Index of the execution beat in its cycle and the division it runs under: the beat after this one (R210). -/
def State.nextBeat (s : State) : Nat × Nat :=
  if s.ang.idx + 1 < s.ang.div then (s.ang.idx + 1, s.ang.div)
  else (0, if s.ang.divPend then fld (s.ureg A.ANG_DIV) 0 11 else s.ang.div)

/-- The length of a beat at the effective angle rate, 2⁻³² ns (R77): 2¹⁶ × 10⁹ / (rate × DIV) ns. -/
def beatLen (rate div : Nat) : Nat := if rate * div = 0 then 0 else quoN (65536 * second) (rate * div)

/-- The DEVTIME instant fixed for its start; where a step applies there, in the stepped timescale (R67, R77). -/
def State.nextStart (s : State) : Nat :=
  let t := wholeNs s.ang.next
  match s.clock.step with
  | some (ofs, _, 1) => movedBy t ofs
  | _ => t

/-! ## Ring space (R351) -/

/-- What a byte of ring space reads that nothing has written since the wipe. -/
def memEmpty (_ : Nat) : Byte := 0#8

/-- The canonical form of ring space: addresses strictly rising, no entry 0. -/
def Memory.wf (m : List Host.Cell) : Bool := Map.wf memEmpty m

/-- A byte of ring space. -/
def Fabric.byte (f : Fabric) (a : Nat) : Byte := Map.get memEmpty a f.mem

/-- `n` bytes of ring space. -/
def Fabric.read (f : Fabric) (a : Nat) : Nat → List Byte
  | 0 => []
  | n + 1 => f.byte a :: f.read (a + 1) n

/-- Bytes stored at an offset upward. -/
def memStore (m : List Host.Cell) (a : Nat) : List Byte → List Host.Cell
  | [] => m
  | b :: bs => memStore (Map.put memEmpty a b m) (a + 1) bs

/-- Store bytes in ring space. -/
def Fabric.write (f : Fabric) (a : Nat) (bs : List Byte) : Fabric := { f with mem := memStore f.mem a bs }

/-! ## What leaves -/

/-- Something leaves by a link or pin. -/
def State.send (s : State) (o : Out) : State := { s with ev := { s.ev with out := o :: s.ev.out } }

/-- Several things leave, in order. -/
def State.sendAll (s : State) (os : List Out) : State := { s with ev := { s.ev with out := os.reverse ++ s.ev.out } }

/-! ## Free values -/

/-- A word the manual leaves open, a fresh one for each index (log entry 10). -/
def State.open_ (s : State) (i : Nat) : Word := Config.freeValue (s.free + i)

/-- `n` free values have been used. -/
def State.took (s : State) (n : Nat) : State := { s with free := s.free + n }

end Sys2Proof.Machine
end

