-- ==== Sys2Proof/Machine/Flags.lean ====
section
/-! DEFINITION. Interrupt flags, events with their coalescing, the hardware rings as the device writes them, and the
persistent log (R350, R361 to R368); and the recorder's frames of events and its triggers (R393, R395). -/

namespace Sys2Proof.Machine

/-! ## Rings and interrupts -/

/-- The host that owns a ring (R352). -/
def State.ringOwner (s : State) (n : Nat) : Nat := fld (s.reg (A.QUE_OWNER (n / 16))) (2 * (n % 16)) 2

/-- Entries of a ring (R353). -/
def Ring.entries (r : Ring) : Nat := 2 ^ (r.size + 6)

/-- The ring is full (R355). -/
def Ring.full (r : Ring) : Bool := decide ((r.tail + 1) % r.entries = r.head)

/-- The ring with an index. -/
def Fabric.ring (f : Fabric) (n : Nat) : Ring := f.rings.getD n ringReset

/-- The enabled ring of a type that a host owns, if it has one. -/
def State.ringOf (s : State) (f : Fabric) (h type : Nat) : Option Nat :=
  (List.range 64).find? fun n => (f.ring n).en && decide ((f.ring n).type = type) && decide (s.ringOwner n = h)

/-- Send an MSI-X vector, or hold it back within 20 µs of its last message (R350). -/
def Fabric.msix (f : Fabric) (now h v : Nat) : Fabric :=
  let k := h * 128 + v
  if h ≥ 2 then f
  else if f.msixHeld.contains k then f
  else
    let last := f.msixSent.find? fun p => p.1 == k
    match last with
    | some p =>
      if now < p.2 + us 20 then { f with msixHeld := f.msixHeld ++ [k] }
      else { f with out := .msix h v :: f.out, msixSent := Map.insert k now f.msixSent }
    | none => { f with out := .msix h v :: f.out, msixSent := Map.insert k now f.msixSent }

/-- Write one entry into a ring the device produces into, then advance its index (R355). -/
def Fabric.produce (s : State) (f : Fabric) (n : Nat) (bytes : List Byte) : Fabric :=
  let r := f.ring n
  let f1 := f.write (r.base + 64 * r.tail) (padTo 64 bytes)
  let f2 := { f1 with rings := setAt { r with tail := (r.tail + 1) % r.entries } n f1.rings }
  if r.ien then f2.msix s.now (s.ringOwner n) n else f2

/-- IRQ_EN of a page in a host's window. -/
def State.irqEn (s : State) (h page : Nat) : Word := Map.get (fun _ => 0#32) (h * 0x2000000 + page * 0x1000 + 0x1C) s.hosts.win

/-- A host's pending flags of a page (R350). -/
def Fabric.flags (f : Fabric) (h page : Nat) : Word := Map.get (fun _ => 0#32) (h * 0x1000 + page) f.irq

/-- Whether the page interrupt of a host is asserted (R350). -/
def State.pageIrq (s : State) (f : Fabric) (h : Nat) : Bool :=
  f.irq.any fun p => decide (p.1 / 0x1000 = h) && decide (p.2 &&& s.irqEn h (p.1 % 0x1000) ≠ 0#32)

/-- Follow the page interrupt of one host: vector 64 when it asserts. -/
def State.followIrq (s : State) (f : Fabric) (h : Nat) : Fabric :=
  let on := s.pageIrq f h
  let f1 := if on && !(f.pageInt.getD h false) then f.msix s.now h 64 else f
  { f1 with pageInt := setAt on h f1.pageInt }

/-- Follow the page interrupts of the four hosts. -/
def State.followIrqs (s : State) (f : Fabric) : Fabric :=
  s.followIrq (s.followIrq (s.followIrq (s.followIrq f 0) 1) 2) 3

/-- Set a flag of a page in every host window. -/
def Fabric.setFlag (f : Fabric) (page bit : Nat) : Fabric :=
  let put := fun (m : List (Nat × Word)) (h : Nat) =>
    Map.put (fun _ => 0#32) (h * 0x1000 + page) (Map.get (fun _ => 0#32) (h * 0x1000 + page) m ||| bitW bit true) m
  { f with irq := put (put (put (put f.irq 0) 1) 2) 3 }

/-! ## Event entries -/

/-- The class of a page's events (R363). -/
def classOf (page : Nat) : Nat :=
  if page < 0x10 then 0 else if page < 0x12 then 1 else if page < 0x20 then 2 else if page < 0x30 then 3
  else if page < 0x40 then 4 else if page < 0x60 then 5 else if page < 0x70 then 6 else if page < 0x80 then 7
  else if page < 0x90 then 8 else if page < 0xA0 then 9 else if page < 0xB0 then 10 else if page < 0xC0 then 11
  else if page < 0xD0 then 12 else if page < 0xE0 then 13 else if page < 0xF0 then 14 else 15

/-- CODE of an event (R361). -/
def Event.code (e : Event) : Nat := e.page * 0x100 + e.num

/-- The 64 bytes of an event entry (R361). -/
def eventEntry (code tag : Nat) (st : Status) (host first last count subject flags : Nat) (detail : List Byte) : List Byte :=
  leBytes 2 code ++ leBytes 2 tag ++ leBytes 1 st.code ++ leBytes 1 host ++ leBytes 2 detail.length ++ leBytes 8 first ++
  leBytes 8 last ++ leBytes 4 count ++ leBytes 2 subject ++ leBytes 1 flags ++ leBytes 1 0 ++ padTo 32 detail

/-- Loss counter of a host and class (R365). -/
def Fabric.lossOf (f : Fabric) (h cls : Nat) : Nat := Map.get (fun _ => 0) (h * 16 + cls) f.loss

/-- Next TAG of a receiver (R361): hosts 0 to 3, and the recorder as receiver 4 (log entry 20). -/
def Fabric.nextTag (f : Fabric) (h : Nat) : Nat := (f.tag.getD h 0 + 1) % 65536

/-! ## The persistent log -/

/-- Entries written in the 1,000 ms before now (R367). -/
def PLog.recent (p : PLog) (now : Nat) : List Nat := p.writes.filter fun t => decide (now < t + ms 1000)

/-- Free places (R367). -/
def PLog.places (p : PLog) (now : Nat) : Nat := 10 - (p.recent now).length

/-- The 32 bytes of a log entry (R368). -/
def logEntry (i : LogItem) (seq : Nat) : List Byte :=
  let b := leBytes 2 i.code ++ leBytes 2 i.subject ++ leBytes 1 i.status.code ++ leBytes 1 i.src ++
    leBytes 2 (min i.count 0xFFFF) ++ leBytes 8 i.time ++ leBytes 4 seq ++ padTo 8 i.detail
  b ++ leBytes 4 (crc32 b)

/-- Write an entry over the oldest (R367). -/
def PLog.append (p : PLog) (now : Nat) (i : LogItem) : PLog :=
  { p with
    entries := Map.insert p.next (logEntry i ((p.seq + 1) % 2 ^ 32)) p.entries, next := (p.next + 1) % 1024,
    wrapped := p.wrapped || decide (p.next = 1023), seq := (p.seq + 1) % 2 ^ 32, writes := now :: p.recent now,
    taken := if i.sen.isSome then p.taken ++ [i] else p.taken }

/-- Write an entry in a free place, behind a LOG_GAP entry where events have been lost (R367). The Bool says whether
the entry was written. -/
def PLog.offer (p : PLog) (now dev : Nat) (i : LogItem) : PLog × Bool :=
  if p.places now = 0 then (p, false)
  else if p.gapLost = 0 then (p.append now i, true)
  else
    let g : LogItem := { code := 0xD800, subject := 0xFFFF, status := .ok, src := 0, count := 1, time := dev,
                         detail := leBytes 4 p.gapLost ++ leBytes 2 p.gapClasses }
    let p1 : PLog := { p.append now g with gapLost := 0, gapClasses := 0 }
    if p1.places now = 0 then (p1, false) else (p1.append now i, true)

/-- Count an event not logged. -/
def PLog.lose (p : PLog) (code : Nat) : PLog :=
  { p with lost := (p.lost + 1) % 2 ^ 32, gapLost := p.gapLost + 1,
           gapClasses := if p.gapClasses.testBit (classOf (code / 0x100)) then p.gapClasses
                         else p.gapClasses + 2 ^ classOf (code / 0x100) }

/-- Write queued entries, oldest first, while places are free (R367). -/
def PLog.drainWith (now dev : Nat) : List LogItem → PLog → PLog
  | [], p => { p with queue := [] }
  | i :: q, p =>
    match p.offer now dev i with
    | (p1, true) => PLog.drainWith now dev q p1
    | (p1, false) => { p1 with queue := i :: q }

/-- See `drainWith`; a failed flash die takes no write (R42). -/
def PLog.drain (p : PLog) (now dev : Nat) (failed : Bool) : PLog :=
  if failed then p else PLog.drainWith now dev p.queue p

/-- Offer an entry to the log; a queueable one waits for a place (R367). The Bool: written or queued. -/
def PLog.take (p : PLog) (now dev : Nat) (failed queueable : Bool) (i : LogItem) : PLog × Bool :=
  let p0 := p.drain now dev failed
  let r := if failed || !p0.queue.isEmpty then (p0, false) else p0.offer now dev i
  if r.2 then (r.1, true)
  else if queueable then
    (if r.1.queue.length < 32 then ({ r.1 with queue := r.1.queue ++ [i] }, true) else (r.1.lose i.code, false))
  else (r.1.lose i.code, false)

/-- SEAL_CHANGE, HOLD_ENTERED and class 2 events are offered whatever the mask, and queue (R367). -/
def queueable (code : Nat) : Bool := code == 0xC003 || code == 0x0021 || decide (classOf (code / 0x100) = 2)

/-- Whether a class is offered to the log. -/
def State.offered (s : State) (code : Nat) : Bool :=
  queueable code || (s.reg A.QUE_LOG_MASK).getLsbD (classOf (code / 0x100))

/-- What follows a change of the log: its LOG_GAP entry is an event of its own, and so is a queue that fills (R367, R371). -/
def Fabric.afterLog (f : Fabric) (p : PLog) : Fabric :=
  let e := fun (num : Nat) (d : List Byte) =>
    ({ page := 0xD8, num := num, subject := 0xFFFF, status := .ok, detail := d, hosts := 0xF } : Event)
  let gap := decide (f.log.gapLost ≠ 0) && decide (p.seq ≠ f.log.seq)
  let full := decide (f.log.queue.length < 32) && decide (p.queue.length = 32)
  { f with
    log := p,
    own := f.own ++ (if gap then [(e 0 (leBytes 4 f.log.gapLost ++ leBytes 2 f.log.gapClasses), some true)] else []) ++
      (if full then [(e 1 [], none)] else []) }

/-- Offer an item to the log. -/
def State.logItem (s : State) (f : Fabric) (i : LogItem) : Fabric × Bool :=
  if s.offered i.code then
    let r := f.log.take s.now s.devNs s.mem.flashFail (queueable i.code) i
    (f.afterLog r.1, r.2)
  else (f, false)

/-! ## Posting with coalescing (R364). The log coalesces as a receiver of its own, number 4 (log entry 21). -/

/-- Post the OVERFLOW entry of a host if counters stand and its ring has a free entry (R365); like every entry it waits while
no engine holds the pontil (R292). It is offered to the log, and is for the recorder to take (R367, R393). -/
def State.postOverflow (s : State) (f : Fabric) (h : Nat) : Fabric :=
  match s.ringOf f h 2 with
  | none => f
  | some n =>
    let counts := (List.range 16).map fun k => f.lossOf h k
    if f.holding ∨ nsum counts = 0 ∨ (f.ring n).full then f
    else
      let tag := f.nextTag h
      let detail := counts.flatMap fun c => leBytes 2 c
      let e : Event := { page := 0xD0 + h, num := 32, subject := 0xFFFF, status := .ok, detail := detail, hosts := 0,
                         count := nsum counts }
      let lg := s.logItem f { code := e.code, subject := 0xFFFF, status := .ok, src := 0, count := nsum counts,
                              time := s.devNs, detail := detail }
      let f1 := Fabric.produce s lg.1 n
        (eventEntry e.code tag .ok h s.devNs s.devNs (nsum counts) 0xFFFF (if lg.2 then 2 else 0) detail)
      { f1 with tag := setAt tag h f1.tag, loss := f1.loss.filter fun p => p.1 / 16 != h, own := f1.own ++ [(e, some lg.2)] }

/-- Post one entry to a host's EVT ring, behind any OVERFLOW entry due; a full ring counts it lost (R365). While no engine
may write host rings the entry waits (R292). -/
def State.postTo (s : State) (f : Fabric) (h code subject : Nat) (st : Status) (first last count flags : Nat)
    (detail : List Byte) : Fabric :=
  if f.holding then
    { f with held := f.held ++ [{
        host := h, code := code, subject := subject, status := st, first := first, last := last, count := count,
        flags := flags, detail := detail }] }
  else
  let f := s.postOverflow f h
  match s.ringOf f h 2 with
  | none => f
  | some n =>
    if (f.ring n).full then
      let k := h * 16 + classOf (code / 0x100)
      { f with loss := Map.put (fun _ => 0) k (satInc 16 (Map.get (fun _ => 0) k f.loss) count) f.loss }
    else
      let tag := f.nextTag h
      let f1 := Fabric.produce s f n (eventEntry code tag st h first last count subject flags detail)
      { f1 with tag := setAt tag h f1.tag }

/-- Whether a host takes events of a class now (R363). -/
def State.takes (s : State) (f : Fabric) (h cls : Nat) : Bool :=
  (s.reg (A.HST h A.HST_EVMASK)).getLsbD cls && (s.ringOf f h 2).isSome

/-- The window of a receiver for a CODE and SUBJECT. -/
def Fabric.window (f : Fabric) (h code subject : Nat) : Option EvWindow :=
  f.windows.find? fun w => w.host == h && w.code == code && w.subject == subject

/-- One receiver meets an occurrence: held in an open window, or posted at once, opening one of 32 windows (R364).
For receiver 4 posting means offering it to the log. -/
def State.meet (s : State) (f : Fabric) (h : Nat) (e : Event) (flag : Bool) : Fabric × Bool :=
  match f.window h e.code e.subject with
  | some _ =>
    ({ f with windows := f.windows.map fun w =>
        if w.host == h && w.code == e.code && w.subject == e.subject then
          { w with count := w.count + 1, first := if w.count = 0 then s.devNs else w.first, last := s.devNs,
                   status := e.status, detail := e.detail }
        else w }, false)
  | none =>
    let opens := decide ((f.windows.filter fun w => w.host == h).length < 32)
    let w : EvWindow := { host := h, code := e.code, subject := e.subject, opened := s.now, count := 0, first := 0,
                          last := 0, status := e.status, detail := e.detail }
    let f1 := if opens then { f with windows := f.windows ++ [w] } else f
    if h = 4 then
      s.logItem f1 { code := e.code, subject := e.subject, status := e.status, src := 0, count := 1, time := s.devNs,
                     detail := e.detail }
    else (s.postTo f1 h e.code e.subject e.status s.devNs s.devNs 1 (if flag then 2 else 0) e.detail, flag)

/-- Close the windows of one CODE and SUBJECT that have lasted 1 ms: the REPEAT entries (R364). -/
def State.closeWindows (s : State) (f : Fabric) (code subject : Nat) : Fabric :=
  let due := fun (w : EvWindow) =>
    w.code == code && w.subject == subject && decide (w.opened + ms 1 ≤ s.now)
  let ws := f.windows.filter due
  let f0 := { f with windows := f.windows.filter fun w => !due w }
  let lg := match ws.find? fun w => w.host == 4 && decide (0 < w.count) with
    | none => (f0, false)
    | some w => s.logItem f0 { code := code, subject := subject, status := w.status, src := 0, count := w.count,
                               time := w.first, detail := w.detail }
  (ws.filter fun w => decide (w.host < 4) && decide (0 < w.count)).foldl
    (fun f w => s.postTo f w.host code subject w.status w.first w.last w.count (if lg.2 then 3 else 1) w.detail) lg.1

/-- Close every window that has lasted 1 ms, oldest first. -/
def State.closeDue (s : State) (f : Fabric) : Fabric :=
  f.windows.foldl (fun g w => s.closeWindows g w.code w.subject) f

/-- Post an occurrence to the hosts. -/
def State.postHosts (s : State) (f : Fabric) (e : Event) (flag : Bool) : Fabric :=
  let go := fun (f : Fabric) (h : Nat) => if e.hosts.testBit h && s.takes f h (classOf e.page) then (s.meet f h e flag).1 else f
  go (go (go (go f 0) 1) 2) 3

/-- What an occurrence of an event does to interrupts, rings and log, and whether the log takes it; `settled` has that answer
already. -/
def State.raiseFab (s : State) (e : Event) (settled : Option Bool) : Fabric × Bool :=
  let f0 := s.closeDue s.ev
  let f1 := if e.num < 32 then s.followIrqs (f0.setFlag e.page e.num) else f0
  let lg := match settled with
    | some b => (f1, b)
    | none => if s.offered e.code then s.meet f1 4 e false else (f1, false)
  if e.hosts = 0 then lg else (s.postHosts lg.1 e lg.2, lg.2)

/-! ## Recorder frames and triggers -/

/-- A frame with its header, padded (R393). -/
def mkFrame (cls seq time : Nat) (payload : List Byte) : Frame :=
  let len := (16 + payload.length + 15) / 16 * 16
  { bytes := padTo len (leBytes 1 cls ++ leBytes 1 0 ++ leBytes 2 len ++ leBytes 4 seq ++ leBytes 8 time ++ payload),
    time := time }

/-- Whether an open or held record holds a frame (R395). -/
def Recorder.holds (r : Recorder) (f : Frame) : Bool :=
  (r.opened.toList ++ r.held).any fun c => decide (c.start ≤ f.time) && decide (f.time ≤ c.stop)

/-- Bytes of frames. -/
def frameBytes (fs : List Frame) : Nat := nsum (fs.map fun f => f.bytes.length)

/-- Drop the oldest frames that no record holds until what remains fits in 128 MiB (R393). -/
def Recorder.trim (r : Recorder) : Nat → List Frame → List Frame
  | _, [] => []
  | total, f :: fs =>
    if total ≤ 134217728 then f :: fs
    else if r.holds f then f :: r.trim total fs else r.trim (total - f.bytes.length) fs

/-- Add a frame. -/
def Recorder.add (r : Recorder) (f : Frame) : Recorder :=
  let fs := r.frames ++ [f]
  { r with frames := r.trim (frameBytes fs) fs }

/-- A frame is written, or waits while no engine holds the pontil (R292, R298). -/
def State.addFrame (s : State) (f : Frame) : Recorder :=
  if s.ev.holding then { s.reco with waiting := s.reco.waiting ++ [f] } else s.reco.add f

/-- The frames that waited for the grant are written. -/
def Recorder.release (r : Recorder) : Recorder := r.waiting.foldl Recorder.add { r with waiting := [] }

/-- The recorder takes an event (R393); a failed DRAM die records nothing (R42). -/
def State.recTakes (s : State) (e : Event) : Bool :=
  s.ready 24 && !s.mem.dramFail && (s.reg A.REC_EVMASK).getLsbD (classOf e.page)

/-- The class 4 frame of an event: its FLAGS say whether the log has it too (R361, R393). -/
def State.recEvent (s : State) (e : Event) (logged : Bool) : Recorder :=
  if s.recTakes e then
    s.addFrame (mkFrame 4 s.ang.seq s.devNs
      (eventEntry e.code ((s.ev.tag.getD 4 0 + 1) % 65536) e.status 0xFF s.devNs s.devNs e.count e.subject (if logged then 2 else 0)
        e.detail))
  else s.reco

/-- The recorder's own count of the event entries it has taken. -/
def State.recTag (s : State) (e : Event) (f : Fabric) : Fabric :=
  if s.recTakes e then { f with tag := setAt ((s.ev.tag.getD 4 0 + 1) % 65536) 4 f.tag } else f

/-- Raise an event, where its log entry is settled or still to be. -/
def State.raiseAs (s : State) (settled : Option Bool) (e : Event) : State :=
  let r := s.raiseFab e settled
  { s with ev := s.recTag e r.1, reco := s.recEvent e r.2 }

/-- Raise an event. -/
def State.raise (s : State) (e : Event) : State := s.raiseAs none e

/-- Raise what posting and logging have raised themselves, and what that raises in its turn, so many times over. -/
def State.flushOwn : Nat → State → State
  | 0, s => s
  | n + 1, s =>
    (s.ev.own.foldl (fun (s : State) x => s.raiseAs x.2 x.1) { s with ev := { s.ev with own := [] } }).flushOwn n

/-- Raise the event with a page, NUM and subject, naming words in its detail (log entry 22). -/
def State.event (s : State) (page num : Nat) (subject : Nat := 0xFFFF) (detail : List Nat := []) (st : Status := .ok) :
    State :=
  s.raise { page := page, num := num, subject := subject, status := st, detail := detail.flatMap fun d => leBytes 4 d,
            hosts := 0xF }

/-- Raise an event for some hosts only, bit h of the map. -/
def State.eventTo (s : State) (whom page num : Nat) (subject : Nat := 0xFFFF) (detail : List Nat := []) : State :=
  s.raise { page := page, num := num, subject := subject, status := .ok, detail := detail.flatMap fun d => leBytes 4 d,
            hosts := whom }

/-- Raise an event if something holds. -/
def State.eventIf (s : State) (c : Bool) (page num : Nat) (subject : Nat := 0xFFFF) (detail : List Nat := []) : State :=
  if c then s.event page num subject detail else s

/-- Bytes of frames a second at the present frame rate (log entry 23). -/
def Recorder.rate (r : Recorder) : Nat :=
  match r.frames.head?, r.frames.getLast? with
  | some a, some b => if b.time ≤ a.time then 0 else frameBytes r.frames * 1000000000 / (b.time - a.time)
  | _, _ => 0

/-- Bytes of the frames of a record. -/
def Recorder.size (r : Recorder) (c : Rec) : Nat :=
  frameBytes (r.frames.filter fun f => decide (c.start ≤ f.time) && decide (f.time ≤ c.stop))

/-- REC_PRE, REC_POST and REC_MAXLEN in ns. -/
def State.recMs (s : State) (o : Nat) : Nat := (s.reg o).toNat * 1000000

/-- A recorder trigger from the source with a bit of REC_TRIGMASK (R395, R409); `force` for HOLD entry (R55). -/
def State.trigger (s : State) (src : Nat) (force : Bool := false) : State :=
  if !s.ready 24 || s.mem.dramFail || !(force || (s.reg A.REC_TRIGMASK).getLsbD src) then s
  else
    let t := s.devNs
    match s.reco.opened with
    | some c =>
      let stop := max c.stop (t + s.recMs A.REC_POST)
      let cap := c.start + s.recMs A.REC_MAXLEN
      { s with reco := { s.reco with
          opened := some { c with
            stop := min stop cap, cap := c.cap || decide (cap < stop),
            trigs := if c.trigs.length < 8 then c.trigs ++ [(t, src)] else c.trigs, count := c.count + 1 } } }
    | none =>
      let pre := s.recMs A.REC_PRE
      let held := nsum (s.reco.held.map fun c => s.reco.size c)
      let new := s.reco.rate * (pre + s.recMs A.REC_POST) / 1000000000
      if held + new > 100663296 then
        { s with reco := { s.reco with missed := satInc 16 s.reco.missed 1 } }.event 0xF0 1 src
      else
        let oldest := match s.reco.frames.head? with | some f => f.time | none => t
        let want := t - pre
        let start := max want oldest
        { s with reco := { s.reco with
            opened := some { no := s.reco.next, start := start, stop := t + s.recMs A.REC_POST,
                             short := decide (want < oldest), cap := false, trigs := [(t, src)], count := 1, hosts := [],
                             omitted := 0 },
            next := s.reco.next + 1 } }

end Sys2Proof.Machine
end

