-- ==== Sys2Proof/Machine/Hold.lean ====
section
/-! DEFINITION. HOLD causes and their latches (R49, R55), the CUT record (R122, R135, R172), the disconnect groups as
the channels switch them (R317, R318, R320), and the fields of the cell table. -/

namespace Sys2Proof.Machine

/-! ## Cell table fields (R143, R144, R155, R236) -/

/-- A cell's USED, ROLE, TYPE, PHASE, CHAIN, RING, POS as the engines have them. -/
def State.cw (s : State) (c off : Nat) : Word := s.ureg (A.CELL c off)

/-- The entry describes a cell. -/
def State.cellUsed (s : State) (c : Nat) : Bool := bitAt (s.cw c 0) 31

/-- ROLE. -/
def State.cellRole (s : State) (c : Nat) : Nat := fld (s.cw c 0) 0 2

/-- PHASE. -/
def State.cellPhase (s : State) (c : Nat) : Nat := fld (s.cw c 0) 4 2

/-- CHAIN. -/
def State.cellChain (s : State) (c : Nat) : Nat := fld (s.cw c 0) 8 7

/-- RING. -/
def State.cellRing (s : State) (c : Nat) : Nat := fld (s.cw c 0) 16 4

/-- POS. -/
def State.cellPos (s : State) (c : Nat) : Nat := fld (s.cw c 0) 20 5

/-- What the device holds of a cell on its ring. -/
def State.cell (s : State) (c : Nat) : CellLink := Map.get (fun _ => cellLinkReset) c s.rings.cells

/-- Change it. -/
def State.modCell (s : State) (c : Nat) (f : CellLink → CellLink) : State :=
  { s with rings := { s.rings with cells := Map.put (fun _ => cellLinkReset) c (f (s.cell c)) s.rings.cells } }

/-- The cells whose entries have USED = 1, in ascending index: only those a host has written can. -/
def State.usedCells (s : State) : List Nat :=
  s.used.filterMap fun p =>
    if 0x1000000 ≤ p.1 ∧ p.1 < 0x1018000 ∧ p.1 % 0x100 = 0 ∧ bitAt p.2 31 then some ((p.1 - 0x1000000) / 0x100) else none

/-- The USED cells of a ring. -/
def State.ringCells (s : State) (k : Nat) : List Nat := s.usedCells.filter fun c => s.cellRing c == k

/-- The USED cells of a phase. -/
def State.phaseCells (s : State) (x : Nat) : List Nat := s.usedCells.filter fun c => s.cellPhase c == x

/-- The cells of a phase in a state (R60). -/
def State.cellsIn (s : State) (x : Nat) (st : CellState) : List Nat :=
  (s.phaseCells x).filter fun c => (s.cell c).st == st

/-- What the modulator holds of a cell. -/
def State.cmod (s : State) (c : Nat) : CellMod := Map.get (fun _ => cellModReset) c s.modu.cells

/-- Change it. -/
def State.modCmod (s : State) (c : Nat) (f : CellMod → CellMod) : State :=
  { s with modu := { s.modu with cells := Map.put (fun _ => cellModReset) c (f (s.cmod c)) s.modu.cells } }

/-! ## Rings -/

/-- Rings enabled on this part: 16, 8 or 4 of 24 cells each (R3). -/
def State.ringCount (s : State) : Nat := s.part.cells / 24

/-- The ring is present on this part. -/
def State.present (s : State) (k : Nat) : Bool := decide (k < s.ringCount)

/-- The ring with an index. -/
def State.ringSt (s : State) (k : Nat) : RingSt := s.rings.rings.getD k ringStReset

/-- Change a ring. -/
def State.modRing (s : State) (k : Nat) (f : RingSt → RingSt) : State :=
  { s with rings := { s.rings with rings := modAt f k s.rings.rings } }

/-- LNK_CTRL.EN of a present ring. -/
def State.ringEn (s : State) (k : Nat) : Bool := s.present k && bitAt (s.reg (A.LNK k A.LNK_CTRL)) 0

/-- The port that carries the role of a ring end: its own, or the spare that stands in for it (R147). -/
def State.portFor (s : State) (code : Nat) : Option Nat :=
  (List.range 34).find? fun p => (s.rings.ports.getD p (portReset 0x3F)).serves == code

/-- A ring end is in sync: its port receives and its delay-locked line is locked. -/
def State.endSync (s : State) (code : Nat) : Bool :=
  match s.portFor code with
  | some p => let q := s.rings.ports.getD p (portReset 0x3F); q.sync && !q.los && !q.txFault
  | none => false

/-- A cut leg: its accumulator is 0 (R159, R172). -/
def Leg.cut (l : Leg) : Leg := { l with acc := 0, withheld := false }

/-- A cell is cut in this beat: its legs are cleared and the beat counted once (R172). -/
def State.cutCell (s : State) (first : Bool) (c : Nat) : State :=
  s.modCmod c fun m => { m with leg0 := m.leg0.cut, leg1 := m.leg1.cut, cutb := if first then satInc 16 m.cutb 1 else m.cutb }

/-! ## Downstream records (R119 to R122, R135) -/

/-- CFGVER. -/
def State.cellVer (s : State) (c : Nat) : Nat := fld (s.cw c 4) 0 8

/-- The 64 bytes of a downstream record (R120). -/
def downRecord (type pos seq eng ver flags : Nat) (payload : List Byte) : List Byte :=
  let body := leBytes 1 type ++ leBytes 1 pos ++ leBytes 2 seq ++ leBytes 1 eng ++ leBytes 1 ver ++ leBytes 2 flags ++
    padTo 48 payload ++ leBytes 2 (0xFFFF - seq) ++ leBytes 2 (0xFFFF - flags)
  body ++ leBytes 4 (crc32c body)

/-- What the cells of a ring that have a version negotiated have in common; open where they differ, or where there is none
(log entry 90). -/
def State.linkCommon (s : State) (k i : Nat) (f : Nat → Nat) : Nat :=
  match ((s.ringCells k).filter fun c => (s.cell c).proto != 0).map f with
  | [] => fld (s.open_ i) 0 8
  | x :: xs => if xs.all fun y => y == x then x else fld (s.open_ i) 0 8

/-- A record of a ring protocol engine to every cell of its ring. -/
def State.ringRecord (s : State) (k type : Nat) (payload : List Byte) : List Byte :=
  downRecord type 0xFF (s.ang.seq % 65536) (0xC + 16 * (s.linkCommon k 0 (fun c => (s.cell c).proto) % 8))
    (s.linkCommon k 1 s.cellVer) 0 payload

/-- A record of a ring protocol engine to one cell, in a version of the link. -/
def State.cellRecord (s : State) (c type version : Nat) (payload : List Byte) : List Byte :=
  downRecord type (s.cellPos c) (s.ang.seq % 65536) (0xC + 16 * version) (s.cellVer c) 0 payload

/-- The time a record occupies on the wire (R119). -/
abbrev frameTime : Nat := 260 * ns

/-- The frames that have not left at an instant; the first of them is under way. -/
def leaving (now : Nat) (w : List (Nat × List Byte)) : List (Nat × List Byte) := w.filter fun f => decide (now < f.1 + frameTime)

/-- Frames one behind the other from an instant on. -/
def inTurn (t : Nat) : List (List Byte) → List (Nat × List Byte)
  | [] => []
  | b :: bs => (t, b) :: inTurn (t + frameTime) bs

/-- The instant at which a frame handed over now leaves: behind those ahead of it. -/
def State.wireFree (s : State) (k : Nat) : Nat :=
  match (leaving s.now (s.ringSt k).wire).getLast? with
  | some f => f.1 + frameTime
  | none => s.now

/-- A record is handed to both ports of a ring, and leaves in turn. -/
def State.sendFrame (s : State) (k : Nat) (b : List Byte) : State :=
  (s.modRing k fun r => { r with wire := leaving s.now r.wire ++ [(s.wireFree k, b)] }).send (.frame k b)

/-- TYPE of a record. -/
def frameType (b : List Byte) : Nat := byteFld b 0 1

/-- The frame a CUT sent now would abort: the one under way, unless that is a CUT itself. -/
def State.underWay (s : State) (k : Nat) : Option (List Byte) :=
  match leaving s.now (s.ringSt k).wire with
  | (_, b) :: _ => if frameType b = 3 then none else some b
  | [] => none

/-- A CUT record on a ring with a new cut index (R122, R135, R170): it goes ahead of every frame but an earlier CUT, aborts
the frame under way, and an EDGES record so aborted is sent again behind it. -/
def State.sendCut (s : State) (k lines : Nat) : State :=
  let r := s.ringSt k
  let cut := s.ringRecord k 3 (leBytes 1 lines ++ leBytes 1 ((r.cutIndex + 1) % 256))
  let w := leaving s.now r.wire
  let cuts := w.takeWhile fun f => frameType f.2 == 3
  let rest := (w.dropWhile fun f => frameType f.2 == 3).map Prod.snd
  let hit := s.underWay k
  let again := match hit with | some b => frameType b == 1 | none => false
  let behind := if hit.isSome && !again then rest.drop 1 else rest
  let at0 := match cuts.getLast? with | some f => f.1 + frameTime | none => s.now
  let s1 := s.modRing k fun r => { r with
    cutIndex := (r.cutIndex + 1) % 256, cut := true, wire := cuts ++ inTurn at0 (cut :: behind),
    aborts := if hit.isSome then (r.aborts + 1) % 2 ^ 32 else r.aborts }
  let s2 := if hit.isSome then s1.send (.abort k) else s1
  let s3 := (s2.send (.frame k cut)).took 2
  let s4 := if again then s3.send (.frame k (hit.getD [])) else s3
  (s.ringCells k).foldl (fun s c => s.cutCell (!r.cut) c) s4

/-- A CUT on every enabled ring. -/
def State.cutAll (s : State) : State :=
  (List.range 16).foldl (fun s k => if s.ringEn k then s.sendCut k 0 else s) s

/-! ## Local outputs -/

/-- Both pins of an output low. -/
def Lhb.low (l : Lhb) : Lhb := { l with on := false }

/-- The output's mode mask names a mode (R164). -/
def Lhb.inMode (l : Lhb) (m : Mode) : Bool := l.cfg.getLsbD (3 + m.code)

/-! ## Disconnect groups -/

/-- A group's word as the channels have it since their last tick. -/
def State.sreg (s : State) (o : Nat) : Word := Map.get resetWord o s.saf.used

/-- The group with a role: 0 main, 1 series, 2 pre-charge, 3 auxiliary (R317). -/
def State.groupOf (s : State) (role : Nat) : Nat :=
  ((List.range 4).find? fun g => fld (s.sreg A.SAF_GRP_CFG) (2 * g) 2 == role).getD 0

/-- A group. -/
def State.group (s : State) (g : Nat) : Group := s.saf.groups.getD g groupReset

/-- Change a group. -/
def State.modGroup (s : State) (g : Nat) (f : Group → Group) : State :=
  { s with saf := { s.saf with groups := modAt f g s.saf.groups } }

/-- The group with a role is confirmed open or closed (R318). -/
def State.confirmed (s : State) (role conf : Nat) : Bool := (s.group (s.groupOf role)).conf == conf

/-- Command a group on. -/
def State.groupOn (s : State) (g : Nat) : State :=
  if (s.group g).cmd then s
  else s.modGroup g fun q => { q with
    cmd := true, cmdAt := s.now, h := true, l := true, conf := 3, good := 0, disagree := 0, wrong := 0, pulse := none }

/-- Command a group off. A dark pulse under way ends there, and its test is skipped (R320). -/
def State.groupOff (s : State) (g : Nat) : State :=
  let q := s.group g
  if !q.cmd then (if q.h || q.l then s.modGroup g fun q => { q with h := false, l := false } else s)
  else
    let s1 := s.modGroup g fun q => { q with
      cmd := false, cmdAt := s.now, h := false, l := false, conf := 3, good := 0, disagree := 0, wrong := 0, pulse := none,
      skip := if q.pulse.isSome then satInc 16 q.skip 1 else q.skip }
    s1.eventIf q.pulse.isSome 0xC0 5 g

/-- Every group off. -/
def State.groupsOff (s : State) : State := (((s.groupOff 0).groupOff 1).groupOff 2).groupOff 3

/-! ## HOLD causes (R49, R55) -/

/-- Bits of DEV_HOLD_LATCH. -/
abbrev cSafeDemand : Nat := 0
abbrev cSafeFault : Nat := 1
abbrev cIntertrip : Nat := 2
abbrev cProfile : Nat := 3
abbrev cIsland : Nat := 4
abbrev cEngine : Nat := 5
abbrev cLoop : Nat := 6
abbrev cContactor : Nat := 7
abbrev cClock : Nat := 8
abbrev cAnalog : Nat := 9
abbrev cCells : Nat := 10
abbrev cHost : Nat := 11
abbrev cSeal : Nat := 12

/-- Steps 1 and 2 of R55: a CUT on every enabled ring, the local outputs whose mode mask excludes HOLD low, and a
disconnect demand on which both channels de-energise every group. -/
def State.holdActs (s : State) : State :=
  let s1 := s.cutAll
  let s2 := { s1 with modu := { s1.modu with lhb := s1.modu.lhb.map fun (l : Lhb) => if l.inMode .hold then l else l.low } }
  (s2.send .demand).groupsOff

/-- Abandon a requested transition under way (R54). -/
def Modes.abandon (m : Modes) : Modes :=
  if m.trans then { m with trans := false, tgt := m.cur, lastStat := .lost, asked := false } else m

/-- What a bit of DEV_HOLD_LATCH does when it is set (R55). -/
def State.latched (s : State) (bit : Nat) : State :=
  let s1 := s.holdActs
  match s.modes.cur with
  | .hold =>
    { s1 with modes := { s1.modes.abandon with next := if s1.modes.trans then none else s1.modes.next } }.event 0 37 bit [2 ^ bit]
  | .service =>
    if bit = cSeal ∨ bit = cHost then
      { s1 with modes := { s1.modes.abandon with next := some .hold, tgt := .hold } }
    else
      let s2 := { s1 with modes := { s1.modes.abandon with next := if s1.modes.trans then none else s1.modes.next } }
      (s2.event 0 33 0xFFFF [s2.modes.latch]).trigger 1 true
  | _ => { s1 with modes := { s1.modes.abandon with next := some .hold, tgt := .hold } }

/-- The condition of a cause is present (R49): its bit latches when the condition first appears, and a condition that
appears again while its bit is latched does nothing. -/
def State.causeOn (s : State) (bit : Nat) : State :=
  if s.modes.cond.testBit bit then s
  else
    let s1 := { s with modes := { s.modes with cond := setBit s.modes.cond bit true } }
    if s.modes.latch.testBit bit then s1
    else { s1 with modes := { s1.modes with latch := setBit s.modes.latch bit true } }.latched bit

/-- The condition of a cause has ended. -/
def State.causeOff (s : State) (bit : Nat) : State :=
  { s with modes := { s.modes with cond := setBit s.modes.cond bit false } }

/-- The condition of a cause is present or not. -/
def State.causeIs (s : State) (bit : Nat) (on : Bool) : State := if on then s.causeOn bit else s.causeOff bit

/-- A cause whose condition lasts only while it is raised (R49, HOST). -/
def State.causePulse (s : State) (bit : Nat) : State := (s.causeOn bit).causeOff bit

/-! ## Engines and the pontil -/

/-- An engine. -/
def State.engine (s : State) (e : Nat) : Engine := s.gaf.engines.getD e engineReset

/-- STANDBY or ACTIVE: in step (R310). -/
def Engine.inStep (e : Engine) : Bool := e.st == .standby || e.st == .active

/-- Some engine computes: an engine is in step and its records are handed over or would be. -/
def State.computing (s : State) : Bool := (s.engine 0).inStep || (s.engine 1).inStep

end Sys2Proof.Machine
end

