-- ==== Sys2Proof/Machine/Access.lean ====
section
/-! DEFINITION. How a host write is judged: claims, keys, the order of R19, RW registers, the two writes of an RW-C
register, and what a refusal leaves (R13 to R19, R346, R349). -/

namespace Sys2Proof.Machine

/-- A state and the status of the access that led to it. -/
abbrev Acc := State × Status

/-- The page that owns an offset: its own page, or the page of the block that owns the table (R346), whose ERRCODE then holds a
refusal (DEDUCED, log entry 231). -/
def pageOf (o : Nat) : Nat :=
  if o < 0x1000000 then o / 0x1000
  else if o < 0x1100000 then 0x50 else if o < 0x1200000 then 0x70 else if o < 0x1300000 then 0x20 else 0xA0

/-- The first page of a page's block (R31). -/
def blockOf (page : Nat) : Nat := if page = 0x31 then 0x30 else if page = 0xC1 then 0xC0 else page

/-- The host that holds a block's claim (R347). A HST page is its own host's, but while the apply at boot holds every claim
(R402). -/
def State.holderOf (s : State) (page : Nat) : Option Nat :=
  let b := blockOf page
  match s.hosts.claims.find? fun p => p.1 == b with
  | some p => some p.2
  | none => if 0xD0 ≤ b ∧ b < 0xD4 then some (b - 0xD0) else none

/-- A host holds the claim of a page's block. -/
def State.owns (s : State) (h page : Nat) : Bool := s.holderOf page == some h

/-- The bit of DEV_READY_MAP of a page; none for the DEV page, which is always ready (R50, R51). A present ring's page
is written from the moment LNKC is ready (R32). -/
def readyBit (page : Nat) : Option Nat :=
  if page = 0 then none
  else if page < 0x20 then some (if page = 1 then 0 else if page = 2 then 1 else if page = 0x10 then 2 else if page = 0x11 then 3 else 4)
  else if page < 0x60 then
    some (if page = 0x20 then 5 else if page < 0x32 then 6 else if page = 0x32 then 7 else 8)
  else if page < 0xB0 then
    some (if page = 0x60 then 9 else if page = 0x70 then 10 else if page = 0x80 then 11 else if page = 0x90 then 12 else 13)
  else if page < 0xD0 then
    some (if page = 0xB0 then 14 else if page = 0xB1 then 15 else if page = 0xB8 then 16 else 17)
  else some (if page < 0xD4 then 18 + (page - 0xD0) else if page = 0xD8 then 22 else if page = 0xE0 then 23
             else if page = 0xF0 then 24 else 25)

/-- A page of the LNK range, and its ring. -/
def lnkRing (page : Nat) : Option Nat := if 0x40 ≤ page ∧ page < 0x50 then some (page - 0x40) else none

/-- A page takes writes to its block: READY, or an exempt ring page; never a fused ring's page (R32, R51). -/
def State.usable (s : State) (page : Nat) : Bool :=
  match readyBit page with
  | none => true
  | some b =>
    match lnkRing page with
    | some k => s.present k && s.ready b
    | none => s.ready b

/-- Key of a host's own word in a window. -/
def winKey (h o : Nat) : Nat := h * 0x2000000 + o

/-- A word of a host's own window state. -/
def State.win (s : State) (h o : Nat) : Word := Map.get (fun _ => 0#32) (winKey h o) s.hosts.win

/-- Change it. -/
def State.putWin (s : State) (h o : Nat) (v : Word) : State :=
  { s with hosts := { s.hosts with win := Map.put (fun _ => 0#32) (winKey h o) v s.hosts.win } }

/-- What an RW write leaves: reserved and read-only bits keep their value (R8). -/
def mergeWord (mask old v : Word) : Word := (old &&& ~~~ mask) ||| (v &&& mask)

/-- An upper word written and waiting for its low word (R7). -/
def State.putUpper (s : State) (h o : Nat) (v : Word) : State :=
  { s with hosts := { s.hosts with upper := Map.insert (winKey h o) v s.hosts.upper } }

/-- The upper word a low-word write applies: the one waiting, else `d` (log entry 80). -/
def State.upperOf (s : State) (h o : Nat) (d : Word) : Word :=
  match s.hosts.upper.find? fun p => p.1 == winKey h o with | some p => p.2 | none => d

/-- The upper word has been applied. -/
def State.dropUpper (s : State) (h o : Nat) : State :=
  { s with hosts := { s.hosts with upper := Map.remove (winKey h o) s.hosts.upper } }

/-- The upper word at `o` takes the word waiting for it, in the bits of `mask`; with none waiting it keeps its value (log
entry 80). -/
def State.applyUpper (s : State) (h o : Nat) (mask : Word) : State :=
  (s.dropUpper h o).putReg o (mergeWord mask (s.reg o) (s.upperOf h o (s.reg o)))

/-- A low-word write applies a value of more than 32 bits at once, its upper bits at `o + 4` (R7). -/
def State.pairLow (s : State) (h o : Nat) (mask v : Word) : State := (s.applyUpper h (o + 4) mask).putReg o v

/-- The status of a refused access is held in ERRCODE of the page (R17); a complement mismatch and an operation not
legal in the mode raise events that name the page written (R14, R59, R362). COMPLEMENT_MISMATCH is raised too where no value
was pending (DESIGN CHOICE, log entry 230), and STATUS of these events is OK (DESIGN CHOICE, log entry 232). -/
def State.refuse (s : State) (h page o : Nat) (st : Status) : State :=
  let s1 := s.putWin h (page * 0x1000 + 0x28) (wd st.code)
  if st = .complementMismatch then s1.event page 56 0xFFFF [o]
  else if st = .notInMode then s1.event page 57 0xFFFF [o, s.modes.cur.code]
  else s1

/-- Disarm a host's key on a page (R349). -/
def State.disarm (s : State) (h page : Nat) : State :=
  { s with hosts := { s.hosts with keys := Map.remove (h * 0x1000 + page) s.hosts.keys } }

/-- Make an access to an offset: any write disarms the host's key on the page, and a refusal is recorded. -/
def State.access (s : State) (h o : Nat) (body : State → Acc) : Acc :=
  let page := pageOf o
  let r := body (s.disarm h page)
  if r.2 = .ok then r else (r.1.refuse h page o r.2, r.2)

/-- A lifecycle change is under way: every other write is BUSY (R404). -/
def State.wiping (s : State) : Bool := s.lcy.target.isSome

/-- The page is a ring's that this part does not have (R32). -/
def State.fusedPage (s : State) (page : Nat) : Bool := match lnkRing page with | some k => !s.present k | none => false

/-- A write to block state wants the claim; the page of a fused ring cannot be claimed, and answers NOT_READY (R32). -/
def State.unclaimed (s : State) (h page : Nat) : Bool := !s.owns h page && !s.fusedPage page

/-- The checks common to every write of a block's register (R19): value, claim, mode, readiness, lifecycle wipe. -/
def State.common (s : State) (h page modes : Nat) (valueOk : Bool) : List (Bool × Status) :=
  [(!valueOk, .badArg), (s.unclaimed h page, .notOwner), (!s.modes.cur.within modes, .notInMode),
   (!s.usable page, .notReady), (s.wiping, .busy)]

/-- Act if no refusal applies. -/
def State.judged (s : State) (checks : List (Bool × Status)) (act : State → State) : Acc :=
  let st := firstOf checks
  if st = .ok then (act s, .ok) else (s, st)

/-- The Gaffer has fenced the engine, and it has not begun a rejoin: FENCED, OFF, or HALTED with its paths cut. -/
def Engine.fenced (q : Engine) : Bool := q.st == .fenced || q.st == .off || q.st == .halted && q.cut

/-- The page of a fenced engine: a write there is FENCED, whatever the register (R294), in the place R19 gives that status.
ENGx_CTRL is exempt, and so is LOCK, by which it is claimed (DEDUCED, log entry 99). -/
def State.fencedPage (s : State) (page : Nat) : Bool :=
  (page == 0xB0 || page == 0xB1) && (s.engine (page - 0xB0)).fenced

/-- A write of a word of a block that only reads: ignored, once the checks of every write to block state have passed (R13,
R346; DEDUCED, log entry 102). -/
def State.ignored (s : State) (h page : Nat) : Acc :=
  s.judged (s.common h page 0x1FF true ++ [(s.fencedPage page, .fenced)]) id

/-- A write of an RW register that only stores (R13), with the checks of its own page added. -/
def State.rwStore (s : State) (h o : Nat) (v : Word) (r : Row) (extra : List (Bool × Status)) : Acc :=
  s.judged (s.common h (o / 0x1000) r.modes (r.ok v) ++ extra) fun s => s.putReg o (mergeWord r.mask (s.reg o) v)

/-! ## RW-C registers (R14 to R16) -/

/-- A host's pending value of an RW-C register. -/
def State.pendingOf (s : State) (h o : Nat) : Option Word := (s.hosts.holder.find? fun p => p.1 == winKey h o).map (·.2)

/-- Empty a pending holder. -/
def State.emptied (s : State) (h o : Nat) : State :=
  { s with hosts := { s.hosts with holder := Map.remove (winKey h o) s.hosts.holder } }

/-- Place a value in a pending holder. -/
def State.placed (s : State) (h o : Nat) (v : Word) : State :=
  { s with hosts := { s.hosts with holder := Map.insert (winKey h o) v s.hosts.holder } }

/-- The write of X (R14, step 1): the value alone, then the claim; the page of a fused ring answers NOT_READY (R32). -/
def State.rwcValue (s : State) (h o : Nat) (v mask : Word) (ok : Bool) : Acc :=
  if v &&& ~~~ mask ≠ 0#32 ∨ ok = false then (s.emptied h o, .badArg)
  else if s.fusedPage (pageOf o) then (s, .notReady)
  else if !s.owns h (pageOf o) then (s, .notOwner)
  else if s.wiping then (s, .busy)
  else (s.placed h o v, .ok)

/-- The write of X + 4 (R14, steps 2 to 4): the complement, then the checks, then the effect. -/
def State.rwcComplement (s : State) (h o : Nat) (vn : Word) (checks : Word → State → List (Bool × Status))
    (act : Word → State → State) : Acc :=
  match s.pendingOf h o with
  | none => (s, if s.fusedPage (pageOf o) then .notReady else .complementMismatch)
  | some v =>
    let s1 := s.emptied h o
    if vn ≠ ~~~ v then (s1, .complementMismatch)
    else s1.judged (checks v s1) (act v)

/-- The same, where the effect itself can be refused in part. -/
def State.rwcComplementAcc (s : State) (h o : Nat) (vn : Word) (checks : Word → State → List (Bool × Status))
    (act : Word → State → Acc) : Acc :=
  match s.pendingOf h o with
  | none => (s, if s.fusedPage (pageOf o) then .notReady else .complementMismatch)
  | some v =>
    let s1 := s.emptied h o
    if vn ≠ ~~~ v then (s1, .complementMismatch)
    else
      let st := firstOf (checks v s1)
      if st = .ok then act v s1 else (s1, st)

/-! ## Claims (R346 to R349) -/

/-- What the end of a claim discards: the holder's pending RW-C values and staging sets of the block, an open profile
edit, an open image session (R348). -/
def State.claimEnds (s : State) (h page : Nat) : State :=
  let b := blockOf page
  let mine := fun (k : Nat) => k / 0x2000000 == h && blockOf (pageOf (k % 0x2000000)) == b
  let s1 := { s with hosts := { s.hosts with
    claims := Map.remove b s.hosts.claims,
    keys := s.hosts.keys.filter fun p => !(p.1 / 0x1000 == h && blockOf (p.1 % 0x1000) == b),
    holder := s.hosts.holder.filter fun p => !mine p.1,
    staging := if b = 0x70 then s.hosts.staging.filter fun p => p.1 / 0x8000 != h else s.hosts.staging,
    session := if b = 0xB8 then none else s.hosts.session } }
  if b = 0xA0 ∧ s.rti.busy = none then { s1 with rti := { s1.rti with edit := none, staging := [] } } else s1

/-- The blocks awaited: every one of DEV_READY_MAP but the HST pages (R50). -/
abbrev awaited : Nat := 0x3C3FFFF

/-- All awaited blocks are ready. -/
def State.allReady (s : State) : Bool := (s.pwr.ready &&& awaited) == awaited

/-- The apply at boot is under way: every block is ready, and it has not ended (R402). -/
def State.bootApplying (s : State) : Bool := s.mem.bootPend && s.allReady

/-- CLAIM is refused BUSY while the boot apply holds every claim (R402). -/
def State.claim (s : State) (h page : Nat) (arg : Nat) : Acc :=
  let other := match s.holderOf page with | some x => x != h | none => false
  let st := firstOf [(arg ≠ 0, .badArg), (s.fusedPage page, .notReady), (other || s.bootApplying || s.wiping, .busy)]
  if st ≠ .ok then (s, st)
  else if (s.holderOf page).isSome then (s, .ok)
  else ({ s with hosts := { s.hosts with claims := Map.insert (blockOf page) h s.hosts.claims } }, .ok)

/-- RELEASE. -/
def State.release (s : State) (h page : Nat) (arg : Nat) : Acc :=
  let hst := decide (0xD0 ≤ page) && decide (page < 0xD4)
  let st := firstOf [(arg ≠ 0, .badArg), (hst || !s.owns h page, .notOwner), (s.wiping, .busy)]
  if st ≠ .ok then (s, st) else (s.claimEnds h page, .ok)

/-- BREAK: one event goes to the former holder and to HOST_0, from the former holder's page. -/
def State.breakOp (s : State) (h page : Nat) (arg : Nat) : Acc :=
  let hst := decide (0xD0 ≤ page) && decide (page < 0xD4)
  let st := firstOf [(arg ≠ 0 || (hst && h == 0), .badArg), (h ≠ 0, .notOwner),
                     (s.modes.cur ≠ .service, .notInMode), (s.wiping, .busy)]
  if st ≠ .ok then (s, st)
  else
    match s.holderOf page with
    | none => (s, .ok)
    | some x =>
      ((s.claimEnds x page).eventTo (2 ^ x ||| 1) (0xD0 + x) 33 (blockOf page), .ok)

/-- KEY. No register of this device is RW-K, so an armed key only waits (R349). -/
def State.keyOp (s : State) (h page : Nat) (arg : Nat) : Acc :=
  let st := firstOf [(arg ≠ 0xFFFF - blockOf page, .badArg), (!s.owns h page, .notOwner), (s.wiping, .busy)]
  if st ≠ .ok then (s, st)
  else ({ s with hosts := { s.hosts with keys := Map.insert (h * 0x1000 + page) (s.now + ms 10) s.hosts.keys } }, .ok)

/-- LOCK.KEYED: the host has an armed key for the page; both pages of a block report the same (R31, R347). -/
def State.keyed (s : State) (h page : Nat) : Bool :=
  s.hosts.keys.any fun p => p.1 / 0x1000 == h && blockOf (p.1 % 0x1000) == blockOf page && decide (s.now < p.2)

/-- A LOCK write (R347). -/
def State.lockWrite (s : State) (h page : Nat) (v : Word) : Acc :=
  let op := fld v 24 8
  let arg := fld v 0 24
  if op = 0xC1 then s.claim h page arg
  else if op = 0xC2 then s.release h page arg
  else if op = 0xC3 then s.breakOp h page arg
  else if op = 0xC4 then s.keyOp h page arg
  else (s, .badArg)

/-! ## The common header (R12) -/

/-- A write to the header of a page. CTRL and STAT are block state (R346): CTRL takes only 0, STAT only reads; a lifecycle change under way refuses every
write with BUSY (R404). IRQ_EN holds all 32 bits as written, those of IRQ_RAW bits the page reserves too (DESIGN CHOICE,
log entry 81). -/
def State.headerWrite (s : State) (h page off : Nat) (v : Word) : Acc :=
  if off = 0x10 then
    (s, firstOf [(v ≠ 0#32, .badArg), (s.unclaimed h page, .notOwner), (s.fusedPage page, .notReady),
                 (s.fencedPage page, .fenced), (s.wiping, .busy)])
  else if s.fencedPage page && off != 0x24 && off != 0x14 then (s, .fenced)
  else if s.wiping && (off == 0x1C || off == 0x20 || off == 0x28) then (s, .busy)
  else if off = 0x1C then
    let s1 := s.putWin h (page * 0x1000 + 0x1C) v
    ({ s1 with ev := s1.followIrqs s1.ev }, .ok)
  else if off = 0x20 then
    let k := h * 0x1000 + page
    let f := { s.ev with irq := Map.put (fun _ => 0#32) k (s.ev.flags h page &&& ~~~ v) s.ev.irq }
    ({ s with ev := s.followIrqs f }, .ok)
  else if off = 0x24 then s.lockWrite h page v
  else if off = 0x28 then (s.putWin h (page * 0x1000 + 0x28) 0#32, .ok)
  else if off = 0x14 then s.ignored h page
  else (s, .ok)

end Sys2Proof.Machine
end

