-- ==== Sys2Proof/Machine/Cullet.lean ====
section
/-! DEFINITION. The cullet pool as the DEV page shows it: members, their states, what they stand in for, the available
members by kind, and the event of a kind that runs out (R34 to R40). Every member's state is read from the block it
belongs to. -/

namespace Sys2Proof.Machine

/-- A port is the end of a ring that this part does not have (R3). -/
def State.fusedEnd (s : State) (p : Nat) : Bool := decide (p < 32) && !s.present (p / 2)

/-- A spare port: SPARE_0, SPARE_1 or a fused ring end (R35, R147). -/
def State.sparePort (s : State) (p : Nat) : Bool := p == 0x20 || p == 0x21 || s.fusedEnd p

/-- A port. -/
def State.port (s : State) (p : Nat) : Port := s.rings.ports.getD p (portReset 0x3F)

/-- What a port serves: 0x3F where it carries no role (R150). -/
def State.serves (s : State) (p : Nat) : Nat :=
  let v := (s.port p).serves
  if s.fusedEnd p && v == p then 0x3F else v

/-- A cell stands idle in the pool: its role is spare and it has not failed (R35: a spare-role cell holds its index from
declaration; log entry 31). -/
def State.spareIdle (s : State) (c : Nat) : Bool :=
  let w := s.ureg (A.CELL c 0)
  bitAt w 31 && fld w 0 2 == 1 && !s.bpt.spent.contains c && (s.cell c).st != .bypassed

/-- A cell leaves the pool: no spare cell is declared at its position any more. -/
def State.leavePool (s : State) (c : Nat) : State :=
  { s with modes := { s.modes with members := s.modes.members.filter fun p => p.2 != c },
           bpt := { s.bpt with standIn := s.bpt.standIn.filter fun p => p.1 != c } }

/-- The cell a substituted spare stands in for; one found failed, or retired, stands in for none (R37). -/
def State.standsFor (s : State) (c : Nat) : Option Nat :=
  if s.bpt.spent.contains c || fld (s.ureg (A.CELL c 0)) 0 2 == 2 then none else (s.bpt.standIn.find? fun p => p.1 == c).map (·.2)

/-- A member: KIND, STATE, UNIT and the unit it stands in for (R35 to R37). Of an SRAM bank the unit is the bank, of the fabric
loop in the pool's place the loop that was lost (DESIGN CHOICE, log entry 120). -/
def State.member (s : State) (i : Nat) : Nat × Pool × Nat × Nat :=
  let absent := (0xF, Pool.idle, 0x3FF, 0x3FF)
  if i < 0x18 then
    match s.modes.members.find? fun p => p.1 == i with
    | none => absent
    | some (_, c) =>
      match s.standsFor c with
      | some f => (0, .substituted, c, f)
      | none => (0, if s.spareIdle c then .idle else .exhausted, c, 0x3FF)
  else if i < 0x32 then
    let p := if i = 0x18 then 0x20 else if i = 0x19 then 0x21 else 8 + (i - 0x1A)
    if i < 0x1A || s.fusedEnd p then
      (if (s.port p).txFault then (1, .exhausted, p, 0x3FF)
       else if s.serves p != 0x3F then (1, .substituted, p, s.serves p) else (1, .idle, p, 0x3FF))
    else absent
  else if i < 0x36 then
    let n := if i < 0x34 then 10 + (i - 0x32) else 22 + (i - 0x34)
    let st := s.adc.slices.getD n .idle
    let failed := match s.adc.cover.find? fun p => p.1 == n with | some p => p.2 | none => 0x3FF
    (2, st, n, if st = .rotation then s.adc.rotOwn else if st = .substituted then failed else 0x3FF)
  else if i < 0x38 then
    let v := fld (s.reg (if i = 0x36 then A.CMP_SUB16 else A.CMP_SUB17)) 0 5
    if s.adc.cmpFail.testBit (i - 0x36) then (3, .exhausted, 16 + (i - 0x36), 0x3FF)
    else (3, if v = 0x1F then .idle else .substituted, 16 + (i - 0x36), if v = 0x1F then 0x3FF else v)
  else if i < 0x50 then
    let b := i - 0x38
    let used := s.mem.rows.getD b 0
    (4, if used = 0 then .idle else if used < 32 then .substituted else .exhausted, b, if 0 < used ∧ used < 32 then b else 0x3FF)
  else if i = 0x50 then
    (5, s.clk.pool, if s.clk.pool = .substituted then s.clk.fab else 1 - s.clk.fab,
      if s.clk.pool = .substituted then 1 - s.clk.fab else 0x3FF)
  else absent

/-- STATE of a member as two bits. -/
def Pool.code : Pool → Nat
  | .idle => 0 | .rotation => 1 | .substituted => 2 | .exhausted => 3

/-- Members of a range that are in one of some states and present. -/
def State.membersIn (s : State) (first n : Nat) (ok : Pool → Bool) : Nat :=
  ((List.range n).filter fun k => let m := s.member (first + k); m.1 != 0xF && ok m.2.1).length

/-- Available members of each kind: cells, ports, slices, comparators, SRAM banks, fabric loop (R39). -/
def State.poolSum (s : State) (kind : Nat) : Nat :=
  let idle := fun p => p == Pool.idle
  if kind = 0 then s.membersIn 0 0x18 idle
  else if kind = 1 then s.membersIn 0x18 0x1A idle
  else if kind = 2 then s.membersIn 0x32 4 fun p => p == .idle || p == .rotation
  else if kind = 3 then s.membersIn 0x36 2 idle
  else if kind = 4 then s.membersIn 0x38 24 fun p => p == .idle || p == .substituted
  else s.membersIn 0x50 1 idle

/-- DEV_CULLET_SUM. -/
def State.culletSum (s : State) : Word :=
  at_ 0 5 (s.poolSum 0) ||| at_ 5 5 (s.poolSum 1) ||| at_ 10 3 (s.poolSum 2) ||| at_ 13 2 (s.poolSum 3) |||
  at_ 15 1 (s.poolSum 5) ||| at_ 16 5 (s.poolSum 4)

/-- CULLET_EMPTY when the available members of a kind fall to none (R39). -/
def State.emptied_ (s : State) (old : Nat) (kind : Nat) : State :=
  s.eventIf (0 < old && s.poolSum kind == 0) 0 34 0xFFFF [kind]

/-- HIST of a member counts one more (R36). -/
def State.wear (s : State) (i : Nat) : State :=
  let h := Map.get (fun _ => 0) i s.modes.hist
  { s with modes := { s.modes with hist := Map.put (fun _ => 0) i (satInc 16 h 1) s.modes.hist } }

/-- The lowest index of a phase that is free for the newly declared spare `c` (R35). The index at which `c` itself stood as a
failed, retired or substituted cell is free too. -/
def State.freeIndex (s : State) (phase c : Nat) : Option Nat :=
  ((List.range 8).map (· + 8 * phase)).find? fun i =>
    let m := s.member i
    m.1 == 0xF || m.2.1 == .exhausted || m.2.1 == .substituted || s.modes.members.contains (i, c)

/-- A spare cell is declared: it takes the lowest free index of its phase. -/
def State.joinPool (s : State) (c : Nat) : State :=
  match s.freeIndex (fld (s.ureg (A.CELL c 0)) 4 2) c with
  | none => s
  | some i =>
    { s with
      modes := { s.modes with members := Map.insert i c (s.modes.members.filter fun p => p.2 != c) },
      bpt := { s.bpt with spent := s.bpt.spent.filter fun d => d != c, standIn := s.bpt.standIn.filter fun p => p.1 != c } }

/-- The index of a cell member. -/
def State.indexOf (s : State) (c : Nat) : Option Nat := (s.modes.members.find? fun p => p.2 == c).map (·.1)

end Sys2Proof.Machine
end

