-- ==== Sys2Proof/Machine/CellOps.lean ====
section
/-! DEFINITION. Cells as they fail, leave, come back and are stood in for (R60 to R62, R133, R247, R255 to R258), and
cause CELLS (R49). -/

namespace Sys2Proof.Machine

/-! ## Trackers as other blocks touch them -/

/-- A cell's tracker. -/
def State.trk (s : State) (c : Nat) : Tracker := Map.get (fun _ => trackerReset) c s.bpt.cells

/-- Change it. -/
def State.modTrk (s : State) (c : Nat) (f : Tracker → Tracker) : State :=
  { s with bpt := { s.bpt with cells := Map.put (fun _ => trackerReset) c (f (s.trk c)) s.bpt.cells } }

/-- A tracker entry at its reset values; SWEEPS and JUMPS survive a change of role (R247). -/
def State.clearTracker (s : State) (c : Nat) (role : Bool) : State :=
  s.modTrk c fun t => { trackerReset with sweeps := if role then t.sweeps else 0, jumps := if role then t.jumps else 0 }

/-! ## Table fields -/

/-- TYPE: 0 PV, 1 ST, 2 HY. -/
def State.cellType (s : State) (c : Nat) : Nat := fld (s.cw c 0) 2 2

/-- The versions PMIN to PMAX as a mask, bit k − 1 for version k. -/
def State.cellMaskVer (s : State) (c : Nat) : Nat :=
  nsum ((List.range 3).map fun k =>
    if fld (s.cw c 4) 8 2 ≤ k + 1 ∧ k + 1 ≤ fld (s.cw c 4) 10 2 then 2 ^ k else 0)

/-- SERIAL. -/
def State.cellSerial (s : State) (c : Nat) : Nat := (s.cw c 8).toNat + 0x100000000 * (s.cw c 12).toNat

/-- The DC-link voltage last reported, 0.1 V. -/
def State.vdc (s : State) (c : Nat) : Nat := byteFld (s.cell c).last 6 2

/-- STATUS of the last report. -/
def State.cellStatus (s : State) (c : Nat) : Nat := byteFld (s.cell c).last 4 1

/-- FAULT of the last report. -/
def State.cellFault (s : State) (c : Nat) : Nat := byteFld (s.cell c).last 16 4

/-- A failure bit stands in the last report (R124). -/
def State.cellFailed (s : State) (c : Nat) : Bool := decide (s.cellFault c % 512 ≠ 0)

/-- SOC of the last report; 0xFF unknown, and where the version of the link has no such field (R128). -/
def State.soc (s : State) (c : Nat) : Nat := if (s.cell c).proto = 1 then 0xFF else byteFld (s.cell c).last 12 1

/-- Battery current of the last report, 0.01 A, discharge positive; 0 where the version of the link has no such field (R128). -/
def State.ibat (s : State) (c : Nat) : Int := if (s.cell c).proto = 1 then 0 else sx 16 (byteFld (s.cell c).last 10 2)

/-- Source current of the last report, 0.01 A. -/
def State.isrc (s : State) (c : Nat) : Int := sx 16 (byteFld (s.cell c).last 8 2)

/-- The DC link lies inside the charged window (R60, R144). -/
def State.inWindow (s : State) (c : Nat) : Bool :=
  decide (fld (s.cw c 0xA8) 0 16 ≤ s.vdc c) && decide (s.vdc c ≤ fld (s.cw c 0xA8) 16 16)

/-- A position is linked: its cell is in a linked state and its reports are being accepted (R149). -/
def State.linked (s : State) (c : Nat) : Bool :=
  let q := s.cell c
  q.st != .absent && q.st != .stale && decide (q.run < 3)

/-- A cell is in the carrier ranking of its phase: ACTIVE, and not a spare whose bypass is still closed (R152, R255). -/
def State.ranked (s : State) (c : Nat) : Bool :=
  (s.cell c).st == .active && !(s.bpt.waiting.any fun w => w.spare == c)

/-! ## Cause CELLS -/

/-- CELLMIN. -/
def State.cellMin (s : State) : Nat := fld (s.ureg A.GRD_CFG) 8 8

/-- The condition of cause CELLS (R49, R62). -/
def State.cellsShort (s : State) : Bool :=
  s.modes.cur.switching &&
  (List.range 3).any fun x => decide ((s.cellsIn x .active).length < s.cellMin) && ((s.cellsIn x .spare).all fun c => !s.spareIdle c)

/-- Judge it. -/
def State.judgeCells (s : State) : State := s.causeIs cCells s.cellsShort

/-! ## Failure and substitution -/

/-- A BYPASS record is to be sent in the management window of the next beat (R133, R255); a version 1 cell's bypass is held
by the FLAGS of its records. -/
def State.wantBypass (s : State) (c : Nat) (latch : Bool) : State :=
  s.modCell c fun q => { q with latchReq := some latch, latchNew := true }

/-- The modes in which a spare is switched in without a host: WATCH to HOLD (R62). -/
abbrev substModes : Nat := 0x0FC

/-- BPT_SUB.TOUT as a time. -/
def State.subTout (s : State) : Nat := ms (fld (s.ureg A.BPT_SUB) 0 16)

/-- The idle spare of a phase with the lowest index (R256). -/
def State.spareFor (s : State) (phase : Nat) : Option Nat :=
  (((List.range 8).map (· + 8 * phase)).filterMap fun i =>
    match s.modes.members.find? fun p => p.1 == i with
    | some (_, c) =>
      if s.spareIdle c && (s.cell c).st == .spare && s.cellPhase c == phase && !s.cellFailed c then some c else none
    | none => none).head?

/-- Set ROLE of a cell, in the register space and in use at once (R255). -/
def State.setRole (s : State) (c role : Nat) : State := s.putBoth (A.CELL c 0) (setFld (s.reg (A.CELL c 0)) 0 2 role)

/-- A spare stands in for a failed cell whose state was `was` (R255, R256). -/
def State.standIn (s : State) (failed spare : Nat) (was : CellState) : State :=
  let s1 := (s.setRole spare 0).modCell spare fun q => { q with st := was }
  let s2 := { s1 with bpt := { s1.bpt with
    standIn := (spare, failed) :: s1.bpt.standIn.filter (fun p => p.1 != spare),
    subs := satInc 16 s1.bpt.subs 1,
    waiting := if was = CellState.active then
        s1.bpt.waiting ++
          [({ failed := failed, spare := spare, phase := s1.cellPhase spare, due := s1.now + s1.subTout } : Subst)]
      else s1.bpt.waiting } }
  let s3 := match s2.indexOf spare with | some i => s2.wear i | none => s2
  ((s3.clearTracker spare true).event 0x90 4 spare [failed]).emptied_ (s.poolSum 0) 0

/-- Substitute for a failed cell where its phase has an idle spare. -/
def State.substitute (s : State) (failed : Nat) (was : CellState) : State :=
  match s.spareFor (s.cellPhase failed) with
  | none => s
  | some c => s.standIn failed c was

/-- The tracker and the shares of a cell that runs no longer: its place among the sweeps is free (R259). -/
def State.trackOff (s : State) (c : Nat) : State :=
  s.modTrk c fun t => { t with st := .off, offer := 0, share := 0, batt := 0, lehr := none }

/-- An ACTIVE or CHARGED cell is taken out: BYPASSED with its REASON, its bypass to be latched; a spare that stood in for
another is spent (R37, R255, R256). -/
def State.takeOut (s : State) (c reason : Nat) : State :=
  let s1 := (s.modCell c fun q => { q with st := .bypassed, reason := reason, charged := 0 }).wantBypass c true
  let s2 := { s1 with bpt := { s1.bpt with
    closing := Map.insert c (s1.now + s1.subTout) s1.bpt.closing,
    waiting := s1.bpt.waiting.filter fun w => w.spare != c,
    spent := if (s1.bpt.standIn.any fun p => p.1 == c) then c :: s1.bpt.spent else s1.bpt.spent } }
  s2.trackOff c

/-- An ACTIVE or CHARGED cell fails: it is taken out, with a spare in its place in the modes of R62 (R255, R257). -/
def State.failCell (s : State) (c reason : Nat) : State :=
  let was := (s.cell c).st
  let s4 := (s.takeOut c reason).eventIf (reason == 7) 0x90 7 c
  let s5 := if s4.modes.cur.within substModes then s4.substitute c was else s4
  s5.judgeCells

/-- A cell of role spare, or one that stands in for another, whose report carries a failure bit while it is neither ACTIVE nor
CHARGED is treated as failed: it stands in for none, and its member is exhausted (R37, R39, R124). -/
def State.spareFails (s : State) (c : Nat) : State :=
  if s.spareIdle c || (s.standsFor c).isSome then
    (({ s with bpt := { s.bpt with spent := c :: s.bpt.spent } }).emptied_ (s.poolSum 0) 0).judgeCells
  else s

/-- A spare did not open its bypass in time: it is commanded closed and spent, and the next spare is tried (R255). -/
def State.subFailed (s : State) (w : Subst) : State :=
  let s1 := (s.modCell w.spare fun q => { q with st := .bypassed }).wantBypass w.spare true
  let s2 := { s1 with bpt := { s1.bpt with
    waiting := s1.bpt.waiting.filter fun v => v.spare != w.spare, spent := w.spare :: s1.bpt.spent,
    subFail := satInc 16 s1.bpt.subFail 1 } }
  let s3 := s2.event 0x90 5 w.spare [w.failed]
  let s4 := if s3.modes.cur.within substModes then s3.substitute w.failed .active else s3
  s4.judgeCells

/-- A cell becomes STALE: its tracker state is cleared (R142, R247). -/
def State.staleCell (s : State) (c reason : Nat) : State :=
  let s1 := s.modCell c fun q => { q with st := .stale, reason := reason, charged := 0 }
  ((s1.clearTracker c false).event (0x40 + s.cellRing c) 6 c [reason]).judgeCells

/-- An ACTIVE or CHARGED cell goes ABSENT: in the window of a forced switchover that fails condition 2 of R302. -/
def State.lostInWindow (s : State) : State :=
  if s.gaf.judging then { s with gaf := { s.gaf with failed := setBit s.gaf.failed 1 true } } else s

/-- A cell has sent no valid report for three beats (R60, R62, R257). STALE is left only by reconfiguration:
no join begins anew (R61, R142). An ACTIVE or CHARGED cell that goes in the window of a forced switchover fails condition 2 of
R302. -/
def State.cellGone (s : State) (c : Nat) : State :=
  let q := s.cell c
  let s1 := s.modCell c fun q => { q with
    join := if q.st == .stale then q.join else .align, joinAge := 0, aligned := false, known := false, idLow := none, charged := 0 }
  match q.st with
  | .active | .charged =>
    let s1 := s1.lostInWindow
    if s.modes.cur.within substModes then s1.failCell c 7
    else (s1.modCell c fun q => { q with st := .absent, proto := 0 }).judgeCells
  | .linked | .spare => s1.modCell c fun q => { q with st := .absent, proto := 0 }
  | _ => s1

/-- On entry to ENERGIZE the CHARGED cells of role active become ACTIVE (R60). -/
def State.cellsActive (s : State) : State :=
  s.usedCells.foldl (fun s c =>
    if (s.cell c).st = .charged ∧ s.cellRole c = 0 then s.modCell c fun q => { q with st := .active } else s) s

/-- ACTIVE cells return to CHARGED in WATCH, HOLD and SERVICE once the main group is confirmed open (R61). -/
def State.cellsFollow (s : State) : State :=
  s.usedCells.foldl (fun s c =>
    if s.modes.cur.within 0x184 && (s.cell c).st == .active && s.confirmed 0 1 then
      s.modCell c fun q => { q with st := .charged }
    else s) s

end Sys2Proof.Machine
end

