-- ==== Sys2Proof/Machine/RingOps.lean ====
section
/-! DEFINITION. Cell rings: ports, probes and ring figures, readiness, breaks, the report cutoff with its management
window, joining, and the cell reports (R22, R116 to R150). -/

namespace Sys2Proof.Machine

/-! ## Figures and readiness (R139, R140) -/

/-- The cells of a ring by position. -/
def State.byPos (s : State) (k : Nat) : List Nat :=
  (List.range 24).filterMap fun p => (s.ringCells k).find? fun c => s.cellPos c == p

/-- The smallest forwarding latency reported on a ring, 0.1 ns; 0 where none is (log entry 32). -/
def State.fmin (s : State) (k : Nat) : Nat :=
  match ((s.ringCells k).map fun c => (s.cell c).fwd).filter (· != 0) with
  | [] => 0
  | f :: fs => fs.foldl min f

/-- LNK_TDLV in 0.1 ns (R139). -/
def State.tdlv10 (s : State) (k : Nat) : Nat := max (s.ringSt k).tew (s.ringSt k).twe - s.fmin k + 2560

/-- LNK_TREP in 0.1 ns (R139). -/
def State.trep10 (s : State) (k : Nat) : Nat := 30000 + max (s.ringSt k).tew (s.ringSt k).twe - s.fmin k + 1280

/-- The checks of R23 for a delivery and a report time in 0.1 ns at DIV and FMAX (0.01 Hz): the beat is
10¹² / (FMAX × DIV) in 0.1 ns. -/
def fitsTimes (tdlv trep div fmax : Nat) : Bool :=
  decide ((tdlv + 25000) * (fmax * div) ≤ 300000000000) && decide (trep * (fmax * div) ≤ 250000000000)

/-- The ring limit of R136: 2 n records of 260 ns within 0.45 of the beat plus 1.5 µs. -/
def fitsCells (n div fmax : Nat) : Bool := decide (5200 * n * (fmax * div) ≤ 450000000000 + 15000 * (fmax * div))

/-- A ring passes R23 and R136 at a division and band. -/
def State.ringFits (s : State) (k div fmax : Nat) : Bool :=
  let r := s.ringSt k
  ((!r.gotEw && !r.gotWe) || fitsTimes (s.tdlv10 k) (s.trep10 k) div fmax) && fitsCells (s.ringCells k).length div fmax

/-- FMAX in use. -/
def State.fmax (s : State) : Nat := fld (s.ureg A.ANG_FBAND) 16 16

/-- FMIN in use. -/
def State.fminHz (s : State) : Nat := fld (s.ureg A.ANG_FBAND) 0 16

/-- A pipeline quantity. -/
def State.quant (s : State) (q : Nat) : Quant := Map.get (fun _ => quantReset) q s.loop.quants

/-- The nominal frequency, Hz. -/
def State.fnom (s : State) : Nat := if bitAt (s.ureg A.ANG_CFG) 0 then 60 else 50

/-- FMIN and FMAX as rates, 2⁻¹⁶ Hz. -/
def State.rateLo (s : State) : Nat := quoN (s.fminHz * 65536) 100
def State.rateHi (s : State) : Nat := quoN (s.fmax * 65536) 100

/-- FLY_V, PU32. -/
def State.flyV (s : State) : Int := puFrac (fld (s.ureg A.ANG_FLY) 0 8) 100

/-- The magnitude of the positive-sequence voltage of the last pipeline. -/
def State.vPos (s : State) : Int := vlen (s.quant 0x14).val (s.quant 0x15).val

/-- The source's frequency plus any slew, before the clamp: free-run at the nominal frequency until a grid voltage is
measured, then the tracker (R76); the rotor in FORM. A voltage of FLY_V or more counts as one that has appeared (DESIGN
CHOICE, log entry 86). -/
def State.rawRate (s : State) : Int :=
  let a := s.ang
  if a.src = 2 then quo (s.grd.omega * ((s.fnom * 65536 : Nat) : Int)) 0x10000000
  else if a.src = 0 && !(a.dOk && decide (s.flyV ≤ s.vPos)) then ((s.fnom * 65536 : Nat) : Int)
  else
    let slew := if (a.slew || a.quiet) && !a.fly then
        quo (((fld (s.ureg A.ANG_JMP) 16 8 * a.freq : Nat) : Int) * (if a.d < 0 then -1 else 1)) 360
      else 0
    (a.freq : Int) + slew

/-- The effective angle rate as it stands now: what the next beat start takes (R68, R77). -/
def State.rateNext (s : State) : Nat := (clampI (s.rateLo : Nat) (s.rateHi : Nat) s.rawRate).toNat

/-- The length of the execution beat as the pipeline knows it (R77, R122). -/
def State.execLen (s : State) : Nat := beatLen s.rateNext s.nextBeat.2

/-- LNK_STAT.NR (R140, R149): a ring that is ready stays so while it is enabled and a port is in sync. -/
def State.ringNr (s : State) (k : Nat) : Nat :=
  let r := s.ringSt k
  if !s.present k then 5
  else if !s.ringEn k then 1
  else if !(s.endSync (2 * k)) && !(s.endSync (2 * k + 1)) then 2
  else if r.ready then 0
  else if !r.gotEw && !r.gotWe then 3
  else if s.ringFits k s.ang.div s.fmax then 0 else 4

/-- A ring's readiness after any of its conditions may have changed (R140). -/
def State.judgeRing (s : State) (k : Nat) : State :=
  let nr := s.ringNr k
  let fits := s.ringFits k s.ang.div s.fmax
  if nr = 0 then
    (s.modRing k fun r => { r with ready := true, margin := !fits }).eventIf (!fits && !(s.ringSt k).margin) (0x40 + k) 8 k
  else if nr = 1 ∨ nr = 2 then s.modRing k fun r => { r with ready := false, margin := false }
  else s

/-- Every ring. -/
def State.judgeRings (s : State) : State := (List.range 16).foldl (fun s k => s.judgeRing k) s

/-! ## Ports and probes -/

/-- Change a port. -/
def State.modPort (s : State) (p : Nat) (f : Port → Port) : State :=
  { s with rings := { s.rings with ports := modAt f p s.rings.ports } }

/-- The delay-locked line a port receives through: that of the ring end whose role it carries, or its own (R147, R431). -/
def State.lineOf (s : State) (p : Nat) : Nat := if s.serves p < 32 then s.serves p else p

/-- A port goes down by loss of signal (0), loss of sync (1) or a fault of its transmitter (2): its transmitter is dark, and
the ring whose end it serves runs as broken there, with PORT_FAULT on its page (R146). -/
def State.portDown (s : State) (p cause : Nat) : State :=
  let role := s.serves p
  let s1 := (s.modPort p fun q => { q with
    sync := false, down := true, los := q.los || cause == 0, txFault := q.txFault || cause == 2 }).emptied_ (s.poolSum 1) 1
  if 32 ≤ role then s1
  else
    let k := role / 2
    let s2 := s1.modRing k fun r => { r with closed := false, pass := (false, false), broke := true }
    (s2.event (0x40 + k) (2 + role % 2) p).judgeRing k

/-- A port comes into sync, its delay-locked line locked. -/
def State.portUp (s : State) (p : Nat) : State :=
  let s1 := s.modPort p fun q => { q with sync := true, los := false, txFault := false, down := false }
  let s2 := s1.modPort (s1.lineOf p) fun q => { q with dll := true }
  let role := s2.serves p
  if 32 ≤ role then s2 else (s2.modRing (role / 2) fun r => { r with probeIn := 0 }).judgeRing (role / 2)

/-- A probe copy returns to the opposite port after a delay in 0.1 ns: clockwise to W, counter-clockwise to E (R137). -/
def State.probeBack (s : State) (k : Nat) (ccw : Bool) (delay : Nat) : State :=
  let s1 := s.modRing k fun r =>
    if ccw then { r with twe := delay, gotWe := true, pass := (r.pass.1, true), probing := (r.probing.1, false) }
    else { r with tew := delay, gotEw := true, pass := (true, r.pass.2), probing := (false, r.probing.2) }
  let r := s1.ringSt k
  let s2 := if r.pass.1 && r.pass.2 && !r.closed then
      (s1.modRing k fun r => { r with closed := true, brkCw := 0x1F, brkCcw := 0x1F, broke := false }).eventIf r.broke (0x40 + k) 1 k
    else s1
  s2.judgeRing k

/-! ## Breaks (R146) -/

/-- The broken spans as the directions of arrival show them: clockwise, counter-clockwise; 0x1F none or unknown. -/
def State.breaks (s : State) (k : Nat) : Nat × Nat :=
  let cells := (s.byPos k).filter fun c => (s.cell c).known
  let cw := cells.filter fun c => (s.cell c).atE && !(s.cell c).atW
  let ccw := cells.filter fun c => (s.cell c).atW && !(s.cell c).atE
  let bcw := match cw.getLast? with | some c => s.cellPos c + 1 | none => 0x1F
  let bccw := match ccw.head? with | some c => s.cellPos c | none => 0x1F
  let okCw := cells.all fun c => !(decide (s.cellPos c < bcw) && (s.cell c).atW)
  let okCcw := cells.all fun c => !(decide (bccw ≤ s.cellPos c) && (s.cell c).atE)
  (if okCw then bcw else 0x1F, if okCcw then bccw else 0x1F)

/-- Locate broken spans from this beat's reports; a port that is down stands as a break of its end span. A
direction in which every cell is heard again is whole (R146, R149). -/
def State.judgeBreaks (s : State) (k : Nat) : State :=
  let r := s.ringSt k
  let n := (s.ringCells k).length
  if !s.endSync (2 * k) && !s.endSync (2 * k + 1) then s
  else if !s.endSync (2 * k) then s.modRing k fun r => { r with brkCw := 0, brkCcw := 0 }
  else if !s.endSync (2 * k + 1) then s.modRing k fun r => { r with brkCw := n, brkCcw := n }
  else
    let known := (s.ringCells k).filter fun c => (s.cell c).known
    let b := s.breaks k
    let wholeCw := !known.isEmpty && known.all fun c => (s.cell c).atW
    let wholeCcw := !known.isEmpty && known.all fun c => (s.cell c).atE
    let fresh := fun (new old : Nat) => new != 0x1F && new != old
    let s1 := s.modRing k fun r => { r with
      brkCw := if b.1 = 0x1F ∧ !wholeCw then r.brkCw else b.1,
      brkCcw := if b.2 = 0x1F ∧ !wholeCcw then r.brkCcw else b.2,
      closed := r.closed && b.1 == 0x1F && b.2 == 0x1F, broke := r.broke || b.1 != 0x1F || b.2 != 0x1F,
      pass := if fresh b.1 r.brkCw || fresh b.2 r.brkCcw then (false, false) else r.pass }
    s1.eventIf (fresh b.1 r.brkCw || fresh b.2 r.brkCcw) (0x40 + k) 0 (if fresh b.1 r.brkCw then b.1 else b.2) [b.1, b.2]

/-- A probe has not come round by the next report cutoff: probes do not pass end to end (R149). -/
def State.probeLost (s : State) (k : Nat) : State :=
  s.modRing k fun r =>
    if r.probing.1 || r.probing.2 then
      { r with closed := false, broke := r.broke || r.closed, probing := (false, false),
               pass := (r.pass.1 && !r.probing.1, r.pass.2 && !r.probing.2) }
    else r

/-! ## The management window (R67, R135, R141) -/

/-- Where a cell stands in joining: it needs the steps of R141 while it is ABSENT, STALE with a version to deliver, or
bypassed or retired and gone out of sight. -/
def CellLink.joins (q : CellLink) : Bool := q.join != .done

/-- The mean one-way delay of a ring from its probes, 0.1 ns; 0 if none (R122). -/
def State.tring (s : State) (k : Nat) : Nat :=
  let r := s.ringSt k
  if r.gotEw && r.gotWe then quoN (r.tew + r.twe) 2 else if r.gotEw then r.tew else if r.gotWe then r.twe else 0

/-- The bytes 8 to 36 of a TIME record (R122): T0 is DEVTIME as its first data byte leaves, BLEN the length of the next beat at the
rate as it stands (log entry 122). -/
def State.timePayload (s : State) (k : Nat) (probe step : Bool) (ofs : Int) : List Byte :=
  let t0 := s.devNs + (s.wireFree k - s.now) / ns
  leBytes 8 t0 ++ leBytes 4 (s.tring k) ++ leBytes 4 (s.nextStart / ns) ++ leBytes 4 (s.execLen / 16777216) ++
  leBytes 1 (b2n probe + 2 * b2n step) ++ leBytes 8 (BitVec.ofInt 64 ofs).toNat

/-- The TIME record of a ring in this window, if one is due (R67, R135). -/
def State.timeRecord (s : State) (k : Nat) : State :=
  let r := s.ringSt k
  let step := match s.clock.step with | some (ofs, _, 1) => some ofs | _ => none
  let wake := s.modes.cur == .wake
  let due := !wake && r.probeIn == 0
  let probe := step.isSome || decide (0 < s.clock.stepProbes) || (wake && s.ang.seq % 16 == 0) || due
  let lost := (s.ringCells k).any fun c => (s.cell c).st == .absent || (s.cell c).st == .stale
  let s1 := s.modRing k fun r => { r with
    probing := if probe then (true, true) else r.probing,
    probeIn := if due then 256 * fld (s.reg (A.LNK k A.LNK_CTRL)) 4 8 - 1 else r.probeIn - 1 }
  if probe || wake || lost then
    (s1.sendFrame k (s1.ringRecord k 4 (s1.timePayload k probe step.isSome (step.getD 0)))).took 2
  else s1

/-- The BYPASS record a cell waits for (R133): versions 2 and 3 only, and only while it reports. -/
def State.bypassRecord (s : State) (c : Nat) : State :=
  let q := s.cell c
  match q.latchReq with
  | none => s
  | some b =>
    if q.latchNew || 3 ≤ q.run || q.proto == 0 || q.join != .done then s
    else
      let s1 := s.modCell c fun q => { q with latchReq := none, latched := b && decide (2 ≤ q.proto) }
      let cmd := if b then 1 else 2
      if 2 ≤ q.proto then
        s1.sendFrame (s.cellRing c) (s.cellRecord c 6 q.proto (leBytes 1 cmd ++ leBytes 1 (0xFF - cmd)))
      else s1

/-- A NEGOTIATE record: OP, the byte that goes with it, TAG (R122). -/
def State.negotiate_ (s : State) (c op arg tag : Nat) : State :=
  s.sendFrame (s.cellRing c) (s.cellRecord c 5 0 (leBytes 1 op ++ leBytes 1 arg ++ leBytes 1 tag))

/-- The terminal words of a cell as CONFIG delivers them (R122, R144). -/
def State.termWords (s : State) (c : Nat) : List Byte := (List.range 8).flatMap fun i => leBytes 4 (s.cw c (0xA0 + 4 * i)).toNat

/-- Send the request of a cell's present joining step (R141). -/
def State.joinRequest (s : State) (c : Nat) : State :=
  let q := s.cell c
  let tag := (q.joinTag + 1) % 256
  let s1 := s.modCell c fun q => { q with joinAge := 1, joinTag := tag }
  match q.join with
  | .offer => s1.negotiate_ c 1 (s.cellMaskVer c) tag
  | .select => s1.negotiate_ c 2 q.ver tag
  | .identify => s1.negotiate_ c 3 0 tag
  | .config => s1.sendFrame (s.cellRing c) (s.cellRecord c 2 q.proto (s.termWords c))
  | _ => s

/-- A joining cell in the management window: an aligned cell is offered, a waiting request ages. -/
def State.joinWindow (s : State) (c : Nat) : State :=
  let q := s.cell c
  match q.join with
  | .done => s
  | .align =>
    if q.aligned && decide (q.run < 3) && q.got then
      (s.modCell c fun q => { q with join := .offer, joinAge := 0 }).joinRequest c
    else s
  | _ => if q.joinAge = 0 then s.joinRequest c else s.modCell c fun q => { q with joinAge := min (q.joinAge + 1) 255 }

/-- A cell without a valid report in this beat: its value is carried and the beat counted (R22, R143, R148). -/
def State.countMissing (s : State) (k c : Nat) : State :=
  if (s.cell c).got then s
  else
    (s.modCell c fun q => { q with miss := satInc 16 q.miss 1, run := min (q.run + 1) 255, charged := 0 }).modRing k
      fun r => { r with missed := (r.missed + 1) % 2 ^ 32 }

/-- The cells of a ring at the report cutoff: beats without a report are counted, and the directions noted. -/
def State.cellsCutoff (s : State) (k : Nat) : State :=
  let cells := s.ringCells k
  let s1 := cells.foldl (fun s c => s.countMissing k c) s
  cells.foldl (fun s c => s.modCell c fun q => { q with cw := q.atW, ccw := q.atE }) s1

/-- The management window of an enabled ring. -/
def State.window (s : State) (k : Nat) : State :=
  let cells := s.ringCells k
  let s1 := cells.foldl (fun s c => s.bypassRecord c) (s.timeRecord k)
  cells.foldl (fun s c => s.joinWindow c) s1

/-- The report cutoff at 25 % of the beat (R22); the cells of a ring that is not enabled have sent no report. -/
def State.cutoff (s : State) : State :=
  let s1 := (List.range 16).foldl (fun s k =>
    let s1 := s.cellsCutoff k
    if s.ringEn k then ((s1.judgeBreaks k).probeLost k).window k else s1) s
  { s1 with rings := { s1.rings with cutoff := true },
            clock := { s1.clock with stepProbes := s1.clock.stepProbes - 1 } }

/-! ## Joining, as replies come (R141, R142) -/

/-- Joining stops: the cell stays as it is until it goes and comes back, or its entry is written. -/
def State.joinStops (s : State) (c reason : Nat) : State :=
  s.modCell c fun q => { q with
    reason := reason, join := .done, joinAge := 0, idLow := none,
    st := if q.st = .bypassed ∨ q.st = .retired ∨ q.st = .stale then q.st else .absent, proto := 0 }

/-- The last step has succeeded: LINKED, or the state a host or a failure had given it (R60, R141, R257). -/
def State.joinDone (s : State) (c : Nat) : State :=
  let q := s.cell c
  let held := q.st == .bypassed || q.st == .retired
  let retired := s.cellRole c == 2
  let s1 := s.modCell c fun q => { q with
    join := .done, joinAge := 0, idLow := none, charged := 0,
    st := if held then q.st else if retired then .retired else .linked, reason := if held then q.reason else 0 }
  if held || retired then s1.wantBypass c true else s1

/-- A serial number has been read (R141). One that differs makes the cell STALE; BYPASSED and RETIRED change only by host
declaration (R61). -/
def State.identified (s : State) (c serial : Nat) : State :=
  let held := (s.cell c).st == .bypassed || (s.cell c).st == .retired
  let s1 := s.modCell c fun q => { q with seen := serial, idLow := none }
  let want := s.cellSerial c
  let next := fun (s : State) => s.modCell c fun q => { q with join := .config, joinAge := 0 }
  if want = 0 then
    next ((s1.putBoth (A.CELL c 8) (wd serial)).putBoth (A.CELL c 12) (wd (serial / 0x100000000)))
  else if want = serial then next s1
  else if held then s1.modCell c fun q => { q with join := .done, joinAge := 0 }
  else (s1.modCell c fun q => { q with join := .done, joinAge := 0 }).staleCell c 4

/-- A cell whose position is not credible is not linked (R138). A running cell that so goes ABSENT is stood in for as R62
says (log entry 91). -/
def State.unlink (s : State) (c : Nat) : State :=
  let was := (s.cell c).st
  let s1 := s.joinStops c 3
  if was = .active ∨ was = .charged then
    let s2 := s1.lostInWindow.trackOff c
    (if s2.modes.cur.within substModes then s2.substitute c was else s2).judgeCells
  else s1.judgeCells

/-- A probe reply: d_E and d_W of the cell, and their checks (R137, R138). -/
def State.probeReply (s : State) (k c : Nat) (data : Nat) : State :=
  let r := s.ringSt k
  let t : Int := if r.gotEw && r.gotWe then quo ((r.tew + r.twe : Nat) : Int) 2 else ((max r.tew r.twe : Nat) : Int)
  let fwd := nfld data 18 11
  let dE := quo (t - (fwd : Int) + sx 18 data) 2
  let dW := t - (fwd : Int) - dE
  let pos := s.cellPos c
  let wrong := (s.ringCells k).filter fun d => d != c && (s.cell d).dlyE != 0 &&
    (if s.cellPos d < pos then decide (dE ≤ ((s.cell d).dlyE : Int)) else decide (((s.cell d).dlyE : Int) ≤ dE))
  let old := (s.cell c).dlyE
  let s1 := s.modCell c fun q => { q with dlyE := dE.toNat, dlyW := dW.toNat, fwd := fwd }
  let s2 := (s1.eventIf (old != 0 && decide (50 < absI (dE - (old : Int)))) (0x40 + k) 7 c).judgeRing k
  if wrong.isEmpty then s2 else (c :: wrong).foldl State.unlink (s2.event (0x40 + k) 4 c)

/-- What a reply in a report does (R125, R141). -/
def State.reply (s : State) (k c : Nat) (rtype tag data : Nat) : State :=
  let q := s.cell c
  let answers := decide (tag = q.joinTag) && decide (0 < q.joinAge)
  if rtype = 1 then s.probeReply k c data
  else if rtype = 2 then
    if q.join = .offer ∧ answers then
      let common := (List.range 3).filter fun v => data.testBit v && (s.cellMaskVer c).testBit v
      match common.getLast? with
      | none => (s.joinStops c 1).event (0x40 + k) 5 c
      | some v =>
        if nfld data 4 2 ≠ s.cellType c ∨ (s.cellType c ≠ 0 ∧ v = 0) then (s.joinStops c 1).event (0x40 + k) 5 c
        else s.modCell c fun q => { q with join := .select, joinAge := 0, ver := v + 1 }
    else s
  else if rtype = 6 then
    if q.join = .select ∧ answers ∧ nfld data 0 2 = q.ver then
      s.modCell c fun q => { q with join := .identify, joinAge := 0, proto := q.ver }
    else s
  else if rtype = 3 then
    if q.join = .identify ∧ answers then s.modCell c fun q => { q with idLow := some data } else s
  else if rtype = 4 then
    match q.idLow with
    | some low => if q.join = .identify ∧ answers then s.identified c (low + 0x100000000 * data) else s
    | none => s
  else if rtype = 5 then
    if q.join = .config ∧ nfld data 0 8 = s.cellVer c then
      if nfld data 8 8 = 0 then s.joinDone c else s.joinStops c 2
    else s
  else s

/-! ## Reports (R22, R60 to R62, R123 to R125) -/

/-- The complement pairs of a report check. -/
def reportPairs (b : List Byte) : Bool :=
  byteFld b 24 2 == 0xFFFF - byteFld b 2 2 && byteFld b 26 2 == 0xFFFF - byteFld b 16 2

/-- A report's CRC and complements check (R123). -/
def reportOk (b : List Byte) : Bool :=
  decide (b.length = 32) && byteFld b 0 1 == 0x81 && reportPairs b && byteFld b 28 4 == crc32c (slice b 0 28)

/-- A storage cell at its reserve floor while it discharges is set to zero discharge (R254). -/
def State.reserveCell (s : State) (c : Nat) : State :=
  if s.cellType c = 0 ∨ s.soc c = 0xFF then s
  else
    let low := decide (s.soc c ≤ fld (s.cw c 0x6C) 16 8)
    let t := s.trk c
    let stops := low && decide (0 < s.ibat c)
    let s1 := s.modTrk c fun t => { t with
      rsv := low, floored := stops, share := if stops then t.share - max 0 t.batt else t.share, batt := if stops then min 0 t.batt else t.batt }
    s1.eventIf (stops && !t.floored) 0x90 3 c

/-- The bypass contact of a cell as its report shows it: a spare whose bypass is open enters the ranking (R255). -/
def State.bypassSeen (s : State) (c : Nat) : State :=
  let closed := (s.cellStatus c).testBit 3
  if closed then { s with bpt := { s.bpt with closing := s.bpt.closing.filter fun p => p.1 != c } }
  else if s.bpt.waiting.any fun w => w.spare == c then
    { s with bpt := { s.bpt with waiting := s.bpt.waiting.filter fun w => w.spare != c } }
  else s

/-- The bits of FAULT that a version of the link has: bit 18 from version 3 on, bit 20 from version 2 on (R128). -/
def faultHas (proto bit : Nat) : Bool := if bit = 18 then decide (3 ≤ proto) else if bit = 20 then decide (2 ≤ proto) else true

/-- The warnings of a report count (R124), those its version of the link has (R128). -/
def warned (proto fault : Nat) (ws : List Nat) : List Nat :=
  ws.zipIdx.map fun p => p.1 + b2n (fault.testBit (16 + p.2) && faultHas proto (16 + p.2))

/-- The report of a cell is taken for its beat: its reply, then a failure it carries, a version that is not the entry's, and
the DC link against the charged window. -/
def State.takeReport (s : State) (k c : Nat) (b : List Byte) : State :=
  let inside := decide (fld (s.cw c 0xA8) 0 16 ≤ byteFld b 6 2) && decide (byteFld b 6 2 ≤ fld (s.cw c 0xA8) 16 16)
  let s1 := s.modCell c fun q => { q with
    last := b, got := true, run := 0, known := true, aligned := (byteFld b 4 1).testBit 7,
    warns := warned q.proto (byteFld b 16 4) q.warns, charged := if inside then min (q.charged + 1) 16 else 0 }
  let s2 := s1.reply k c (byteFld b 14 1) (byteFld b 15 1) (byteFld b 20 4)
  let st := (s2.cell c).st
  let s3 := if !s2.cellFailed c then s2 else if st == .active || st == .charged then s2.failCell c 6 else s2.spareFails c
  let st := (s3.cell c).st
  let s4 := if (s3.cell c).join = .done ∧ (st = .linked ∨ st = .charged ∨ st = .active ∨ st = .spare) ∧
      byteFld b 5 1 ≠ s3.cellVer c then s3.staleCell c 5 else s3
  let st := (s4.cell c).st
  let s5 := if !inside && (st == .charged || st == .spare) then s4.modCell c fun q => { q with st := .linked } else s4
  ((s5.bypassSeen c).reserveCell c).judgeCells

/-- A port has met line code errors (R150). -/
def State.codeErrors (s : State) (p n : Nat) : State := s.modPort p fun q => { q with lcerr := satInc 16 q.lcerr n }

/-- A report arrives at a port, which has met `errs` line code errors since the one before it (R22, R123, R150). A second report from one position in one direction in one beat shows two
cells at that position: neither joins (R141). A complement pair that does not check raises COMPLEMENT_MISMATCH (R400). -/
def State.cellReport (s : State) (p : Nat) (b : List Byte) (errs : Nat) : State :=
  let s := s.codeErrors p errs
  let role := s.serves p
  let k := role / 2
  if 32 ≤ role ∨ !s.ringEn k then s
  else
    let atW := role % 2 = 1
    let c? := (s.ringCells k).find? fun c => s.cellPos c == byteFld b 1 1
    if !reportOk b then
      let s0 := s.eventIf (decide (b.length = 32) && !reportPairs b) (0x40 + k) 56 p
      let s1 := s0.modRing k fun r =>
        if atW then { r with crcCw := satInc 16 r.crcCw 1 } else { r with crcCcw := satInc 16 r.crcCcw 1 }
      match c? with
      | some c => s1.modCell c fun q => { q with crcErr := satInc 16 q.crcErr 1 }
      | none => s1
    else if s.rings.cutoff then s.modRing k fun r => { r with late := (r.late + 1) % 2 ^ 32 }
    else
      match c? with
      | none => s
      | some c =>
        let q := s.cell c
        let twice := if atW then q.atW else q.atE
        let s1 := s.modCell c fun q => if atW then { q with atW := true } else { q with atE := true }
        if twice then
          (if q.join = .done then s1 else (s1.joinStops c 3).event (0x40 + k) 4 c)
        else if q.got then s1
        else s1.takeReport k c b

end Sys2Proof.Machine
end

