-- ==== Sys2Proof/Machine/LoopOps.lean ====
section
/-! DEFINITION. The loop engine: sources, one execution of a slot of each type, OUT_HOLD, release, state clears, the
capacity, and the commit of a slot entry (R178 to R203). -/

namespace Sys2Proof.Machine

/-! ## Slots and their words -/

/-- A slot's state words. -/
def State.slot (s : State) (i : Nat) : LoopSlot := Map.get (fun _ => loopSlotReset) i s.loop.slots

/-- Change them. -/
def State.modSlot (s : State) (i : Nat) (f : LoopSlot → LoopSlot) : State :=
  { s with loop := { s.loop with slots := Map.put (fun _ => loopSlotReset) i (f (s.slot i)) s.loop.slots } }

/-- A word of a slot entry as the engines have it. -/
def State.sw (s : State) (i off : Nat) : Word := s.ureg (A.SLOT i off)

/-- TYPE, EN, RSH, PHASE, MODES, ROLE from words 0x00 and 0x04. -/
def slotType (w : Word) : Nat := fld w 0 4
def slotRuns (w : Word) : Bool := bitAt w 4 && slotType w != 0
def slotRsh (w : Word) : Nat := fld w 8 4
def slotPhase (w : Word) : Nat := fld w 12 8
def slotModes (w : Word) : Nat := fld w 20 8
def slotRole (w : Word) : Nat := fld w 0 8

/-- A set of modes given by MODES: bit k − 1 for code k. -/
def Mode.inMask (m : Mode) (mask : Nat) : Bool := mask.testBit (m.code - 1)

/-- The slots that an entry enables, in ascending index: only those a host has written can be. -/
def slotsOn (regs : List (Nat × Word)) : List Nat :=
  regs.filterMap fun p =>
    if 0x1100000 ≤ p.1 ∧ p.1 < 0x1120000 ∧ p.1 % 0x80 = 0 ∧ slotRuns p.2 then some ((p.1 - 0x1100000) / 0x80) else none

/-- The enabled slots as the engines have them. -/
def State.runSlots (s : State) : List Nat := slotsOn s.used

/-- The enabled slot that holds a role (R208). -/
def State.roleSlot (s : State) (role : Nat) : Option Nat := s.runSlots.find? fun i => slotRole (s.sw i 4) == role

/-- The output of the slot of a role; 0 where no enabled slot holds it. -/
def State.roleOut (s : State) (role : Nat) : Int := match s.roleSlot role with | some i => (s.slot i).out | none => 0

/-! ## Sources (R182 to R184, R193) -/

/-- A ratio to a base as PU32; while the base is unset the scale does not exist and the value is free (R204). -/
def State.perBase (s : State) (n : Int) (base : Nat) (ix : Nat) : Int :=
  if base = 0 then sat (s.open_ ix).toInt else sat (quo (n * 0x10000000) base)

/-- GRD_VBASE in 0.1 V and GRD_IBASE in 0.01 A. -/
def State.vBase (s : State) : Nat := fld (s.ureg A.GRD_VBASE) 0 20
def State.iBase (s : State) : Nat := fld (s.ureg A.GRD_IBASE) 0 20

/-- VDC of a cell in pu of V_B. -/
def State.vdcPu (s : State) (c : Nat) : Int := s.perBase (s.vdc c) s.vBase (0x2000 + c)

/-- A cell quantity by CFIELD, with its LSB (R193, R205). -/
def State.cellQuant (s : State) (c fieldNo : Nat) : Int × Int :=
  if fieldNo = 0 then (s.vdcPu c, s.perBase 1 s.vBase 0x2200)
  else if fieldNo = 1 then (s.perBase (s.isrc c) s.iBase (0x2400 + c), s.perBase 1 s.iBase 0x2201)
  else if fieldNo = 2 then (s.perBase (s.ibat c) s.iBase (0x2600 + c), s.perBase 1 s.iBase 0x2201)
  else if fieldNo = 3 then (puFrac (s.soc c : Nat) 200, puFrac 1 200)
  else (puFrac (sx 8 (byteFld (s.cell c).last 13 1)) 100, puFrac 1 100)

/-- A source is valid (R184). -/
def State.srcOk (s : State) (sel : Word) : Bool :=
  let k := fld sel 28 4
  let i := fld sel 0 10
  if k = 1 then (s.slot i).st != .outHold
  else if k = 2 then i == 0x1A || (s.quant i).ok
  else if k = 3 then (s.cell i).st != .absent && (s.cell i).st != .stale && decide ((s.cell i).run < 3)
  else true

/-- The value of a source and its LSB. -/
def State.srcVal (s : State) (sel : Word) : Int × Int :=
  let k := fld sel 28 4
  let i := fld sel 0 10
  if k = 1 then ((s.slot i).out, 1)
  else if k = 2 then ((s.quant i).val, (s.quant i).lsb)
  else if k = 3 then s.cellQuant i (fld sel 12 3)
  else (0, 0)

/-! ## One execution -/

/-- The execution interval ts of a slot in 2⁻³² ns (R179): the time from the start of the beat 2^RSH beats ago. -/
def State.execTs (s : State) (rsh : Nat) : Nat :=
  match s.loop.starts[0]?, s.loop.starts[2 ^ rsh]? with
  | some a, some b => a - b
  | _, _ => s.ang.blen * 2 ^ rsh

/-- A slot enters OUT_HOLD (R193 to R195). -/
def State.enterHold (s : State) (i cause : Nat) : State :=
  let w := s.sw i 0
  let s1 := s.modSlot i fun q => { q with
    st := .outHold, hcause := cause, holds := satInc 16 q.holds 1,
    out := if bitAt w 6 then (s.sw i 0x30).toInt else q.out }
  let eng := match s.gaf.holder with | some e => e | none => 0
  let s2 := (s1.event 0x70 0 i [cause, eng]).eventIf (bitAt w 5) 0x70 1 i [cause, eng]
  if bitAt w 5 then s2.causeOn cLoop else s2

/-- The angle, as ANG32, that a frequency of `f` eighths of a hertz turns through in `ts`, divided by 2^`half`. -/
def turnOf (f ts half : Nat) : Word := wd (quoN (f * ts * 2 ^ 29) (second * 2 ^ half) % 2 ^ 32)

/-- The coefficients of a notch stage at an interval (R190): zero gain at the prewarped centre, unity gain at 0 Hz, −3 dB
width `w`. In 2⁻²⁸: g = 1 / (1 + tan(π w ts)), −2 g cos(2π f ts), 2 g − 1. -/
def notchCoef (f w ts : Nat) : Int × Int × Int :=
  let half := turnOf w ts 1
  let c := cosA half
  let d := c + sinA half
  let g := if d = 0 then 0 else if 0 < d then quo (c * pu) d.toNat else quo (-(c * pu)) (-d).toNat
  (g, -(quo (2 * g * cosA (turnOf f ts 0)) pu.toNat), 2 * g - pu)

/-- One value through one notch stage, with its two states: a second-order section in the transposed direct form (log
entry 33). -/
def notchStep (k : Int × Int × Int) (x z1 z2 : Int) : Int × Int × Int :=
  let scaled := fun (n : Int) => quo n pu.toNat
  let y := sat (scaled (k.1 * x) + z1)
  (y, sat (scaled (k.2.1 * (x - y)) + z2), sat (scaled (k.1 * x - k.2.2 * y)))

/-- A value through stage `k` of a slot if it is enabled and stands at that place, and the slot's notch states. -/
def State.notchStage (s : State) (i k : Nat) (post : Bool) (x : Int × List Word) : Int × List Word :=
  let w := s.sw i 4
  if bitAt w (9 + 2 * k) && (bitAt w (10 + 2 * k) == post) then
    let f := s.sw i (0x34 + 4 * k)
    let z := fun (n : Nat) => (x.2.getD (2 * k + n) 0#32).toInt
    let r := notchStep (notchCoef (fld f 0 16) (fld f 16 16) (s.execTs (slotRsh (s.sw i 0)))) x.1 (z 0) (z 1)
    (r.1, setAt (wi r.2.2) (2 * k + 1) (setAt (wi r.2.1) (2 * k) x.2))
  else x

/-- A value through the enabled stages before a slot's computation, or after it (R190). -/
def State.notched (s : State) (i : Nat) (post : Bool) (x : Int) (z : List Word) : Int × List Word :=
  s.notchStage i 1 post (s.notchStage i 0 post (x, z))

/-- Every checked input of a slot is valid (R193). -/
def State.inputsOk (s : State) (i : Nat) : Bool :=
  let ty := slotType (s.sw i 0)
  let ok := fun (off gain : Nat) => (ty == 5 && s.sw i gain == 0#32) || s.srcOk (s.sw i off)
  ok 8 0x18 && ok 0xC 0x1C && ok 0x10 0x20

/-- Clamp a result to OUTMIN and OUTMAX and record it (R188, R189). -/
def State.slotOut (s : State) (i : Nat) (u : Int) (q : LoopSlot) : LoopSlot :=
  let hi := (s.sw i 0x28).toInt
  let lo := (s.sw i 0x2C).toInt
  { q with sath := decide (hi < u), satl := decide (u < lo), out := clampI lo hi u }

/-- The freeze reference and count after the check of R193, and whether the count has reached FRZ_N. -/
def freeze (q : LoopSlot) (n : Nat) (fb lsb e : Int) : LoopSlot × Bool :=
  match q.frzRef with
  | none => ({ q with frzRef := some fb, frz := 0 }, false)
  | some r =>
    if e = 0 ∨ lsb < absI (fb - r) then ({ q with frzRef := some fb, frz := 0 }, false)
    else ({ q with frz := q.frz + 1 }, decide (n ≤ q.frz + 1))

/-- 2π × 2⁶⁰, rounded; used for the resonant term (log entry 11). -/
abbrev twoPi60 : Int := 7244019458077122843

/-- A PI or RES slot executes (R188). `ref` is REF, `hold` says of an error whether integration is withheld under
R213. -/
def State.execPi (s : State) (i : Nat) (ref : Int) (hold : Int → Bool) : State :=
  let w := s.sw i 0
  let w4 := s.sw i 4
  let q := s.slot i
  let raw := s.srcVal (s.sw i 0xC)
  let aux := (s.srcVal (s.sw i 0x10)).1
  let inp := s.notched i false raw.1 q.notch
  let fb := inp.1
  let e := if bitAt w4 8 then psub fb ref else psub ref fb
  let n := fld w4 16 8
  let checked := n != 0 && fld (s.sw i 0xC) 28 4 != 0
  let f := if checked then freeze q n raw.1 raw.2 e else (q, false)
  if f.2 then (s.modSlot i fun _ => { f.1 with err := e, spUsed := ref }).enterHold i 2
  else
    let ts : Int := (s.execTs (slotRsh w) : Nat)
    let hi := (s.sw i 0x28).toInt
    let lo := (s.sw i 0x2C).toInt
    let sat2 := s.slot (fld (s.sw i 0x14) 0 10)
    let satEn := bitAt (s.sw i 0x14) 15
    let up := decide (0 < e)
    let dn := decide (e < 0)
    let inhib := (q.sath && up) || (q.satl && dn) || (satEn && ((sat2.sath && up) || (sat2.satl && dn))) || hold e
    let kp := sat (quo ((s.sw i 0x18).toInt * e) 0x1000000)
    let k2 : Int := ((s.sw i 0x1C).toNat : Int)
    let base := clampI lo hi (psub (psub q.out kp) aux)
    let pi := slotType w = 1
    let h : Int := (fld (s.sw i 0x20) 0 6 : Nat)
    let rate : Int := (s.ang.rate : Nat)
    let w2 := fun (x : Int) => quo (twoPi60 * h * rate * ts * x) (2 ^ 76 * second)
    let rs1' := sat (q.rs1 + quo (k2 * ts * e) (256 * second) - w2 q.rs2)
    let q1 : LoopSlot :=
      if q.released then
        (if pi then { f.1 with intg := base } else { f.1 with rs1 := base, rs2 := 0 })
      else if inhib then f.1
      else if pi then { f.1 with intg := clampI lo hi (sat (q.intg + quo (k2 * ts * e) (256 * second))) }
      else { f.1 with rs1 := clampI lo hi rs1', rs2 := sat (q.rs2 + w2 rs1') }
    let u0 := padd (padd kp aux) (if pi then q1.intg else q1.rs1)
    let u := s.notched i true u0 inp.2
    s.modSlot i fun _ => s.slotOut i u.1 { q1 with
      st := .run, err := e, inhib := inhib, spUsed := ref, released := false, notch := u.2 }

/-- A RAMP slot executes (R189); while integration is withheld it keeps its place (R213). -/
def State.execRamp (s : State) (i : Nat) (ref : Int) (hold : Int → Bool) : State :=
  let ts : Int := (s.execTs (slotRsh (s.sw i 0)) : Nat)
  let q := s.slot i
  let stepUp := quo (((s.sw i 0x18).toNat : Int) * 4096 * ts) second
  let stepDn := quo (((s.sw i 0x1C).toNat : Int) * 4096 * ts) second
  let inhib := hold (ref - q.out)
  let u := if inhib then q.out else if q.out ≤ ref then min ref (q.out + stepUp) else max ref (q.out - stepDn)
  s.modSlot i fun q =>
    let q1 := s.slotOut i (sat u) q
    { q1 with intg := if inhib then q.intg else q1.out, inhib := inhib, st := .run, spUsed := ref,
              released := false }

/-- A FILTER slot executes (R189); while integration is withheld INTG keeps its value (R213). -/
def State.execFilter (s : State) (i : Nat) (ref : Int) (hold : Int → Bool) : State :=
  let ts := s.execTs (slotRsh (s.sw i 0))
  let tau := us (s.sw i 0x18).toNat
  let q := s.slot i
  let x := s.notched i false ref q.notch
  let inhib := hold (ref - q.out)
  let intg := if inhib then q.intg else if tau = 0 then x.1 else sat (q.intg + quo ((ts : Int) * (x.1 - q.intg)) (tau + ts))
  let u := s.notched i true intg x.2
  s.modSlot i fun q => s.slotOut i u.1 { q with
    intg := intg, inhib := inhib, st := .run, spUsed := ref, released := false, notch := u.2 }

/-- A SUM slot executes (R189). -/
def State.execSum (s : State) (i : Nat) (ref : Int) : State :=
  let g := fun (off : Nat) (x : Int) => sat (quo ((s.sw i off).toInt * x) 0x1000000)
  let fb := s.notched i false (s.srcVal (s.sw i 0xC)).1 (s.slot i).notch
  let u0 := padd (padd (g 0x18 ref) (g 0x1C fb.1)) (g 0x20 (s.srcVal (s.sw i 0x10)).1)
  let u := s.notched i true u0 fb.2
  s.modSlot i fun q => s.slotOut i u.1 { q with
    st := .run, spUsed := ref, released := false, notch := u.2 }

/-- A slot is due in this beat (R179). -/
def State.slotDue (s : State) (i : Nat) : Bool :=
  let w := s.sw i 0
  slotRuns w && s.modes.cur.inMask (slotModes w) && s.ang.seq % 2 ^ slotRsh w == slotPhase w

/-- One slot in its turn. EXEC counts every execution of R188, those of a slot in OUT_HOLD and the one that enters it among them
(DEDUCED, log entry 224). `supply` gives the reference a role's chapter supplies, `hold` the withholding of R213. -/
def State.execSlot (supply : State → Nat → Option Int) (hold : State → Nat → Int → Bool) (s : State) (i : Nat) : State :=
  if !s.slotDue i || s.loop.fresh.contains i then s
  else
    let s := s.modSlot i fun q => { q with exec := (q.exec + 1) % 2 ^ 32 }
    let w := s.sw i 0
    let role := slotRole (s.sw i 4)
    if (s.slot i).st = .outHold then
      (if bitAt w 6 then s.modSlot i fun q => { q with out := (s.sw i 0x30).toInt } else s)
    else if !s.inputsOk i then s.enterHold i 1
    else
      let ref := match supply s role with
        | some r => r
        | none => if fld (s.sw i 8) 28 4 = 0 then (s.sw i 0x40).toInt else (s.srcVal (s.sw i 8)).1
      let ty := slotType w
      if ty = 3 then s.execRamp i ref (hold s role) else if ty = 4 then s.execFilter i ref (hold s role) else if ty = 5 then s.execSum i ref
      else s.execPi i ref (hold s role)

/-! ## Holds, releases, clears -/

/-- The condition of cause LOOP: some slot with CUR = 1 is in OUT_HOLD (R195). -/
def State.judgeLoop (s : State) : State :=
  s.causeIs cLoop (s.loop.slots.any fun p => p.2.st == .outHold && bitAt (s.sw p.1 0) 5)

/-- A release of an OUT_HOLD slot (R196). Its state shows it at once; the engines execute the slot from the next beat start on
(R24; DEDUCED, log entry 228). -/
def State.releaseSlot (s : State) (i : Nat) : State :=
  let q := s.slot i
  let s1 := if s.ang.beats then { s with loop := { s.loop with fresh := i :: s.loop.fresh } } else s
  (s1.modSlot i fun r => { r with
    st := if s.modes.cur.inMask (slotModes (s.sw i 0)) then .run else .idle, hcause := 0, released := true,
    frzRef := if q.hcause = 2 then none else r.frzRef, frz := if q.hcause = 2 then 0 else r.frz }).judgeLoop

/-- The state a clear leaves: HOLDS, SP_USED and EXEC are kept (R197). -/
def LoopSlot.cleared (q : LoopSlot) : LoopSlot := { loopSlotReset with holds := q.holds, spUsed := q.spUsed, exec := q.exec }

/-- Every slot at a change of mode (R187, R197); one not listed holds nothing to clear. -/
def State.slotsEnter (s : State) (old new : Mode) : State :=
  s.loop.slots.foldl (fun s p =>
    let m := slotModes (s.sw p.1 0)
    s.modSlot p.1 fun q =>
      let q1 := if new.inMask m && !old.inMask m then
          { q.cleared with st := if q.st = .outHold then .outHold else .idle, hcause := q.hcause } else q
      if q1.st = .run && !new.inMask m then { q1 with st := .idle } else q1) s

/-! ## Capacity (R181) -/

/-- Units a slot costs at each execution. -/
def slotUnits (w w4 : Word) : Nat := (if slotType w = 2 then 2 else 1) + b2n (bitAt w4 9) + b2n (bitAt w4 11)

/-- The load of a beat phase under given entries. -/
def phaseLoad (regs : List (Nat × Word)) (b : Nat) : Nat :=
  nsum ((slotsOn regs).map fun i =>
    let w := Map.get resetWord (A.SLOT i 0) regs
    if b % 2 ^ slotRsh w = slotPhase w then slotUnits w (Map.get resetWord (A.SLOT i 4) regs) else 0)

/-- LPE_UNITS: the highest load and its beat phase. -/
def lpeUnits (regs : List (Nat × Word)) : Nat × Nat :=
  (List.range 256).foldl (fun best b => let n := phaseLoad regs b; if best.1 < n then (n, b) else best) (0, 0)

/-- LPE_CAP at a division and FMAX (0.01 Hz): B_FMAX is 10¹¹ / (FMAX × DIV) ns. -/
def lpeCap (div fmax : Nat) : Nat := min 1024 (100000000000 / (fmax * div * 40))

/-- The notch condition of R190 that depends on the band: NxF in 0.125 Hz at most 0.45 / (2^RSH × B_FMIN). -/
def notchFits (w f div fmin : Nat) : Bool := decide (f * 10000 * 2 ^ w ≤ 360 * fmin * div)

/-- The slots with a notch stage enabled, whether or not the slot is: only those a host has written can be. -/
def slotsNotched (regs : List (Nat × Word)) : List Nat :=
  regs.filterMap fun p =>
    if 0x1100000 ≤ p.1 ∧ p.1 < 0x1120000 ∧ p.1 % 0x80 = 4 ∧ (bitAt p.2 9 ∨ bitAt p.2 11) then some ((p.1 - 0x1100000) / 0x80)
    else none

/-- Every enabled notch stage fits a division and FMIN (R190). -/
def notchesFit (regs : List (Nat × Word)) (div fmin : Nat) : Bool :=
  (slotsNotched regs).all fun i =>
    let get := fun off => Map.get resetWord (A.SLOT i off) regs
    (!bitAt (get 4) 9 || notchFits (slotRsh (get 0)) (fld (get 0x34) 0 16) div fmin) &&
    (!bitAt (get 4) 11 || notchFits (slotRsh (get 0)) (fld (get 0x38) 0 16) div fmin)

/-! ## Commits (R198 to R200, R209) -/

/-- A source selector with no refused code (R182, R183). -/
def selOk (w : Word) : Bool :=
  let k := fld w 28 4
  let i := fld w 0 10
  decide (k < 4) && (k != 2 || (decide (i < 0xD) || (decide (0x10 ≤ i) && decide (i < 0x1B)) || (decide (0x20 ≤ i) && decide (i < 0x24)))) &&
  (k != 3 || (decide (i < 384) && decide (fld w 12 3 < 5))) && (k == 3 || fld w 12 3 == 0)

/-- Parameters of a type (R186). -/
def paramsOk (ty : Nat) (p : Nat → Word) : Bool :=
  if ty = 1 then p 2 == 0#32 && p 3 == 0#32
  else if ty = 2 then decide ((p 2).toNat ≤ 50) && decide (1 ≤ (p 2).toNat) && p 3 == 0#32
  else if ty = 3 then p 0 != 0#32 && p 1 != 0#32 && p 2 == 0#32 && p 3 == 0#32
  else if ty = 4 then decide ((p 0).toNat ≤ 10000000) && p 1 == 0#32 && p 2 == 0#32 && p 3 == 0#32
  else if ty = 5 then p 3 == 0#32
  else true

/-- TYPE, FB, MODES and REF of a role (R208, R209): true where the entry keeps them. -/
def roleOk (role ty modes : Nat) (ref fb : Word) : Bool :=
  let fbQ := fun (q : Nat) => fld fb 28 4 == 2 && fld fb 0 10 == q
  let own := fld ref 28 4 == 0
  if role = 0 then true
  else if 1 ≤ role ∧ role ≤ 4 then ty == 1 && modes == 0x3C && own && fbQ (0x10 + (role - 1))
  else if 5 ≤ role ∧ role ≤ 7 then ty == 2 && modes == 0x3C && fbQ (3 + (role - 5))
  else if role = 0x10 then ty == 1 && modes == 0x38 && own && fbQ 0x23
  else if role = 0x11 then (ty == 1 || ty == 3 || ty == 4) && modes == 0x38
  else if role = 0x20 then ty == 1 && modes == 0x38 && own && fbQ 0x14
  else if role = 0x21 then ty == 1 && modes == 0x38 && own && fbQ 0x15
  else false

/-- An enabled entry names only slots that run in some of its modes (R199). -/
def namesOk (regs : List (Nat × Word)) (i : Nat) : Bool :=
  let get := fun (j off : Nat) => Map.get resetWord (A.SLOT j off) regs
  let w := get i 0
  if !slotRuns w then true
  else
    let ok := fun (j : Nat) => slotRuns (get j 0) && decide (slotModes w &&& slotModes (get j 0) = slotModes w)
    let sel := fun (off : Nat) => fld (get i off) 28 4 != 1 || ok (fld (get i off) 0 10)
    sel 8 && sel 0xC && sel 0x10 && (!bitAt (get i 0x14) 15 || ok (fld (get i 0x14) 0 10))

/-- The slots that name a slot. -/
def namedBy (regs : List (Nat × Word)) (i : Nat) : List Nat :=
  (slotsOn regs).filter fun j =>
    let get := fun off => Map.get resetWord (A.SLOT j off) regs
    let hits := fun off => fld (get off) 28 4 == 1 && fld (get off) 0 10 == i
    hits 8 || hits 0xC || hits 0x10 || (bitAt (get 0x14) 15 && fld (get 0x14) 0 10 == i)

/-- The register words a commit of a slot would leave: word 0x00 with what the claiming host has staged. -/
def State.slotRegs (s : State) (h i : Nat) (w0 : Word) : List (Nat × Word) :=
  (List.range 15).foldl (fun regs k =>
    let off := 4 * (k + 1)
    match s.hosts.staging.find? fun p => p.1 == h * 0x8000 + i * 0x20 + (k + 1) with
    | some (_, v) => Map.put resetWord (A.SLOT i off) v regs
    | none => regs) (Map.put resetWord (A.SLOT i 0) w0 s.regs)

/-- The entry a commit would leave is accepted (R199). -/
def State.slotEntryOk (s : State) (regs : List (Nat × Word)) (i : Nat) : Bool :=
  let get := fun off => Map.get resetWord (A.SLOT i off) regs
  let w := get 0
  let w4 := get 4
  let ty := slotType w
  let role := slotRole w4
  let div := fld (s.reg A.ANG_DIV) 0 11
  let band := s.reg A.ANG_FBAND
  let notch := fun (en off : Nat) => !bitAt w4 en ||
    (fld (get off) 0 16 != 0 && fld (get off) 16 16 != 0 && decide (fld (get off) 16 16 ≤ fld (get off) 0 16) &&
      notchFits (slotRsh w) (fld (get off) 0 16) div (fld band 0 16))
  let frz := fld w4 16 8
  (List.range 16).all (fun k => get (4 * k) &&& ~~~ slotMask (4 * k) == 0#32) &&
  decide (ty < 6) && decide (slotRsh w ≤ 8) && decide (slotPhase w < 2 ^ slotRsh w) && !bitAt w 20 &&
  decide (role < 0x40) && (frz == 0 || decide (4 ≤ frz)) &&
  selOk (get 8) && selOk (get 0xC) && selOk (get 0x10) && paramsOk ty (fun k => get (0x18 + 4 * k)) &&
  decide ((get 0x2C).toInt < (get 0x28).toInt) && decide ((get 0x2C).toInt ≤ (get 0x30).toInt) &&
  decide ((get 0x30).toInt ≤ (get 0x28).toInt) &&
  (ty != 3 || (fld (get 0xC) 28 4 == 0 && fld (get 0x10) 28 4 == 0 && !bitAt w4 9 && !bitAt w4 11)) &&
  (role == 0 || (List.range 1024).all fun j => j == i || slotRole (Map.get resetWord (A.SLOT j 4) regs) != role) &&
  roleOk role ty (slotModes w) (get 8) (get 0xC) &&
  (!bitAt w 5 || ((ty == 1 || ty == 2) && decide (4 ≤ frz))) && notch 9 0x34 && notch 11 0x38 &&
  decide ((lpeUnits regs).1 ≤ max (lpeCap div (fld band 16 16)) (lpeUnits s.regs).1) &&
  namesOk regs i && (namedBy regs i).all fun j => namesOk regs j

/-- The commit clears the slot's state: TYPE, RSH, PHASE, ROLE, a source selector or a notch word changes (R200). -/
def commitClears (old new : List (Nat × Word)) (i : Nat) : Bool :=
  let diff := fun (off : Nat) (m : Word) =>
    (Map.get resetWord (A.SLOT i off) old ^^^ Map.get resetWord (A.SLOT i off) new) &&& m != 0#32
  diff 0 0xFFF0F#32 || diff 4 0xFF#32 || diff 8 0xFFFFFFFF#32 || diff 0xC 0xFFFFFFFF#32 || diff 0x10 0xFFFFFFFF#32 ||
  diff 0x34 0xFFFFFFFF#32 || diff 0x38 0xFFFFFFFF#32

/-- Apply an accepted commit: the words, and the discarded staging set; the slot's state follows at the beat start from
which the entry is in use (R199, R200). -/
def State.commitSlot (s : State) (h i : Nat) (regs : List (Nat × Word)) : State :=
  let clears := commitClears s.regs regs i
  { s with
    regs := regs,
    hosts := { s.hosts with staging := s.hosts.staging.filter fun p => p.1 / 0x20 != h * 0x400 + i },
    loop := { s.loop with commits := s.loop.commits ++ [(i, clears)] } }

/-- The state of a slot whose entry comes into use: cleared, or kept within the new limits; a slot that no longer executes
is IDLE (R187, R200). -/
def State.commitActs (s : State) (i : Nat) (clears : Bool) : State :=
  let hi := (s.sw i 0x28).toInt
  let lo := (s.sw i 0x2C).toInt
  let runs := slotRuns (s.sw i 0) && s.modes.cur.inMask (slotModes (s.sw i 0))
  s.modSlot i fun q =>
    let q1 := if clears then q.cleared else { q with intg := clampI lo hi q.intg, rs1 := clampI lo hi q.rs1 }
    if q1.st = .run && !runs then { q1 with st := .idle } else q1

/-- The entries committed in the last beat come into use (R199, R200). -/
def State.commitBeat (s : State) : State :=
  let s1 := s.loop.commits.foldl (fun s (p : Nat × Bool) => s.commitActs p.1 p.2) { s with loop := { s.loop with commits := [] } }
  if s.loop.commits.isEmpty then s1 else s1.judgeLoop

end Sys2Proof.Machine
end

