-- ==== Sys2Proof/Machine/ModulatorOps.lean ====
section
/-! DEFINITION. The modulator: carriers and crossings, the pulse rules of a leg, the edge list of a cell, the local
outputs, and the trip lines (R151 to R177). -/

namespace Sys2Proof.Machine

/-! ## Crossings of a carrier (R152, R153) -/

/-- The integer nearest to num / den, den > 0; which one at an exact half is open (log entry 11). -/
def nearest (num : Int) (den : Nat) : Int :=
  if (2 * num) % (2 * (den : Int)) = (den : Int) then quo num den else (2 * num + den) / (2 * (den : Int))

/-- The triangular carrier at phase `p` of `d` counts a period, times `d`: −d at the start, +d at mid-period. -/
def tri (d p : Int) : Int := if 2 * (p % d) ≤ d then 4 * (p % d) - d else 3 * d - 4 * (p % d)

/-- The phases at which a stretch from `p0` of `2 * delta` counts meets a vertex of the carrier, with its two ends. -/
def knots (d p0 delta : Int) : List Int :=
  let v0 := p0 / (d / 2) * (d / 2)
  p0 :: ((List.range 3).map fun i => v0 + (d / 2) * ((i : Int) + 1)).filter (fun v => decide (p0 < v) && decide (v < p0 + 2 * delta)) ++
    [p0 + 2 * delta]

/-- The excess of a reference over the carrier at phase `p`, scaled; the reference runs from `m0` by `m1 − m0` a beat. -/
def excess (d p0 delta m0 m1 p : Int) : Int :=
  (m0 * delta + (m1 - m0) * (p - p0)) * d - pu * tri d p * delta

/-- Crossings along a list of phases: ns from the beat start, and the level from there on. -/
def crossList (d p0 delta m0 m1 : Int) (blen : Nat) : List Int → List (Int × Bool)
  | a :: b :: rest =>
    let da := excess d p0 delta m0 m1 a
    let db := excess d p0 delta m0 m1 b
    let more := crossList d p0 delta m0 m1 blen (b :: rest)
    if decide (0 < da) = decide (0 < db) then more
    else
      let den := absI (da - db)
      let sgn : Int := if db < da then 1 else -1
      let num := ((a - p0) * (da - db) + (b - a) * da) * sgn * (blen : Int)
      (nearest num (delta * den * 4294967296).toNat, decide (0 < db)) :: more
  | _ => []

/-- What a comparison of a reference with a carrier asks of a leg over a beat and the beat after it. -/
structure Request where
  /-- the level at the beat start -/
  first : Bool
  /-- the crossings -/
  edges : List (Int × Bool)
  deriving DecidableEq, Repr

/-- The request of a leg: `n` cells in the ranking, rank `r`, beat `j` of `div`, `cpc` carrier periods a cycle. -/
def request (n r j div cpc : Nat) (m0 m1 : Int) (blen : Nat) : Request :=
  let d : Int := ((2 * n * div : Nat) : Int)
  let delta : Int := ((2 * n * cpc : Nat) : Int)
  let p0 : Int := (((2 * n * cpc * j : Nat) : Int) - ((r * div : Nat) : Int)) % d
  { first := decide (0 < excess d p0 delta m0 m1 p0), edges := crossList d p0 delta m0 m1 blen (knots d p0 delta) }

/-! ## Pulse rules (R156 to R159) -/

/-- A leg as its edges of a beat are judged. -/
structure Judge where
  /-- the level held -/
  level : Bool
  /-- instant of its last change, from the beat start -/
  opened : Int
  /-- the change before that, where the last one is in this beat and not yet sent -/
  before : Option Int
  /-- E -/
  acc : Int
  /-- edges kept, newest first -/
  sent : List (Int × Bool)
  /-- intervals dropped and stretched -/
  counts : Nat × Nat
  /-- the instant of a closing edge that is to come after the end of the beat -/
  late : Option Int
  deriving DecidableEq, Repr

/-- The carried error that an interval of a level lengthened by `x` adds. -/
def accBy (level : Bool) (x : Int) : Int := if level then x else -x

/-- Judge the next requested edge at `t` (R156); `b` is the length of the beat. -/
def judgeEdge (l b : Int) (j : Judge) (t : Int) : Judge :=
  let w := t - j.opened
  if l ≤ w then
    { j with level := !j.level, before := some j.opened, opened := t, sent := (t, !j.level) :: j.sent }
  else if 2 * w < l ∧ j.before.isSome then
    { j with level := !j.level, opened := j.before.getD 0, before := none, acc := j.acc - accBy j.level w,
             sent := j.sent.drop 1, counts := (j.counts.1 + 1, j.counts.2) }
  else if b ≤ j.opened + l then { j with late := some t }
  else
    { j with level := !j.level, before := some j.opened, opened := j.opened + l, acc := j.acc + accBy j.level (l - w),
             sent := (j.opened + l, !j.level) :: j.sent, counts := (j.counts.1, j.counts.2 + 1) }

/-- A request for the level already held is no change; it ends the wait for a closing edge that was put off. -/
def backTo (j : Judge) (t : Int) : Judge :=
  match j.late with
  | some u => { j with acc := j.acc + accBy j.level (t - u), late := none }
  | none => j

/-- Judge the requested edges in turn. -/
def judgeAll (l b : Int) : List (Int × Bool) → Judge → Judge
  | [], j => j
  | (t, lev) :: rest, j => judgeAll l b rest (if lev = j.level then backTo j t else judgeEdge l b j t)

/-- Apply E to the leg's next requested edge (R158): a change to level 0 moves earlier by E, a change to level 1 later;
not before the beat start or the previous edge plus L, nor past the next edge or the end of the beat. -/
def applyErr (l b opened acc : Int) : List (Int × Bool) → Int × List (Int × Bool)
  | [] => (acc, [])
  | (t, lev) :: rest =>
    let shift := if lev then acc else -acc
    let low := max 0 (opened + l)
    let high := match rest with | (u, _) :: _ => min u (b - 1) | [] => b - 1
    let t' := if 0 < shift then max t (min high (t + shift)) else min t (max low (t + shift))
    (acc - (if lev then t' - t else t - t'), (t', lev) :: rest)

/-- The level a leg holds at the beat start: the level requested there where its enable goes from 0 to 1 (R153, R156). -/
def startLevel (req : Request) (leg : Leg) : Bool := if leg.en then leg.level else req.first

/-- The edges asked of a leg from the beat start on, and E before them. After an opening edge was withheld the crossing that
closes its interval is withheld as well, and the interval's time in this beat enters E (R157); where no crossing of the beat
closes it, the request stands from the beat start on (log entry 92). -/
def askedOf (b : Int) (req : Request) (leg : Leg) : List (Int × Bool) × Int :=
  if req.first = startLevel req leg then (req.edges, leg.acc)
  else
    match leg.withheld, req.edges with
    | true, (t, _) :: rest =>
      if t < b then (rest, leg.acc - accBy req.first t) else ((0, req.first) :: req.edges, leg.acc)
    | _, _ => ((0, req.first) :: req.edges, leg.acc)

/-- One beat of an enabled leg: the leg after it, the edges sent, and whether its accumulator was cleared (R156 to R159).
`free`: it resumes after a cut, and its first interval is not bound (R161). -/
def legBeat (l b : Int) (req : Request) (free : Bool) (leg : Leg) : Leg × List (Int × Bool) × Bool :=
  let start := if free then -l else if leg.en then -leg.since else 0
  let asked := askedOf b req leg
  let a := applyErr l b start asked.2 (asked.1.filter fun e => decide (e.1 < b))
  let j := judgeAll l b a.2 { level := startLevel req leg, opened := start, before := none, acc := a.1, sent := [],
                              counts := (0, 0), late := none }
  let close := ((asked.1.filter fun e => decide (b ≤ e.1)).find? fun e => e.2 != j.level).map (·.1)
  let short := match close with | some t => decide (2 * (t - j.opened) < l) | none => false
  let held := j.before.isSome && j.late.isNone && decide (b < j.opened + l) && short
  let k := if held then
      { j with level := !j.level, opened := j.before.getD 0, before := none, sent := j.sent.drop 1,
               acc := j.acc - accBy j.level (b - j.opened), counts := (j.counts.1 + 1, j.counts.2) }
    else match j.late with
      | some t => { j with acc := j.acc + accBy j.level (b - t) }
      | none => j
  let clears := decide (l < absI k.acc)
  ({ leg with
      level := k.level, en := true, since := min (b - k.opened) 1000000000, acc := if clears then 0 else k.acc,
      withheld := held, drop := satInc 16 leg.drop k.counts.1, str := satInc 16 leg.str k.counts.2,
      accClr := satInc 16 leg.accClr (b2n clears) },
   k.sent.reverse, clears)

/-- A leg that is not enabled in a beat (R159). -/
def Leg.off (l : Leg) : Leg := { l with en := false, acc := 0, withheld := false }

/-! ## The edge list (R121, R153) -/

/-- An edge entry. -/
def edgeWord (leg1 level : Bool) (t : Int) : Word := bitW 31 leg1 ||| bitW 30 level ||| bitW 29 true ||| wd (t.toNat % 2 ^ 24)

/-- The list of a leg with its level entry at OFFSET 0. -/
def withLevel (first : Bool) (es : List (Int × Bool)) : List (Int × Bool) :=
  match es with
  | (0, _) :: _ => es
  | _ => (0, first) :: es

/-- Two legs' entries in ascending OFFSET, leg 0 before leg 1, padded to eight. -/
def mergeEdges : Nat → List (Int × Bool) → List (Int × Bool) → List Word
  | 0, _, _ => []
  | n + 1, [], [] => 0#32 :: mergeEdges n [] []
  | n + 1, (t, v) :: a, [] => edgeWord false v t :: mergeEdges n a []
  | n + 1, [], (t, v) :: b => edgeWord true v t :: mergeEdges n [] b
  | n + 1, (t, v) :: a, (u, w) :: b =>
    if t ≤ u then edgeWord false v t :: mergeEdges n a ((u, w) :: b) else edgeWord true w u :: mergeEdges n ((t, v) :: a) b

/-- The time a leg spends at level 1 in a beat. -/
def upperTime (b : Int) : Bool → Int → List (Int × Bool) → Int
  | level, t, [] => if level then b - t else 0
  | level, t, (u, v) :: es => (if level then u - t else 0) + upperTime b v u es

/-! ## Cells (R151 to R163) -/

/-- The ACTIVE cells of a phase in the carrier ranking, by CHAIN (R152). -/
def State.ranking (s : State) (x : Nat) : List Nat :=
  (List.range 128).filterMap fun n => (s.phaseCells x).find? fun c => s.cellChain c == n && s.ranked c

/-- Hold references at ±1.0 and share the excess volts among the cells below, in proportion to their weights (R151).
Each pass fixes at least one more cell; `n` passes suffice for `n` cells. -/
def shareVolts : Nat → Int → List (Nat × Int × Int) → List (Nat × Int)
  | 0, _, _ => []
  | n + 1, v, cells =>
    let total := isum (cells.map fun c => c.2.1)
    let want := fun (c : Nat × Int × Int) => if total = 0 then 0 else pmul (pdiv c.2.1 total) v
    let held := cells.filter fun c => decide (c.2.2 < absI (want c))
    if held.isEmpty then cells.map fun c => (c.1, if c.2.2 = 0 then 0 else pdiv (want c) c.2.2)
    else
      let sgn : Int := if v < 0 then -1 else 1
      (held.map fun c => (c.1, sgn * pu)) ++
        shareVolts n (v - sgn * isum (held.map fun c => c.2.2)) (cells.filter fun c => !decide (c.2.2 < absI (want c)))

/-- The references of a phase's cells for a phase voltage, with whether the phase is overmodulated (R151). -/
def State.cellRefs (s : State) (cells : List Nat) (v : Int) : List (Nat × Int) × Bool :=
  let vs := cells.map fun c => (c, (s.cmod c).weight, s.vdcPu c)
  if isum (vs.map fun c => c.2.2) < absI v then (cells.map fun c => (c, if v < 0 then -pu else pu), true)
  else (shareVolts cells.length v vs, false)

/-- A reference of a cell in a list. -/
def refOf (l : List (Nat × Int)) (c : Nat) : Int := ((l.find? fun p => p.1 == c).map (·.2)).getD 0

/-- L of a cell: DEADTIME plus MINON. -/
def State.cellLimit (s : State) (c : Nat) : Int := ((fld (s.cw c 0xA0) 0 16 + fld (s.cw c 0x40) 0 16 : Nat) : Int)

/-- A leg with a state forced: its enable is 1 and E is 0 (R159, R163). -/
def Leg.forced (l : Leg) (level : Bool) : Leg := { l.off with en := true, level := level }

/-- A forced leg of a cell in SERVICE: enable 1 and a level entry (R163). -/
def forcedLeg (code : Nat) (leg : Leg) : Leg × List (Int × Bool) × Bool :=
  if code = 0 then (leg.off, [], false) else (leg.forced (code == 2), [(0, code == 2)], false)

/-- The time at level 1 that an enabled leg delivers in a beat. -/
def deliveredUpper (b : Int) (first : Bool) (x : Leg × List (Int × Bool) × Bool) : Int :=
  if x.1.en then upperTime b first 0 x.2.1 else 0

/-- The modulator's record of one cell for the execution beat: its legs, entries and VREF. `refs` are its references at
the start and the end of the beat, `on` its leg enables. -/
def State.modCellBeat (s : State) (n r c : Nat) (m0 m1 : Int) (on : Bool) : State :=
  let q := s.cmod c
  let nb := s.nextBeat
  let blen := s.execLen
  let b : Int := ((blen / 4294967296 : Nat) : Int)
  let l := s.cellLimit c
  let cpc := fld (s.ureg A.MOD_CFG) 0 6
  let swap := bitAt (s.cw c 0x40) 16
  let ask := fun (neg : Bool) => request n r nb.1 nb.2 cpc (if neg then -m0 else m0) (if neg then -m1 else m1) blen
  let held := (s.cell c).proto == 1 && ((s.cell c).st == .bypassed || (s.cell c).st == .retired)
  let forced := s.modes.cur == .service && s.modes.next.isNone && fld (s.ureg A.MOD_FORCE_CSEL) 0 9 == c && !held
  let fv := s.ureg A.MOD_FORCE_CELL
  let leg := fun (neg : Bool) (code : Nat) (q : Leg) =>
    if on then legBeat l b (ask neg) false q else if forced then forcedLeg code q else (q.off, [], false)
  let l0 := leg swap (fld fv 0 2) q.leg0
  let l1 := leg (!swap) (fld fv 2 2) q.leg1
  let f0 := if on then startLevel (ask swap) q.leg0 else l0.1.level
  let f1 := if on then startLevel (ask (!swap)) q.leg1 else l1.1.level
  let e0 := if l0.1.en then withLevel f0 l0.2.1 else []
  let e1 := if l1.1.en then withLevel f1 l1.2.1 else []
  let vref := if 0 < b then sat (quo ((deliveredUpper b f0 l0 - deliveredUpper b f1 l1) * pu) b.toNat) else 0
  let s1 := s.modCmod c fun q => { q with leg0 := l0.1, leg1 := l1.1, edges := mergeEdges 8 e0 e1, vref := vref }
  s1.eventIf (l0.2.2 || l1.2.2) 0x60 4 c

/-- The modulator for one phase: references, overmodulation, and each cell's record (R151 to R159). -/
def State.modPhase (s : State) (x : Nat) (on : Bool) : State :=
  let cells := s.ranking x
  let v := s.modu.vph.getD x (0, 0)
  let a := s.cellRefs cells v.1
  let z := s.cellRefs cells v.2
  let s1 := if on && (a.2 || z.2) && !cells.isEmpty then
      { s with modu := { s.modu with ovm := modAt (fun o => satInc 8 o 1) x s.modu.ovm } }.event 0x60 1 x
    else s
  let s2 := cells.zipIdx.foldl
    (fun s p => s.modCellBeat cells.length p.2 p.1 (refOf a.1 p.1) (refOf z.1 p.1) on) s1
  ((s.phaseCells x).filter fun c => !cells.contains c).foldl (fun s c => s.modCellBeat 1 0 c 0 0 false) s2

/-- Legs of ACTIVE cells are enabled: a switching mode, and no HOLD decided in this beat (R58, R195). -/
def State.legsOn (s : State) : Bool := s.modes.cur.switching && s.modes.next != some .hold

/-- The modulator over the three phases. -/
def State.modulate (s : State) : State := ((s.modPhase 0 s.legsOn).modPhase 1 s.legsOn).modPhase 2 s.legsOn

/-- FLAGS of a cell's record: leg enables, and bypass request for every cell that is not to have its bypass open (R120,
R133, R255). -/
def State.edgeFlags (s : State) (c : Nat) : Nat :=
  let q := s.cmod c
  b2n q.leg0.en + 2 * b2n q.leg1.en + 4 * b2n ((s.cell c).st != .active)

/-- The EDGES record of a cell from an engine (R120 to R122). -/
def State.edgesRecord (s : State) (eng : Nat) (holder : Bool) (c : Nat) : List Byte :=
  let q := s.cmod c
  downRecord 1 (s.cellPos c) (s.ang.seq % 65536) (eng + 16 * (s.cell c).proto + 128 * b2n holder) (s.cellVer c) (s.edgeFlags c)
    ((q.edges.flatMap fun w => leBytes 4 w.toNat) ++ leBytes 4 (wi q.vref).toNat ++ leBytes 4 (wi (s.trk c).share).toNat ++
      leBytes 4 (s.nextStart / ns) ++ leBytes 4 (s.execLen / 16777216))

/-! ## Local outputs (R160, R164 to R167) -/

/-- A local output. -/
def State.lhb (s : State) (k : Nat) : Lhb := s.modu.lhb.getD k lhbReset

/-- Change one. -/
def State.modLhb (s : State) (k : Nat) (f : Lhb → Lhb) : State :=
  { s with modu := { s.modu with lhb := modAt f k s.modu.lhb } }

/-- L of an output in half nanoseconds. -/
def Lhb.limit (l : Lhb) : Int := ((2 * (fld l.dt 0 16 + fld l.dt 16 16) : Nat) : Int)

/-- Nanoseconds rounded down to 2.5 ns, in half nanoseconds. -/
def half25 (n : Nat) : Nat := 2 * n / 5 * 5

/-- The stream of an engine runs: it is in step and not cut off (R167). -/
def Engine.streams (e : Engine) : Bool := e.inStep && !e.cut && !e.flag && !e.mute

/-- The engine whose stream the output stage drives, as MOD_SRC names it. -/
def srcEngine (src : Nat) : Option Nat := if src = 0xA then some 0 else if src = 0xB then some 1 else none

/-- The code of an engine in MOD_SRC. -/
def srcOf (e : Nat) : Nat := if e = 0 then 0xA else 0xB

/-- The stream the outputs take at their next period boundary (R167): the present one while it runs, unless the pontil has
been granted to an engine that runs another; else the holder's, or the other engine's, if it runs. -/
def State.nextSrc (s : State) : Nat :=
  let ok := fun (e : Nat) => (s.engine e).streams
  let of := fun (e : Nat) => if ok e then srcOf e else if ok (1 - e) then srcOf (1 - e) else 0
  match s.modu.take, srcEngine s.modu.src with
  | some e, d => if ok e then srcOf e else match d with | some d => of d | none => of e
  | none, some d => of d
  | none, none => of (s.gaf.holder.getD 0)

/-- The forced state of an output whose settings are `l` (R163), from the beat start after its write on (R24). Once HOLD is
decided an output whose mode mask excludes HOLD stays low (R55). -/
def State.forceLhb (s : State) (k : Nat) (l : Lhb) : Nat :=
  if s.modes.cur = .service ∧ (s.modes.next = some .hold → l.inMode .hold = true) then fld (s.ureg A.MOD_FORCE_LHB) (2 * k) 2
  else 0

/-- A trip line of the output's mask is asserted. -/
def State.lhbTripped (s : State) (l : Lhb) : Bool := decide (fld l.cfg 16 8 &&& s.modu.lines ≠ 0)

/-- The dead time of an output that inserts it, in half nanoseconds (R164). -/
def Lhb.dead (l : Lhb) : Int := if bitAt l.cfg 2 then 0 else ((2 * fld l.dt 0 16 : Nat) : Int)

/-- Level of an output a time after its period boundary. -/
def Lhb.levelAt (l : Lhb) (t : Int) : Bool :=
  match (l.edges.filter fun e => decide (e.1 ≤ t)).getLast? with | some e => e.2 | none => l.first

/-- The edges of the period that ends whose dead time still runs, seen from the next boundary. -/
def Lhb.carried (l : Lhb) : List (Int × Bool) :=
  let p : Int := (half25 l.aper : Nat)
  if !l.on || l.cut || l.safe then []
  else (l.edges.filter fun e => decide (p < e.1 + l.dead)).map fun e => (e.1 - p, e.2)

/-- Half a nanosecond, in the model's unit of time. -/
abbrev halfNs : Nat := 2147483648

/-- A requested interval of length zero is dropped: a compare of 0 or of the whole period gives one in every period (R156,
R166). -/
def Leg.dropped (l : Leg) (zero : Bool) : Leg := { l with drop := satInc 16 l.drop (b2n zero) }

/-- What an output's period asks: level 1 for the compare, level 0 to its end, and the period after it alike (R164). -/
def lhbRequest (p c : Int) : Request :=
  { first := decide (0 < c),
    edges := (if 0 < c ∧ c < p then [(c, false)] else []) ++ (if 0 < c ∧ c < p then [(p, true), (p + c, false)] else []) }

/-- The modulator events that an output's period gives: its start, and each applied fall of its level (R168). -/
def State.lhbEvents (s : State) (k : Nat) (runs : Bool) (falls : List Int) : State :=
  let of := fun (src : Nat) => (List.range 16).filter fun n =>
    fld (s.ureg (A.MOD_MEV n)) 0 3 == src && fld (s.ureg (A.MOD_MEV n)) 4 4 == k
  let due := (of 1).map (fun n => (n, s.now)) ++ falls.flatMap fun t => (of 2).map fun n => (n, s.now + t.toNat * halfNs)
  { s with modu := { s.modu with
    mev := (s.modu.mev.filter fun p => !((of 1) ++ (of 2)).contains p.1) ++ if runs then due else [] } }

/-- A modulator event that is due still comes: a pulse end does while the output's period runs on with that fall (R168). -/
def State.mevStands (s : State) (n t : Nat) : Bool :=
  let v := s.ureg (A.MOD_MEV n)
  let l := s.lhb (fld v 4 4)
  fld v 0 3 != 2 ||
    (l.on && !l.cut && !l.safe && l.edges.any fun e => !e.2 && l.start + e.1.toNat * halfNs == t)

/-- The compare of a period, whether this application of it clamps, and whether it is an application (R164 to R166). -/
def State.lhbCompare (s : State) (l : Lhb) (src slot per : Nat) : Nat × Bool × Bool :=
  if src = 1 then
    let duty := (s.slot slot).out
    (quoN ((clampI 0 pu duty).toNat * per) 0x10000000, decide (pu < duty), true)
  else
    match l.pend with
    | some p => (min p.2 per, decide (per < p.2), true)
    | none => (min l.acmp per, l.clamp, false)

/-- A period boundary of a local output, a period after the one before (R164 to R168, R171). -/
def State.lhbBoundary (s0 : State) (k : Nat) : State :=
  let s := s0.advance ((s0.lhb k).start + half25 (s0.lhb k).aper * halfNs)
  let l := s.lhb k
  let src := s.nextSrc
  let cfg := s.ureg (A.LHB k 0)
  let slot := fld (s.ureg (A.LHB k 0x10)) 0 10
  let per := match l.pend with | some p => p.1 | none => l.aper
  let cmp := s.lhbCompare l (fld cfg 0 2) slot per
  let l1 := { l with
    cfg := cfg, dt := s.ureg (A.LHB k 4), slot := slot, pend := none, aper := per, acmp := cmp.1, clamp := cmp.2.1, start := s.now }
  let tripped := s.lhbTripped l1
  let forced := s.forceLhb k l1
  let mode := if s.modes.next = some .hold then Mode.hold else s.modes.cur
  let runs := src != 0 && !s.modu.fabStop && (forced != 0 || (bitAt cfg 31 && l1.inMode mode))
  let req := lhbRequest ((half25 per : Nat) : Int) ((half25 cmp.1 : Nat) : Int)
  let leg := { l.leg with en := l.leg.en && l.on && !l.cut && !l.safe }
  let b := if forced != 0 then (leg.forced (forced == 2), [], false)
           else if runs then legBeat l1.limit ((half25 per : Nat) : Int) req l.cut leg else (leg.off, [], false)
  let first := if forced != 0 then forced == 2 else startLevel req leg
  let s1 := s.modLhb k fun _ => { l1 with
    on := runs, cut := tripped, safe := src == 0, cutp := satInc 16 l.cutp (b2n tripped),
    leg := (if tripped then b.1.cut else b.1).dropped (runs && forced == 0 && (half25 cmp.1 == 0 || half25 cmp.1 == half25 per)),
    first := (match l.carried with | e :: _ => !e.2 | [] => first), edges := l.carried ++ b.2.1 }
  let s2 := { s1 with modu := { s1.modu with src := src, take := none } }
  let s3 := s2.lhbEvents k runs ((b.2.1.filter fun e => !e.2).map Prod.fst)
  (s3.eventIf (cmp.2.1 && cmp.2.2) 0x60 2 k).eventIf b.2.2 0x60 4 k

/-- A forced state is applied to an output, or released (R159, R163). From one level to the other it passes through the
dead time; an output released is low until its next period boundary (log entry 93). -/
def State.applyForce (s : State) (k code : Nat) : State :=
  let l := s.lhb k
  let level := code == 2
  let t : Int := (((s.now - l.start) / halfNs : Nat) : Int)
  let past := l.edges.filter fun e => decide (e.1 ≤ t)
  let dead := s.modu.fabStop || s.nextSrc == 0
  if code = 0 then s.modLhb k fun l => { l.low with leg := l.leg.off }
  else if l.on then
    s.modLhb k fun l => { l with
      leg := l.leg.forced level, edges := if l.levelAt t = level then past else past ++ [(t, level)] }
  else
    s.modLhb k fun l => { l with
      leg := l.leg.forced level, on := !dead, start := s.now, first := level, edges := [], cut := l.cut || s.lhbTripped l }

/-- The forced states of the outputs change from one value of MOD_FORCE_LHB to another. -/
def State.applyForces (s : State) (old new : Word) : State :=
  (List.range 12).foldl (fun s k =>
    if fld old (2 * k) 2 = fld new (2 * k) 2 then s else s.applyForce k (fld new (2 * k) 2)) s

/-- The driving stream has stopped: every output is low within 40 ns, and none drives it until another takes over at a period
boundary (R167). -/
def State.streamStops (s : State) : State :=
  { s with modu := { s.modu with lhb := s.modu.lhb.map fun (l : Lhb) => { l.low with safe := true }, src := 0 } }.event 0x60 5

/-- Whether the stream that drives the outputs has stopped. -/
def State.streamGone (s : State) : Bool :=
  match srcEngine s.modu.src with | some e => !(s.engine e).streams | none => false

/-- The pins of an output a time after its period boundary, in half nanoseconds: pulse and enable (R164). -/
def Lhb.pins (l : Lhb) (t : Int) : Bool × Bool :=
  if !l.on || l.cut || l.safe then (false, false)
  else
    match (l.edges.filter fun e => decide (e.1 ≤ t)).getLast? with
    | some e => (if decide (e.1 + l.dead / 2 ≤ t) then e.2 else !e.2, decide (e.1 + l.dead ≤ t))
    | none => (l.first, true)

/-! ## Trip lines (R169 to R173) -/

/-- CMP_CFG of a comparator as it is in effect. -/
def State.cmpCfg (s : State) (n : Nat) : Word := s.ureg (A.CMP_CFG n)

/-- The comparator a circuit serves: its own, or for circuits 16 and 17 the one CMP_SUB16 or CMP_SUB17 names (R111). -/
def State.cmpServed (s : State) (c : Nat) : Option Nat :=
  if c < 16 then some c
  else
    let v := fld (s.ureg (if c = 16 then A.CMP_SUB16 else A.CMP_SUB17)) 0 5
    if v < 16 then some v else none

/-- The circuit that drives a comparator's output: a spare circuit that serves it takes its place (R111). -/
def State.cmpCircuit (s : State) (n : Nat) : Nat :=
  if s.cmpServed 16 = some n then 16 else if s.cmpServed 17 = some n then 17 else n

/-- The sampled operation of R110 is in force. -/
def State.sampled (s : State) : Bool := s.modes.cur == .watch && bitAt (s.ureg A.CMP_CFG_G) 0

/-- The comparators are powered and not gated: always, but for sampled operation outside the live part of a window. -/
def State.cmpPowered (s : State) : Bool := s.ready 7 && (!s.sampled || s.adc.cmpLive)

/-- A comparator's output after blanking (R109, R115): that of the circuit that serves it, while it is enabled. -/
def State.cmpOut (s : State) (n : Nat) : Bool :=
  s.cmpPowered && bitAt (s.cmpCfg n) 31 && s.adc.cmpRaw.testBit (s.cmpCircuit n) &&
  !(s.adc.blank.any fun p => p.1 == n && decide (s.now < p.2))

/-- The comparators' contribution to the eight lines. -/
def State.cmpLines (s : State) : Nat :=
  (List.range 16).foldl (fun m n => if s.cmpOut n then m ||| fld (s.cmpCfg n) 16 8 else m) 0

/-- The raw trip lines: comparators and the host's lines. -/
def State.rawLines (s : State) : Nat := s.cmpLines ||| fld (s.reg A.MOD_TRIP_SW) 0 8

/-- LNK_TRIPSEL of a ring. -/
def State.tripSel (s : State) (k : Nat) : Nat := fld (s.reg (A.LNK k A.LNK_TRIPSEL)) 0 8

/-- FILT of a line. -/
def State.tripFilt (s : State) (line : Nat) : Nat :=
  if line < 4 then fld (s.ureg A.MOD_TRIPFILT_LO) (8 * line) 8 else fld (s.ureg A.MOD_TRIPFILT_HI) (8 * (line - 4)) 8

/-- An output meets the assertion of a line of its mask: low to the end of its period (R171, R172). -/
def Lhb.trip (line : Nat) (l : Lhb) : Lhb :=
  if (fld l.cfg 16 8).testBit line then
    { l with cut := true, leg := l.leg.cut, cutp := if l.cut then l.cutp else satInc 16 l.cutp 1 }
  else l

/-- A trip line cuts a ring: a CUT with the lines that cause it (R122, R170). -/
def State.tripCut (s : State) (k lines : Nat) : State := (s.sendCut k lines).modRing k fun r => { r with tripped := true }

/-- A filtered line asserts: latch, TRIP, a CUT on each ring naming it that no line has cut in this beat yet, and each output
naming it low (R169 to R173). -/
def State.tripOn (s : State) (line : Nat) : State :=
  let s1 := { s with modu := { s.modu with lines := setBit s.modu.lines line true, latch := setBit s.modu.latch line true } }
  let s2 := (s1.event 0x60 0 line).trigger 4
  let s3 := (List.range 16).foldl (fun s k =>
    if s.ringEn k && (s.tripSel k).testBit line && !(s.ringSt k).tripped then s.tripCut k (2 ^ line) else s) s2
  { s3 with modu := { s3.modu with lhb := s3.modu.lhb.map (Lhb.trip line) } }

/-- A filtered line clears; a cut in force runs to the end of its beat or period (R173). -/
def State.tripOff (s : State) (line : Nat) : State :=
  { s with modu := { s.modu with lines := setBit s.modu.lines line false } }

/-- At a beat start each ring with an asserted line sends a new CUT; the other rings' cuts end (R170). -/
def State.beatCuts (s : State) : State :=
  (List.range 16).foldl (fun s k =>
    let s1 := s.modRing k fun r => { r with cut := false, tripped := false }
    let m := s.tripSel k &&& s.modu.lines
    if s.ringEn k && decide (m ≠ 0) then s1.tripCut k m else s1) s

/-- The modulator events a beat start gives: each beat offset (R168). -/
def State.mevBeat (s : State) (start : Nat) : State :=
  let of := (List.range 16).filter fun n => fld (s.ureg (A.MOD_MEV n)) 0 3 == 3
  { s with modu := { s.modu with
    mev := (s.modu.mev.filter fun p => !of.contains p.1) ++
      of.map fun n => (n, start + fld (s.ureg (A.MOD_MEV n)) 8 24 * ns) } }

/-- Clear every cell and output counter (R155, R174, R176). -/
def State.clearCounters (s : State) : State :=
  let leg := fun (l : Leg) => { l with drop := 0, str := 0, accClr := 0 }
  { s with modu := { s.modu with
    cells := (s.modu.cells.map fun (p : Nat × CellMod) =>
      (p.1, { p.2 with leg0 := leg p.2.leg0, leg1 := leg p.2.leg1, cutb := 0 })).filter fun p => p.2 != cellModReset,
    lhb := s.modu.lhb.map fun (l : Lhb) => { l with leg := leg l.leg, cutp := 0 } } }

end Sys2Proof.Machine
end

