-- ==== Sys2Proof/Machine/SafetyOps.lean ====
section
/-! DEFINITION. What the safety channels do (R314 to R336): latches, groups and their feedback, dark pulses, two-channel
inputs, seal switches, intertrip envelopes, close permission. -/

namespace Sys2Proof.Machine

/-- The safety block works: SAF is ready (R316). -/
def State.safOn (s : State) : Bool := s.live && s.ready 17

/-- A channel has not stopped: it samples and judges (R315). -/
def State.sampling (s : State) : Bool := s.safOn && (s.saf.xOk || s.saf.yOk)

/-! ## Latches -/

/-- Bits of SAF_LATCH (R341). -/
abbrev lDisc : Nat := 0
abbrev lCross : Nat := 1
abbrev lTest : Nat := 2
abbrev lFbdis : Nat := 3
abbrev lItsup : Nat := 4
abbrev lChannel : Nat := 5

/-- A bit of SAF_LATCH is set: the event, and cause SAFE_FAULT while any bit stands (R325). -/
def State.safLatch (s : State) (bit : Nat) : State :=
  if s.saf.latch.testBit bit then s
  else
    let s1 := { s with saf := { s.saf with latch := setBit s.saf.latch bit true } }
    (s1.event 0xC0 1 bit).causeOn cSafeFault

/-- A bit of SAF_LATCH clears. -/
def State.safClear (s : State) (bit : Nat) : State :=
  let l := setBit s.saf.latch bit false
  let s1 := { s with saf := { s.saf with latch := l } }
  if l = 0 then s1.causeOff cSafeFault else s1

/-! ## Two-channel inputs (R321 to R325) -/

/-- SAF_SIP_CFG of a pair, as the channels have it. -/
def State.sipCfg (s : State) (p : Nat) : Word := s.sreg (A.SAF_SIP_CFG p)

/-- A pair. -/
def State.sip (s : State) (p : Nat) : Sip := s.saf.sips.getD p sipReset

/-- Change a pair. -/
def State.modSip (s : State) (p : Nat) (f : Sip → Sip) : State :=
  { s with saf := { s.saf with sips := modAt f p s.saf.sips } }

/-- The pair is in run (R322). -/
def Sip.run (q : Sip) : Bool := q.a && q.b && !q.disc && !q.cross

/-- A pair with a FUNC demands. -/
def State.sipDemands (s : State) (func p : Nat) : Bool :=
  let c := s.sipCfg p
  fld c 0 2 != 0 && fld c 2 2 == func && !(s.sip p).run

/-- A STOP pair demands. -/
def State.stopDemand (s : State) : Bool := (List.range 8).any fun p => s.sipDemands 1 p

/-- Every PERMIT pair is in run. -/
def State.permitRun (s : State) : Bool := (List.range 8).all fun p => !s.sipDemands 2 p

/-- A STOP demand de-energises every group and raises cause SAFE_DEMAND; its end ends the condition (R321, R322). -/
def State.judgeStop (s : State) : State :=
  if s.stopDemand then
    (if s.modes.cond.testBit cSafeDemand then s.groupsOff else (s.groupsOff.event 0xC0 0).causeOn cSafeDemand)
  else s.causeOff cSafeDemand

/-- A discrepancy fault of a pair (R324). -/
def State.discFault (s : State) (p : Nat) : State :=
  (s.modSip p fun q => { q with disc := true, arm := false }).safLatch lDisc

/-- A crossfault of a pair (R323). -/
def State.crossFault (s : State) (p : Nat) : State :=
  (s.modSip p fun q => { q with cross := true, arm := false }).safLatch lCross

/-- SAF_LATCH.DISC and CROSS clear when no pair holds the latch (R325). -/
def State.sipLatches (s : State) : State :=
  let s1 := if s.saf.sips.any (·.disc) then s else s.safClear lDisc
  if s1.saf.sips.any (·.cross) then s1 else s1.safClear lCross

/-- A level reads the run level of a channel: A high; B high for an equivalent pair, low for an antivalent one. -/
def runLevel (type : Nat) (isB level : Bool) : Bool := if isB && type == 2 then !level else level

/-- One pair at a tick: sampling, the discrepancy counter, arming and clearing (R322 to R325). A sample within the pulse
of the input's test line, or 100 µs after it, is the previous one, and so is that of a channel that has stopped (R315). -/
def State.sipTick (s : State) (si : BitVec 16) (p : Nat) : State :=
  let c := s.sipCfg p
  let type := fld c 0 2
  if type = 0 then s
  else
    let q := s.sip p
    let busy := fun (line : Nat) => decide (s.now < s.saf.tpUntil.getD line 0)
    let a := if busy (fld c 4 2) || !s.saf.xOk then q.a else runLevel type false (si.getLsbD (2 * p))
    let b := if busy (fld c 6 2) || !s.saf.yOk then q.b else runLevel type true (si.getLsbD (2 * p + 1))
    let cnt := if a == b then 0 else min (q.cnt + 1) 2047
    let latched := q.disc || q.cross
    let clears := latched && q.arm && a && b
    let s1 := s.modSip p fun q => { q with
      a := a, b := b, cnt := cnt, arm := (q.arm || (latched && !a && !b)) && !clears,
      disc := q.disc && !clears, cross := q.cross && !clears }
    if fld c 16 11 ≤ cnt ∧ (q.cnt < fld c 16 11 ∨ !q.disc) then s1.discFault p else s1

/-! ## Groups and their feedback (R318) -/

/-- FB_T. -/
def State.fbT (s : State) : Nat := fld (s.sreg A.SAF_TEST_CFG) 16 10

/-- The mirrors read what the command asks: open while energised, closed while off. -/
def Group.follows (q : Group) : Bool := if q.cmd then !q.fba && !q.fbb else q.fba && q.fbb

/-- The feedback of a group disagrees with its command after FB_T (R318), reckoned from the command while the change is under
way, and in steady state from where the disagreement began (DEDUCED, log entry 186). -/
def State.astray (s : State) (q : Group) : Bool :=
  !q.follows && (if q.conf = 3 then decide (q.cmdAt + ms s.fbT ≤ s.now) else decide (s.fbT < q.wrong))

/-- Cause CONTACTOR is raised for a group, with its event where the condition was absent (R318, R340). -/
def State.contactorOn (s : State) (g : Nat) : State :=
  (s.eventIf (!s.modes.cond.testBit cContactor) 0xC0 2 g).causeOn cContactor

/-- The condition of cause CONTACTOR (R318). -/
def State.judgeContactor (s : State) : State :=
  match (List.range 4).find? fun g => s.astray (s.group g) with
  | some g => s.contactorOn g
  | none => s.causeOff cContactor

/-- A change that did not complete within FB_T (R318). -/
def State.fbFail (s : State) (g : Nat) : State :=
  let s1 := s.modGroup g fun q => { q with fbFail := true }
  ((s1.groupOff g).event 0xC0 2 g).causeOn cContactor

/-- FB_T has passed over a change (R318): an energised group is de-energised, however often; one that is off fails once, and
the condition of CONTACTOR is present while it does not follow. -/
def State.fbLate (s : State) (g : Nat) : State :=
  if (s.group g).cmd || !(s.group g).fbFail then s.fbFail g else s.contactorOn g

/-- The group's feedback has followed for 10 ms. -/
def State.fbConfirm (s : State) (g : Nat) : State :=
  s.modGroup g fun q => { q with conf := if q.cmd then 2 else 1, good := 10 }

/-- One group at a tick: its mirrors, read by the channel each belongs to, and its switches read back (R314, R318, R319). -/
def State.groupTick (s : State) (mirrors readback : BitVec 8) (g : Nat) : State :=
  let a := if s.saf.xOk then mirrors.getLsbD (2 * g) else (s.group g).fba
  let b := if s.saf.yOk then mirrors.getLsbD (2 * g + 1) else (s.group g).fbb
  let on := fun (ok off read : Bool) (n : Nat) => if !ok then n else if off && read then min (n + 1) 6 else 0
  let s1 := s.modGroup g fun q =>
    let q := { q with
      fba := a, fbb := b, rdH := s.saf.xOk && readback.getLsbD g, rdL := s.saf.yOk && readback.getLsbD (4 + g) }
    { q with
      good := if q.follows then min (q.good + 1) 10 else 0, wrong := if q.follows then 0 else q.wrong + 1,
      onH := on s.saf.xOk (!q.h) (readback.getLsbD g) q.onH, onL := on s.saf.yOk (!q.l) (readback.getLsbD (4 + g)) q.onL,
      disagree := if a == b then 0 else q.disagree + 1,
      conf := if q.conf = 3 then 3 else if q.follows then q.conf else 0 }
  let q := s1.group g
  let s1 := if q.onH = 6 ∨ q.onL = 6 then s1.safLatch lTest else s1
  let s2 := if q.good = 10 ∧ (q.conf = 3 ∨ q.conf = 0) then s1.fbConfirm g else s1
  let q := s2.group g
  if q.conf = 3 then
    (if q.cmdAt + ms s.fbT ≤ s.now ∧ !q.follows then s2.fbLate g else s2)
  else if !q.follows && (a == b || decide (s.fbT < q.disagree)) then s2.safLatch lFbdis
  else s2

/-! ## Seal switches (R326 to R328) -/

/-- A seal switch. -/
def State.seal (s : State) (k : Nat) : Seal := s.saf.seals.getD k sealReset

/-- Change one. -/
def State.modSeal (s : State) (k : Nat) (f : Seal → Seal) : State :=
  { s with saf := { s.saf with seals := modAt f k s.saf.seals } }

/-- A valid reading has been taken. -/
def Seal.valid (q : Seal) : Bool := q.known && !q.bad

/-- A switch reads closed, an invalid one as R327 treats it: SEAL_7 as open, the others as closed. -/
def State.sealClosed (s : State) (k : Nat) : Bool :=
  let q := s.seal k
  if q.valid then q.val else k != 7

/-- Reading code: 0 open, 1 closed, 2 invalid. -/
def Seal.code (q : Seal) : Nat := if !q.valid then 2 else b2n q.val

/-- A change of a switch's value or validity (R328), and what SEAL_7 does in SERVICE (R327). An open profile edit is
abandoned as SEAL_3 turns closed or invalid (R268). -/
def State.sealMoved (s : State) (k : Nat) (old new : Seal) : State :=
  let s0 := s.modSeal k fun _ => new
  let s1 := if k = 3 ∧ new.code ≠ 0 ∧ old.code ≠ new.code ∧ s.rti.busy = none then
      { s0 with rti := { s0.rti with edit := none, staging := [] } } else s0
  let s2 := if ((old.known || old.bad) && old.code ≠ new.code) || (new.bad && !old.bad) then s1.event 0xC0 3 k [old.code, new.code] else s1
  let s3 := s2.eventIf (new.bad && !old.bad) 0xC0 4 k
  if k = 7 ∧ s.modes.cur = .service ∧ s.sealClosed 7 ∧ !s3.sealClosed 7 then s3.causeOn cSeal else s3

/-- What a channel reads of a switch's two contacts. -/
def sealRead (no nc : Bool) : Option Bool := if no && !nc then some true else if !no && nc then some false else none

/-- One switch at a 10 ms sample (R326); a channel that has stopped reads nothing, and the other's reading stands (R315). -/
def State.sealStep (s : State) (noX ncX noY ncY : BitVec 8) (k : Nat) : State :=
  let rx := sealRead (noX.getLsbD k) (ncX.getLsbD k)
  let ry := sealRead (noY.getLsbD k) (ncY.getLsbD k)
  let x := if s.saf.xOk then rx else ry
  let y := if s.saf.yOk then ry else rx
  let q := s.seal k
  let equal := if x.isNone || y.isNone then q.equal + 1 else 0
  let differ := if x != y then q.differ + 1 else 0
  let isGood := x.isSome && x == y
  let good := if isGood then min (q.good + 1) 2 else 0
  let repeats := isGood && q.cand == x
  let q1 := { q with
    equal := min equal 3, differ := min differ 3, good := good, cand := if isGood then x else none,
    val := if repeats then x.getD q.val else q.val, known := q.known || repeats,
    bad := if equal ≥ 3 ∨ differ ≥ 3 then true else if good = 2 then false else q.bad }
  s.sealMoved k q q1

/-- SELOK and the profile the seals select (R263). -/
def State.selOk (s : State) : Bool := (s.seal 0).valid && (s.seal 1).valid && (s.seal 2).valid

/-- The selected profile. -/
def State.psel (s : State) : Nat := b2n (s.seal 0).val + 2 * b2n (s.seal 1).val + 4 * b2n (s.seal 2).val

/-! ## Intertrip (R329 to R334) -/

/-- A source. -/
def State.source (s : State) (i : Nat) : Source := s.saf.sources.getD i sourceReset

/-- Change one. -/
def State.modSource (s : State) (i : Nat) (f : Source → Source) : State :=
  { s with saf := { s.saf with sources := modAt f i s.saf.sources } }

/-- SRC_CTRL of a source: EN, PERM, CMDS. -/
def State.srcCtrl (s : State) (i : Nat) : Word := s.sreg (A.SAF_IT_SRC_CTRL i)

/-- A network has delivered no valid copy for more than 50 ms (R331). -/
def State.netSilent (s : State) (n : Nat) : Bool :=
  s.saf.silent.getD n false || decide (s.saf.lastOk.getD n 0 + ms 50 < s.now)

/-- Count an accepted or rejected copy of a network. -/
def State.itCount (s : State) (n : Nat) (ok : Bool) : State :=
  { s with saf := { s.saf with itCnt := modAt (fun c => if ok then (satInc 16 c.1 1, c.2) else (c.1, satInc 16 c.2 1)) n s.saf.itCnt } }

/-- Copies held longer than 4 ms have found no partner: a TRIP or BLOCK_CLOSE one is counted as unpaired while neither
network is silent, unless it has acted singly (R331). -/
def State.dropUnpaired (s : State) (net src : Nat) : State :=
  let gone := fun (c : Copy) => c.net == net && c.src == src && decide (c.at_ + ms 4 < s.now)
  let n := (s.saf.copies.filter fun c => gone c && c.cmd != 3 && !c.acted).length
  let counted := if s.netSilent 0 || s.netSilent 1 then 0 else n
  { s with saf := { s.saf with
      copies := s.saf.copies.filter fun c => !gone c, itUnp := satInc 16 s.saf.itUnp counted } }

/-- Every held copy older than 4 ms. -/
def State.dropAllUnpaired (s : State) : State :=
  s.saf.copies.foldl (fun s c => s.dropUnpaired c.net c.src) s

/-- The index of the enabled source with an identifier (R330). -/
def State.sourceOf (s : State) (id : Nat) : Option Nat :=
  (List.range 8).find? fun i => bitAt (s.srcCtrl i) 0 && (s.sreg (A.SAF_IT_SRC_ID i)).toNat == id

/-- Age of a copy at a receive timestamp, ns. -/
def copyAge (rx : Nat) (bytes : List Byte) : Int := (rx : Int) - (byteFld bytes 12 8 : Nat)

/-- The checks of a copy (R330), but for the sequence: the source index if they hold. -/
def State.copyOk (s : State) (bytes : List Byte) (rx : Nat) : Option Nat :=
  let b := padTo 48 bytes
  let cmd := byteFld b 2 1
  match s.sourceOf (byteFld b 4 4) with
  | none => none
  | some i =>
    let dest := byteFld b 20 8
    let age := copyAge rx b
    if bytes.length = 48 ∧ byteFld b 0 1 = 1 ∧ 1 ≤ cmd ∧ cmd ≤ 3 ∧ byteFld b 3 1 = 255 - cmd ∧ byteFld b 1 1 = 0 ∧
       byteFld b 28 16 = 0 ∧ bitAt (s.srcCtrl i) (3 + cmd) ∧
       byteFld b 44 4 = crcR 0xEDB88320 (s.sreg (A.SAF_IT_SEED i)).toNat 0xFFFFFFFF (slice b 0 44) ∧
       (dest = 0 ∨ dest = s.part.serial) ∧
       (s.clock.sync ≠ .ptp ∨ (-1000000 ≤ age ∧ age ≤ 1000000000))
    then some i else none

/-- TRIP, BLOCK_CLOSE or PERMIT_CLOSE acts (R331). -/
def State.envelopeActs (s : State) (i cmd : Nat) : State :=
  if cmd = 1 then (s.groupsOff.event 0xC1 0 i).causePulse cIntertrip
  else if cmd = 2 then (s.modSource i fun q => { q with blocked := true }).event 0xC1 1 i
  else s.modSource i fun q => { q with
    blocked := false, window := some (s.now + ms (fld (s.sreg A.SAF_IT_CFG) 0 13)) }

/-- An accepted copy meets what is held of the other network, and is held itself where it meets none: a partner may follow
within 4 ms though the other network was silent (R331). -/
def State.pairCopy (s : State) (c : Copy) : State :=
  let other := 1 - c.net
  match s.saf.copies.find? fun d => d.net == other && d.src == c.src && d.seq == c.seq with
  | some d =>
    let s1 := { s with saf := { s.saf with
      copies := s.saf.copies.filter fun e => !(e.net == other && e.src == c.src && e.seq == c.seq) } }
    if d.bytes ≠ c.bytes then
      { s1 with saf := { s1.saf with itDis := satInc 16 s1.saf.itDis 1 } }.event 0xC1 2 c.src
    else if c.cmd = 3 then
      let agedD : Int := d.age + ((s.now - d.at_) / ns : Nat)
      (if s.clock.sync = .ptp ∧ c.age ≤ 10000000 ∧ agedD ≤ 10000000 then s1.envelopeActs c.src 3 else s1)
    else s1.envelopeActs c.src c.cmd
  | none =>
    let acts := s.netSilent other && c.cmd != 3
    let s1 := { s with saf := { s.saf with copies := s.saf.copies ++ [{ c with acted := acts }] } }
    if s.netSilent other then
      let s2 := if s.saf.single.getD other false then s1
                else ({ s1 with saf := { s1.saf with single := setAt true other s1.saf.single } }.event 0xC1 3 c.src)
      if !acts then s2 else s2.envelopeActs c.src c.cmd
    else s1

/-- A copy of an envelope from PRO_A (0) or PRO_B (1) with its receive timestamp (R330, R331). One whose CMD_N is not CMD's
complement raises COMPLEMENT_MISMATCH too (R400). -/
def State.envelope (s : State) (net : Nat) (bytes : List Byte) (rx : Nat) : State :=
  let s := s.dropAllUnpaired
  let b := padTo 48 bytes
  let s0 := (s.eventIf (byteFld b 0 1 ≠ 1) 0xC1 5 net).eventIf (byteFld b 3 1 ≠ 255 - byteFld b 2 1) 0xC1 56 net
  match s.copyOk bytes rx with
  | none => (s0.itCount net false).event 0xC1 4 net
  | some i =>
    let seq := byteFld b 8 4
    let q := s.source i
    let last := if net = 0 then q.seqA else q.seqB
    let d := match last with | some l => (seq + 0x100000000 - l) % 0x100000000 | none => 1
    if d = 0 then s.itCount net false
    else if 0x80000000 < d then (s.itCount net false).event 0xC1 4 net
    else
      let s1 := (s.itCount net true).modSource i fun q =>
        if net = 0 then { q with seqA := some seq } else { q with seqB := some seq }
      let s2 := { s1 with saf := { s1.saf with
        lastOk := setAt s1.now net s1.saf.lastOk, silent := setAt false net s1.saf.silent,
        single := setAt false net s1.saf.single, itCond := false } }
      s2.pairCopy { net := net, src := i, seq := seq, cmd := byteFld b 2 1, bytes := b, at_ := s.now, acted := false, age := copyAge rx b }

/-- The instant at which intertrip supervision latches: both networks silent for SUP (R334). -/
def State.itsupAt (s : State) : Nat :=
  max (s.saf.lastOk.getD 0 0) (s.saf.lastOk.getD 1 0) + ms 50 + ms (fld (s.sreg A.SAF_IT_CFG) 16 14)

/-- Both networks have been silent for SUP: the condition, and the latch (R334). -/
def State.itsupOn (s : State) : State := { s with saf := { s.saf with itCond := true } }.safLatch lItsup

/-- Intertrip supervision at a tick. -/
def State.itsup (s : State) : State := if s.sealClosed 5 && decide (s.itsupAt ≤ s.now) then s.itsupOn else s

/-- A source's permission window runs. -/
def State.windowRuns (s : State) (i : Nat) : Bool :=
  match (s.source i).window with | some t => decide (s.now < t) | none => false

/-- The permission part of SEAL_4 (R333): SAF_IT_STAT.PERMOK. -/
def State.permOk (s : State) : Bool :=
  let srcs := (List.range 8).filter fun i => bitAt (s.srcCtrl i) 0 && bitAt (s.srcCtrl i) 1
  !srcs.isEmpty && srcs.all fun i => s.windowRuns i

/-- The close permission (R333). -/
def State.permit (s : State) : Bool :=
  s.safOn && s.saf.xOk && s.saf.yOk && s.saf.link && s.saf.differ == 0 && s.saf.latch == 0 && !s.stopDemand && s.permitRun &&
  !(s.saf.sources.any (·.blocked)) && (!s.sealClosed 4 || s.permOk) && !s.sealClosed 6

/-! ## Channels (R315) -/

/-- A channel fault: every group off, CHANNEL latched. -/
def State.channelFault (s : State) : State := s.groupsOff.safLatch lChannel

/-- A channel stops: 0 X, 1 Y. It reads nothing back any more. -/
def State.channelStops (s : State) (c : Nat) : State :=
  { s with saf := { s.saf with
      xOk := s.saf.xOk && c != 0, yOk := s.saf.yOk && c != 1,
      groups := s.saf.groups.map fun (q : Group) => { q with rdH := q.rdH && c != 0, rdL := q.rdL && c != 1 } } }.channelFault

/-! ## The tick -/

/-- One millisecond tick of the channels, with the levels of the inputs, the mirror contacts (bit 2g mirror A of group g
closed, bit 2g + 1 mirror B) and the outputs read back (bit g SDO_H_g on, bit 4 + g SDO_L_g) (R314, R318, R319, R322 to R325,
R334). -/
def State.safetyTick (s : State) (si : BitVec 16) (mirrors readback : BitVec 8) : State :=
  let s0 := s.advance (s.saf.tickAt + ms 1)
  let s1 := { s0 with saf := { s0.saf with tickAt := s0.now, used := s0.regs, si := si.toNat } }
  let s2 := (List.range 8).foldl (fun s p => s.sipTick si p) s1
  let s3 := s2.sipLatches.judgeStop
  let s4 := (List.range 4).foldl (fun s g => s.groupTick mirrors readback g) s3
  s4.judgeContactor.itsup

end Sys2Proof.Machine
end

