-- ==== Sys2Proof/Machine/SentinelOps.lean ====
section
/-! DEFINITION. The sentinel domain: its log, alert frames, watching, bands, death, cold start and handover
(R435 to R449). -/

namespace Sys2Proof.Machine

/-- Change the domain. -/
def State.modSen (s : State) (f : Sentinel → Sentinel) : State := { s with sen := f s.sen }

/-- The sentinel clock in ns. -/
def State.senNs (s : State) : Nat := s.sen.rtc / ns

/-- SEN is ready and the device powered: the domain can raise events (R445). -/
def State.senOn (s : State) : Bool := s.live && s.ready 4

/-- Sampling and log writes are permitted: BAND 2 or 3, or the auxiliary input present (R437). -/
def State.senWorks (s : State) : Bool := s.sen.alive && (s.rail.aux || decide (2 ≤ s.sen.band))

/-- The band of a cell voltage in mV, from the band before (R437). -/
def bandOf (old mV : Nat) : Nat :=
  if mV < 3000 then 0
  else if 3700 ≤ mV ∨ (old = 3 ∧ 3200 ≤ mV) then 3
  else if 3300 ≤ mV ∨ (2 ≤ old ∧ 3200 ≤ mV) then 2
  else 1

/-! ## Log entries (R439, R440) -/

/-- A committed entry, not sent and not posted. -/
def senBytes (type subject detail time flags : Nat) : List Byte :=
  let b := leBytes 1 type ++ leBytes 1 subject ++ leBytes 1 detail ++ leBytes 8 time ++ leBytes 1 flags ++ [0xFF#8]
  0xFC#8 :: b ++ leBytes 2 (crc16 b)

/-- FLAGS of an entry: the clock synchronised, TIME a bound. -/
def senFlags (sync bound : Bool) : Nat := b2n sync + 2 * b2n bound + 0xFC

/-- A committed entry: WSTATE 0b00. -/
def committed (b : List Byte) : Bool := byteFld b 0 1 % 4 == 0

/-- An entry torn in writing: WSTATE 0b10. -/
def torn (b : List Byte) : Bool := byteFld b 0 1 % 4 == 2

/-- Clear a mark of an entry: 2 SENT_N, 3 POSTED_N. -/
def clearMark (i : Nat) (b : List Byte) : List Byte := BitVec.ofNat 8 (setBit (byteFld b 0 1) i false) :: b.drop 1

/-- The bytes at an index. -/
def Sentinel.entry (q : Sentinel) (i : Nat) : Option (List Byte) := (q.log.find? fun p => p.1 == i).map (·.2)

/-- The committed entries, oldest first: indices fill in turn. -/
def Sentinel.committed_ (q : Sentinel) : List (Nat × List Byte) :=
  ((q.log.filter fun p => decide (q.next ≤ p.1)) ++ q.log.filter fun p => decide (p.1 < q.next)).filter fun p => committed p.2

/-- Change the bytes at an index. -/
def Sentinel.mark (q : Sentinel) (i m : Nat) : Sentinel :=
  { q with log := q.log.map fun p => if p.1 == i then (p.1, clearMark m p.2) else p }

/-- Write an entry over the oldest; one that was not posted is lost (R440). -/
def Sentinel.commit (q : Sentinel) (b : List Byte) : Sentinel :=
  let gone := match q.entry q.next with | some o => committed o && (byteFld o 0 1).testBit 3 | none => false
  { q with log := Map.insert q.next b q.log, next := (q.next + 1) % 256,
           lost := if gone then satInc 8 q.lost 1 else q.lost, lostReport := q.lostReport || gone }

/-! ## Posting to the hosts and the persistent log (R328, R368, R445) -/

/-- CODE under which an entry is posted (log entry 40). -/
def senCode (type : Nat) : Nat := if type = 1 then 0xC003 else if type = 2 ∨ type = 3 then 0x1200 else 0x1224 + type

/-- An entry's CODE, SUBJECT and TIME. -/
def senKey (b : List Byte) : Nat × Nat × Nat :=
  (senCode (byteFld b 1 1), if byteFld b 2 1 = 0xFF then 0xFFFF else byteFld b 2 1, byteFld b 4 8)

/-- The persistent log has taken the entry that stands at an index. -/
def PLog.has (p : PLog) (n : Nat) (b : List Byte) : Bool :=
  p.taken.any fun i => i.sen == some n && (i.code, i.subject, i.time) == senKey b

/-- Commit POSTED_N of every entry the persistent log has taken (R445). -/
def State.senPosted (s : State) : State :=
  { s with
    sen := { s.sen with log := s.sen.log.map fun p => if s.ev.log.has p.1 p.2 then (p.1, clearMark 3 p.2) else p }
    ev := { s.ev with log := { s.ev.log with taken := [] } } }

/-- Offer the entry at an index as a class 2 event with SRC 1, stamped with the sentinel's clock. -/
def State.senPost (s : State) (n : Nat) (b : List Byte) : State :=
  let k := senKey b
  let detail := leBytes 4 (byteFld b 3 1) ++ leBytes 4 (byteFld b 12 1)
  let e : Event := { page := k.1 / 256, num := k.1 % 256, subject := k.2.1, status := .ok, detail := detail, hosts := 0xF }
  let st := { s with clock := { s.clock with dev := k.2.2 * ns } }
  let f1 := if e.num < 32 then s.followIrqs (s.ev.setFlag e.page e.num) else s.ev
  let lg := s.logItem f1 { code := k.1, subject := k.2.1, status := .ok, src := 1, count := 1, time := k.2.2, detail := detail,
                           sen := some n }
  ({ s with ev := s.recTag e (st.postHosts lg.1 e lg.2), reco := s.recEvent e lg.2 }).senPosted

/-! ## Alert frames (R441, R442) -/

/-- One byte of a frame at 9,600 Bd: ten bits. -/
abbrev alertByte : Nat := 1000000000 * 4294967296 / 960

/-- The 20 bytes of a frame. -/
def State.alertBytes (s : State) (i : Nat) (b : List Byte) : List Byte :=
  let f := leBytes 1 (16 + byteFld b 1 1) ++ leBytes 1 i ++ slice b 2 1 ++ leBytes 4 s.part.serial ++ slice b 4 8 ++
    slice b 3 1 ++ slice b 12 1
  0x7E#8 :: f ++ leBytes 2 (crc16 f)

/-- A committed entry is pending; none is with TXEN = 0. -/
def State.alerts (s : State) (b : List Byte) : Bool :=
  let t := byteFld b 1 1
  bitAt (s.reg A.SEN_CFG) 0 && decide (1 ≤ t) && decide (t ≤ 8) && (fld (s.reg A.SEN_CFG) 8 8).testBit (t - 1) && (byteFld b 0 1).testBit 2

/-- The pending entries, oldest first. -/
def State.alertsPending (s : State) : List (Nat × List Byte) := s.sen.committed_.filter fun p => s.alerts p.2

/-- Try to start the frame of the oldest pending entry: it starts, or is refused below SEN_TX and waits for the next rise
through 3.70 V (R442). -/
def State.alertStart (s : State) : State :=
  let q := s.sen
  let barred := !q.alive || q.frame.isSome || q.txSusp || q.prot.testBit 3 ||
    (match q.retryAt with | some t => decide (s.now < t) | none => false) || !(s.rail.aux || decide (2 ≤ q.band))
  match s.alertsPending with
  | [] => s
  | (i, b) :: _ =>
    if barred then s
    else if s.rail.aux ∨ 3700 ≤ q.vcell then
      s.modSen fun q => { q with frame := some { entry := i, start := s.now, bytes := s.alertBytes i b },
                                 refused := false, retryAt := none, prot := setBit q.prot 1 false }
    else if q.refused then s
    else s.modSen fun q => { q with refused := true, defer := satInc 8 q.defer 1 }

/-! ## Writing entries -/

/-- Commit an entry, post it while SEN is ready, and send it where it is to be alerted. -/
def State.senCommit (s : State) (type subject detail time flags : Nat) : State :=
  let b := senBytes type subject detail time flags
  let s1 := s.modSen fun q => q.commit b
  (if s1.senOn then s1.senPost s.sen.next b else s1).alertStart

/-- An entry with a TIME; during a frame it waits for the frame's end (R446). -/
def State.senEntryAt (s : State) (type subject detail time : Nat) (bound : Bool) : State :=
  let flags := senFlags s.sen.syncd bound
  if s.sen.frame.isSome then s.modSen fun q => { q with waiting := q.waiting ++ [(type, subject, detail, time, flags)] }
  else s.senCommit type subject detail time flags

/-- An entry stamped now. -/
def State.senEntry (s : State) (type subject detail : Nat) : State := s.senEntryAt type subject detail s.senNs false

/-- A frame has ended: the entries that waited are written, then the next frame is tried. -/
def State.senFlush (s : State) : State :=
  let w := s.sen.waiting
  let s1 := s.modSen fun q => { q with waiting := [] }
  (w.foldl (fun s e =>
    let b := senBytes e.1 e.2.1 e.2.2.1 e.2.2.2.1 e.2.2.2.2
    let s1 := s.modSen fun q => q.commit b
    if s1.senOn then s1.senPost s.sen.next b else s1) s1).alertStart

/-- A frame ends after its last byte: SENT_N is committed (R442). -/
def State.alertComplete (s : State) : State :=
  match s.sen.frame with
  | none => s
  | some f =>
    let s1 := s.advance (f.start + 20 * alertByte)
    let s2 := s1.modSen fun q => { (q.mark f.entry 2) with frame := none, aborts := 0 }
    (s2.sendAll (f.bytes.map Out.alert)).senFlush

/-- A frame is aborted at the end of the byte in progress; four in succession suspend sending (R442). -/
def State.alertAbort (s : State) : State :=
  match s.sen.frame with
  | none => s
  | some f =>
    let k := min 20 ((s.now - f.start) / alertByte + 1)
    let s1 := s.advance (f.start + k * alertByte)
    let susp := decide (4 ≤ s.sen.aborts + 1)
    let s2 := s1.modSen fun q => { q with
      frame := none, abort := satInc 8 q.abort 1, aborts := if susp then 0 else q.aborts + 1,
      retryAt := some (s1.now + ms 60000), txSusp := q.txSusp || susp }
    let s3 := s2.sendAll ((f.bytes.take k).map Out.alert)
    let s4 := if s3.senOn then s3.event 0x12 2 f.entry else s3
    let s5 := if susp then (if s4.senOn then s4.event 0x12 3 else s4) else s4
    if susp then s5.senFlush.senEntry 0xA 0xFF 0xFF else s5.senFlush

/-- 60 s after an abort a frame may start again, at SEN_TX or on the auxiliary supply; else it waits for the next rise
through 3.70 V. -/
def State.alertRetry (s : State) : State :=
  match s.sen.retryAt with
  | none => s
  | some t =>
    let s1 := (s.advance t).modSen fun q => { q with retryAt := none }
    let s2 := if s1.rail.aux || decide (3700 ≤ s1.sen.vcell) then s1 else s1.modSen fun q => { q with refused := true }
    s2.alertStart

/-! ## Watching (R438) -/

/-- The baseline reading of an input: switches 0 to 7, tamper inputs 8 and 9. -/
def Sentinel.base (q : Sentinel) (i : Nat) : Nat :=
  if i < 8 then (if q.baseBad.testBit i then 2 else b2n (q.baseSeal.testBit i)) else b2n (q.baseTamp.testBit (i - 8))

/-- Move it. -/
def Sentinel.rebase (q : Sentinel) (i r : Nat) : Sentinel :=
  if i < 8 then { q with baseSeal := if r = 2 then q.baseSeal else setBit q.baseSeal i (r == 1),
                         baseBad := setBit q.baseBad i (r == 2) }
  else { q with baseTamp := setBit q.baseTamp (i - 8) (r == 1) }

/-- The domain judges a switch itself only while the channels do not, or until it has judged it against the baseline after a blind
interval or a cold start (R438, R443). -/
def State.senWatches (s : State) (i : Nat) : Bool :=
  s.senWorks && (if i < 8 then !(s.rail.aux && s.safOn) || s.sen.unjudged.testBit i else (fld (s.reg A.SEN_TAMP_CFG) 0 2).testBit (i - 8))

/-- SEAL_COM is driven: for the safety channels continuously, and for 20 µs for each sample of a watch of the domain's own
(R438). -/
def State.sealCom (s : State) : Bool :=
  s.sen.alive && ((s.rail.aux && s.safOn) ||
    (s.senWorks && (match s.sen.comAt with | some t => decide (s.now < t + us 20) | none => false)))

/-- A reading confirmed over two samples that differs from the baseline: its entry, and the baseline moves. A change
found at the first judgement after a blind interval or a gap carries its bound as TIME (R443). -/
def State.senChange (s : State) (i : Nat) : State :=
  let c := s.sen.cand.getD i (0, 0)
  if !s.senWatches i || decide (c.2 < 2) then s
  else
    let late := s.sen.unjudged.testBit i
    let s1 := s.modSen fun q => { q with unjudged := setBit q.unjudged i false }
    if c.1 = s.sen.base i then s1
    else
      let s2 := s1.modSen fun q => q.rebase i c.1
      let type := if i < 8 then 1 else if c.1 = 1 then 2 else 3
      let subject := if i < 8 then i else i - 8
      if late then s2.senEntryAt type subject c.1 s.sen.bound true else s2.senEntry type subject c.1

/-- One sample of the switches and tamper inputs; a tamper input reads 1 where its loop is open, inverted by POL. -/
def State.senSample (s : State) (no nc : BitVec 8) (tamp : BitVec 2) : State :=
  let reading := fun (i : Nat) =>
    if i < 8 then (match sealRead (no.getLsbD i) (nc.getLsbD i) with | some v => b2n v | none => 2)
    else b2n (xor (tamp.getLsbD (i - 8)) ((fld (s.reg A.SEN_TAMP_CFG) 4 2).testBit (i - 8)))
  (List.range 10).foldl (fun s i =>
    if !s.senWatches i then s
    else
      (s.modSen fun q =>
        let c := q.cand.getD i (0, 0)
        { q with cand := setAt (reading i, if 0 < c.2 ∧ c.1 = reading i then min (c.2 + 1) 2 else 1) i q.cand }).senChange i)
    (if s.senWorks then s.modSen fun q => { q with comAt := some s.now } else s)

/-- SAF stops being ready: the baseline is the channels' last valid reading (R438). -/
def State.senTakes (s : State) : State :=
  if !s.sen.alive then s
  else
    (List.range 8).foldl (fun s k =>
      let q := s.seal k
      if q.known then s.modSen fun r => { (r.rebase k (b2n q.val)) with cand := setAt (0, 0) k r.cand, unjudged := setBit r.unjudged k false } else s) s

/-- A change of SEN_TAMP_CFG: an entry for each input whose watching or polarity changes (R449). -/
def State.tampConfig (s : State) (old new : Word) : State :=
  [0, 1].foldl (fun s i =>
    let pol := bitAt old (4 + i) != bitAt new (4 + i)
    let en := bitAt old i != bitAt new i
    let s1 := if pol then s.modSen fun q => { q with baseTamp := setBit q.baseTamp i (!q.baseTamp.testBit i), cand := setAt (0, 0) (8 + i) q.cand } else s
    if !pol && !en then s1
    else
      let tamper := bitAt new i && s1.sen.baseTamp.testBit i
      s1.senEntry (if tamper then 2 else 3) i (b2n tamper)) s

/-! ## Bands, blindness, death, cold start (R436, R437, R443) -/

/-- Write the alive stamp; the next periodic one follows 600 s after it. -/
def State.stampNow (s : State) : State :=
  s.modSen fun q => { q with stamp := q.rtc / ns, stampDue := q.rtc / ns + 600000000000 }

/-- A periodic stamp: the sentinel clock reaches its instant. None is written in BAND 1. -/
def State.aliveStamp (s : State) : State :=
  if !s.senWorks then s else (s.advance (s.now + (s.sen.stampDue * ns - s.sen.rtc))).stampNow

/-- A fall into BAND 1 on the cell: a frame is aborted, then the stamp and the BLIND entry, and sampling stops. -/
def State.goBlind (s : State) : State :=
  let s1 := s.alertAbort.stampNow
  let s2 := s1.senEntryAt 7 0xFF 0xFF s1.sen.stamp false
  s2.modSen fun q => { q with blind := some q.stamp, cand := List.replicate 10 (0, 0) }

/-- Blindness ends: BLIND_END, and the inputs are to be judged against the baseline. -/
def State.endBlind (s : State) : State :=
  match s.sen.blind with
  | none => s
  | some t => (s.modSen fun q => { q with blind := none, unjudged := 0x3FF, bound := t }).senEntry 8 0xFF 0xFF

/-- The domain dies: its clock and everything else stop. -/
def State.senDies (s : State) : State :=
  s.modSen fun q => { q with
    alive := false, frame := none, waiting := [], blind := none, armed := false, refused := false, retryAt := none,
    cand := List.replicate 10 (0, 0), unjudged := 0, chg := false, harv := false, syncd := false, aborts := 0 }

/-- Charging: from the auxiliary input or the harvester, unless a protection suspends it (R436). A cell on charge that has
reached 3.30 V arms the watch (R443). -/
def State.senCharge (s : State) : State :=
  s.modSen fun q =>
    let on := q.alive && (s.rail.aux || q.harv) && !q.prot.testBit 0 && !q.prot.testBit 2 && decide (q.vcell < 4200)
    { q with chg := on, armed := q.armed || (on && decide (3300 ≤ q.vcell)) }

/-- The divider on HARV_SET sets an operating voltage of 0.35 to 5.0 V (R435). -/
def harvFits : Bool :=
  let v := 250 * (Config.harvUpper + Config.harvLower)
  decide (0 < Config.harvLower) && decide (350 * Config.harvLower ≤ v) && decide (v ≤ 5000 * Config.harvLower)

/-- The operating voltage in mV, at which a running harvester holds VHARV (R435). -/
def harvVolts : Nat := 250 * (Config.harvUpper + Config.harvLower) / Config.harvLower

/-- A protection of the cell acts; the table of R436 has CELLFLT follow over-voltage and over-current. -/
def State.cellProtects (s : State) (kind : Nat) : State :=
  let s1 := (s.modSen fun q => { q with prot := setBit q.prot kind true, cellFlt := q.cellFlt || decide (kind < 2) }).senCharge
  let s2 := if s1.senOn && decide (kind < 2) then s1.event 0x12 5 kind else s1
  if kind = 1 then s2.alertAbort else s2

/-- Over-voltage acts at 4.20 V, and is released below 4.10 V (R436). -/
def State.overVolts (s : State) : State :=
  let v := s.sen.vcell
  if decide (4200 ≤ v) && !s.sen.prot.testBit 0 then s.cellProtects 0
  else if v < 4100 then s.modSen fun q => { q with prot := setBit q.prot 0 false }
  else s

/-- The cell voltage moves (R437). The harvester delivers from a cell at 3.00 V or more where its divider fits and it has
light, and then holds VHARV at its operating voltage (R435); whether it has, and VHARV otherwise, is measured and open. -/
def State.bandChange (s : State) (mV : Nat) : State :=
  if !s.sen.alive then s
  else
    let old := s.sen.band
    let was := s.sen.vcell
    let harv := harvFits && bitAt (s.open_ 0) 0 && decide (3000 ≤ mV)
    let s1 := ((s.modSen fun q => { q with
      vcell := min mV 8191, band := bandOf q.band mV, vharv := if harv then harvVolts else (s.open_ 1).toNat % 8192, harv := harv,
      armed := q.armed || (decide (3300 ≤ mV) && q.chg), txSusp := q.txSusp && decide (mV < 3900),
      refused := q.refused && !(decide (was < 3700) && decide (3700 ≤ mV)) }).took 2).overVolts
    let s2 :=
      if s1.rail.aux then (if 2 ≤ old ∧ s1.sen.band = 1 then s1.stampNow else s1)
      else if s1.sen.band = 0 then s1.senDies
      else if 2 ≤ old ∧ s1.sen.band = 1 then s1.goBlind
      else if 2 ≤ s1.sen.band then s1.endBlind else s1
    s2.senCharge.alertStart

/-- The newest entry is left torn: its second phase has not run (R440, R446). -/
def Sentinel.tear (q : Sentinel) : Sentinel :=
  let i := (q.next + 255) % 256
  { q with log := q.log.map fun p => if p.1 == i then (p.1, 0xFE#8 :: p.2.drop 1) else p }

/-- The cell is cut off at 3.00 V: without the auxiliary input the domain dies (R436), in the middle of a write perhaps. -/
def State.cellCutoff (s : State) (midWrite : Bool) : State :=
  let s1 := s.modSen fun q => { q with band := 0, vcell := min q.vcell 2999, harv := false }
  if s.rail.aux then s1.senCharge
  else (if midWrite then s1.modSen Sentinel.tear else s1).senDies

/-- A protection is released. -/
def State.cellReleases (s : State) (kind : Nat) : State :=
  let s1 := (s.modSen fun q => { q with prot := setBit q.prot kind false }).senCharge
  if kind = 3 then s1.alertStart else s1

/-- A cold start (R443). -/
def State.coldStart (s : State) : State :=
  let tornN := (s.sen.log.filter fun p => torn p.2).length
  let s1 := s.modSen fun q => { q with
    alive := true, rtc := 0, sinceCold := 0, syncd := false, log := q.log.filter fun p => !torn p.2,
    torn := satInc 8 q.torn tornN, band := bandOf 0 q.vcell, armed := false, txSusp := false, gap := true,
    gapFrom := q.stamp, gapTo := 0, unjudged := 0x3FF, bound := q.stamp, stampCold := q.stamp, stampDue := 600000000000,
    cand := List.replicate 10 (0, 0) }
  (s1.senEntryAt 5 0xFF 0xFF s.sen.stamp true).senCharge

/-- The auxiliary input returns to a domain that lives. -/
def State.senAuxUp (s : State) : State :=
  if s.sen.alive then ((s.modSen fun q => { q with txSusp := false, refused := false }).endBlind).senCharge.alertStart else s

/-- The auxiliary input fails: an unarmed domain dies, and the next start opens another gap from the same alive stamp
(R443); one whose cell stands in BAND 1 goes blind. -/
def State.senAuxDown (s : State) : State :=
  if !s.sen.alive then s
  else if !s.sen.armed then (s.modSen fun q => { q with stamp := q.stampCold }).senDies
  else if s.sen.band == 0 then s.senDies
  else if s.sen.band = 1 then s.goBlind.senCharge
  else s.senCharge

/-! ## The device's side (R404, R444, R445, R449) -/

/-- SYNC has become HOST or PTP, or DEVTIME has stepped: the clock is set, and an open gap is closed (R444, R446). -/
def State.senSync (s : State) : State :=
  if !s.sen.alive then s
  else
    let cold := (s.clock.dev - s.sen.sinceCold) / ns
    let s1 := s.modSen fun q => { q with rtc := s.clock.dev, syncd := true, stampDue := s.clock.dev / ns + 600000000000 }
    if s.sen.gap then
      let s2 := (s1.modSen fun q => { q with gapTo := cold, gap := false }).senEntryAt 6 0xFF 0xFF cold true
      if s2.senOn then
        s2.event 0x12 1 0xFFFF [s2.sen.gapFrom, s2.sen.gapFrom / 0x100000000, cold, cold / 0x100000000]
      else s2
    else s1

/-- The handover within 10 ms of reset release: SEN is ready, and unposted entries are offered, oldest first (R445). -/
def State.senHandover (s : State) : State :=
  if !s.sen.alive || !s.live || s.ready 4 || s.pwr.late.testBit 4 then s
  else
    let s1 := { s with pwr := { s.pwr with ready := setBit s.pwr.ready 4 true } }
    let s2 := if s1.sen.lostReport then (s1.modSen fun q => { q with lostReport := false }).event 0x12 4 else s1
    (s2.sen.committed_.filter fun p => (byteFld p.2 0 1).testBit 3).foldl (fun s p => s.senPost p.1 p.2) s2

/-- A lifecycle change erases entries, counters and gap registers, then writes LIFECYCLE (R449). -/
def State.senWipe (s : State) (new : Nat) : State :=
  if !s.sen.alive then s
  else
    (s.modSen fun q => { q with
      log := [], next := 0, defer := 0, abort := 0, torn := 0, lost := 0, lostReport := false, gapFrom := 0, gapTo := 0,
      waiting := [], frame := none }).senEntry 9 0xFF new

end Sys2Proof.Machine
end

