-- ==== Sys2Proof/Machine/AngleOps.lean ====
section
/-! DEFINITION. DEVTIME with its discipline and steps, the angle unit, lock, flywheel, phase jumps, and the fixing of
beats (R63 to R79). -/

namespace Sys2Proof.Machine

/-! ## DEVTIME (R64 to R67) -/

/-- Change the clock. -/
def State.modClock (s : State) (f : Clock → Clock) : State := { s with clock := f s.clock }

/-- SYNC becomes HOST or PTP: the sentinel's clock follows (R64). -/
def State.setSync (s : State) (y : Sync) : State :=
  if s.clock.sync = y then s else (s.modClock fun c => { c with sync := y }).senSync

/-- A step is decided; it applies at the second beat start from here (R67). -/
def State.decideStep (s : State) (ofs : Int) (y : Sync) : State := s.modClock fun c => { c with step := some (ofs, y, 2) }

/-- A step applies: DEVTIME and the start of this beat move with it, DEVTIME_STEP is raised with the old and new values,
SYNC changes, and four beats carry a probe (R67). -/
def State.applyStep (s : State) (ofs : Int) (y : Sync) : State :=
  let old := s.devNs
  let s1 := s.modClock fun c => { c with dev := movedBy c.dev ofs, step := none, stepProbes := 4, stepPend := false, sync := y }
  let s2 := { s1 with
    ang := { s1.ang with next := movedBy s1.ang.next ofs }, loop := { s1.loop with stepped := s1.loop.stepped + ofs } }
  (s2.event 0x20 32 0xFFFF [old, old / 0x100000000, s2.devNs, s2.devNs / 0x100000000]).senSync

/-- The countdown of a decided step at a beat start. -/
def State.stepBeat (s : State) : State :=
  match s.clock.step with
  | some (ofs, y, n) => if n ≤ 1 then s.applyStep ofs y else s.modClock fun c => { c with step := some (ofs, y, n - 1) }
  | none => s

/-- STEP_LIM in ns and RATE_MAX in ppb. -/
def State.stepLim (s : State) : Int := ((fld (s.ureg A.DEVTIME_CFG) 16 16 * 1000 : Nat) : Int)
def State.rateMax (s : State) : Int := ((fld (s.ureg A.DEVTIME_CFG) 8 8 * 1000 : Nat) : Int)

/-- A switching mode is in force or decided: no step may stand outstanding in one (R66). -/
def State.switchingSoon (s : State) : Bool :=
  s.modes.cur.switching || (match s.modes.next with | some m => m.switching | none => false)

/-- An offset of the PTP slave, ns, is handed to the discipline (R66). The correction within ±STEP_LIM is open but for
its limit. While a step is outstanding, or PTP is 0, the offset only shows in DEVTIME_OFS (DESIGN CHOICE, log entries 200 and
202). -/
def State.ptpOffset (s : State) (ofs : Int) : State :=
  let s0 := s.modClock fun c => { c with ofs := clampI (-0x80000000) 0x7FFFFFFF ofs }
  if !bitAt (s.ureg A.DEVTIME_CFG) 0 || s.clock.step.isSome then s0
  else if absI ofs ≤ s.stepLim then
    ((s0.modClock fun c => { c with rate := clampI (-s.rateMax) s.rateMax (s.open_ 0).toInt, stepPend := false }).took 1).setSync .ptp
  else if s.switchingSoon then
    let s1 := s0.modClock fun c => { c with rate := if ofs < 0 then -s.rateMax else s.rateMax, stepPend := true }
    (s1.eventIf (!s.clock.stepPend) 0x20 33).setSync .ptp
  else s0.decideStep ofs .ptp

/-- No PTP time for the loss interval: the last correction is held (R66), where PTP time was in use (DESIGN CHOICE, log entry
201). -/
def State.ptpLost (s : State) : State :=
  if bitAt (s.ureg A.DEVTIME_CFG) 0 && s.clock.sync == .ptp then s.modClock fun c => { c with sync := .holdover } else s

/-! ## Figures of the angle registers -/

/-- Change the angle unit. -/
def State.modAng (s : State) (f : Angle → Angle) : State := { s with ang := f s.ang }

/-- LOCK_ERR, LOSS_ERR and JMP_THR, ANG32 counts. -/
def State.lockErr (s : State) : Int := deg10 (fld (s.ureg A.ANG_LOCK) 0 8)
def State.lossErr (s : State) : Int := deg10 (fld (s.ureg A.ANG_LOCK) 16 8)
def State.jmpThr (s : State) : Int := deg10 (fld (s.ureg A.ANG_JMP) 0 9)

/-- ANG32 at the start of this beat. -/
def State.angle (s : State) : Word := wd (quoN (s.ang.idx * 4294967296) s.ang.div)

/-! ## Lock, flywheel, jumps (R69 to R74) -/

/-- The tracker declares lock (R69, R76). -/
def State.lockOn (s : State) : State :=
  s.modAng fun a => { a with lock := true, ever := true, src := if a.src = 0 then 1 else a.src }

/-- LOCK clears (R70). Its consequence in ENERGIZE is taken with the modes. -/
def State.lockOff (s : State) : State :=
  (s.modAng fun a => { a with lock := false, lockRun := 0, lossRun := 0, bandRun := 0 }).event 0x20 34

/-- The run that declares lock is complete. LOCK_CYC = 0 has no stated range and acts as 1 (DESIGN CHOICE, log entry 84). -/
def State.lockDue (s : State) : Bool := !s.ang.lock && decide (fld (s.ureg A.ANG_LOCK) 8 8 ≤ s.ang.lockRun) && decide (0 < s.ang.lockRun)

/-- A case of R70 holds. -/
def State.lossDue (s : State) : Bool :=
  s.ang.lock && (decide (2 ≤ s.ang.lossRun) || decide (3 ≤ s.ang.bandRun) ||
    (s.ang.fly && decide (s.ang.flyFrom + ms (fld (s.ureg A.ANG_FLY) 16 16) < s.now)))

/-- Declare or lose lock where it is due. -/
def State.judgeLock (s : State) : State := if s.lossDue then s.lockOff else if s.lockDue then s.lockOn else s

/-- Flywheel is entered: the frequency is held at its mean over the last full cycle (R72). A slew under way ends (DESIGN
CHOICE, log entry 85). -/
def State.flyOn (s : State) : State :=
  s.modAng fun a => { a with fly := true, flyFrom := s.now, flyOk := 0, freq := a.fmean, slew := false, quiet := false }

/-- A phase jump of a signed size (R74). -/
def State.phaseJump (s : State) (size : Int) : State :=
  let s1 := s.modAng fun a => { a with jmpLast := size, slew := a.slew || a.src != 2, quiet := false }
  ({ s1 with rti := { s1.rti with jump := some size } }).event 0x20 35 0xFFFF [(wi size).toNat]

/-- Flywheel ends, and the measured phase is compared with ANG32 (R73). -/
def State.flyOff (s : State) : State :=
  let s1 := s.modAng fun a => { a with fly := false, flyOk := 0 }
  if s.jmpThr < absI s.ang.d then s1.phaseJump s.ang.d else s1

/-- A slew ends (R74, R75). -/
def State.slewOff (s : State) : State := s.modAng fun a => { a with slew := false, quiet := false }

/-- Flywheel is due: EVER, and the voltage below FLY_V. -/
def State.flyDue (s : State) : Bool := s.ang.ever && !s.ang.fly && s.ang.dOk && decide (s.vPos < s.flyV)

/-- Flywheel has ended its half cycle at or above FLY_V + 0.05 pu. -/
def State.flyEndDue (s : State) : Bool := s.ang.fly && decide (s.ang.div ≤ 2 * s.ang.flyOk)

/-- A slew has brought the difference within LOCK_ERR. -/
def State.slewEndDue (s : State) : Bool := (s.ang.slew || s.ang.quiet) && decide (absI s.ang.d ≤ s.lockErr)

/-- The phase error the tracker judges itself by: while the rotor drives ANG32 that of its own loop, and none while ANG_DIFF,
which is then −D, is being closed (R75; DESIGN CHOICE, log entry 209). -/
def State.phaseErr (s : State) : Int :=
  if s.ang.src = 2 then angDiff (wi s.ang.d) (wi s.ang.diff) else if s.ang.quiet then 0 else s.ang.d

/-- The angle unit in the pipeline of a beat (R72 to R75): D, the measured frequency, and what they decide. How the
tracker's loop forms its frequency, and in FORM its phase, is open within 40 to 72 Hz. -/
def State.anglePipe (s : State) : State :=
  let d := s.quant 0x14
  let q := s.quant 0x15
  if !(d.ok && q.ok) then s.took 4
  else
    let old := s.ang.d
    let had := s.ang.dOk
    let u := s.vPos
    let dNew := (atanA (-q.val) d.val).toInt
    let f := (clampI 0x280000 0x480000 (s.open_ 0).toInt).toNat
    let s1 := s.modAng fun a => { a with
      d := dNew, dOk := true, freq := if a.fly then a.freq else f, diff := if a.src = 2 then (s.open_ 1).toInt else 0,
      fout := decide (f < s.rateLo) || decide (s.rateHi < f),
      flyOk := if a.fly && decide (s.flyV + puFrac 5 100 ≤ u) then a.flyOk + 1 else 0 }
    let s2 := if s1.flyDue then s1.flyOn else if s1.flyEndDue then s1.flyOff
      else if s1.ang.ever && !s1.ang.fly && had && decide (s.jmpThr < absI (angDiff (wi dNew) (wi old))) then
        s1.phaseJump (angDiff (wi dNew) (wi old))
      else s1
    let s3 := if s2.slewEndDue then s2.slewOff else s2
    let e := absI s3.phaseErr
    let s4 := s3.modAng fun a => { a with
      okCycle := a.okCycle && decide (e ≤ s.lockErr) && decide (puFrac 80 100 ≤ u),
      lossCycle := a.lossCycle && decide (s.lossErr < e), skipCycle := a.skipCycle || a.fly || a.slew,
      fsum := a.fsum + a.freq, fcnt := a.fcnt + 1 }
    (if s4.ang.fly && s4.lossDue then s4.lockOff else s4).took 4

/-! ## Beats (R68, R75 to R79) -/

/-- The end of a whole cycle of ANG32: the runs of R69 and R70. A beat whose voltage quantities are invalid is skipped, and a
cycle with one beat skipped still counts as whole (DESIGN CHOICE, log entry 84). -/
def State.cycleEnd (s : State) : State :=
  let a := s.ang
  let whole := decide (0 < a.fcnt) && decide (a.div ≤ a.fcnt + 1)
  let mean := if a.fcnt = 0 then a.fmean else quoN a.fsum a.fcnt
  let inBand := decide (s.rateLo ≤ mean) && decide (mean ≤ s.rateHi)
  (s.modAng fun a => { a with
    fmean := if a.fly then a.fmean else mean,
    lockRun := if whole && a.okCycle && inBand then a.lockRun + 1 else 0,
    lossRun := if whole && a.lossCycle && !a.skipCycle then a.lossRun + 1 else 0,
    bandRun := if decide (0 < a.fcnt) && !inBand then a.bandRun + 1 else 0,
    okCycle := true, lossCycle := true, skipCycle := false, fsum := 0, fcnt := 0, cyc := (a.cyc + 1) % 0x400000 }).judgeLock

/-- The effective angle rate, clamped to the operating band; in FORM the clamp acts on the rotor (R68, R218). -/
def State.newRate (s : State) : State :=
  s.modAng fun a => { a with
    rate := s.rateNext, clamp := (s.rateNext : Int) != s.rawRate || (a.src == 2 && s.grd.wClamp) }

/-- Time passes to the instant fixed for the next beat start, as DEVTIME shows it. -/
def State.toBeat (s : State) : State :=
  s.advance (s.now + s.span (wholeNs s.ang.next - s.clock.dev))

/-- A new DIV takes effect: the beats are counted anew from this crossing of 0 (R79). -/
def State.takeDiv (s : State) : State :=
  s.modAng fun a => { a with div := fld (s.ureg A.ANG_DIV) 0 11, divPend := false }

/-- The beat that starts: its index, count and start, and the instant at which the next one starts (R77). -/
def State.fixBeat (s : State) : State :=
  let start := s.ang.next
  let wraps := decide (s.ang.div ≤ s.ang.idx + 1)
  let s1 := s.modAng fun a => { a with
    idx := if wraps then 0 else a.idx + 1, seq := (a.seq + 1) % 0x100000000, bstart := wholeNs start, began := s.now, fired := [] }
  let s2 := if wraps then s1.cycleEnd else s1
  let s3 := if wraps && s2.ang.divPend then s2.takeDiv else s2
  let s4 := s3.newRate
  let len := beatLen s4.ang.rate s4.ang.div
  s4.modAng fun a => { a with blen := len, next := start + len }

/-- Beats begin to run when ANG becomes ready, beat 0 among the starts that R179 reckons from (R76). -/
def State.startBeats (s : State) : State :=
  let len := beatLen (s.fnom * 65536) s.ang.div
  let at0 := ((wholeNs s.clock.dev : Int) - s.loop.stepped * 4294967296).toNat
  ({ s with loop := { s.loop with starts := [at0] } }).modAng fun a => { a with
    beats := true, bstart := wholeNs s.clock.dev, began := s.now, fired := [], blen := len, next := s.clock.dev + len, rate := s.fnom * 65536,
    okCycle := true, lossCycle := true }

end Sys2Proof.Machine
end

