-- ==== Sys2Proof/Machine/GatherOps.lean ====
section
/-! DEFINITION. Gather sequences, conversions with their settling and averaging, delivery, window monitors, background
calibration and the calibration set (R88 to R107). -/

namespace Sys2Proof.Machine

/-! ## Sequences and slots (R93 to R98) -/

/-- Change the analog side. -/
def State.modAdc (s : State) (f : Adc → Adc) : State := { s with adc := f s.adc }

/-- A sequence. -/
def State.seq (s : State) (q : Nat) : Seq := s.adc.seqs.getD q seqReset

/-- Change one. -/
def State.modSeq (s : State) (q : Nat) (f : Seq → Seq) : State :=
  { s with adc := { s.adc with seqs := modAt f q s.adc.seqs } }

/-- A slot that has served nothing. -/
def slotIdle : Slot := { slice := 0, acq := none, conv := none, lastChan := none }

/-- A service slot, 0 to 19. -/
def State.svc (s : State) (k : Nat) : Slot := s.adc.slots.getD k slotIdle

/-- Change one. -/
def State.modSvc (s : State) (k : Nat) (f : Slot → Slot) : State :=
  { s with adc := { s.adc with slots := modAt f k s.adc.slots } }

/-- The slot of a configuration: bank and slot number. -/
def seqSlot (cfg : Word) : Nat := fld cfg 0 4 + 10 * b2n (bitAt cfg 4)

/-- INJ of a configuration. -/
def seqInj (cfg : Word) : Nat := fld cfg 5 3

/-- Fields of a gather entry (R95). -/
def entChan (w : Word) : Nat := fld w 0 6
def entGain (w : Word) : Nat := fld w 6 3
def entAvg (w : Word) : Nat := 2 ^ fld w 9 4
def entEos (w : Word) : Bool := bitAt w 15
def entTag (w : Word) : Nat := fld w 16 8

/-- The bank of a channel (R88). -/
def chanBank (c : Nat) : Nat := if 0x18 ≤ c ∧ c < 0x30 then 1 else 0

/-- The entries a sequence executes: to the first with EOS, else to entry 31 (R95). An entry that has never been written
is no entry of a sequence of bank 1, whose slices cannot convert its channel (R88; log entry 43): the sequence ends before
it. -/
def runEntries (bank : Nat) (es : List Word) : List Word :=
  let own := if bank = 1 then es.takeWhile fun w => w != 0#32 else es
  own.take (own.findIdx entEos + 1)

/-- The index of the last of them. -/
def lastEntry (bank : Nat) (es : List Word) : Nat := (runEntries bank es).length - 1

/-- The 32 entries of a sequence in force. -/
def State.seqEntries (s : State) (q : Nat) : List Word := (List.range 32).map fun e => s.ureg (A.ADC_GATHER q e)

/-- Acquisition time of an entry, ns, class 3 being given. -/
def acqNs (acq3 : Nat) (w : Word) : Nat :=
  let d := fld w 13 2
  if d = 0 then 250 else if d = 1 then 500 else if d = 2 then 1000 else acq3

/-- The next 5 ns edge of the analog sample clock. -/
def edge5 (t : Nat) : Nat := (t + 5 * ns - 1) / (5 * ns) * (5 * ns)

/-- A trigger from a source (R94, R97): one that TSRC does not name is ignored; one for a sequence that is under way is
dropped. -/
def State.trigSeq (s : State) (src sel q : Nat) : State :=
  let cfg := s.ureg (A.ADC_SEQ_CFG q)
  if !bitAt cfg 15 || fld cfg 8 2 != src || ((src == 1 || src == 3) && fld cfg 10 5 != sel) ||
      (runEntries (fld cfg 4 1) (s.seqEntries q)).isEmpty then s
  else if (s.seq q).phase ≠ .idle then
    (s.modAdc fun a => { a with ovr := setBit a.ovr q true }).event 0x30 16 q
  else
    s.modSeq q fun x => { x with
      phase := .delay, cfg := cfg, entries := s.seqEntries q, acq3 := fld (s.ureg A.ADC_ACQ3) 0 12, next := 0,
      due := edge5 (s.now + fld cfg 16 16 * ns) }

/-- A trigger for every sequence that names its source, in ascending number. -/
def State.trigAll (s : State) (src sel : Nat) : State := (List.range 16).foldl (fun s q => s.trigSeq src sel q) s

/-- The sequence that runs on a slot. -/
def State.runningOn (s : State) (k : Nat) : Option Nat :=
  (List.range 16).find? fun q => (s.seq q).phase == .running && seqSlot (s.seq q).cfg == k

/-- A sequence acquires its entry `next`. -/
def State.acquire (s : State) (q : Nat) : State :=
  let x := s.seq q
  let w := x.entries.getD x.next 0#32
  (s.modSeq q fun x => { x with phase := .running }).modSvc (seqSlot x.cfg) fun v =>
    { v with acq := some (q, x.next, s.now + acqNs x.acq3 w * ns) }

/-- A sequence's DELAY has expired: it starts, waits, or pre-empts one of lower INJ (R96 to R98). -/
def State.delayEnds (s : State) (q : Nat) : State :=
  let s1 := s.advance (s.seq q).due
  let x := s1.seq q
  match s1.runningOn (seqSlot x.cfg) with
  | none => s1.acquire q
  | some r =>
    if seqInj (s1.seq r).cfg < seqInj x.cfg then
      (s1.modSeq r fun y => { y with phase := .preempted, preempt := satInc 8 y.preempt 1 }).acquire q
    else s1.modSeq q fun y => { y with phase := .waiting }

/-- The sequence that takes a freed slot: by INJ, a pre-empted one ahead of a waiting one, then in ascending number. -/
def State.nextOn (s : State) (k : Nat) : Option Nat :=
  let cands := (List.range 16).filter fun q =>
    ((s.seq q).phase == .waiting || (s.seq q).phase == .preempted) && seqSlot (s.seq q).cfg == k
  let key := fun (q : Nat) => 2 * seqInj (s.seq q).cfg + b2n ((s.seq q).phase == .preempted)
  cands.foldl (fun best q => match best with | some b => if key b < key q then some q else some b | none => some q) none

/-- The entry being acquired on a slot is held, and its conversion starts (R96, R100). The first of a slot after reset counts as
a change of channel, and the first of a channel is no change of gain (DESIGN CHOICE, log entry 206). -/
def State.holdEntry (s : State) (k q e t : Nat) : State :=
  let s1 := s.advance t
  let x := s1.seq q
  let w := x.entries.getD e 0#32
  let v := s1.svc k
  let g := s1.adc.gains.find? fun p => p.1 == entChan w
  let c : Conv :=
    { seq := q, entry := e, word := w, slice := v.slice, newChan := v.lastChan != some (entChan w),
      newGain := (match g with | some p => p.2 != entGain w | none => false), short := decide (acqNs x.acq3 w < 250),
      inj := seqInj x.cfg != 0, last := decide (lastEntry (fld x.cfg 4 1) x.entries ≤ e), ends := s1.now + 250 * ns }
  let s2 := (s1.modSvc k fun v => { v with acq := none, conv := some c, lastChan := some (entChan w) }).modAdc fun a =>
    { a with gains := Map.insert (entChan w) (entGain w) a.gains }
  if e < lastEntry (fld x.cfg 4 1) x.entries then (s2.modSeq q fun y => { y with next := e + 1 }).acquire q
  else
    let s3 := s2.modSeq q fun y => { y with phase := .idle, next := 0 }
    match s3.nextOn k with
    | some r => s3.acquire r
    | none => s3

/-! ## Results (R99, R100) -/

/-- Index of the calibration word of a channel and gain (R105). -/
def calIndex (chan gain : Nat) : Nat := if 0x30 ≤ chan then 388 + (chan - 0x30) else 4 + 8 * chan + gain

/-- A word of the calibration set in force; neutral while there is none (R107). -/
def State.calWord (s : State) (i : Nat) : Word := if s.adc.calsetSrc = 0 then 0#32 else Map.get (fun _ => 0#32) i s.adc.calset

/-- A signed 16-bit value. -/
def sat16 (x : Int) : Int := clampI (-32768) 32767 x

/-- The slice a conversion ran on, by its number 0 to 23. -/
def Conv.unit (c : Conv) : Nat := c.slice + 12 * chanBank (entChan c.word)

/-- A conversion corrected by the calibration set (R105): the offset trim, in LSB, is added. The manual gives no formula for
the gain trim and the slice's reference trim, so where one of them is not 0 the value is open (log entry 41). -/
def State.corrected (s : State) (c : Conv) (raw : BitVec 16) : Int :=
  let w := s.calWord (calIndex (entChan c.word) (entGain c.word))
  if fld w 16 16 = 0 ∧ s.calWord (414 + c.unit) = 0#32 then sat16 (raw.toInt + sfld w 0 16) else sat16 (s.open_ 0).toInt

/-- The mean of the last conversions, rounded to nearest, ties upward (R99). -/
def meanUp (vals : List Int) : Int :=
  let n : Int := (vals.length : Nat)
  if n = 0 then 0 else (2 * isum vals + n) / (2 * n)

/-- The filter of an entry. -/
def State.filt (s : State) (q e : Nat) : Filt := Map.get (fun _ => filtReset) (32 * q + e) s.adc.filts

/-- The filter after a conversion: what restarts it, and how many results still settle (R100). -/
def State.filtNext (s : State) (c : Conv) (v : Int) (flags : Nat) : Filt × Bool :=
  let f := s.filt c.seq c.entry
  let short := c.newChan && c.short
  let rewritten := f.word != c.word
  let i := if c.newGain then 2 else if short then 1 else 0
  let restart := c.newGain || short || rewritten
  let inval := if restart then max i f.inval else f.inval
  let vals := if restart then [] else f.vals
  let fl := if restart then [] else f.flags
  if 0 < inval then ({ vals := vals, flags := fl, inval := inval - 1, word := c.word }, true)
  else
    let vs := (v :: vals).take (entAvg c.word)
    ({ vals := vs, flags := (flags :: fl).take (entAvg c.word), inval := 0, word := c.word },
     decide (vs.length < entAvg c.word))

/-- A conversion ends: its result word is on its way, 200 ns to delivery. While an averaging filter is filling, VALUE is
open (log entry 42). -/
def State.convEnds (s : State) (k : Nat) (c : Conv) (raw : BitVec 16) (over_ : Bool) : State :=
  let s1 := s.advance c.ends
  let v := s1.corrected c raw
  let range := over_ || raw == 0x7FFF#16 || raw == 0x8000#16
  let spare := c.slice != k % 10
  let f := s1.filtNext c v (b2n range + 2 * b2n spare)
  let value := if f.2 && decide (1 < entAvg c.word) then sat16 (s1.open_ 1).toInt
               else if f.2 then v else meanUp f.1.vals
  let anyRange := range || f.1.flags.any fun x => x % 2 == 1
  let anySpare := spare || f.1.flags.any fun x => 2 ≤ x
  let w := wd (value % 65536).toNat ||| at_ 16 4 c.slice ||| bitW 20 f.2 ||| bitW 21 anyRange |||
    bitW 22 c.inj ||| bitW 23 anySpare ||| at_ 24 8 (entTag c.word)
  let d : Delivery :=
    { seq := c.seq, entry := c.entry, word := w, due := s1.now + 200 * ns, last := c.last, gain := entGain c.word }
  ((s1.modSvc k fun v => { v with conv := none }).modAdc fun a => { a with
    filts := Map.put (fun _ => filtReset) (32 * c.seq + c.entry) f.1 a.filts,
    flight := a.flight ++ [d] }).took 2

/-! ## Window monitors and delivery (R91, R101) -/

/-- One window monitor meets a result. -/
def State.wmonStep (s : State) (d : Delivery) (n : Nat) : State :=
  let cfg := s.ureg (A.ADC_WMON_CFG n)
  if !bitAt cfg 16 || fld cfg 0 4 != d.seq || fld cfg 4 5 != d.entry || bitAt d.word 20 then s
  else
    let lim := s.ureg (A.ADC_WMON_LIM n)
    let v := sfld d.word 0 16
    let outside := decide (v < sfld lim 0 16) || decide (sfld lim 16 16 < v)
    let was := s.adc.wmon.testBit n
    let s1 := s.modAdc fun a => { a with wmon := setBit a.wmon n outside }
    if outside && !was then
      let s2 := s1.event 0x31 n
      let s3 := if bitAt cfg 17 then s2.trigAll 3 n else s2
      if bitAt cfg 18 then s3.trigger 3 else s3
    else s1

/-- A result word reaches the engines and the result memory. -/
def State.deliver (s : State) (d : Delivery) : State :=
  let s1 := s.advance d.due
  let tag := fld d.word 24 8
  let s2 := s1.modAdc fun a => { a with
    flight := a.flight.drop 1,
    results := Map.put (fun _ => 0x100000#32) (32 * d.seq + d.entry) d.word a.results,
    roles := if !bitAt d.word 20 && decide (0x80 ≤ tag) && decide (tag < 0x96) then
        Map.insert tag (sfld d.word 0 16, d.gain) a.roles else a.roles }
  let s3 := (List.range 32).foldl (fun s n => s.wmonStep d n) s2
  if d.last then (s3.modSeq d.seq fun x => { x with exec := (x.exec + 1) % 65536 }).event 0x30 d.seq else s3

/-! ## Background calibration (R102 to R104) -/

/-- The slices that stand outside service in a bank. -/
def spareSlices (bank : Nat) : List Nat := if bank = 0 then [10, 11] else [22, 23]

/-- The idle spare of a bank. -/
def State.idleSpare (s : State) (bank : Nat) : Option Nat :=
  (spareSlices bank).find? fun n => s.adc.slices.getD n .idle == .idle

/-- Change the pool state of a slice. -/
def State.modSlice (s : State) (n : Nat) (p : Pool) : State :=
  { s with adc := { s.adc with slices := setAt p n s.adc.slices } }

/-- The step of the rotation ends; the next comes an INTERVAL after this one began. -/
def State.rotEnds (s : State) : State :=
  s.modAdc fun a => { a with
    rot := .idle, rotSlot := (a.rotSlot + 1) % 20, rotDue := a.rotFrom + ms (fld (s.ureg A.ADC_CAL_CFG) 0 16) }

/-- A bank has no idle spare: NOCAL, and its slot is skipped. CAL_SUSPENDED is raised as NOCAL is set (DESIGN CHOICE, log entry
207). -/
def State.suspend (s : State) : State :=
  let b := s.adc.rotSlot / 10
  let had := s.adc.nocal.getD b false
  ((s.modAdc fun a => { a with nocal := setAt true b a.nocal }).eventIf (!had) 0x30 32 b).rotEnds

/-- An idle spare of the slot's bank starts to calibrate itself, or the slot is skipped. It stands in for the slot's slice
from here on (R36, R37). -/
def State.spareCal (s : State) : State :=
  let k := s.adc.rotSlot
  match s.idleSpare (k / 10) with
  | none => s.suspend
  | some n =>
    (s.modSlice n .rotation).modAdc fun a => { a with
      rot := .spareCal, rotSpare := n, rotOwn := (s.svc k).slice + 12 * (k / 10), rotDue := s.now + us 1600 }

/-- The rotation moves to the next service slot. STEPS counts every step as it begins, one that is skipped too (DESIGN CHOICE, log
entry 118). -/
def State.calStep (s : State) : State :=
  let s1 := s.advance s.adc.rotDue
  (s1.modAdc fun a => { a with rotFrom := s1.now, rotSteps := (a.rotSteps + 1) % 65536 }).spareCal

/-- The pool member of a spare slice (R35). -/
def sliceMember (n : Nat) : Nat := 0x32 + (n % 12 - 10) + 2 * (n / 12)

/-- WAIT. -/
def State.calWait (s : State) : Nat := ms (fld (s.ureg A.ADC_CAL_CFG) 24 8)

/-- A calibration passes its check: offset correction within ±64 LSB, gain correction, in units of 2⁻²⁰, within ±0.5 %, and
convergence within the 1.6 ms (R104). -/
def calPasses (offset gain : Int) (converged : Bool) : Bool :=
  converged && decide (absI offset ≤ 64) && decide (200 * absI gain ≤ 1048576)

/-- A slice fails its calibration check (R104). -/
def State.calFail (s : State) (failed by_ : Nat) : State := s.event 0x30 17 failed [failed, by_]

/-- The rotation spare has calibrated itself. One that fails raises CAL_FAIL too, which names it twice (DESIGN CHOICE, log entry
236). -/
def State.spareCalEnds (s : State) (pass : Bool) : State :=
  let s1 := s.advance s.adc.rotDue
  if pass then s1.modAdc fun a => { a with rot := .takeOver, rotDue := s1.now + s1.calWait }
  else
    let n := s1.adc.rotSpare
    ((((s1.modSlice n .exhausted).calFail n n).emptied_ (s.poolSum 2) 2)).spareCal

/-- A slot runs no sequence and none bound to it is under way (R103). -/
def State.slotFree (s : State) (k : Nat) : Bool :=
  ((List.range 16).all fun q => (s.seq q).phase == .idle || seqSlot (s.seq q).cfg != k) && (s.svc k).conv.isNone

/-- A handover in either direction, at the next 5 ns edge of the sample clock. The rotation step counts in the spare's
history as it takes over the slot (R37). -/
def State.handover (s : State) : State :=
  let k := s.adc.rotSlot
  let s1 := s.advance (edge5 s.now)
  match s.adc.rot with
  | .takeOver =>
    ((s1.modSvc k fun v => { v with slice := s.adc.rotSpare - 12 * (k / 10) }).wear (sliceMember s.adc.rotSpare)).modAdc
      fun a => { a with rot := .sliceCal, rotDue := s1.now + us 1600 }
  | .takeBack =>
    ((s1.modSvc k fun v => { v with slice := s.adc.rotOwn - 12 * (k / 10) }).modSlice s.adc.rotSpare .idle).rotEnds
  | _ => s

/-- The slot's slice has calibrated: it waits to take the slot back, or the spare stays in its place (R104). -/
def State.sliceCalEnds (s : State) (pass : Bool) : State :=
  let s1 := s.advance s.adc.rotDue
  if pass then s1.modAdc fun a => { a with rot := .takeBack, rotDue := s1.now + s1.calWait }
  else
    let n := s1.adc.rotSpare
    let s2 := (((s1.modSlice n .substituted).modSlice s1.adc.rotOwn .exhausted).wear (sliceMember n)).modAdc fun a =>
      { a with cover := Map.insert n s1.adc.rotOwn a.cover }
    ((s2.calFail s1.adc.rotOwn n).emptied_ (s.poolSum 2) 2).rotEnds

/-- No handover was possible for WAIT (R103). A slot that its spare serves goes on waiting to be taken back. -/
def State.calStarves (s : State) : State :=
  let s1 := (s.advance s.adc.rotDue).event 0x30 18 s.adc.rotSlot
  match s.adc.rot with
  | .takeOver => (s1.modSlice s.adc.rotSpare .idle).rotEnds
  | _ => s1.modAdc fun a => { a with rotDue := s1.now + s1.calWait }

/-! ## The calibration set (R105 to R107) -/

/-- The set in the staging buffer passes the checks of the write. -/
def calsetOk (m : List (Nat × Word)) : Bool :=
  let get := fun i => Map.get (fun _ => 0#32) i m
  get 0 == 1#32 && get 1 == 2#32 && (m.all fun p => decide (p.1 < 438) || p.1 == 1023) &&
  (get 1023).toNat == crc32 ((List.range 1023).flatMap fun i => leBytes 4 (get i).toNat)

/-- Check the set in flash as ADC becomes ready (R107). -/
def State.calsetCheck (s : State) : State :=
  if s.adc.calsetOk then
    s.modAdc fun a => { a with calset := a.calsetFlash, calsetSrc := if Map.get (fun _ => 0#32) 1 a.calsetFlash = 2#32 then 2 else 1 }
  else (s.modAdc fun a => { a with calset := [], calsetSrc := 0 }).event 0x30 20 0xFFFF [1]

/-- The write of the set begins: until it is complete the record in flash is not valid. -/
def State.calsetBegin (s : State) : State :=
  s.modAdc fun a => { a with calsetBusy := true, calsetFlash := a.staging, calsetOk := false }

/-- The flash write is complete: the values are used from the next beat start (R106). A flash die that has failed in the
meantime completes nothing (R42). -/
def State.calsetDone (s : State) : State :=
  if s.mem.flashFail then s.modAdc fun a => { a with calsetBusy := false }
  else (s.modAdc fun a => { a with calsetBusy := false, calsetOk := true, calsetNext := true }).event 0x30 20 0xFFFF [2]

/-- A written set comes into force at a beat start. -/
def State.calsetBeat (s : State) : State :=
  if s.adc.calsetNext then s.modAdc fun a => { a with calset := a.calsetFlash, calsetSrc := 2, calsetNext := false } else s

/-! ## Comparators (R108 to R110) -/

/-- Hysteresis of a CMP_CFG, µV (R115). -/
def cmpHyst (cfg : Word) : Int := match fld cfg 8 2 with | 0 => 0 | 1 => 8000 | 2 => 16000 | _ => 32000

/-- Threshold of a circuit with a CODE, µV: (CODE − 512) × 4.0 mV with the circuit's trim, in units of 0.25 mV, added
(R105, R108). -/
def State.cmpLevel (s : State) (c n : Nat) : Int :=
  ((fld (s.ureg (A.CMP_THR n)) 0 10 : Nat) - 512 : Int) * 4000 + 250 * (s.calWord (396 + c)).toInt

/-- How far an input lies past the threshold in the direction that asserts, µV. -/
def State.cmpOver (s : State) (c n : Nat) : Int :=
  let cfg := s.cmpCfg n
  let v := Map.get (fun _ => (0 : Int)) (fld cfg 0 6) s.adc.ain
  if bitAt cfg 6 then s.cmpLevel c n - v else v - s.cmpLevel c n

/-- A circuit's output with its input that far past the threshold (R108): it asserts with 5 mV of overdrive, releases with
5 mV past the threshold less the hysteresis, and keeps its output between the two. With less overdrive it may change or
not: none. -/
def cmpNext (on : Bool) (hyst over_ : Int) : Option Bool :=
  if 5000 ≤ over_ then some true
  else if 0 < over_ then (if on then some true else none)
  else if -hyst ≤ over_ then some on
  else if -hyst - 5000 < over_ then (if on then none else some false)
  else some false

/-- The output of a circuit as it stands now; a circuit that serves no enabled comparator, or is not powered, shows none. -/
def State.circuitOut (s : State) (c : Nat) : Bool :=
  match s.cmpServed c with
  | none => false
  | some n =>
    s.cmpPowered && bitAt (s.cmpCfg n) 31 &&
    (match cmpNext (s.adc.cmpRaw.testBit c) (cmpHyst (s.cmpCfg n)) (s.cmpOver c n) with
     | some b => b
     | none => (s.open_ c).getLsbD 0)

/-- The comparators that show an asserted output. -/
def State.cmpShown (s : State) : List Nat := (List.range 16).filter s.cmpOut

/-- The circuits follow their inputs and settings; the interrupt of each comparator follows its assertion after blanking.
`was`: the comparators that showed an asserted output before. -/
def State.cmpFollow (s : State) (was : List Nat) : State :=
  let raw := (List.range 18).foldl (fun m c => setBit m c (s.circuitOut c)) 0
  let s1 := (s.modAdc fun a => { a with cmpRaw := raw, cmpLive := a.cmpLive && s.sampled }).took 18
  s1.cmpShown.foldl (fun t n => t.eventIf (!was.contains n) 0x32 n) s1

/-- A comparator's input has come to a level, µV. -/
def State.cmpInput (s : State) (n : Nat) (uv : Int) : State :=
  (s.modAdc fun a => { a with ain := Map.put (fun _ => (0 : Int)) (fld (s.cmpCfg n) 0 6) uv a.ain }).cmpFollow s.cmpShown

/-- Settings and calibration trims that take effect at a beat start (R24, R106): `before` is the state before it. -/
def State.cmpBeat (s before : State) : State :=
  let page := fun (m : List (Nat × Word)) => m.filter fun p => p.1 / 0x1000 == 0x32
  if page s.used == page before.used && s.sampled == before.sampled && s.adc.calset == before.adc.calset then s
  else s.cmpFollow before.cmpShown

/-- A blanking window of a comparator opens; overlapping windows merge (R85, R109). -/
def State.blankOpen (s : State) (n width : Nat) : State :=
  let old := match s.adc.blank.find? fun p => p.1 == n with | some p => p.2 | none => 0
  s.modAdc fun a => { a with blank := Map.insert n (max old (s.now + width * ns)) a.blank }

/-- A blanking window ends. -/
def State.blankClose (s : State) (n : Nat) : State :=
  match s.adc.blank.find? fun p => p.1 == n with
  | none => s
  | some p =>
    let s1 := s.advance p.2
    let s2 := s1.modAdc fun a => { a with blank := Map.remove n a.blank }
    s2.eventIf (s2.cmpOut n) 0x32 n

/-- The live part of a window of sampled operation begins, 20 µs after that of the window before (R110). -/
def State.windowLive (s : State) : State :=
  let s1 := s.advance (if s.adc.cmpAt = 0 then s.now else s.adc.cmpAt + us 20)
  (s1.modAdc fun a => { a with cmpLive := true, cmpAt := s1.now }).cmpFollow []

/-- The live part ends after 1 µs: the outputs are gated inactive until the next. -/
def State.windowEnds (s : State) : State :=
  let s1 := s.advance (s.adc.cmpAt + us 1)
  (s1.modAdc fun a => { a with cmpLive := false }).cmpFollow []

/-- A window monitor whose registers have changed starts inside with the new ones (R101); a gather entry that has been
written restarts its filter (R100). Both at the beat start from which they are in force. -/
def State.gatherBeat (s before : State) : State :=
  let moved := fun (n : Nat) => before.ureg (A.ADC_WMON_CFG n) != s.ureg (A.ADC_WMON_CFG n) ||
    before.ureg (A.ADC_WMON_LIM n) != s.ureg (A.ADC_WMON_LIM n)
  s.modAdc fun a => { a with
    wmon := (List.range 32).foldl (fun m n => if moved n then setBit m n false else m) a.wmon,
    filts := a.dirty.foldl (fun m k => Map.put (fun _ => filtReset) k { s.filt (k / 32) (k % 32) with word := 0xFFFFFFFF#32 } m)
      a.filts,
    dirty := [] }

end Sys2Proof.Machine
end

