-- ==== Sys2Proof/Machine/MeasureOps.lean ====
section
/-! DEFINITION. The measurement pipeline: roles, redundant pairs, and the sequence quantities in their frames (R90 to
R92, R183, R204 to R207). -/

namespace Sys2Proof.Machine

/-! ## Roles and pairs (R90 to R92) -/

/-- Some enabled sequence in force converts an entry with a tag (R92). -/
def State.tagUsed (s : State) (tag : Nat) : Bool :=
  (List.range 16).any fun q =>
    bitAt (s.ureg (A.ADC_SEQ_CFG q)) 15 &&
    (let es := s.seqEntries q
     (runEntries (fld (s.ureg (A.ADC_SEQ_CFG q)) 4 1) es).any fun w => entTag w == tag)

/-- VALUE of a role in PU32 (R205): RSCALE, signed 8.24 pu/V, times 62.5 µV a count, over the gain. -/
def State.scaled (s : State) (tag : Nat) (value : Int) (gain : Nat) : Int :=
  let num := (s.ureg (A.GRD_RSCALE tag)).toInt * value
  if gain = 7 then sat (quo (num * 2) 1000) else sat (quo num (1000 * 2 ^ gain))

/-- A role's value and one count of it, where a valid result of it has been delivered in this beat. -/
def State.role (s : State) (tag : Nat) : Option (Int × Int) :=
  match s.adc.roles.find? fun p => p.1 == tag with
  | none => none
  | some (_, v, g) => some (s.scaled tag v g, absI (s.scaled tag 1 g))

/-- One beat of a pair (R92). `a` and `b` are the members' valid values; a member that is not configured is invalid. A pair declared in
disagreement stays invalid where only one member is left (DESIGN CHOICE, log entry 233). -/
def pairStep (p : Pair) (thr : Int) (beats : Nat) (a b : Option (Int × Int)) : Pair :=
  match a, b with
  | some x, some y =>
    let mean := quo (x.1 + y.1) 2
    if absI (x.1 - y.1) ≤ thr then
      let agree := min (p.agree + 1) beats
      let still := p.declared && decide (agree < beats)
      { dis := 0, agree := agree, declared := still, carried := 0, value := if still then p.value else mean,
        lsb := min x.2 y.2, valid := if still then .invalid else .valid }
    else
      let dis := min (p.dis + 1) beats
      let out := p.declared || decide (beats ≤ dis)
      { dis := dis, agree := 0, declared := out, carried := 0, value := if out then p.value else mean, lsb := min x.2 y.2,
        valid := if out then .invalid else .valid }
  | some x, none =>
    { p with dis := 0, agree := 0, carried := 0, value := if p.declared then p.value else x.1, lsb := x.2,
             valid := if p.declared then .invalid else .valid }
  | none, some y =>
    { p with dis := 0, agree := 0, carried := 0, value := if p.declared then p.value else y.1, lsb := y.2,
             valid := if p.declared then .invalid else .valid }
  | none, none =>
    let c := min (p.carried + 1) 3
    { p with dis := 0, agree := 0, carried := c,
             valid := if p.declared || p.valid == .invalid || decide (2 < c) then .invalid else .carried }

/-- The tags of quantities 0x00 to 0x0C: A, and B where there is one. -/
def quantTags (q : Nat) : Nat × Option Nat :=
  if q < 3 then (0x80 + q, some (0x83 + q))
  else if q < 6 then (0x86 + (q - 3), some (0x89 + (q - 3)))
  else if q = 6 then (0x8C, none)
  else if q = 7 then (0x8D, none)
  else if q < 0xB then (0x8E + (q - 8), some (0x91 + (q - 8)))
  else (0x94 + (q - 0xB), none)

/-- Change a quantity. -/
def State.setQuant (s : State) (q : Nat) (x : Quant) : State :=
  { s with loop := { s.loop with quants := Map.put (fun _ => quantReset) q x s.loop.quants } }

/-- One of the quantities formed from roles, in this beat. -/
def State.formPair (s : State) (q : Nat) : State :=
  let t := quantTags q
  let has := fun (tag : Nat) => if s.tagUsed tag then s.role tag else none
  let old := Map.get (fun _ => pairReset) q s.adc.pairs
  let thr := pu16 (fld (s.ureg A.ADC_RED_THR) 0 16)
  let new := pairStep old thr (fld (s.ureg A.ADC_RED_THR) 16 8) (has t.1) (match t.2 with | some b => has b | none => none)
  let s1 := s.modAdc fun a => { a with pairs := Map.put (fun _ => pairReset) q new a.pairs }
  let s2 := s1.setQuant q { ok := new.valid != .invalid, val := new.value, lsb := new.lsb }
  s2.eventIf (new.declared && !old.declared) 0x30 19 q

/-- Quantities 0x00 to 0x0C. -/
def State.formPairs (s : State) : State := (List.range 13).foldl State.formPair s

/-! ## Sequences (R206, R207) -/

/-- 1/√3 and √3 as multiples of 2⁻⁶⁰ (log entry 11). -/
abbrev invSqrt3 : Int := 665639541039271463
abbrev sqrt3 : Int := 1996918623117814388

/-- The α and β components of three phase values. -/
def clarke (a b c : Int) : Int × Int := (quo (2 * a - b - c) 3, quo ((b - c) * invSqrt3) (2 ^ 60))

/-- A vector in the positive frame: d along L1's fundamental, q lagging d by 90 degrees. -/
def toDq (th : Word) (v : Int × Int) : Int × Int :=
  (sat (quo (v.1 * sinA th - v.2 * cosA th) 0x10000000), sat (quo (-(v.1 * cosA th + v.2 * sinA th)) 0x10000000))

/-- The same vector seen from the negative frame: L2 exchanged with L3. -/
def mirror (v : Int × Int) : Int × Int := (v.1, -v.2)

/-- A d and q pair back as α and β. -/
def fromDq (th : Word) (p : Int × Int) : Int × Int :=
  (quo (p.1 * sinA th - p.2 * cosA th) 0x10000000, quo (-(p.1 * cosA th + p.2 * sinA th)) 0x10000000)

/-- The value of a phase in a vector of α and β. -/
def phaseOf (x : Nat) (v : Int × Int) : Int :=
  if x = 0 then v.1
  else if x = 1 then quo (v.2 * sqrt3 - v.1 * 2 ^ 60) (2 ^ 61)
  else quo (-(v.2 * sqrt3) - v.1 * 2 ^ 60) (2 ^ 61)

/-- A phase's value of a positive and a negative sequence pair at an angle. -/
def phaseAt (x : Nat) (th : Word) (pos neg : Int × Int) : Int :=
  padd (sat (phaseOf x (fromDq th pos))) (sat (phaseOf x (mirror (fromDq (-th) neg))))

/-- Positive and negative sequence of a vector and the same vector a quarter cycle ago: delayed-signal cancellation. -/
def separate (v w : Int × Int) : (Int × Int) × (Int × Int) :=
  ((quo (v.1 - w.2) 2, quo (v.2 + w.1) 2), (quo (v.1 + w.2) 2, quo (v.2 - w.1) 2))

/-- The nine phase values of this beat: grid voltage, current, converter-side voltage; empty where one is invalid. -/
def State.phaseVals (s : State) : List Int :=
  let qs := [0, 1, 2, 3, 4, 5, 8, 9, 10]
  qs.map fun q => if (s.quant q).ok then (s.quant q).val else 0

/-- A group of three phase values, 0 grid voltage, 1 current, 2 converter side, is valid. -/
def State.groupOk (s : State) (g : Nat) : Bool :=
  (List.range 3).all fun x => (s.quant (if g = 2 then 8 + x else 3 * g + x)).ok

/-- Three values of a beat's nine as a vector. -/
def vecOf (vals : List Int) (g : Nat) : Int × Int := clarke (vals.getD (3 * g) 0) (vals.getD (3 * g + 1) 0) (vals.getD (3 * g + 2) 0)

/-- The values a quarter cycle of beats ago. -/
def State.quarterAgo (s : State) : Option (List Int) := s.loop.hist[s.ang.div / 4]?

/-- Positive and negative d and q of a group in this beat. -/
def State.seqDq (s : State) (g : Nat) : (Int × Int) × (Int × Int) :=
  let now := s.loop.hist.headD []
  let old := (s.quarterAgo).getD []
  let p := separate (vecOf now g) (vecOf old g)
  (toDq s.angle p.1, toDq (-s.angle) (mirror p.2))

/-- A sequence pair of a group as two quantities, of 2⁻²⁸ pu (R193). -/
def State.putDq (s : State) (q : Nat) (ok : Bool) (p : Int × Int) : State :=
  (s.setQuant q { ok := ok, val := p.1, lsb := 1 }).setQuant (q + 1) { ok := ok, val := p.2, lsb := 1 }

/-- The active cells of the device. -/
def State.activeCells (s : State) : List Nat := s.usedCells.filter fun c => (s.cell c).st == .active

/-- The sum of VDC of cells, pu of V_B, held as an integer of 2⁻²⁸. -/
def State.vdcSum (s : State) (cs : List Nat) : Int := isum (cs.map fun c => s.vdcPu c)

/-- Quantities 0x20 to 0x23. -/
def State.formVdc (s : State) : State :=
  let s1 := [0, 1, 2].foldl (fun s x =>
    let cs := s.cellsIn x .active
    s.setQuant (0x20 + x) { ok := !cs.isEmpty, val := sat (s.vdcSum cs), lsb := 1 }) s
  let all := s1.activeCells
  s1.setQuant 0x23 { ok := !all.isEmpty, val := if all.isEmpty then 0 else sat (quo (s1.vdcSum all) all.length), lsb := 1 }

/-- Quantities 0x10 to 0x19 (R206, R207). -/
def State.formDq (s : State) : State :=
  let h := s.phaseVals :: s.loop.hist.take 256
  let s1 := { s with loop := { s.loop with hist := h } }
  let aged := s1.quarterAgo.isSome
  let v := s1.seqDq 0
  let i := s1.seqDq 1
  let vOk := s1.groupOk 0 && aged
  let iOk := s1.groupOk 1 && aged
  let s2 := (((s1.putDq 0x10 iOk i.1).putDq 0x12 iOk i.2).putDq 0x14 vOk v.1).putDq 0x16 vOk v.2
  let p := sat (quo (v.1.1 * i.1.1 + v.1.2 * i.1.2 + v.2.1 * i.2.1 + v.2.2 * i.2.2) 0x10000000)
  let q := sat (quo (v.1.1 * i.1.2 - v.1.2 * i.1.1 + v.2.1 * i.2.2 - v.2.2 * i.2.1) 0x10000000)
  (s2.setQuant 0x18 { ok := vOk && iOk, val := p, lsb := 1 }).setQuant 0x19 { ok := vOk && iOk, val := q, lsb := 1 }

/-- Quantity 0x1A. -/
def State.formRate (s : State) : State :=
  s.setQuant 0x1A { ok := true, val := sat (quo ((s.ang.rate * 4096 : Nat) : Int) s.fnom), lsb := 1 }

/-- The measurement pipeline of a beat. -/
def State.measure (s : State) : State := s.formPairs.formDq.formRate.formVdc

end Sys2Proof.Machine
end

