-- ==== Sys2Proof/Machine/RtiOps.lean ====
section
/-! DEFINITION. The ride-through and islanding unit: profiles, what it measures, RIDE entry and return, trip regions,
phase jumps, the coded signature, passive detection, islanding and reconnection (R263 to R289). -/

namespace Sys2Proof.Machine

/-! ## Profiles (R264 to R268) -/

/-- A word of a profile store by profile and byte offset. -/
def profWord (m : List (Nat × Word)) (p b : Nat) : Word := Map.get (fun _ => 0#32) (256 * p + b / 4) m

/-- A word of the profile in force. -/
def State.pw (s : State) (b : Nat) : Word := Map.get (fun _ => 0#32) (b / 4) s.rti.words

/-- Change the unit. -/
def State.modRti (s : State) (f : Rti → Rti) : State := { s with rti := f s.rti }

/-- The breakpoints of a curve from a byte offset: V and T of the first `n`. -/
def breakpoints (w : Nat → Word) (b n : Nat) : List (Nat × Nat) :=
  (List.range n).map fun i => (fld (w (b + 4 * i)) 0 16, fld (w (b + 4 * i)) 16 16)

/-- The times of a curve rise strictly. -/
def rising : List (Nat × Nat) → Bool
  | a :: b :: rest => decide (a.2 < b.2) && rising (b :: rest)
  | _ => true

/-- A curve is in order: its first time is 0, its times rise, and the words beyond it are 0 (R267). -/
def curveOk (w : Nat → Word) (b n : Nat) (v : Nat → Bool) : Bool :=
  let c := breakpoints w b n
  decide (1 ≤ n) && decide (n ≤ 16) && (match c with | (_, t) :: _ => t == 0 | [] => false) && rising c &&
  (c.all fun p => v p.1) && (List.range (16 - n)).all fun i => w (b + 4 * (n + i)) == 0#32

/-- A frequency window is unused, or on its side of nominal (R266, R267). -/
def fwinOk (w : Word) (side : Nat → Bool) : Bool := fld w 0 16 == 0 || side (fld w 0 16)

/-- The fields of the first words lie in their ranges (R266). -/
def fieldsOk (w : Nat → Word) : Bool :=
  let rc := fld (w 0x30) 0 16
  let piDf := fld (w 0x54) 0 16
  let piRc := fld (w 0x58) 0 16
  let piVs := fld (w 0x58) 16 16
  let ent := fld (w 8) 0 16
  let hi := fld (w 8) 16 16
  let pj := fld (w 0x28) 0 16
  let trip := fld (w 0x28) 16 16
  fld (w 0) 0 8 == 1 && fld (w 0) 13 3 == 0 && fld (w 0) 21 3 == 0 && fld (w 0) 24 2 != 3 && fld (w 0) 27 5 == 0 &&
  inR (w 8) 0 16 500 990 && inR (w 8) 16 16 1010 1500 && inR (w 0xC) 0 16 ent 999 && inR (w 0xC) 16 16 1001 hi &&
  inR (w 0x10) 0 5 1 16 && fld (w 0x10) 5 11 == 0 && inR (w 0x10) 16 16 10 10000 &&
  inR (w 0x14) 0 16 1 6000 && inR (w 0x14) 16 16 0 10000 && inR (w 0x18) 0 16 0 2560 && inR (w 0x18) 16 16 0 1500 &&
  inR (w 0x1C) 0 16 0 1500 && fld (w 0x1C) 16 2 != 3 && fld (w 0x1C) 18 14 == 0 &&
  inR (w 0x20) 0 16 0 2560 && inR (w 0x20) 16 16 0 1000 && inR (w 0x24) 0 16 1 10000 && inR (w 0x24) 16 16 1 10000 &&
  inR (w 0x28) 0 16 20 1800 && (trip == 0 || decide (pj < trip)) && inR (w 0x2C) 0 16 10 5000 && fld (w 0x2C) 24 8 == 0 &&
  ((rc == 0 && piRc == 0) || inR (w 0x2C) 16 8 2 50) && (rc == 0 || inR (w 0x30) 16 16 0 10000) &&
  ((piDf == 0 && piRc == 0) || inR (w 0x54) 16 16 10 10000) && (piVs == 0 || decide (piVs < pj)) &&
  (!bitAt (w 0) 26 || (inR (w 0x5C) 0 8 50 150 && inR (w 0x5C) 16 16 10 10000)) && fld (w 0x5C) 8 8 == 0 &&
  decide (fld (w 0x60) 0 16 < fld (w 0x60) 16 16) && decide (fld (w 0x64) 0 16 < fld (w 0x64) 16 16) &&
  inR (w 0x68) 0 16 0 3600 && fld (w 0x68) 16 16 == 0

/-- The values half of a profile is valid at a nominal frequency in 0.01 Hz (R266, R267). -/
def valuesOk (w : Nat → Word) (nom : Nat) : Bool :=
  fieldsOk w &&
  ((List.range 4).all fun i => fwinOk (w (0x34 + 4 * i)) fun f => decide (f < nom)) &&
  ((List.range 4).all fun i => fwinOk (w (0x44 + 4 * i)) fun f => decide (nom < f)) &&
  curveOk w 0x80 (fld (w 0) 8 5) (fun v => decide (v ≤ fld (w 8) 0 16)) &&
  curveOk w 0xC0 (fld (w 0) 16 5) (fun v => decide (fld (w 8) 16 16 ≤ v)) &&
  ((List.range 5).all fun i => w (0x6C + 4 * i) == 0#32) && ((List.range 63).all fun i => w (0x100 + 4 * i) == 0#32) &&
  (w 0x1FC).toNat == crc32 ((List.range 127).flatMap fun i => leBytes 4 (w (4 * i)).toNat)

/-- The complement half holds the complements (R266). -/
def halvesOk (w : Nat → Word) : Bool := (List.range 128).all fun i => w (0x200 + 4 * i) == ~~~ (w (4 * i))

/-- A stored profile is valid (R264). -/
def State.profValid (s : State) (p : Nat) : Bool :=
  let w := profWord s.rti.store p
  w 0 != 0#32 && halvesOk w && valuesOk w (s.fnom * 100)

/-- The words of a profile in the store, by word. -/
def profWords (m : List (Nat × Word)) (p : Nat) : List (Nat × Word) :=
  m.filterMap fun e => if e.1 / 256 = p then some (e.1 % 256, e.2) else none

/-- A committed profile that is in force is used from the next beat start (R268). -/
def State.refreshProfile (s : State) : State :=
  match s.rti.act with
  | some p => if s.profValid p then s.modRti fun r => { r with words := profWords r.store p } else s
  | none => s

/-- The selected profile comes into force where it can (R264, R265). -/
def State.selectProfile (s : State) : State :=
  if !s.selOk then s
  else
    let p := s.psel
    if s.rti.act = some p then s.modRti fun r => { r with refused := none }
    else if !s.profValid p then
      (if s.rti.refused = some p then s else (s.modRti fun r => { r with refused := some p }).event 0xA0 6 p [1])
    else if s.modes.cur = .ride ∨ s.grd.xfer ≠ .none then s.modRti fun r => { r with refused := none }
    else (s.modRti fun r => { r with act := some p, words := profWords r.store p, refused := none }).event 0xA0 6 p [0]

/-- An open edit is abandoned (R268). -/
def State.dropEdit (s : State) : State := if s.rti.busy.isSome then s else s.modRti fun r => { r with edit := none, staging := [] }

/-- A commit begins to write the staged profile. -/
def State.commitProfile (s : State) (p : Nat) : State := s.modRti fun r => { r with busy := some p, edit := none }

/-- The flash write of a profile is complete. -/
def State.profileDone (s : State) : State :=
  match s.rti.busy with
  | none => s
  | some p =>
    (s.modRti fun r => { r with
      busy := none, lastStat := .ok,
      store := (r.staging.foldl (fun m e => Map.put (fun _ => 0#32) (256 * p + e.1) e.2 m)
        (r.store.filter fun e => e.1 / 256 != p)), staging := [] }).event 0xA0 5 p

/-! ## What the unit measures (R269, R270) -/

/-- Thousandths of a per-unit value. -/
def milli (n : Nat) : Int := puFrac n 1000

/-- The magnitude of each line-to-line voltage, pu of √3 V_B, from this beat and a quarter cycle before. -/
def State.lineMag (s : State) (x : Nat) : Int :=
  let now := s.loop.hist.headD []
  let old := s.quarterAgo.getD []
  let d := fun (l : List Int) => l.getD x 0 - l.getD ((x + 1) % 3) 0
  sat (quo (isqrt (d now * d now + d old * d old) * invSqrt3) (2 ^ 60))

/-- Grid voltage of every phase is valid. -/
def State.gridOk (s : State) : Bool := s.groupOk 0

/-- The start of this beat in monotone time. -/
def State.beatMono (s : State) : Nat := s.ang.began

/-- U_low, U_high and f in the pipeline. -/
def State.rtiMeasure (s : State) : State :=
  let f := s.ang.freq
  if s.gridOk && s.quarterAgo.isSome then
    let a := s.lineMag 0
    let b := s.lineMag 1
    let c := s.lineMag 2
    s.modRti fun r => { r with ulow := min a (min b c), uhigh := max a (max b c), freq := f }
  else s.modRti fun r => { r with freq := f }

/-- ROCOF and the history of U⁺ at a cycle start (R270, R272); chip 0 begins with nothing gathered before it (R278, R279). -/
def State.rtiCycle (s : State) : State :=
  let n := if fld (s.pw 0x30) 0 16 = 0 ∧ fld (s.pw 0x58) 0 16 = 0 then 2 else fld (s.pw 0x2C) 16 8
  let h := (s.rti.freq, s.now) :: s.rti.fHist.take 50
  let rc := match h[n]? with
    | some old => if s.now ≤ old.2 then s.rti.rocof
                  else quo (((s.rti.freq : Int) - (old.1 : Int)) * second) (s.now - old.2)
    | none => s.rti.rocof
  s.modRti fun r => { r with
    fHist := h, rocof := rc,
    upHist := if s.modes.cur = .ride then r.upHist else ((0, 0) :: r.upHist).take 51,
    chipDue := r.sigOn, sigOn := r.sigOn || s.modes.cur.within 0x70,
    chipOk := r.chipOk || !r.sigOn, cycRun := r.cycRun || !r.sigOn,
    vnd := if r.sigOn then r.vnd else 0, vnq := if r.sigOn then r.vnq else 0, vnBeats := if r.sigOn then r.vnBeats else 0 }

/-- A beat begins: one more since the last return from RIDE. -/
def State.rtiBeat (s : State) : State := s.modRti fun r => { r with sinceRide := min (r.sinceRide + 1) 8192 }

/-- The 5 cycles after a return from RIDE have passed (R277, R279). -/
def State.afterGuard (s : State) : Bool := decide (5 * s.ang.div < s.rti.sinceRide)

/-- U⁺ of this beat joins its cycle's mean outside RIDE. -/
def State.upBeat (s : State) : State :=
  if s.modes.cur = .ride then s
  else s.modRti fun r => { r with
    upHist := match r.upHist with | (a, n) :: rest => (a + (s.quant 0x14).val, n + 1) :: rest | [] => [((s.quant 0x14).val, 1)] }

/-- The mean of U⁺ over the last 50 whole cycles, over the present one where none has ended (R272). -/
def State.upMean (s : State) : Int :=
  let h := if s.rti.upHist.length ≤ 1 then s.rti.upHist else s.rti.upHist.tail
  let n := nsum (h.map (·.2))
  if n = 0 then 0 else quo (isum (h.map (·.1))) n

/-! ## Timers -/

/-- A timer meets its condition in a beat; it starts afresh after `lapse` beats without it (R273). -/
def Timer.meet (t : Timer) (now lapse : Nat) (c : Bool) : Timer :=
  if c then { since := some (t.since.getD now), lapse := 0 }
  else if lapse ≤ t.lapse + 1 then timerReset else { t with lapse := t.lapse + 1 }

/-- A timer whose condition holds now has run for a time. -/
def Timer.ran (t : Timer) (now span : Nat) : Bool :=
  match t.since with | some a => t.lapse == 0 && decide (a + span ≤ now) | none => false

/-- A frequency in 0.01 Hz lies above one in 2⁻¹⁶ Hz. -/
def hzAbove (lim f : Nat) : Bool := decide (100 * f < lim * 65536)
def hzBelow (lim f : Nat) : Bool := decide (lim * 65536 < 100 * f)

/-- A rate of frequency exceeds a limit in 0.01 Hz/s. -/
def State.rocofOver (s : State) (lim : Nat) : Bool := lim != 0 && decide ((lim : Int) * 65536 < 100 * absI s.rti.rocof)

/-- f deviates from nominal by more than a limit in 0.01 Hz. -/
def State.freqOff (s : State) (lim : Nat) : Bool :=
  lim != 0 && decide ((lim : Int) * 65536 < 100 * absI ((s.rti.freq : Int) - ((s.fnom * 65536 : Nat) : Int)))

/-- The conditions of the twelve timers, in their order: FU_1 to FU_4, FO_1 to FO_4, ROCOF, LOCK, and the passive ones. -/
def State.timerConds (s : State) : List Bool :=
  let run := s.modes.cur.within 0x70
  let passive := s.modes.cur == .follow && s.afterGuard
  ((List.range 4).map fun i => run && fld (s.pw (0x34 + 4 * i)) 0 16 != 0 && hzAbove (fld (s.pw (0x34 + 4 * i)) 0 16) s.rti.freq) ++
  ((List.range 4).map fun i => run && fld (s.pw (0x44 + 4 * i)) 0 16 != 0 && hzBelow (fld (s.pw (0x44 + 4 * i)) 0 16) s.rti.freq) ++
  [run && s.rocofOver (fld (s.pw 0x30) 0 16), s.modes.cur.within 0x50 && !s.ang.lock,
   passive && s.freqOff (fld (s.pw 0x54) 0 16), passive && s.rocofOver (fld (s.pw 0x58) 0 16)]

/-- Advance the timers by a beat; the passive ones lapse at once. -/
def State.rtiTimers (s : State) : State :=
  let cs := s.timerConds
  s.modRti fun r => { r with
    timers := r.timers.zipIdx.map fun p => p.1.meet s.beatMono (if p.2 < 10 then s.ang.div else 1) (cs.getD p.2 false) }

/-- A timer of the unit has run for a time in ms. -/
def State.timerRan (s : State) (i span : Nat) : Bool := (s.rti.timers.getD i timerReset).ran s.beatMono (ms span)

/-! ## Trip regions (R273) -/

/-- Time in RIDE at the start of this beat. -/
def State.rideTime (s : State) : Nat := s.beatMono - s.rti.rideT

/-- The value of a curve at a time, PU32: linear between its points, its last value after them. -/
def curveAt : List (Nat × Nat) → Nat → Int
  | [], _ => 0
  | [(v, _)], _ => milli v
  | (v, a) :: (w, b) :: rest, t =>
    if ms b ≤ t then curveAt ((w, b) :: rest) t
    else sat (milli v + quo ((milli w - milli v) * ((t : Int) - (ms a : Nat))) (ms (b - a)))

/-- A phase jump above PJ_TRIP in this beat (R276). -/
def State.tripJump (s : State) : Bool :=
  match s.rti.jump with
  | some j => fld (s.pw 0x28) 16 16 != 0 && decide (deg10 (fld (s.pw 0x28) 16 16) < absI j)
  | none => false

/-- The rows of R273 in order: the first met. `ride` holds in RIDE and in the beat that decides its entry. -/
def State.tripRow (s : State) (ride : Bool) : Option Nat :=
  let w := s.pw
  let t := s.rideTime
  let any := fun (o i : Nat) => (List.range 4).any fun k => s.timerRan (i + k) (fld (w (o + 4 * k)) 16 16)
  let rows : List (Bool × Nat) :=
    [(ride && s.gridOk && decide (s.rti.ulow < curveAt (breakpoints w 0x80 (fld (w 0) 8 5)) t), 1),
     (ride && s.gridOk && decide (curveAt (breakpoints w 0xC0 (fld (w 0) 16 5)) t < s.rti.uhigh), 2),
     (s.modes.cur == .ride && decide (ms (100 * fld (w 0x14) 0 16) ≤ t), 3),
     (any 0x34 0, 4), (any 0x44 4, 5), (s.timerRan 8 (fld (w 0x30) 16 16), 6),
     (s.tripJump, 7),
     (s.timerRan 9 (fld (w 0x14) 16 16), 8), (!s.gridOk, 9)]
  (rows.find? (·.1)).map (·.2)

/-- PROFILE latches with the first row met. -/
def State.profileTrip (s : State) (row : Nat) : State :=
  if s.modes.cond.testBit cProfile then s
  else
    let s1 := s.modRti fun r => { r with tripWhy := row, latches := satInc 16 r.latches 1, reconFrom := none, reconDone := false }
    (s1.event 0xA0 2 row).causeOn cProfile

/-! ## RIDE (R271, R274 to R276) -/

/-- A phase jump above PJ_RIDE in this beat, and not above PJ_TRIP: the first row of R276 that matches. -/
def State.rideJump (s : State) : Bool :=
  !s.tripJump && match s.rti.jump with | some j => decide (deg10 (fld (s.pw 0x28) 0 16) < absI j) | none => false

/-- RIDE entry is decided (R54, R271). -/
def State.decideRide (s : State) (cause : Nat) : State :=
  if s.modes.next = some .hold then s
  else
    let s1 := { s with modes := { s.modes.abandon with next := some .ride, rideFrom := s.modes.cur } }
    s1.modRti fun r => { r with
      cause := cause, rideT := s.beatMono, detect := none, entLow := 0, entHigh := 0, bandFrom := none,
      pjFrom := if s.rideJump then some s.beatMono else none, zOver := 0 }

/-- The return from RIDE is decided. -/
def State.decideReturn (s : State) : State :=
  if s.modes.next = some .hold then s
  else { s with modes := { s.modes with next := some s.modes.rideFrom, tgt := s.modes.rideFrom } }

/-- The return conditions hold (R274). -/
def State.returnDue (s : State) : Bool :=
  (match s.rti.bandFrom with | some a => decide (a + ms (fld (s.pw 0x10) 16 16) ≤ s.beatMono) | none => false) &&
  (match s.rti.pjFrom with | some a => decide (a + ms (fld (s.pw 0x2C) 0 16) ≤ s.beatMono) | none => true) && !s.ang.slew

/-- The return band in RIDE. -/
def State.returnBand (s : State) : State :=
  let inside := s.gridOk && decide (milli (fld (s.pw 0xC) 0 16) ≤ s.rti.ulow) && decide (s.rti.uhigh ≤ milli (fld (s.pw 0xC) 16 16))
  s.modRti fun r => { r with bandFrom := if inside then some (r.bandFrom.getD s.beatMono) else none }

/-- Consecutive beats beyond the entry thresholds. -/
def State.entryCounts (s : State) : State :=
  let low := s.gridOk && decide (s.rti.ulow < milli (fld (s.pw 8) 0 16))
  let high := s.gridOk && decide (milli (fld (s.pw 8) 16 16) < s.rti.uhigh)
  s.modRti fun r => { r with
    entLow := if low then min (r.entLow + 1) 255 else 0, entHigh := if high then min (r.entHigh + 1) 255 else 0 }

/-- The cause of RIDE entry that is met, if one is. -/
def State.entryCause (s : State) : Option Nat :=
  let n := fld (s.pw 0x10) 0 5
  if n ≤ s.rti.entLow ∧ 0 < s.rti.entLow then some 1
  else if n ≤ s.rti.entHigh ∧ 0 < s.rti.entHigh then some 2
  else if s.rideJump then some 3 else none

/-! ## Islanding (R277, R281 to R283) -/

/-- A transfer begins: its first beat is the next beat (R221, R222). -/
def State.beginXfer (s : State) (x : Xfer) (tgt : Mode) (asked : Bool) : State :=
  { s with modes := { s.modes with trans := true, tgt := tgt, asked := asked }, grd := { s.grd with xfer := x, xferAt := 0 } }

/-- Roles 0x20 and 0x21 are held by enabled slots (R209). -/
def State.formRoles (s : State) : Bool := (s.roleSlot 0x20).isSome && (s.roleSlot 0x21).isSome

/-- Passive detection runs (R277). -/
def State.passiveOn (s : State) : Bool := s.modes.cur == .follow && s.afterGuard

/-- A passive detector that has fired begins its time anew (DESIGN CHOICE, log entry 210): the one a detection names, and one that
has fired in the same beat, of which the detection is the one action (R286). -/
def State.firedTimers (s : State) (why : Nat) : List Timer :=
  let fired := fun (w k : Nat) => why == w || (s.passiveOn && s.timerRan k (fld (s.pw 0x54) 16 16))
  let anew := fun (w k : Nat) (l : List Timer) => if fired w k then setAt timerReset k l else l
  anew 3 11 (anew 2 10 s.rti.timers)

/-- The action on a detection (R282), taken as TRIP while a stop to WATCH is in progress, up to the beat start that ends it (R54),
and where HOLD has been decided (DEDUCED, log entry 211). A transfer that has just completed goes on to FORM. A transfer that lacks
its roles is refused with NOT_READY and WHY 9 (R209), and the action is then taken as TRIP. -/
def State.islandAct (s : State) (why : Nat) : State :=
  let s1 := s.modRti fun r => { r with
    isl := true, islWhy := why, detect := none, reconFrom := none, reconDone := false, timers := s.firedTimers why }
  let s2 := (s1.event 0xA0 3 why).trigger 5
  let act := s.rti.islact
  match s.modes.cur with
  | .follow =>
    if act = 2 then s2
    else if act = 1 ∧ s.modes.next = some .form then s2
    else if act = 1 ∧ s.grd.stop = .none ∧ s.modes.next ≠ some .hold ∧ s.modes.next ≠ some .watch then
      (match s.grd.xfer with
       | .toForm _ => { s2 with grd := { s2.grd with xfer := .toForm true, chase := 0, chaseNext := 0 } }
       | _ =>
         if s.formRoles then (s2.beginXfer (.toForm true) .form false)
         else { s2 with modes := { s2.modes with lastStat := .notReady, why := 9 } }.causeOn cIsland)
    else s2.causeOn cIsland
  | .form => if act = 0 then s2.causeOn cIsland else s2
  | _ => s2

/-- A passive detector fires: 2 frequency, 3 ROCOF, 4 vector shift. -/
def State.passiveFires (s : State) (why : Nat) : Bool :=
  s.passiveOn &&
  (if why = 2 then s.timerRan 10 (fld (s.pw 0x54) 16 16)
   else if why = 3 then s.timerRan 11 (fld (s.pw 0x54) 16 16)
   else if why = 4 then
     (match s.rti.jump with
      | some j => fld (s.pw 0x58) 16 16 != 0 && decide (deg10 (fld (s.pw 0x58) 16 16) ≤ absI j) &&
                  decide (absI j ≤ deg10 (fld (s.pw 0x28) 0 16)) && !s.tripJump && decide (puFrac 80 100 ≤ (s.quant 0x14).val)
      | none => false)
   else false)

/-- The detector that fires in this beat. -/
def State.passive (s : State) : Option Nat := [2, 3, 4].find? fun w => s.passiveFires w

/-- A detection waits to be acted on: the coded one ahead of the passive ones (R286). -/
def State.detected (s : State) : Option Nat := match s.rti.detect with | some w => some w | none => s.passive

/-! ## The coded signature (R278 to R281, R283) -/

/-- SIGEN of the profile in force. -/
def State.sigEn (s : State) : Bool := bitAt (s.pw 0) 26

/-- AMP in effect, 0.01 % of I_B. -/
def State.sigAmp (s : State) : Nat := fld s.rti.sigWord 0 8

/-- The chip being sent. -/
def State.chip (s : State) : Bool := s.rti.chips.testBit 0

/-- What the signature adds to the negative-sequence d reference. -/
def State.signature (s : State) : Int :=
  if s.sigEn && s.rti.sigOn && s.modes.cur.within 0x70 then
    (if s.chip then puFrac s.sigAmp 10000 else -(puFrac s.sigAmp 10000))
  else 0

/-- The chips after one has been sent: c(k + 6) = c(k) XOR c(k + 1). -/
def nextChips (c : Nat) : Nat := c / 2 + 32 * ((c + c / 2) % 2)

/-- The seed in use (R278). -/
def State.seedOf (s : State) : Nat :=
  let shift := fld (s.reg A.RTI_SIG_SHIFT) 0 6
  if shift ≠ 0 then shift else s.part.serial % 63 + 1

/-- The signature and its words start anew at entry to FOLLOW or FORM from ENERGIZE (R264, R278, R280). -/
def State.sigStart (s : State) : State :=
  s.modRti fun r => { r with
    seed := s.seedOf, chips := s.seedOf, chipPos := 0, sigOn := false, chipDue := false, chipOk := true, window := [],
    validN := 0, armed := false, cycRun := true, zOver := 0, zUnder := 0, vnd := 0, vnq := 0, vnBeats := 0, isl := false, detect := none, entLow := 0, entHigh := 0,
    sigWord := s.pw 0x5C, islact := fld (s.pw 0) 24 2, sinceRide := 8192 }

/-- The signature in a beat of the pipeline: the chip stays valid, and v⁻ is taken over its second half (R279). -/
def State.sigBeat (s : State) (scaled : Bool) : State :=
  let ok := s.modes.cur.within 0x30 && s.grd.xfer == .none && s.afterGuard && s.gridOk && !scaled
  let half := decide (s.ang.div ≤ 2 * s.ang.idx)
  s.modRti fun r => { r with
    chipOk := r.chipOk && ok, cycRun := r.cycRun && s.modes.cur.within 0x30, vnd := if half then r.vnd + (s.quant 0x16).val else r.vnd,
    vnq := if half then r.vnq + (s.quant 0x17).val else r.vnq, vnBeats := if half then r.vnBeats + 1 else r.vnBeats }

/-- Z of a window of 63 valid chips, 2⁻¹⁶ pu, as d and q. -/
def zOf (amp : Nat) (w : List (Bool × Int × Int)) : Int × Int :=
  let mean := fun (f : Bool × Int × Int → Int) => quo (isum (w.map f)) 63
  let md := mean fun c => c.2.1
  let mq := mean fun c => c.2.2
  let sum := fun (f : Bool × Int × Int → Int) => isum (w.map fun c => if c.1 then f c else -(f c))
  if amp = 0 then (0, 0)
  else (quo (sum (fun c => c.2.1 - md) * 10000) (63 * amp * 4096), quo (sum (fun c => c.2.2 - mq) * 10000) (63 * amp * 4096))

/-- Z is above, or below half of, the threshold in effect. -/
def State.zAbove (s : State) (z : Int) : Bool := decide (((fld s.rti.sigWord 16 16 * 65536 : Nat) : Int) < z * 1000)
def State.zBelow (s : State) (z : Int) : Bool := decide (z * 2000 < ((fld s.rti.sigWord 16 16 * 65536 : Nat) : Int))

/-- A chip has ended (R279 to R281, R283): the correlator, arming, detection and its end. -/
def State.chipEnd (s : State) : State :=
  if !s.rti.chipDue then s
  else
    let r := s.rti
    let en := s.sigEn
    let good := if en then r.chipOk && decide (0 < r.vnBeats) else r.cycRun
    let mean := fun (x : Int) => quo x r.vnBeats
    let win := if en && good then ((s.chip, mean r.vnd, mean r.vnq) :: r.window).take 63 else r.window
    let z := zOf s.sigAmp win
    let mag := isqrt (z.1 * z.1 + z.2 * z.2)
    let full := en && good && decide (win.length = 63)
    let validN := if good then min (r.validN + 1) 63 else r.validN
    let arms := !r.armed && decide (validN = 63)
    let s1 := s.modRti fun r => { r with
      window := win, validN := validN, armed := r.armed || arms, chips := nextChips r.chips, chipPos := (r.chipPos + 1) % 63,
      zmag := if full then mag else r.zmag, zang := if full then atanA z.2 z.1 else r.zang,
      zOver := if full then (if s.zAbove mag then min (r.zOver + 1) 255 else 0) else r.zOver,
      zUnder := if full then (if s.zBelow mag then min (r.zUnder + 1) 63 else 0) else r.zUnder,
      chipOk := true, cycRun := true, chipDue := false, vnd := 0, vnq := 0, vnBeats := 0 }
    let s2 := s1.eventIf arms 0xA0 4
    let s3 := if full && s2.rti.armed && s2.rti.zOver == 2 && s.modes.cur.within 0x30 then
        s2.modRti fun r => { r with detect := some 1 }
      else s2
    if full && s.modes.cur == .form && r.isl && s3.rti.zUnder == 63 then
      (s3.modRti fun r => { r with isl := false }).event 0xA0 7
    else s3

/-! ## Reconnection (R284, R285) -/

/-- The conditions of RTI_STAT.RECONOK. -/
def State.reconNow (s : State) : Bool :=
  s.ang.lock && s.gridOk && decide (milli (fld (s.pw 0x60) 0 16) ≤ s.rti.ulow) &&
  decide (s.rti.uhigh ≤ milli (fld (s.pw 0x60) 16 16)) &&
  !hzAbove (fld (s.pw 0x64) 0 16) s.rti.freq && !hzBelow (fld (s.pw 0x64) 16 16) s.rti.freq

/-- The reconnection time has completed. -/
def State.reconDue (s : State) : Bool :=
  (s.modes.cond.testBit cProfile || s.modes.cond.testBit cIsland) && !s.rti.reconDone &&
  (match s.rti.reconFrom with | some a => decide (a + ms (1000 * fld (s.pw 0x68) 0 16) ≤ s.beatMono) | none => false)

/-- The conditions of PROFILE and ISLAND end. -/
def State.reconEnds (s : State) : State :=
  (((s.modRti fun r => { r with reconDone := true, reconFrom := none }).causeOff cProfile).causeOff cIsland).event 0xA0 8

/-- The reconnection conditions in a beat. -/
def State.reconBeat (s : State) : State :=
  let s1 := s.modRti fun r => { r with reconFrom := if s.reconNow then some (r.reconFrom.getD s.beatMono) else none }
  if s1.reconDue then s1.reconEnds else s1

/-- The power ceiling and the recovery ceiling rise by a beat (R275, R285). -/
def State.ceilings (s : State) : State :=
  let ts : Int := (s.ang.blen : Nat)
  let fromFollow := s.modes.cur == .follow || (s.modes.cur == .ride && s.modes.rideFrom == .follow)
  s.modRti fun r => { r with
    pceil := if fromFollow then sat (r.pceil + quo (puFrac (fld (s.pw 0x24) 16 16) 1000 * ts) second) else r.pceil,
    recov := match r.recov with
      | some c =>
        let c1 := sat (c + quo (puFrac (fld (s.pw 0x24) 0 16) 100 * ts) second)
        if (s.ureg A.GRD_ILIM).toInt ≤ c1 then none else some c1
      | none => none }

/-! ## The unit in the pipeline -/

/-- In FOLLOW and FORM: trips, then RIDE entry, then islanding, which RIDE entry discards (R271, R273, R276, R286). With HOLD
already decided no RIDE entry is, and the curves are not judged. -/
def State.rtiRun (s : State) : State :=
  let s1 := s.entryCounts
  let rides := s1.entryCause.isSome && s1.modes.next != some .hold
  let s2 := if rides then s1.decideRide (s1.entryCause.getD 0) else s1
  let s3 := match s2.tripRow rides with | some w => s1.profileTrip w | none => s2
  if rides then s3 else match s3.detected with | some w => s3.islandAct w | none => s3

/-- In RIDE: a further jump restarts PJ_T, the trips, the return. -/
def State.rtiRide (s : State) : State :=
  let s1 := (if s.rideJump then s.modRti fun r => { r with pjFrom := some s.beatMono } else s).returnBand
  match s1.tripRow true with
  | some w => s1.profileTrip w
  | none => if s1.returnDue then s1.decideReturn else s1

/-- The ride-through and islanding unit in the pipeline of a beat. -/
def State.rtiPipe (s : State) : State :=
  let s1 := s.chipEnd.rtiMeasure.rtiTimers.upBeat
  let s2 := if s1.modes.cur.within 0x30 then s1.rtiRun else if s1.modes.cur = .ride then s1.rtiRide else s1
  (s2.modRti fun r => { r with jump := none }).reconBeat

/-- HOLD disarms the unit: window, ARMED, PJ_T and the trip timers (R280, R286). -/
def State.rtiHold (s : State) : State :=
  s.modRti fun r => { r with
    window := [], validN := 0, armed := false, sigOn := false, chipDue := false, pjFrom := none, detect := none,
    timers := List.replicate 12 timerReset, zOver := 0, zUnder := 0, recov := none }

/-- The references of the profile in RIDE, before the limits (R272). -/
def State.rideRefs (s : State) : Int × Int × Int × Int :=
  let up := (s.quant 0x14).val
  let k : Int := (fld (s.pw 0x18) 0 16 : Nat)
  let k2 : Int := (fld (s.pw 0x20) 0 16 : Nat)
  let iq := clampI (-(milli (fld (s.pw 0x1C) 0 16))) (milli (fld (s.pw 0x18) 16 16))
    (padd s.rti.iqPre (sat (quo (k * (s.rti.upre - up)) 256)))
  let m := fld (s.pw 0x1C) 16 2
  let id := if m = 0 then s.rti.idPre else if m = 1 then (if s.rti.upre = 0 then sat (s.open_ 0x3F10).toInt else sat (quoI (s.rti.idPre * up) s.rti.upre)) else 0
  let nd := sat (quo (k2 * (s.quant 0x17).val) 256)
  let nq := sat (quo (-(k2 * (s.quant 0x16).val)) 256)
  let mag := vlen nd nq
  let lim := milli (fld (s.pw 0x20) 16 16)
  let nd' := if lim < mag then sat (quoI (nd * lim) mag) else nd
  let nq' := if lim < mag then sat (quoI (nq * lim) mag) else nq
  (id, iq, nd', nq')

end Sys2Proof.Machine
end

