-- ==== Sys2Proof/Machine/BptOps.lean ====
section
/-! DEFINITION. Trackers and their sweeps, the stored history, and the storage budgets (R234 to R254, R259). -/

namespace Sys2Proof.Machine

/-- Change the allocator's state. -/
def State.modBpt (s : State) (f : Bpt → Bpt) : State := { s with bpt := f s.bpt }

/-! ## Tracking and budget words (R236) -/

/-- VMIN and VMAX, 0.1 V. -/
def State.vMin (s : State) (c : Nat) : Nat := fld (s.cw c 0x60) 0 16
def State.vMax (s : State) (c : Nat) : Nat := fld (s.cw c 0x60) 16 16

/-- SMIN, SMAX and SINIT, 0.1 V. -/
def State.sMin (s : State) (c : Nat) : Nat := fld (s.cw c 0x64) 0 8
def State.sMax (s : State) (c : Nat) : Nat := fld (s.cw c 0x64) 8 8
def State.sInit (s : State) (c : Nat) : Nat := fld (s.cw c 0x64) 16 8

/-- PRATED, PDIS and PCHG in W, ECAP in Wh. -/
def State.pRated (s : State) (c : Nat) : Nat := 10 * fld (s.cw c 0x68) 0 16
def State.pDis (s : State) (c : Nat) : Nat := 10 * fld (s.cw c 0x70) 0 16
def State.pChg (s : State) (c : Nat) : Nat := 10 * fld (s.cw c 0x70) 16 16
def State.eCap (s : State) (c : Nat) : Nat := 10 * fld (s.cw c 0x6C) 0 16

/-- FLOOR and CEIL, 0.5 %. -/
def State.socFloor (s : State) (c : Nat) : Nat := fld (s.cw c 0x6C) 16 8
def State.socCeil (s : State) (c : Nat) : Nat := fld (s.cw c 0x6C) 24 8

/-- VSET, 0.1 V. -/
def State.vSet (s : State) (c : Nat) : Nat := fld (s.cw c 0x74) 0 16

/-- The cell has a string: PV or HY. -/
def State.hasString (s : State) (c : Nat) : Bool := s.cellType c == 0 || s.cellType c == 2

/-- The cell has a battery: ST or HY. -/
def State.hasBattery (s : State) (c : Nat) : Bool := s.cellType c == 1 || s.cellType c == 2

/-- The cell's target comes from its tracker. -/
def State.tracked (s : State) (c : Nat) : Bool := s.hasString c && bitAt (s.cw c 0x78) 0

/-! ## Powers -/

/-- W in PU32 of S_B / 3 = V_B × I_B / 2 (R204). -/
def State.phasePu (s : State) (w : Int) (ix : Nat) : Int := s.perBase (w * 2000) (s.vBase * s.iBase) ix

/-- W in PU32 of S_B. -/
def State.plantPu (s : State) (w : Int) (ix : Nat) : Int := s.perBase (w * 2000) (3 * s.vBase * s.iBase) ix

/-- PU32 of S_B / 3 in W. -/
def State.phaseW (s : State) (x : Int) : Int := quo (x * ((s.vBase * s.iBase : Nat) : Int)) (2000 * 0x10000000)

/-- The power of a cell in this beat, mW. -/
def State.cellPower (s : State) (c : Nat) : Int := (s.vdc c : Int) * s.isrc c

/-! ## Targets and ranges (R234, R238, R242, R243) -/

/-- The history record of a cell, where every condition of R243 holds. -/
def State.history (s : State) (c : Nat) : Option (Nat × Nat) :=
  let age := s.devNs - s.bpt.histT
  if bitAt (s.ureg A.BPT_CFG) 8 && bitAt (s.cw c 0x78) 1 && !s.mem.flashFail && s.bpt.histT != 0 &&
     s.bpt.histSync != .unset && s.clock.sync != .unset && decide (s.bpt.histT ≤ s.devNs) && decide (age < 86400000000000) then
    match s.bpt.hist.find? fun p => p.1 == c with
    | some (_, serial, v, _) => if serial = (s.cell c).seen then some (v, age / 1000000000) else none
    | none => none
  else none

/-- The range of a start sweep: VBEST ± HSPAN of the history, shifted inside VMIN to VMAX. -/
def State.startRange (s : State) (c : Nat) : Nat × Nat :=
  let lo := s.vMin c
  let hi := s.vMax c
  let span := fld (s.ureg A.BPT_HSPAN) 0 16
  match s.history c with
  | some (v, _) =>
    if hi - lo < 2 * span then (lo, hi)
    else
      let a := min (max lo (v - span)) (hi - 2 * span)
      (a, a + 2 * span)
  | none => (lo, hi)

/-- The midpoint of a range. -/
def midpoint (r : Nat × Nat) : Nat := quoN (r.1 + r.2) 2

/-- VTGT of a cell (R234, R238): outside FOLLOW, FORM and RIDE, and while its tracker has no state yet, the centre of its
next start sweep. -/
def State.vtgtOf (s : State) (c : Nat) : Nat :=
  if s.tracked c then
    (if s.modes.cur.within 0x70 && (s.trk c).st != .off then (s.trk c).vtgt else midpoint (s.startRange c))
  else s.vSet c

/-- A tracker moves its target; a window with a move in it is void (R239). -/
def Tracker.aim (t : Tracker) (v : Nat) : Tracker :=
  if t.vtgt = v then t else { t with vtgt := v, now := { t.now with moved := true } }

/-- A sweep point (R242). -/
def sweepPoint (lo hi k : Nat) : Nat := (nearest ((31 * lo + k * (hi - lo) : Nat) : Int) 31).toNat

/-! ## States of trackers -/

/-- STATE of a cell's tracker: OFF for a cell that is not ACTIVE or has none in use (R247). -/
def State.trkState (s : State) (c : Nat) : TrkState :=
  if (s.cell c).st = .active && s.tracked c then (s.trk c).st else .off

/-- A cell waits for its start sweep at the sweep's centre (R241). -/
def State.queueCell (s : State) (c : Nat) : State :=
  (s.modTrk c fun t => { t.aim (midpoint (s.startRange c)) with st := .queued, cycles := 0 }).modBpt fun b => { b with starting := true }

/-- Every ACTIVE tracked cell that has no state is queued, once it carries edges, RIDE apart (R238, R241, R255). -/
def State.queueNew (s : State) : State :=
  if s.modes.cur = .ride then s
  else (s.activeCells.filter fun c => s.tracked c && (s.trk c).st == .off && s.ranked c).foldl State.queueCell s

/-- Entry to FOLLOW or FORM from ENERGIZE: the period of every cell begins with the next cycle start, and every tracked cell
needs a start sweep (R239, R241). -/
def State.queueAll (s : State) : State :=
  let anew := fun (t : Tracker) => { t with st := .off, cycles := 0, now := windowReset, fresh := true }
  let s1 := s.modBpt fun b => { b with
    gsw := false, gswLeft := [], starting := false,
    cells := (b.cells.map fun (p : Nat × Tracker) => (p.1, { p.2 with st := .off })).filter fun p => p.2 != trackerReset }
  let s2 := s1.activeCells.foldl (fun s c => s.modTrk c anew) s1
  (s2.activeCells.filter s2.tracked).foldl State.queueCell s2

/-- RIDE freezes the trackers (R238). -/
def State.freezeTrackers (s : State) : State :=
  s.modBpt fun b => { b with cells := b.cells.map fun p =>
    if p.2.st = .off ∨ p.2.st = .frozen then p else (p.1, { p.2 with st := .frozen, held := p.2.st }) }

/-- The return from RIDE: each tracker resumes its state, and that state's period begins again with the next cycle start
(R238, R259). -/
def State.thawTrackers (s : State) : State :=
  s.modBpt fun b => { b with
    cells := (b.cells.map fun (p : Nat × Tracker) =>
      (p.1, { p.2 with st := if p.2.st = .frozen then p.2.held else p.2.st, cycles := 0, now := windowReset, fresh := true })).filter fun p =>
        p.2 != trackerReset }

/-- The trackers act: FOLLOW and FORM. -/
def State.tracking (s : State) : Bool := s.modes.cur.within 0x30

/-- Cells of a phase that sweep now. -/
def State.sweeping (s : State) (x : Nat) : Nat :=
  ((s.phaseCells x).filter fun c => s.trkState c == .start || s.trkState c == .global).length

/-- The cells of a phase in ascending CHAIN. -/
def State.chainOrder (s : State) (x : Nat) : List Nat :=
  (List.range 128).flatMap fun n => (s.phaseCells x).filter fun c => s.cellChain c == n

/-- The cell of a phase that sweeps next: one left of a global sweep ahead of a queued one (R242, R259). -/
def State.nextSweeper (s : State) (x : Nat) : Option Nat :=
  if 4 ≤ s.sweeping x then none
  else
    let order := (s.chainOrder x).filter fun c => (s.cell c).st == .active
    match order.find? fun c => s.bpt.gswLeft.contains c && s.trkState c == .track with
    | some c => some c
    | none => order.find? fun c => s.trkState c == .queued

/-- A cell begins its sweep (R242, R243). -/
def State.beginSweep (s : State) (c : Nat) : State :=
  let start := (s.trk c).st == .queued
  let r := if start then s.startRange c else (s.vMin c, s.vMax c)
  let h := s.history c
  let s1 := s.modTrk c fun t => { t.aim (sweepPoint r.1 r.2 0) with
    st := if start then .start else .global, histu := if start then h.isSome else t.histu,
    hage := if start then (match h with | some (_, a) => a | none => 0xFFFFFFFF) else t.hage,
    vctr := if start then midpoint r else t.vctr, lo := r.1, hi := r.2, swpt := 0, best := none, cycles := 0, void := false }
  s1.modBpt fun b => { b with gswLeft := b.gswLeft.filter fun d => d != c }

/-- A sweep of a cell can start now: a cycle start, with a place free in its phase. -/
def State.sweepDue (s : State) (c : Nat) : Bool :=
  s.tracking && s.ang.idx == 0 && decide (c < 384) && s.nextSweeper (s.cellPhase c) == some c

/-- The cells of a global sweep that have not begun it. -/
def State.globalLeft (s : State) : List Nat :=
  s.bpt.gswLeft.filter fun c => s.trkState c == .track || s.trkState c == .curtailed

/-- START_DONE and SWEEP_DONE where the last sweep has ended (R241, R245). -/
def State.judgeSweeps (s : State) : State :=
  if !s.tracking then s
  else
    let st := s.trkState
    let cs := s.usedCells
    let s1 := if s.bpt.starting && !(cs.any fun c => st c == .queued || st c == .start) then
        (s.modBpt fun b => { b with starting := false }).event 0x90 0
      else s
    let left := s1.globalLeft
    if s1.bpt.gsw && left.isEmpty && !(cs.any fun c => st c == .global) then
      (s1.modBpt fun b => { b with gsw := false, gswLeft := [] }).event 0x90 8
    else s1.modBpt fun b => { b with gswLeft := left }

/-- A global sweep starts (R245). -/
def State.beginGlobal (s : State) : State :=
  s.modBpt fun b => { b with gsw := true, gswLeft := s.activeCells.filter s.tracked }

/-- A start or global sweep is under way: a cell waits for its own or has it (R245). -/
def State.sweepsOn (s : State) : Bool :=
  (s.bpt.gsw && !s.globalLeft.isEmpty) ||
  s.usedCells.any fun c => s.trkState c == .queued || s.trkState c == .start || s.trkState c == .global

/-! ## Windows and steps (R239 to R242, R248) -/

/-- A window of the last cycle is void. -/
def State.windowVoid (s : State) (w : Window) : Bool := w.beats == 0 || w.moved || decide (s.ang.div < 8 * w.carried)

/-- PMEAS of a window, W. -/
def Window.mean (w : Window) : Int := quo w.sum (1000 * w.beats)

/-- The step that follows a comparison (R240). -/
def State.trackStep (s : State) (c : Nat) (p : Int) (t : Tracker) : Tracker :=
  let old := t.prev.getD (p, t.vtgt)
  let dp := p - old.1
  let jump := decide (((fld (s.ureg A.BPT_JUMP) 0 16 * s.pRated c : Nat) : Int) < 65536 * absI dp)
  let better := if old.1 ≤ p then (p, t.vtgt) else old
  let t1 : Tracker :=
    if jump then { t with jumps := satInc 16 t.jumps 1, rev := false }
    else if 0 ≤ dp then
      (if t.run = 3 then { t with run := 0, rev := false, step := min (2 * t.step) (s.sMax c) }
       else { t with run := t.run + 1, rev := false })
    else { t with up := !t.up, run := 0, rev := true, step := if t.rev then max (t.step / 2) (s.sMin c) else t.step }
  let v := if t1.up then t1.vtgt + t1.step else t1.vtgt - t1.step
  { t1.aim (max (s.vMin c) (min (s.vMax c) v)) with
    pbest := better.1, vbest := better.2, steps := (t.steps + 1) % 2 ^ 32 }

/-- A curtailed tracker moves by SMAX in the direction that brings PMEAS within 1 % of its share (R248). -/
def State.curtailStep (s : State) (c : Nat) (p : Int) (t : Tracker) : Tracker :=
  let want := s.phaseW (t.share - t.batt)
  if 101 * absI want < 100 * p then t.aim (min (s.vMax c) (t.vtgt + s.sMax c))
  else if p < 0 ∨ 100 * p < 99 * want then t.aim (max (min t.vbest t.vtgt) (t.vtgt - s.sMax c))
  else t

/-- A step period has run: TPER cycles, in a state that has periods (R239). -/
def State.periodDue (s : State) (c : Nat) : Bool :=
  let t := s.trk c
  s.tracking && decide (c < 384) && (s.cell c).st == .active && decide (fld (s.ureg A.BPT_CFG) 0 8 ≤ t.cycles) &&
  decide (0 < t.cycles) && s.trkState c != .start && s.trkState c != .global && s.trkState c != .frozen

/-- The end of a cell's step period. A cell without a tracker, and one that waits for its sweep, only takes its PMEAS. -/
def State.periodEnd (s : State) (c : Nat) : State :=
  let t := s.trk c
  if s.windowVoid t.last then s.modTrk c fun t => { t with void := true, cycles := 0 }
  else
    let p := t.last.mean
    let t1 := if s.trkState c = .track then s.trackStep c p t else if s.trkState c = .curtailed then s.curtailStep c p t else t
    s.modTrk c fun _ => { t1 with
      pmeas := p, prev := some (p, t.vtgt), void := false, cycles := 0, offer := if s.hasString c then s.phasePu p 0x2800 else 0 }

/-- The window of a sweep point has ended: the settling cycle and the cycle measured. -/
def State.pointDue (s : State) (c : Nat) : Bool :=
  let t := s.trk c
  s.tracking && decide (c < 384) && (s.trkState c == .start || s.trkState c == .global) && decide (2 ≤ t.cycles)

/-- The next point of a sweep, or its end (R242). Of equal points the earlier stays. -/
def State.pointEnd (s : State) (c : Nat) : State :=
  let t := s.trk c
  if s.windowVoid t.last then s.modTrk c fun t => { t with void := true, cycles := 0 }
  else
    let p := t.last.mean
    let best := match t.best with | some b => if b.1 < p then (p, t.vtgt) else b | none => (p, t.vtgt)
    let t1 : Tracker := { t with
      pmeas := p, prev := some (p, t.vtgt), void := false, cycles := 0, best := some best,
      offer := s.phasePu p 0x2800 }
    let t2 := if t.swpt = 31 then
        { t1.aim best.2 with st := .track, vbest := best.2, pbest := best.1, step := s.sInit c, up := true, run := 0,
                             rev := false, sweeps := satInc 16 t.sweeps 1 }
      else { t1.aim (sweepPoint t.lo t.hi (t.swpt + 1)) with swpt := t.swpt + 1 }
    (s.modTrk c fun _ => t2).judgeSweeps

/-- Minutes of FOLLOW or FORM since the last periodic sweep have reached SWINT (R245). -/
def State.globalDue (s : State) : Bool :=
  let m := fld (s.ureg A.BPT_CFG) 16 16
  s.tracking && m != 0 && decide (60000 * m * ms 1 ≤ s.bpt.sweepRun)

/-- A periodic global sweep falls due: it starts, or is skipped while another sweep is under way. -/
def State.globalTurn (s : State) : State :=
  let s1 := s.modBpt fun b => { b with sweepRun := 0 }
  if s1.sweepsOn then s1 else s1.beginGlobal.judgeSweeps

/-- A history set is written, in two phases, under one stamp (R244): every tracked cell. -/
def State.writeHistory (s : State) : State :=
  if s.mem.flashFail then s
  else s.modBpt fun b => { b with
    histT := s.devNs, histSync := s.clock.sync, histRun := 0,
    hist := (s.usedCells.filter s.tracked).map fun c =>
      (c, (s.cell c).seen, (s.trk c).vbest, (s.trk c).pbest) }

/-- 60 minutes of FOLLOW or FORM have passed since the last set. -/
def State.historyDue (s : State) : Bool := s.tracking && decide (ms 3600000 ≤ s.bpt.histRun)

/-- A cycle ends for a tracker: its window closes and the next one opens. The rest of a cycle in which its period began again
counts for none. -/
def Tracker.cycle (t : Tracker) : Tracker :=
  { t with last := t.now, now := windowReset, cycles := if t.fresh then t.cycles else min (t.cycles + 1) 512, fresh := false }

/-- At a cycle start: windows close. -/
def State.closeCycles (s : State) : State :=
  if !s.tracking then s else s.activeCells.foldl (fun s c => s.modTrk c Tracker.cycle) s

/-- At a beat start: time in FOLLOW or FORM runs. -/
def State.trackTime (s : State) (dt : Nat) : State :=
  if s.tracking then s.modBpt fun b => { b with histRun := b.histRun + dt, sweepRun := b.sweepRun + dt } else s

/-- The places free in a phase are filled, four at most. -/
def State.fillSweeps (s : State) (x : Nat) : Nat → State
  | 0 => s
  | n + 1 => match s.nextSweeper x with | some c => (s.beginSweep c).fillSweeps x n | none => s

/-- The trackers in the pipeline: what is due at a cycle start and has not been done, then this beat's power. -/
def State.trackers (s : State) : State :=
  if !s.tracking then s
  else
    let s1 := if s.ang.idx = 0 then
        let a := (s.activeCells.filter s.periodDue).foldl State.periodEnd s
        let b := (a.activeCells.filter a.pointDue).foldl State.pointEnd a
        let d := if b.globalDue then b.globalTurn else b
        let e := if d.historyDue then d.writeHistory else d
        (((e.fillSweeps 0 4).fillSweeps 1 4).fillSweeps 2 4).judgeSweeps
      else s.judgeSweeps
    s1.activeCells.foldl (fun s c => s.modTrk c fun t => { t with now := { t.now with
      sum := t.now.sum + s.cellPower c, beats := t.now.beats + 1,
      carried := if (s.cell c).got then t.now.carried else t.now.carried + 1 } }) s1

/-! ## Storage budgets (R249 to R254) -/

/-- TMIN + TLEHR / 2 in units of 0.5 ms. -/
def State.burstTime (s : State) : Nat := 200 * fld (s.ureg A.BPT_BURST) 0 16 + fld (s.ureg A.BPT_BURST) 16 16

/-- TLEHR, ms. -/
def State.tLehr (s : State) : Nat := fld (s.ureg A.BPT_BURST) 16 16

/-- The power that spends an energy in Wh over TMIN + TLEHR / 2, W. -/
def State.afford (s : State) (wh : Nat) : Nat := if s.burstTime = 0 then 0 else quoN (wh * 7200000) s.burstTime

/-- The latest accepted report gives a state of charge. -/
def State.socKnown (s : State) (c : Nat) : Bool := byteFld (s.cell c).last 0 1 != 0 && s.soc c != 0xFF

/-- Energy above FLOOR and below CEIL, Wh. -/
def State.energyAbove (s : State) (c : Nat) : Nat := if s.socKnown c then quoN (s.eCap c * (s.soc c - s.socFloor c)) 200 else 0
def State.energyBelow (s : State) (c : Nat) : Nat := if s.socKnown c then quoN (s.eCap c * (s.socCeil c - s.soc c)) 200 else 0

/-- The ST and HY cells of the table. -/
def State.batteries (s : State) : List Nat := s.usedCells.filter s.hasBattery

/-- ΣPAFF and ΣPAFFC, W. -/
def State.sumAff (s : State) : Nat := nsum (s.batteries.map fun c => (s.trk c).paff)
def State.sumAffC (s : State) : Nat := nsum (s.batteries.map fun c => (s.trk c).paffc)

/-- A lehr ramp begins where an energy falls to what the power draws on the ramp (R253). -/
def State.lehrStarts (wh p0 tlehr : Nat) : Bool := decide (0 < p0) && decide (7200000 * wh ≤ p0 * tlehr)

/-- What a ramp leaves of its power, W. -/
def Lehr.power (l : Lehr) (now : Nat) : Nat := if l.span = 0 then 0 else quoN (l.p0 * (l.span - (now - l.began))) l.span

/-- One storage cell's budget, once a cycle. What a ramp has taken is given back only once the ramp has ended (R253). -/
def State.budgetCell (s : State) (c : Nat) : State :=
  let up := s.energyAbove c
  let dn := s.energyBelow c
  let t := s.trk c
  let p := s.phaseW t.batt
  let free := match t.barred with
    | some (true, _) => s.socKnown c && decide (s.soc c + 2 ≤ s.socCeil c)
    | some (false, _) => s.socKnown c && decide (s.socFloor c + 2 ≤ s.soc c)
    | none => true
  let bar := fun (l : Lehr) => some (l.charge, if l.charge then t.paffc else t.paff)
  let ends := match t.lehr with | some l => decide (l.began + l.span ≤ s.now) | none => false
  let first := !(s.usedCells.any fun d => (s.trk d).lehr.isSome)
  let starts : Option Lehr :=
    if t.lehr.isSome then none
    else if State.lehrStarts up p.toNat s.tLehr && decide (0 < p) then
      some { began := s.now, span := quoN (7200 * up * second) p.toNat, p0 := p.toNat, charge := false }
    else if State.lehrStarts dn (-p).toNat s.tLehr && decide (p < 0) then
      some { began := s.now, span := quoN (7200 * dn * second) (-p).toNat, p0 := (-p).toNat, charge := true }
    else none
  let s1 := s.modTrk c fun t => { t with
    eavail := up, paff := if s.socKnown c then min (s.pDis c) (s.afford up) else 0,
    paffc := if s.socKnown c then min (s.pChg c) (s.afford dn) else 0,
    rsv := s.socKnown c && decide (s.soc c ≤ s.socFloor c),
    lehr := if starts.isSome then starts else if ends then none else t.lehr,
    barred := match starts with | some l => bar l | none => if free && (ends || t.lehr.isNone) then none else t.barred }
  s1.eventIf (starts.isSome && first) 0x90 2 c

/-- The headrooms, never below 0 (R249, R250). -/
def State.headrooms (s : State) : State :=
  let bs := s.batteries
  let dis := quo (isum (bs.map fun c => max 0 (s.trk c).batt)) 3
  let chg := quo (isum (bs.map fun c => max 0 (-(s.trk c).batt))) 3
  let hd := max 0 (psub (s.plantPu (s.sumAff : Nat) 0x2801) dis)
  let hc := max 0 (psub (s.plantPu (s.sumAffC : Nat) 0x2802) chg)
  let low := decide (hd < (s.ureg A.BPT_PREQ).toInt)
  let s1 := s.modBpt fun b => { b with
    headDis := hd, headChg := hc, headLow := low, eavail := nsum (bs.map fun c => (s.trk c).eavail) }
  s1.eventIf (low != s.bpt.headLow) 0x90 1 0xFFFF [b2n low]

/-- The budgets, once a grid cycle. -/
def State.budgets (s : State) : State := (s.batteries.foldl State.budgetCell s).headrooms

/-- What PAFF or PAFFC weighs in the sharing. While a ramp or its bar lowers a cell, it weighs what it weighed when the ramp
began, so that the others are not raised to make up the loss (R253). -/
def State.battWeight (s : State) (charge : Bool) (c : Nat) : Nat :=
  let t := s.trk c
  match t.barred with
  | some (ch, w) => if ch = charge then w else if charge then t.paffc else t.paff
  | none => if charge then t.paffc else t.paff

/-- What a ramp, its bar and the reserve floor leave of a battery share (R253, R254). -/
def State.battCut (s : State) (c : Nat) (x : Int) : Int :=
  let t := s.trk c
  let top := fun (charge : Bool) =>
    if (match t.barred with | some (ch, _) => ch == charge | none => false) then
      (match t.lehr with | some l => s.phasePu (l.power s.now : Nat) 0x2803 | none => 0)
    else 0x7FFFFFFF
  if 0 < x then (if t.rsv then 0 else min x (top false)) else max x (-(top true))

/-- A battery share raised from `base` towards `x`, within the budget of the cell (R248, R249). -/
def State.battLimit (s : State) (c : Nat) (base x : Int) : Int :=
  let t := s.trk c
  let lim := fun (w : Nat) => s.phasePu (w : Int) 0x2803
  s.battCut c (max (min x (max base (lim t.paff))) (min base (-(lim t.paffc))))

/-- The battery shares the dispatch gives the ACTIVE cells, PU32 of S_B / 3. Only a ramp, its bar and the reserve floor lower
an accepted dispatch (R251). -/
def State.dispatch (s : State) : List (Nat × Int) :=
  let set := (s.ureg A.BPT_STORE_P).toInt
  let cs := s.activeCells.filter s.hasBattery
  let w := s.battWeight (decide (set < 0))
  let total := nsum (cs.map w)
  cs.map fun c => (c, s.battCut c (if total = 0 then 0 else sat (quo (3 * set * (w c : Int)) total)))

/-- P_cap, PU32 of S_B (R252). -/
def State.pCap (s : State) : Int :=
  padd (quo (isum (s.activeCells.map fun c => (s.trk c).offer)) 3) (s.plantPu (s.sumAff : Nat) 0x2804)

end Sys2Proof.Machine
end

