-- ==== Sys2Proof/Machine/GridOps.lean ====
section
/-! DEFINITION. Grid current and forming: the current reference stage, the rotor, transfers, the close sequence and
the stop, balancing between and inside phases, and the phase voltage reference (R204 to R232, R248, R252). -/

namespace Sys2Proof.Machine

/-- Change the unit. -/
def State.modGrd (s : State) (f : Grd → Grd) : State := { s with grd := f s.grd }

/-- GRD_STAT.UNSET (R209). -/
def State.unset (s : State) : Bool :=
  fld (s.reg A.GRD_VBASE) 0 20 == 0 || fld (s.reg A.GRD_IBASE) 0 20 == 0 ||
  [1, 2, 3, 4, 0x10].any fun r => !((slotsOn s.regs).any fun i => slotRole (s.reg (A.SLOT i 4)) == r)

/-- The forming roles are held by enabled slots of the entries written (R209). -/
def State.formSet (s : State) : Bool :=
  [0x20, 0x21].all fun r => (slotsOn s.regs).any fun i => slotRole (s.reg (A.SLOT i 4)) == r

/-- The mode whose slots the stage and the balance use: the target's from the first beat of a transfer (R211). -/
def State.effMode (s : State) : Mode :=
  if s.grd.xferAt = 0 then s.modes.cur
  else match s.grd.xfer with | .toForm _ => .form | .toFollow => .follow | .none => s.modes.cur

/-- vd, not below 0.1 pu. -/
def State.vdSafe (s : State) : Int := max (s.quant 0x14).val (puFrac 10 100)

/-- ILIM. -/
def State.ilim (s : State) : Int := (s.ureg A.GRD_ILIM).toInt

/-- The interval of one beat, 2⁻³² ns. -/
def State.beatTs (s : State) : Int := (s.execTs 0 : Nat)

/-- A value moved towards another by at most a step. -/
def toward (x goal step : Int) : Int := if x ≤ goal then min goal (x + step) else max goal (x - step)

/-! ## The current reference stage (R211, R212) -/

/-- What the stage makes of its sources in a beat. -/
structure Refs where
  /-- positive references after the limits -/
  id : Int
  /-- see id -/
  iq : Int
  /-- negative-sequence references -/
  nd : Int
  /-- see nd -/
  nq : Int
  /-- the id demand is clamped from above, and from below -/
  idHi : Bool
  /-- see idHi -/
  idLo : Bool
  /-- the iq demand is clamped from above, and from below -/
  iqHi : Bool
  /-- see iqHi -/
  iqLo : Bool
  /-- step 1 acts -/
  plim : Bool
  /-- step 2 or 3 acts -/
  ilim : Bool
  /-- step 3 acts -/
  scaled : Bool
  /-- the power taken by step 1 -/
  cut : Int

/-- P_lim of step 1 in a mode. -/
def State.pLim (s : State) (m : Mode) : Int :=
  let follow := min (s.ureg A.GRD_PLIM).toInt (min s.rti.pceil (if s.rti.armed then 0x7FFFFFFF else puFrac 20 100))
  match m with
  | .follow => follow
  | .form => s.pCap
  | .ride => if s.modes.rideFrom = .form then s.pCap else min follow s.pCap
  | _ => 0x7FFFFFFF

/-- The stop as the engines have it in this beat (R24; DEDUCED, log entry 228). -/
def State.stopNow (s : State) : Stop := s.grd.stopHeld.getD s.grd.stop

/-- A host's command has made `t` of `s`: while beats run, the engines go on with the stop they have until the next beat
start (R24). -/
def State.stopFrom (s t : State) : State :=
  if s.ang.beats ∧ t.grd.stop ≠ s.grd.stop then t.modGrd fun g => { g with stopHeld := some s.stopNow } else t

/-- The references ahead of the limits. -/
def State.demand (s : State) : Int × Int × Int × Int :=
  match s.stopNow with
  | .ramp rate =>
    let step := quo (rate * s.beatTs) second
    (toward s.grd.idRef 0 step, toward s.grd.iqRef 0 step, toward s.grd.inD 0 step, toward s.grd.inQ 0 step)
  | .main => (0, 0, 0, 0)
  | .series => (0, 0, 0, 0)
  | .none =>
    match s.effMode with
    | .follow => (s.roleOut 0x10, s.roleOut 0x11, s.signature, 0)
    | .form => (s.roleOut 0x20, s.roleOut 0x21, s.signature, 0)
    | .ride => let r := s.rideRefs; (r.1, r.2.1, padd r.2.2.1 s.signature, r.2.2.2)
    | _ => (0, 0, 0, 0)

/-- The limits in their order, behind the recovery ceiling (R212, R275). The mode of P_lim is CUR, which a transfer keeps
throughout (R221, R222). -/
def State.stage (s : State) : Refs :=
  let d := s.demand
  let i := s.ilim
  let top := if s.modes.cur.within 0x70 then pdiv (s.pLim s.modes.cur) s.vdSafe else 0x7FFFFFFF
  let rec_ := match s.rti.recov with | some c => if s.modes.cur.within 0x30 then c else 0x7FFFFFFF | none => 0x7FFFFFFF
  let id0 := min d.1 rec_
  let id1 := min id0 top
  let iqFirst := bitAt (s.ureg A.GRD_CFG) 0 || s.modes.cur == .ride
  let room := fun (x : Int) => isqrt (max 0 (i * i - x * x))
  let iqA := clampI (-i) i d.2.1
  let id2 := if iqFirst then clampI (-(room iqA)) (room iqA) id1 else clampI (-i) i id1
  let iq2 := if iqFirst then iqA else clampI (-(room id2)) (room id2) d.2.1
  let mag := vlen d.2.2.1 d.2.2.2
  let left := max 0 (psub i (vlen id2 iq2))
  let over_ := decide (left < mag)
  let cutBack := fun (x : Int) => if over_ then sat (quoI (x * left) mag) else x
  { id := id2, iq := iq2, nd := cutBack d.2.2.1, nq := cutBack d.2.2.2, idHi := decide (id2 < d.1), idLo := decide (d.1 < id2),
    iqHi := decide (iq2 < d.2.1), iqLo := decide (d.2.1 < iq2), plim := decide (id1 < id0),
    ilim := id2 != id1 || iq2 != d.2.1 || over_, scaled := over_,
    cut := if id1 < id0 then pmul (psub id0 id1) s.vdSafe else 0 }

/-- V_ref of R219. -/
def State.droop (s : State) : Int :=
  let kq := pu16 (fld (s.ureg A.GRD_KQ) 0 16)
  clampI (puFrac 50 100) (puFrac 120 100) (psub s.grd.vset (pmul kq (psub (s.quant 0x19).val s.grd.qset)))

/-- The mean VTGT of the ACTIVE cells, pu of V_B. -/
def State.meanTarget (s : State) : Int :=
  let cs := s.activeCells
  if cs.isEmpty then 0 else s.perBase (quo (((nsum (cs.map s.vtgtOf) : Nat) : Int)) cs.length) s.vBase 0x3000

/-- The reference the device supplies to a role (R208, R211); V_ref is unchanged in RIDE (R220). -/
def State.supply (s : State) (role : Nat) : Option Int :=
  if role = 1 then some s.stage.id else if role = 2 then some s.stage.iq
  else if role = 3 then some s.stage.nd else if role = 4 then some s.stage.nq
  else if role = 0x10 then some s.meanTarget else if role = 0x20 then some (if s.modes.cur = .ride then s.grd.vref else s.droop) else if role = 0x21 then some 0
  else none

/-- Integration is withheld in a role for an error (R213). The clamps are those of the last record. -/
def State.withheld (s : State) (role : Nat) (e : Int) : Bool :=
  let g := s.grd
  let runs := g.stop == .none
  let used := if role = 0x10 ∨ role = 0x11 then runs && s.effMode == .follow else runs && s.effMode == .form
  let up := decide (0 < e)
  let dn := decide (e < 0)
  if role = 0 then false
  else if role ≤ 4 then !s.confirmed 0 2
  else if role = 0x10 ∨ role = 0x20 then !used || (g.idHi && up) || (g.idLo && dn)
  else if role = 0x11 ∨ role = 0x21 then !used || (g.iqHi && up) || (g.iqLo && dn)
  else false

/-- What the stage has supplied in this beat is recorded, with ILIM_ACTIVE at the first beat of an episode. -/
def State.recordRefs (s : State) : State :=
  let r := s.stage
  let s1 := s.modGrd fun g => { g with
    idRef := r.id, iqRef := r.iq, inD := r.nd, inQ := r.nq, idHi := r.idHi, idLo := r.idLo, iqHi := r.iqHi, iqLo := r.iqLo,
    plima := r.plim, ilima := r.ilim, pcut := r.cut, vref := if s.modes.cur = .ride then g.vref else s.droop }
  s1.eventIf (r.ilim && !s.grd.ilima) 0x80 3

/-- A role's slot takes an output without a step (R221 to R223); one in OUT_HOLD keeps its output and states (R194). -/
def State.preset (s : State) (role : Nat) (x : Int) : State :=
  match s.roleSlot role with
  | none => s
  | some i => s.modSlot i fun q =>
      if q.st = .outHold then q else { q with out := x, intg := x, released := true, st := .run }

/-! ## The rotor and transfers (R218 to R222) -/

/-- ω of an angle rate. -/
def State.omegaOf (s : State) (rate : Nat) : Int := sat (quo ((rate * 4096 : Nat) : Int) s.fnom)

/-- The rotor over one beat: held in RIDE, and at the edges of the operating band (R218, R220). The clamp does not act on a
rotor that stands still (R68). -/
def State.rotor (s : State) : State :=
  if s.ang.src ≠ 2 ∨ s.modes.cur = .ride then s.modGrd fun g => { g with wClamp := false }
  else
    let g := s.grd
    let d := quo (((fld (s.ureg A.GRD_ROT_D) 0 16 : Nat) : Int) * (g.omega - pu)) 256
    let acc := sat (g.pref - (s.quant 0x18).val - d)
    let h2 := 2 * fld (s.ureg A.GRD_ROT_H) 0 16
    let w := if h2 = 0 then g.omega else g.omega + quo (acc * s.beatTs * 100) (h2 * second)
    let lo := puFrac (s.fminHz : Nat) (100 * s.fnom)
    let hi := puFrac (s.fmax : Nat) (100 * s.fnom)
    s.modGrd fun g => { g with omega := clampI lo hi w, wClamp := decide (w < lo) || decide (hi < w), pacc := acc }

/-- The rotor's references follow their set-points at GRD_XFER.RATE (R221). -/
def State.chase (s : State) : State :=
  let g := s.grd
  let step := quo (puFrac (fld (s.ureg A.GRD_XFER) 0 16 : Nat) 100 * s.beatTs) second
  let go := fun (bit : Nat) (x : Int) (o : Nat) => if g.chase.testBit bit then toward x (s.ureg o).toInt step else x
  s.modGrd fun g => { g with
    pref := go 0 g.pref A.GRD_FORM_P, vset := go 1 g.vset A.GRD_FORM_V, qset := go 2 g.qset A.GRD_FORM_Q }

/-- All three references equal their targets, or stay at the captured values. -/
def State.formReached (s : State) : Bool :=
  let g := s.grd
  (!g.chase.testBit 0 || g.pref == (s.ureg A.GRD_FORM_P).toInt) && (!g.chase.testBit 1 || g.vset == (s.ureg A.GRD_FORM_V).toInt) &&
  (!g.chase.testBit 2 || g.qset == (s.ureg A.GRD_FORM_Q).toInt)

/-- The first beat of a transfer to FORM: capture, the angle to the rotor, the slots preset (R221). A slew under way ends
as the rotor takes the angle (R74; DESIGN CHOICE, log entry 203). -/
def State.captureForm (s : State) (isl : Bool) : State :=
  let s1 := s.modGrd fun g => { g with
    pref := (s.quant 0x18).val, qset := (s.quant 0x19).val, vset := (s.quant 0x14).val, omega := s.omegaOf s.ang.freq,
    chase := if isl then 0 else 7, chaseNext := 0 }
  let s2 := s1.modAng fun a => { a with src := 2, slew := false, quiet := false }
  (s2.preset 0x20 s.grd.idRef).preset 0x21 s.grd.iqRef

/-- The first beat of a transfer to FOLLOW: the angle to the tracker, the slots preset (R222). -/
def State.captureFollow (s : State) : State :=
  let s1 := s.modAng fun a => { a with src := 1, quiet := true }
  (s1.preset 0x10 s.grd.idRef).preset 0x11 s.grd.iqRef

/-- A transfer to FORM is complete: CUR changes at the next beat start. -/
def State.toFormDone (s : State) : State := { s with modes := { s.modes with next := some .form } }.event 0x80 4

/-- A transfer to FOLLOW is complete. -/
def State.toFollowDone (s : State) : State := { s with modes := { s.modes with next := some .follow } }.event 0x80 4

/-- A transfer to FORM can be complete in this beat. -/
def State.toFormDue (s : State) : Bool :=
  (match s.grd.xfer with | .toForm _ => true | _ => false) && s.grd.xferAt != 0 && s.modes.next.isNone && s.ang.src == 2 && s.formReached

/-- A transfer to FOLLOW can be complete in this beat. -/
def State.toFollowDue (s : State) : Bool :=
  s.grd.xfer == .toFollow && s.grd.xferAt != 0 && s.modes.next.isNone && s.ang.src == 1 && decide (absI s.ang.d ≤ s.lockErr)

/-- A transfer is given up: the starting mode keeps its sources, and a completion already decided falls away (R224). -/
def State.dropXfer (s : State) : State :=
  match s.grd.xfer with
  | .none => s
  | x =>
    let back := if s.grd.xferAt = 0 then s.ang.src else match x with | .toFollow => 2 | _ => if s.ang.ever then 1 else 0
    let s1 := s.modGrd fun g => { g with xfer := .none, xferAt := 0 }
    let m := s1.modes.abandon
    { s1 with
      modes := { m with next := if m.next = some .form ∨ m.next = some .follow then none else m.next },
      ang := { s1.ang with src := back, quiet := if back = s.ang.src then s.ang.quiet else back == 1 && s.ang.src == 2 } }

/-- Transfers and rotor in the pipeline; in RIDE the rotor and its references stand still (R220). -/
def State.transfers (s : State) : State :=
  let s1 := if s.ang.src = 2 ∧ s.modes.cur ≠ .ride then s.rotor.chase else s.rotor
  let s2 := if s1.grd.xferAt = 1 then
      (match s1.grd.xfer with | .toForm isl => s1.captureForm isl | .toFollow => s1.captureFollow | .none => s1)
    else s1
  if s2.toFormDue then s2.toFormDone else if s2.toFollowDue then s2.toFollowDone else s2

/-! ## Opening the groups (R228 to R230) -/

/-- The main group is commanded open, the first of the two. -/
def State.openMain (s : State) : State :=
  (s.groupOff (s.groupOf 0)).modGrd fun g => { g with
    stop := .main, stopHeld := none, step := if g.step = 5 then 0 else g.step }

/-- The next step of the opening: references at zero and no current for two cycles, main confirmed open, series
confirmed open; then WATCH where that is the target. -/
def State.stopStep (s : State) : State :=
  match s.stopNow with
  | .none => s
  | .ramp _ => if 2 * s.ang.div ≤ s.grd.lowBeats || s.confirmed 0 1 then s.openMain else s
  | .main =>
    if s.confirmed 0 1 then (s.groupOff (s.groupOf 1)).modGrd fun g => { g with stop := .series } else s
  | .series =>
    if s.confirmed 1 1 then
      let s1 := s.modGrd fun g => { g with stop := .none }
      if s.modes.tgt = .watch ∧ s.modes.next.isNone then { s1 with modes := { s1.modes with next := some .watch } } else s1
    else s

/-- Every step of the opening that can be taken now. -/
def State.stopRun (s : State) : State := s.stopStep.stopStep.stopStep

/-- The opening begins with the references falling at a rate in pu a second; one that has reached the groups goes on. -/
def State.beginStop (s : State) (rate : Int) : State :=
  if s.grd.stop = .main ∨ s.grd.stop = .series then s else s.modGrd fun g => { g with stop := .ramp rate }

/-- |i⁺| and |i⁻| below 0.02 pu, counted in beats. -/
def State.lowCurrent (s : State) : State :=
  let v := fun (q : Nat) => (s.quant q).val
  let low := (s.quant 0x10).ok && decide (vlen (v 0x10) (v 0x11) < puFrac 2 100) && decide (vlen (v 0x12) (v 0x13) < puFrac 2 100)
  s.modGrd fun g => { g with lowBeats := if low then min (g.lowBeats + 1) 4096 else 0 }

/-! ## The close sequence (R225 to R228) -/

/-- The close sequence ends: STEP, RESULT, CLOSE_END. -/
def State.closeEnds (s : State) (step result : Nat) : State :=
  (s.modGrd fun g => { g with step := step, result := result, scFrom := none }).event 0x80 2 0xFFFF [result]

/-- The sequence is under way. -/
def State.closing (s : State) : Bool := decide (1 ≤ s.grd.step) && decide (s.grd.step ≤ 4)

/-- It ends early, if it is under way. -/
def State.closeFails (s : State) (result : Nat) : State := if s.closing then s.closeEnds 0 result else s

/-- It ends early with the groups opened at once, main first. -/
def State.closeOpens (s : State) (result : Nat) : State := if s.closing then (s.closeEnds 0 result).openMain.stopRun else s

/-- It is abandoned with the groups opened at zero current, main first. -/
def State.closeAborts (s : State) (result : Nat) : State := (s.closeFails result).beginStop 0

/-- START is accepted; an opening still under way goes on, and nothing is energised before it ends. The sequence goes on from
the next beat start (R24; DEDUCED, log entry 228). -/
def State.closeBegin (s : State) : State :=
  if s.confirmed 0 2 then s
  else s.modGrd fun g => { g with step := 1, result := 0, closeFrom := s.now, scFrom := none, startHeld := s.ang.beats }

/-- GRD_SC.T. -/
def State.scTime (s : State) : Nat := ms (10 * fld (s.ureg A.GRD_SC) 24 8)

/-- The sequence leaves its present step, if it can. -/
def State.closeStep (s : State) : State :=
  let g := s.grd
  if g.step = 1 then
    (if s.permit then s.modGrd fun g => { g with step := 2, scFrom := if g.scok then some s.now else none } else s)
  else if g.step = 2 then
    (match g.scFrom with
     | some t => if t + s.scTime ≤ s.now then (s.groupOn (s.groupOf 1)).modGrd fun g => { g with step := 3 } else s
     | none => s)
  else if g.step = 3 then (if s.confirmed 1 2 then s.modGrd fun g => { g with step := 4 } else s)
  else if g.step = 4 then
    (if s.confirmed 0 2 then s.closeEnds 5 1
     else if g.scok && !(s.group (s.groupOf 0)).cmd then s.groupOn (s.groupOf 0) else s)
  else s

/-- Its time has run out in a step that waits. -/
def State.closeLate (s : State) : Bool :=
  (s.grd.step == 1 || s.grd.step == 2 || s.grd.step == 4) && decide (s.grd.closeFrom + ms (fld (s.ureg A.GRD_SC_WAIT) 0 16) ≤ s.now)

/-- The sequence as far as it can go now: a permission withdrawn ends it, then its steps. Once HOLD is decided, or while the
groups are being opened, it energises nothing (DESIGN CHOICE, log entry 94). -/
def State.closeRun (s : State) : State :=
  if s.modes.cur ≠ .energize ∨ !s.closing ∨ s.grd.startHeld then s
  else if 2 ≤ s.grd.step && !s.permit then s.closeOpens 5
  else if s.modes.next = some .hold ∨ s.grd.stop ≠ .none then s
  else s.closeStep.closeStep.closeStep.closeStep

/-- The synchro-check in a beat (R226). -/
def State.synchro (s : State) : State :=
  let grid := (s.seqDq 0).1
  let conv := (s.seqDq 2).1
  let ok := s.groupOk 0 && s.groupOk 2 && s.quarterAgo.isSome
  let dv := psub (vlen conv.1 conv.2) (vlen grid.1 grid.2)
  let da := angDiff (atanA (-conv.2) conv.1) (atanA (-grid.2) grid.1)
  let w := s.ureg A.GRD_SC
  let df := match s.grd.daHist[s.ang.div - 1]? with
    | some old => decide (absI (angDiff (wi da) (wi old)) * ((s.ang.rate : Nat) : Int) * 100 ≤ ((fld w 16 8 * 2 ^ 48 : Nat) : Int))
    | none => false
  let holds := ok && decide (absI dv ≤ puFrac (5 * fld w 0 8 : Nat) 1000) && decide (absI da ≤ deg10 (fld w 8 8 : Nat)) && df
  s.modGrd fun g => { g with
    da := if ok then da else g.da, dv := if ok then dv else g.dv, daHist := if ok then da :: g.daHist.take 1024 else [],
    scok := holds, scFrom := if g.step = 2 && holds then some (g.scFrom.getD s.now) else none }

/-- The trim of R225, frozen from the moment the main group is commanded closed. -/
def State.trim (s : State) : State :=
  if s.modes.cur ≠ .energize || (s.group (s.groupOf 0)).cmd then s
  else s.modGrd fun g => { g with
    trimV := sat (g.trimV - quo (20 * g.dv * s.beatTs) second), trimA := (wi (g.trimA - quo (20 * g.da * s.beatTs) second)).toInt }

/-- The device is on its own way from ENERGIZE back to WATCH (R71). -/
def Modes.returning (m : Modes) : Bool := m.cur == .energize && m.tgt == .watch && !m.trans

/-- Loss of lock where it matters (R71, R224, R228): ENERGIZE ends in WATCH, whatever request was pending, and a transfer to
FOLLOW is abandoned. -/
def State.afterLock (s : State) : State :=
  if s.ang.lock then s
  else if s.modes.cur = .energize ∧ s.modes.next ≠ some .hold ∧ s.modes.next ≠ some .watch ∧ s.modes.returning = false then
    let s1 := if s.grd.stop = .none then s.closeAborts 4 else s.closeFails 4
    { s1 with modes := { s1.modes with
        next := none, trans := false, asked := false, lastStat := if s1.modes.trans then .lost else s1.modes.lastStat,
        tgt := .watch } }.stopRun
  else if s.grd.xfer = .toFollow then s.dropXfer
  else s

/-! ## The neutral guard (R217) -/

/-- NEUT is set. -/
def State.neutralOn (s : State) : State := (s.modGrd fun g => { g with neut := true, neutLow := none }).event 0x80 1

/-- NEUT clears. -/
def State.neutralOff (s : State) : State := s.modGrd fun g => { g with neut := false, neutLow := none, neutRun := 0 }

/-- The neutral current has exceeded its limit on 8 consecutive beats. -/
def State.neutralDue (s : State) : Bool := !s.grd.neut && decide (8 ≤ s.grd.neutRun)

/-- It has stayed below half the limit for 1,000 ms. -/
def State.neutralClearDue (s : State) : Bool :=
  s.grd.neut && (match s.grd.neutLow with | some t => decide (t + ms 1000 ≤ s.now) | none => false)

/-- The neutral current in a beat. -/
def State.neutral (s : State) : State :=
  let q := s.quant 6
  let lim := pu16 (fld (s.ureg A.GRD_INLIM) 0 16)
  let over_ := q.ok && s.modes.cur.switching && decide (lim < absI q.val)
  let s1 := s.modGrd fun g => { g with
    neutRun := if over_ then min (g.neutRun + 1) 255 else 0,
    neutLow := if g.neut && q.ok && decide (2 * absI q.val < lim) then some (g.neutLow.getD s.now) else none }
  if s1.neutralDue then s1.neutralOn else if s1.neutralClearDue then s1.neutralOff else s1

/-- The unit ahead of the loop slots. -/
def State.gridPipe (s : State) : State :=
  let s1 := s.lowCurrent.synchro.trim.neutral.transfers
  (if s1.closing && s1.closeLate then s1.closeOpens 2 else s1.closeRun).stopRun

/-! ## Balance between phases (R215, R216) -/

/-- The level that the `n` highest of values in falling order fall to when `x` is taken from them, the fewest that meet. -/
def waterLevel : Nat → Int → Int → List Int → Int
  | n, total, x, a :: b :: rest =>
    if b * ((n + 1 : Nat) : Int) ≤ total + a - x then quo (total + a - x) (n + 1) else waterLevel (n + 1) (total + a) x (b :: rest)
  | n, total, x, [a] => quo (total + a - x) (n + 1)
  | _, _, _, [] => 0

/-- Insert into a list in falling order. -/
def insertDown (x : Int) : List Int → List Int
  | [] => [x]
  | a :: as => if a ≤ x then x :: a :: as else a :: insertDown x as

/-- Values in falling order. -/
def sortDown (l : List Int) : List Int := l.foldr insertDown []

/-- Values lowered by a total, the highest first (R212, R248). -/
def lowered (x : Int) (l : List Int) : List Int :=
  if x ≤ 0 then l else let lv := waterLevel 0 0 x (sortDown l); l.map fun a => min a lv

/-- The mean of three targets. -/
def meanOf (t : List Int) : Int := quo (isum t) 3

/-- A of three targets, saturated (R9). -/
def imbalance (t : List Int) : Int :=
  let m := meanOf t
  sat <| isqrt (quo (2 * isum (t.map fun p => (p - m) * (p - m))) 3)

/-- I of three targets. -/
def State.magOf (s : State) (t : List Int) : Int := vlen (pdiv (meanOf t) s.vdSafe) s.grd.iqRef

/-- V0MAX in use: 0 while no zero sequence is allowed. -/
def State.v0Max (s : State) : Int :=
  if !bitAt (s.ureg A.GRD_CFG) 1 || s.grd.neut then 0 else pu16 (fld (s.ureg A.GRD_V0MAX) 0 16)

/-- The condition of R216. -/
def State.balanced (s : State) (t : List Int) : Bool := decide (imbalance t ≤ pmul s.v0Max (s.magOf t))

/-- The highest level between two that meets the condition, by bisection, where the lower end meets it and the condition, once
met from above, holds down to it. -/
def State.levelBetween (s : State) (t : List Int) : Nat → Int → Int → Int
  | 0, lo, _ => lo
  | n + 1, lo, hi =>
    let mid := (lo + hi) / 2
    if hi ≤ lo + 1 then lo
    else if s.balanced (t.map fun a => min a mid) then s.levelBetween t n mid hi else s.levelBetween t n lo mid

/-- Of the levels from `lo` to `hi`, at which `k` targets stand while the others sum to `rest`, the one where
(V0MAX × I)² − A² is greatest, or `lo` where it only rises away from an extreme: that difference is quadratic in the level x,
with a slope in proportion to (V² + 2 vd²)(k x + rest) − 6 vd² x. -/
def State.bestLevel (s : State) (k : Nat) (rest lo hi : Int) : Int :=
  let d := s.vdSafe * s.vdSafe
  let g := s.v0Max * s.v0Max + 2 * d
  let den := 6 * d - k * g
  if den ≤ 0 then lo else max lo (min hi (quo (g * rest) den.toNat))

/-- The targets after curtailment: the highest falls until the condition holds, from where it meets the next both fall together
(R216). The condition need not hold from some level on down, so each of the two stretches is searched from above. -/
def State.curtailed (s : State) (t : List Int) : List Int :=
  if s.balanced t then t
  else
    let hi := t.foldl max (-0x80000000)
    let lo := t.foldl min 0x7FFFFFFF
    let mid := isum t - hi - lo
    let cap := fun (lv : Int) => t.map fun a => min a lv
    let a := s.bestLevel 1 (mid + lo) mid hi
    let b := s.bestLevel 2 lo lo mid
    cap (if s.balanced (cap a) then s.levelBetween t 33 a hi
      else if s.balanced (cap b) then s.levelBetween t 33 b mid else lo)

/-- The phase targets before curtailment: the offers, in FORM the measured power in proportion to them (R215). The mode is
CUR, which a transfer keeps throughout (R221, R222). -/
def State.targets (s : State) (offers : List Int) : List Int :=
  if s.modes.cur = .form then
    let total := isum offers
    let p := 3 * (s.quant 0x18).val
    offers.zipIdx.map fun o => if total = 0 then sat (s.open_ (0x3010 + o.2)).toInt else sat (quoI (p * o.1) total)
  else offers

/-! ## Shares inside a phase (R248) -/

/-- Take a total from discharge shares, the largest first; what remains, and the new shares. -/
def takeDischarge : Nat → Int → List (Nat × Int) → Int × List (Nat × Int)
  | 0, x, l => (x, l)
  | n + 1, x, l =>
    let top := (l.map (·.2)).foldl max 0
    if x ≤ 0 ∨ top ≤ 0 then (x, l)
    else
      match l.findIdx? fun p => p.2 == top with
      | some i => takeDischarge n (x - min x top) (modAt (fun p => (p.1, p.2 - min x top)) i l)
      | none => (x, l)

/-- Spread a total over batteries in proportion to their weights, each within its budget. -/
def State.spread (s : State) (x : Int) (l : List (Nat × Int)) : List (Nat × Int) :=
  let w := s.battWeight (decide (x < 0))
  let total := nsum (l.map fun p => w p.1)
  l.map fun p => (p.1, if total = 0 then p.2 else s.battLimit p.1 p.2 (p.2 + quo (x * (w p.1 : Int)) total))

/-- Sum of shares. -/
def shareSum (l : List (Nat × Int)) : Int := isum (l.map (·.2))

/-- The battery and string shares of a phase: `r` is the reduction found in it. In FORM the storage takes up the whole
difference between the target and the string offers. -/
def State.sharePhase (s : State) (batt str : List (Nat × Int)) (target r : Int) : List (Nat × Int) × List (Nat × Int) :=
  let lower := fun (x : Int) => (str.map (·.1)).zip (lowered x (str.map (·.2)))
  if s.effMode = .form then
    let d := target - shareSum str
    let none_ := batt.map fun p => (p.1, (0 : Int))
    let b := s.spread d none_
    (b, lower (shareSum b - d))
  else
    let one := takeDischarge batt.length r batt
    let b := if 0 < one.1 then s.spread (-one.1) one.2 else one.2
    (b, lower (one.1 - (shareSum one.2 - shareSum b)))

/-- A cell's shares of this beat, and curtailment of its tracker (R248, R259). -/
def State.giveShare (s : State) (c : Nat) (str batt : Int) : State :=
  let t := s.trk c
  let cut := s.tracked c && s.tracking && decide (str < t.offer)
  let s1 := s.modTrk c fun t => { t with share := padd str batt, batt := batt }
  if cut ∧ t.st ≠ .curtailed ∧ t.st ≠ .off ∧ t.st ≠ .frozen then
    (s1.modTrk c fun t => { t with
      st := .curtailed, resume := if t.st = .track then .track else .queued, cycles := 0 })
  else if t.st = .curtailed && !cut then
    (if t.resume = .queued then s1.queueCell c
     else s1.modTrk c fun t => { t.aim t.vbest with st := .track, cycles := 0 })
  else s1

/-- Shares of the cells of a phase. -/
def State.allocPhase (s : State) (x : Nat) (disp : List (Nat × Int)) (target r : Int) : State :=
  let cs := s.cellsIn x .active
  let batt := disp.filter fun p => cs.contains p.1
  let str := (cs.filter s.hasString).map fun c => (c, (s.trk c).offer)
  let y := s.sharePhase batt str target r
  cs.foldl (fun s c => s.giveShare c (refOf y.2 c) (refOf y.1 c)) s

/-- Shares of every cell that is not ACTIVE, or in a mode that gives none, are 0. -/
def State.noShares (s : State) (all : Bool) : State :=
  s.usedCells.foldl (fun s c =>
    if (all || (s.cell c).st != .active) && ((s.trk c).share != 0 || (s.trk c).batt != 0) then
      s.modTrk c fun t => { t with share := 0, batt := 0 }
    else s) s

/-- The dispatch is in force: FOLLOW, and RIDE entered from it. -/
def State.dispatched (s : State) : Bool := s.effMode == .follow || (s.effMode == .ride && s.modes.rideFrom == .follow)

/-- The battery shares that stand ahead of curtailment: the dispatch, else the shares in force within their budgets. -/
def State.batteryShares (s : State) : List (Nat × Int) :=
  if s.dispatched then s.dispatch
  else (s.activeCells.filter s.hasBattery).map fun c => (c, s.battLimit c 0 (s.trk c).batt)

/-- Balance and allocation in the pipeline (R215, R216, R248, R251). -/
def State.balance (s : State) : State :=
  if !s.modes.cur.within 0x70 then
    (s.noShares true).modGrd (fun g => { g with
      poff := [0, 0, 0], curt := [0, 0, 0], imbA := 0, v0 := 0, v0sat := false, curtOn := false }) |>.modBpt fun b => { b with disp := 0 }
  else
    let disp := s.batteryShares
    let offer := fun (x : Nat) =>
      let cs := s.cellsIn x .active
      padd (isum ((cs.filter s.hasString).map fun c => (s.trk c).offer)) (shareSum (disp.filter fun p => cs.contains p.1))
    let p0 := s.targets [offer 0, offer 1, offer 2]
    let p1 := lowered (3 * s.grd.pcut) p0
    let p2 := s.curtailed p1
    let curt := (p1.zip p2).map fun q => psub q.1 q.2
    let a := imbalance p2
    let i := s.magOf p2
    let m := meanOf p2
    let ab := clarke (p2.getD 0 0 - m) (p2.getD 1 0 - m) (p2.getD 2 0 - m)
    let on := curt.any fun c => c != 0
    let v0 := if i = 0 then 0 else min s.v0Max (pdiv a i)
    let s1 := s.modGrd fun g => { g with
      poff := p0, curt := curt, imbA := imbalance p0, v0 := v0, curtOn := on,
      v0sat := decide (0 < s.v0Max) && (on || decide (s.v0Max ≤ v0)),
      v0ang := atanA (-g.iqRef) (pdiv m s.vdSafe) + atanA (-ab.2) ab.1 }
    let s2 := s1.eventIf (on && !s.grd.curtOn) 0x80 0
    let s3 := ([0, 1, 2].foldl (fun s x => s.allocPhase x disp (p2.getD x 0) (p0.getD x 0 - p2.getD x 0)) s2).noShares false
    let given := if s.dispatched then shareSum disp else isum (s3.activeCells.map fun c => (s3.trk c).batt)
    s3.modBpt fun b => { b with disp := sat (quo given 3) }

/-! ## Weights and the phase voltage reference (R210, R214) -/

/-- s_i of R214. -/
def State.weightOf (s : State) (x c : Nat) : Int :=
  let p := (s.trk c).share
  let pow := s.grd.ppow.getD x 0
  let sign : Int := if puFrac 2 100 < pow then 1 else if pow < -(puFrac 2 100) then -1 else 0
  let vt := s.vtgtOf c
  let k : Int := (fld (s.ureg A.GRD_KCELL) 0 16 : Nat)
  let y := if sign = 0 then p
    else if vt = 0 then sat (s.open_ (0x3100 + c)).toInt
    else sat (p + quo (p * sign * k * ((s.vdc c : Int) - vt)) (256 * vt))
  let a := quo p 2
  let b := quo (3 * p) 2
  clampI (min a b) (max a b) y

/-- The weights of a phase's ACTIVE cells. -/
def State.weighPhase (s : State) (x : Nat) : State :=
  let cs := s.cellsIn x .active
  let none_ := cs.all fun c => (s.trk c).share == 0
  let w := cs.map fun c => (c, if none_ then (s.vdc c : Int) else s.weightOf x c)
  let total := shareSum w
  w.foldl (fun s p => s.modCmod p.1 fun m => { m with
    weight := if total = 0 then sat (s.open_ (0x3300 + p.1)).toInt else sat (quoI (p.2 * pu) total) }) s

/-- The power of each phase in this beat, PU32 of S_B / 3, for the next beat's sign: v i now and a quarter cycle ago. -/
def State.phasePower (s : State) : State :=
  let now := s.loop.hist.headD []
  let old := s.quarterAgo.getD []
  let p := fun (l : List Int) (x : Nat) => l.getD x 0 * l.getD (3 + x) 0
  s.modGrd fun g => { g with ppow := [0, 1, 2].map fun x => sat (quo (p now x + p old x) pu.toNat) }

/-- The feed-forward of a beat in its two frames: in ENERGIZE before the main close, trimmed. -/
def State.feedForward (s : State) : (Int × Int) × (Int × Int) :=
  let d := (s.quant 0x14).val
  let q := (s.quant 0x15).val
  let neg := ((s.quant 0x16).val, (s.quant 0x17).val)
  if s.modes.cur = .energize && !s.confirmed 0 2 then
    let th := atanA (-q) d + wi s.grd.trimA
    let m := padd (vlen d q) s.grd.trimV
    ((pmul m (cosA th), pmul m (-(sinA th))), neg)
  else ((d, q), neg)

/-- v_k at an angle (R210). -/
def State.phaseRef (s : State) (x : Nat) (th : Word) : Int :=
  let ff := s.feedForward
  if s.modes.cur = .energize && !s.confirmed 0 2 then phaseAt x th ff.1 ff.2
  else
    let r := fun (n : Nat) => s.roleOut n
    let pos := (padd ff.1.1 (r 1), padd ff.1.2 (r 2))
    let neg := (padd ff.2.1 (r 3), padd ff.2.2 (r 4))
    padd (padd (phaseAt x th pos neg) (r (5 + x))) (pmul s.grd.v0 (sinA (th + s.grd.v0ang)))

/-- The phase voltage references of the execution beat. -/
def State.phaseRefs (s : State) : State :=
  let nb := s.nextBeat
  let at0 := wd (quoN (nb.1 * 4294967296) nb.2)
  let at1 := wd (quoN ((nb.1 + 1) * 4294967296) nb.2)
  { s with modu := { s.modu with vph := [0, 1, 2].map fun x => (s.phaseRef x at0, s.phaseRef x at1) } }

/-- The unit behind the loop slots: allocation, weights, references. -/
def State.gridAlloc (s : State) : State :=
  ((([0, 1, 2].foldl (fun s x => s.weighPhase x) s.trackers.balance)).phasePower).phaseRefs

end Sys2Proof.Machine
end

