-- ==== Sys2Proof/Machine/RecorderOps.lean ====
section
/-! DEFINITION. The disturbance recorder: frames of classes 0 to 3, the end of a record, its delivery and what abandons
it (R393 to R398), the memories' scrubs and spare rows (R391, R399). -/

namespace Sys2Proof.Machine

/-- Change the recorder. -/
def State.modReco (s : State) (f : Recorder → Recorder) : State := { s with reco := f s.reco }

/-- Change the memories. -/
def State.modMem (s : State) (f : Memories → Memories) : State := { s with mem := f s.mem }

/-! ## Frames (R393, R394) -/

/-- Two bytes of an integer. -/
def le2 (x : Int) : List Byte := leBytes 2 (wi x).toNat

/-- Four bytes of an integer. -/
def le4 (x : Int) : List Byte := leBytes 4 (wi x).toNat

/-- A PU32 value shifted right by 15, within 0x8001 and 0x7FFF. -/
def short (x : Int) : Int := clampI (-0x7FFF) 0x7FFF (x / 0x8000)

/-- The quantity that a bit of REC_CH0 selects. -/
def chQuant (k : Nat) : Nat := if k < 13 then k else 0x10 + (k - 13)

/-- Class 0: the selected quantities. -/
def State.frameGrid (s : State) : List Byte :=
  (bitsSet 24 (s.reg A.REC_CH0).toNat).flatMap fun k =>
    let q := s.quant (chQuant k)
    if q.ok then le2 (short q.val) else leBytes 2 0x8000

/-- Codes of the cell states (R60). -/
def CellState.code : CellState → Nat
  | .absent => 0 | .linked => 1 | .charged => 2 | .active => 3 | .spare => 4 | .bypassed => 5 | .retired => 6 | .stale => 7

/-- Class 1: the eight words of a cell. -/
def State.frameCell (s : State) (c : Nat) : List Byte :=
  let q := s.cell c
  let cut := (s.ringSt (s.cellRing c)).cut
  leBytes 2 (c % 512 + 4096 * q.st.code) ++ slice q.last 6 2 ++ slice q.last 8 2 ++ slice q.last 10 2 ++ slice q.last 12 2 ++
  leBytes 2 (byteFld q.last 4 1 + 256 * b2n (!q.got) + 512 * b2n cut) ++ slice q.last 16 2 ++
  le2 (short (s.cmod c).vrun)

/-- The latest result word of an entry (R99). -/
def State.resultWord (s : State) (q e : Nat) : Word := Map.get (fun _ => 0x100000#32) (32 * q + e) s.adc.results

/-- Class 2: the result words of a sequence, up to its last entry. -/
def State.frameSeq (s : State) (q : Nat) : List Byte :=
  (List.range (lastEntry (fld (s.ureg (A.ADC_SEQ_CFG q)) 4 1) (s.seqEntries q) + 1)).flatMap fun e => leBytes 4 (s.resultWord q e).toNat

/-- Class 3: OUT of a loop slot that REC_SLOT names. -/
def State.frameSlot (s : State) (i : Nat) : List Byte :=
  let w := s.reg (A.REC_SLOT i)
  if bitAt w 15 then le4 (s.slot (fld w 0 10)).out else []

/-- The payload of a frame of classes 0 to 3. -/
def State.framePayload (s : State) (cls : Nat) : List Byte :=
  if cls = 0 then s.frameGrid
  else if cls = 1 then s.usedCells.flatMap s.frameCell
  else if cls = 2 then (bitsSet 16 (s.reg A.REC_CFG).toNat).flatMap s.frameSeq
  else (List.range 32).flatMap s.frameSlot

/-- A REC_FRAME entry writes a frame, from REC ready onward (R82, R393), while the DRAM die works (R42). -/
def State.recFrame (s : State) (cls : Nat) : State :=
  if s.ready 24 && !s.mem.dramFail then
    { s with reco := s.addFrame (mkFrame cls s.ang.seq (s.ang.bstart / ns) (s.framePayload cls)) }
  else s

/-! ## The end of a record (R395 to R397) -/

/-- The frames of a record. -/
def Recorder.framesOf (r : Recorder) (c : Rec) : List Frame :=
  r.frames.filter fun f => decide (c.start ≤ f.time) && decide (f.time ≤ c.stop)

/-- The bytes of a record. -/
def Recorder.bytesOf (r : Recorder) (c : Rec) : List Byte := (r.framesOf c).flatMap (·.bytes)

/-- The hosts a record that ends now is delivered to (R397). -/
def State.eligible (s : State) : List Nat :=
  (List.range 4).filter fun h =>
    (s.reg A.REC_HOSTMASK).getLsbD h && (s.ringOf s.ev h 3).isSome && s.reco.sel.getD h 0 != 0

/-- Monotone time at which DEVTIME reaches an instant in ns, near enough for a rate within RATE_MAX: the first at which it
has. -/
def State.whenDev (s : State) (t : Nat) : Nat :=
  if t * ns ≤ s.clock.dev then s.now
  else
    let gap : Int := t * ns - s.clock.dev
    (s.now + (-((-(gap * 1000000000)) / (1000000000 + s.clock.rate)))).toNat

/-- An open record reaches its end: held for its hosts, or released where it has none (R396). -/
def State.recordEnd (s : State) : State :=
  match s.reco.opened with
  | none => s
  | some c =>
    let s0 := s.advance (s.whenDev c.stop)
    let hs := s0.eligible
    let s1 := s0.modReco fun r => { r with
      opened := none,
      held := if hs.isEmpty then r.held
        else r.held ++ [{ c with hosts := hs.map fun h => { host := h, next := 0, sent := [] } }],
      unsent := if hs.isEmpty then satInc 16 r.unsent 1 else r.unsent }
    s1.event 0xF0 0 0xFFFF [c.no % 65536]

/-! ## Delivery (R366, R397) -/

/-- The first 8 bytes of a REC entry. -/
def recHead (kind no : Nat) (st : Status) (h len : Nat) : List Byte :=
  leBytes 2 kind ++ leBytes 2 no ++ leBytes 1 st.code ++ leBytes 1 h ++ leBytes 2 len

/-- The entry at a place in the delivery of a record: 0 the HEAD, then a TRIG for each trigger kept after the first, then
DATA, at its offset among the bytes sent, then the TAIL, over all bytes sent, those of a frame omitted since among them
(R397). The second component is the delivery from then on; none after the TAIL. -/
def Recorder.entryAt (r : Recorder) (c : Rec) (d : RecHost) : List Byte × Option RecHost :=
  let h := d.host
  let n := d.next
  let bytes := r.bytesOf c
  let first := c.trigs.headD (0, 0)
  let more := c.trigs.length - 1
  if n = 0 then
    (recHead 1 c.no .ok h 56 ++ leBytes 1 1 ++ leBytes 1 (b2n c.short + 2 * b2n c.cap) ++ leBytes 1 c.trigs.length ++
     leBytes 1 0 ++ leBytes 4 c.count ++ leBytes 8 c.start ++ leBytes 8 c.stop ++ leBytes 8 first.1 ++ leBytes 2 first.2 ++
     leBytes 2 0 ++ leBytes 4 bytes.length ++ leBytes 4 (r.framesOf c).length, some { d with next := 1 })
  else if n ≤ more then
    let t := c.trigs.getD n (0, 0)
    (recHead 3 c.no .ok h 10 ++ leBytes 8 t.1 ++ leBytes 2 t.2, some { d with next := n + 1 })
  else
    let pos := n - 1 - more
    if pos < bytes.length then
      let len := min 52 (bytes.length - pos)
      (recHead 2 c.no .ok h len ++ leBytes 4 d.sent.length ++ slice bytes pos len,
       some { d with next := n + len, sent := d.sent ++ slice bytes pos len })
    else
      (recHead 4 c.no (if c.omitted = 0 then .ok else .internal) h 12 ++ leBytes 4 d.sent.length ++
       leBytes 4 (crc32 d.sent) ++ leBytes 4 c.omitted, none)

/-- A host has received a record, or has given it up: it is released once no host is left (R396, R397). -/
def Recorder.doneFor (r : Recorder) (no h : Nat) : Recorder :=
  { r with held := (r.held.map fun (c : Rec) =>
      if c.no = no then { c with hosts := c.hosts.filter fun d => d.host != h } else c).filter fun c => !c.hosts.isEmpty }

/-- The delivery of a record to a host moves on. -/
def Recorder.moveTo (r : Recorder) (no : Nat) (d : RecHost) : Recorder :=
  { r with held := r.held.map fun (c : Rec) =>
      if c.no = no then { c with hosts := c.hosts.map fun (p : RecHost) => if p.host = d.host then d else p } else c }

/-- Hand one entry of the oldest record a host still awaits to its REC ring, if the ring has a free entry. A host whose SEL has
become 0 receives none (R398), and what it awaits stands (DESIGN CHOICE, log entry 225). -/
def State.deliverOne (s : State) (h : Nat) : State :=
  match s.ringOf s.ev h 3, s.reco.held.find? fun c => c.hosts.any fun d => d.host == h with
  | some n, some c =>
    if (s.ev.ring n).full || s.ev.holding || s.reco.sel.getD h 0 == 0 then s
    else
      let e := s.reco.entryAt c ((c.hosts.find? fun d => d.host == h).getD { host := h, next := 0, sent := [] })
      { s with
        ev := Fabric.produce s s.ev n e.1,
        reco := match e.2 with | none => s.reco.doneFor c.no h | some d => s.reco.moveTo c.no d }
  | _, _ => s

/-- Hand entries to a host while its ring has room. -/
def State.deliverTo (s : State) (h : Nat) : Nat → State
  | 0 => s
  | n + 1 => (s.deliverOne h).deliverTo h n

/-- Held records go to each eligible host as its ring has room, in record order. -/
def State.recordDelivery (s : State) : State :=
  (((s.deliverTo 0 65536).deliverTo 1 65536).deliverTo 2 65536).deliverTo 3 65536

/-- A host's REC ring goes out of use: every record it still awaited is abandoned for it (R396). -/
def State.recAbandon (s : State) (h : Nat) : State :=
  let gone := s.reco.held.filter fun c => c.hosts.any fun d => d.host == h
  gone.foldl (fun (s : State) (c : Rec) => (s.modReco fun r => r.doneFor c.no h).event 0xF0 2 h [c.no % 65536]) s

/-- A write of REC_HVER (R398); one that could not be made anyway leaves SEL as it is. -/
def State.recVersion (s : State) (h o : Nat) (v : Word) : Acc :=
  let k := (o - A.REC_HVER 0) / 4
  let row : Row := { first := A.REC_HVER 0, count := 4, reset := 0x101#32, mask := 0xFFFF#32 }
  let fits := decide (fld v 0 8 ≤ 1) && decide (1 ≤ fld v 8 8)
  let st := firstOf (s.common h 0xF0 row.modes true ++ [(!fits, .version)])
  if st = .version then
    (if firstOf (s.common h 0xF0 row.modes true) = .ok then s.modReco fun r => { r with sel := setAt 0 k r.sel } else s, st)
  else if st = .ok then
    ((s.putReg o (mergeWord row.mask (s.reg o) v)).modReco fun r => { r with sel := setAt 1 k r.sel }, st)
  else (s, st)

/-- A frame that can no longer be read is left out of the records that hold it (R396, R399). The places of deliveries
already past it move back by its length. -/
def Recorder.omit (r : Recorder) (i : Nat) : Recorder :=
  match r.frames[i]? with
  | none => r
  | some f =>
    let fix := fun (c : Rec) =>
      if c.start ≤ f.time ∧ f.time ≤ c.stop then
        let fs := r.frames.filter fun g => decide (c.start ≤ g.time) && decide (g.time ≤ c.stop)
        let before := frameBytes ((r.frames.take i).filter fun g => decide (c.start ≤ g.time) && decide (g.time ≤ c.stop))
        let base := max 1 c.trigs.length
        let move := fun (p : RecHost) =>
          if fs.isEmpty ∨ p.next ≤ base + before then p else { p with next := max (base + before) (p.next - f.bytes.length) }
        { c with omitted := c.omitted + 1, hosts := c.hosts.map move }
      else c
    { r with frames := r.frames.eraseIdx i, opened := r.opened.map fix, held := r.held.map fix }

/-! ## Scrubs (R391, R399) -/

/-- The SRAM scrub of a row (R391, R399). -/
def State.sramScrub (s : State) (bank row corrected : Nat) : State :=
  if bank < 24 then
    let key := bank * 4096 + row
    let old := (Map.get (fun _ => []) key s.mem.rowErrs).filter fun t => decide (s.now < t + ms 3600000)
    let times := List.replicate (min corrected 3) s.now ++ old
    let used := s.mem.rows.getD bank 0
    let take := decide (3 ≤ times.length) && decide (used < 32)
    let s1 := s.modMem fun m => { m with
      sramC := satInc 16 m.sramC corrected,
      rowErrs := Map.put (fun _ => []) key (if take then [] else times) m.rowErrs,
      rows := if take then setAt (used + 1) bank m.rows else m.rows }
    if take then ((s1.wear (0x38 + bank)).event 0xF8 1 bank [row]).emptied_ (s.poolSum 4) 4 else s1
  else s

/-- The DRAM scrub (R399). -/
def State.dramScrub (s : State) (corrected : Nat) : State := s.modMem fun m => { m with dramC := satInc 16 m.dramC corrected }

end Sys2Proof.Machine
end

