-- ==== Sys2Proof/Machine/QueueOps.lean ====
section
/-! DEFINITION. Ring space as hosts write it, ring configuration and indices, commands taken and completed, the image
session, log reads, version negotiation and host port resets (R344 to R371). -/

namespace Sys2Proof.Machine

/-- Change the host windows. -/
def State.modHosts (s : State) (f : Hosts → Hosts) : State := { s with hosts := f s.hosts }

/-- Change the Gaffer and the engines. -/
def State.modGaf (s : State) (f : Gaffer → Gaffer) : State := { s with gaf := f s.gaf }

/-- Change a ring. -/
def State.modHwRing (s : State) (n : Nat) (f : Ring → Ring) : State :=
  { s with ev := { s.ev with rings := modAt f n s.ev.rings } }

/-- A hardware ring. -/
def State.hw (s : State) (n : Nat) : Ring := s.ev.ring n

/-! ## Ring space (R345, R351) -/

/-- Bytes of a ring's entries. -/
def Ring.bytes (r : Ring) : Nat := 64 * r.entries

/-- Two spans of ring space share a byte. -/
def overlap (a n b m : Nat) : Bool := decide (a < b + m) && decide (b < a + n)

/-- A host's write of a word of ring space is refused: beyond its end, or inside an enabled ring that is not a CMD ring of
its own. -/
def State.spaceBarred (s : State) (h a : Nat) : Bool :=
  decide (0x2000000 ≤ a) || decide (a % 4 ≠ 0) ||
  (List.range 64).any fun n =>
    let r := s.hw n
    r.en && overlap a 4 r.base r.bytes && (r.type != 0 || s.ringOwner n != h)

/-- A host writes a word of ring space; what is barred is ignored and raises BAD_ACCESS. -/
def State.spaceWrite (s : State) (h a : Nat) (v : Word) : State :=
  if s.spaceBarred h a then s.event 0 36 0xFFFF [a] else { s with ev := s.ev.write a (leBytes 4 v.toNat) }

/-- A host reads a word of ring space. -/
def State.spaceRead (s : State) (a : Nat) : Word :=
  if a < 0x2000000 then wd (leNat (s.ev.read (a / 4 * 4) 4)) else 0#32

/-! ## Completions (R357, R358) -/

/-- A completion entry. -/
def State.completion (s : State) (t : Taken) (st : Status) (result : List Byte) : List Byte :=
  leBytes 2 t.opcode ++ leBytes 2 t.tag ++ leBytes 1 st.code ++ leBytes 1 t.echo ++ leBytes 2 result.length ++
  leBytes 8 s.devNs ++ leBytes 1 t.ring ++ leBytes 3 0 ++ padTo 44 result

/-- A CPL ring can take a completion now. -/
def State.cplFree (s : State) (p : Nat) : Bool := (s.hw p).en && (s.hw p).type == 1 && !(s.hw p).full

/-- The PAIR ring of a CMD ring can take a completion now. -/
def State.pairFree (s : State) (n : Nat) : Bool := s.cplFree (s.hw n).pair

/-- Copy bytes to ring space, word by word, as the host would write them. -/
def State.spaceCopy (s : State) (h a : Nat) : List Byte → State
  | b0 :: b1 :: b2 :: b3 :: rest => (s.spaceWrite h a (wd (leNat [b0, b1, b2, b3]))).spaceCopy h (a + 4) rest
  | _ => s

/-- Post a command's completion, behind what LOG_READ copies, if the pontil is held and the PAIR ring it was taken for has
room; it waits otherwise (R292, R358). -/
def State.postDone (s : State) (t : Taken) : State :=
  match t.done with
  | none => s
  | some (st, result) =>
    if s.ev.holding || !s.cplFree t.pair then s
    else
      let s1 := match t.copy with | some (a, bytes) => s.spaceCopy t.host a bytes | none => s
      { s1 with
        ev := Fabric.produce s1 s1.ev t.pair (s1.completion t st result),
        hosts := { s1.hosts with taken := s1.hosts.taken.filter fun x => x.ring != t.ring } }

/-- Post every completion that stands and can be posted, in the order taken. -/
def State.postOwed (s : State) : State := s.hosts.taken.foldl State.postDone s

/-- A taken command ends with a status and a result. -/
def State.complete (s : State) (ring : Nat) (st : Status) (result : List Byte := []) : State :=
  (s.modHosts fun h => { h with taken := h.taken.map fun (t : Taken) =>
    if t.ring = ring ∧ t.done = none then { t with done := some (st, result) } else t }).postOwed

/-! ## Ring registers (R352 to R355) -/

/-- The ring a QUE ring register belongs to, and its place in it. -/
def ringReg (o : Nat) : Nat × Nat := ((o - A.QUE_RING_CFG 0) / 16, (o - A.QUE_RING_CFG 0) % 16)

/-- A ring as a CFG word would have it. -/
def Ring.withCfg (r : Ring) (v : Word) : Ring :=
  { r with size := fld v 0 4, type := fld v 4 2, en := bitAt v 6, ien := bitAt v 7, pair := fld v 8 6 }

/-- Another enabled ring overlaps it (R354). -/
def State.ringOverlaps (s : State) (n : Nat) (r : Ring) : Bool :=
  (List.range 64).any fun m => m != n && (s.hw m).en && overlap r.base r.bytes (s.hw m).base (s.hw m).bytes

/-- The checks of a write that sets EN (R354). -/
def State.enableChecks (s : State) (n : Nat) (r : Ring) : List (Bool × Status) :=
  let owner := s.ringOwner n
  let p := s.hw r.pair
  [(decide (r.base % r.bytes ≠ 0) || decide (0x2000000 < r.base + r.bytes), .badArg),
   (s.ringOverlaps n r, .badArg),
   (r.type == 0 && !(p.en && p.type == 1 && s.ringOwner r.pair == owner), .badArg),
   ((r.type == 2 || r.type == 3) && (s.ringOf s.ev owner r.type).isSome, .badArg),
   (r.type == 0 && s.hosts.sel.getD owner 0 == 0, .notReady),
   (s.mem.dramFail, .notReady)]

/-- An enabled CMD ring names this ring in PAIR. -/
def State.ringPaired (s : State) (n : Nat) : Bool :=
  (List.range 64).any fun m => (s.hw m).en && (s.hw m).type == 0 && (s.hw m).pair == n

/-- The checks common to the registers of a ring: the owner writes them, and no claim is needed (R346, R352). -/
def State.ringCommon (s : State) (h n : Nat) : List (Bool × Status) :=
  [(s.ringOwner n != h, .notOwner), (!s.ready 22, .notReady), (s.wiping, .busy)]

/-- A write of QUE_RING_CFG. -/
def State.ringCfg (s : State) (h n : Nat) (v : Word) : Acc :=
  let r := s.hw n
  let q := r.withCfg v
  let starts := q.en && !r.en
  let stops := r.en && !q.en
  let st := firstOf ([(decide (10 < q.size), .badArg)] ++ s.ringCommon h n ++ (if starts then s.enableChecks n q else []) ++
    [(r.en && (q.size != r.size || q.type != r.type || q.pair != r.pair), .busy),
     (stops && r.type == 1 && s.ringPaired n, .busy)])
  if st ≠ .ok then (s, st)
  else
    let s1 := s.modHwRing n fun r => { r.withCfg v with
      head := if starts then 0 else r.head, tail := if starts then 0 else r.tail }
    if starts then
      (if q.type = 1 then s1.postOwed else if q.type = 2 then { s1 with ev := s1.postOverflow s1.ev h } else s1, .ok)
    else if stops ∧ r.type = 3 then (s1.recAbandon h, .ok)
    else (s1, .ok)

/-- A write of QUE_RING_BASE. -/
def State.ringBase (s : State) (h n : Nat) (v : Word) : Acc :=
  let b := fld v 0 25
  s.judged (s.ringCommon h n ++ [((s.hw n).en && b != (s.hw n).base, .busy)]) fun s => s.modHwRing n fun r => { r with base := b }

/-- A write of HEAD or TAIL (R355). -/
def State.ringIndex (s : State) (h n : Nat) (head : Bool) (v : Word) : Acc :=
  let r := s.hw n
  let x := fld v 0 16
  let size := r.entries
  let dist := fun (a b : Nat) => (a + 2 * size - b) % size
  let mine := if head then r.type != 0 else r.type == 0
  let fits := decide (x < size) &&
    (if head then decide (dist x r.head ≤ dist r.tail r.head) else decide (dist x r.tail ≤ dist (r.head + size - 1) r.tail))
  let rule := r.en && mine && !fits
  let st := firstOf ([(!mine, .badArg), (rule, .badArg)] ++ s.ringCommon h n ++ [(!r.en, .notReady)])
  if st = .ok then
    let s1 := s.modHwRing n fun r => if head then { r with head := x } else { r with tail := x }
    if head then
      (if r.type = 1 then s1.postOwed else if r.type = 2 then { s1 with ev := s1.postOverflow s1.ev h } else s1, .ok)
    else (s1, .ok)
  else if st = .badArg ∧ rule then (s.event (0xD0 + h) 35 n, st)
  else (s, st)

/-- A write of a ring register. -/
def State.ringWrite (s : State) (h o : Nat) (v : Word) : Acc :=
  let (n, k) := ringReg o
  if k = 0 then s.ringCfg h n v else if k = 4 then s.ringBase h n v
  else if k = 8 then s.ringIndex h n true v else s.ringIndex h n false v

/-- A write of QUE_OWNER: a change of owner for an enabled ring is refused (R352). -/
def State.queOwner (s : State) (h o : Nat) (v : Word) (r : Row) : Acc :=
  let w := (o - A.QUE_OWNER 0) / 4
  let moves := (List.range 16).any fun k =>
    (s.hw (16 * w + k)).en && fld v (2 * k) 2 != fld (s.reg o) (2 * k) 2
  s.rwStore h o v r [(moves, .busy)]

/-! ## Commands taken (R356, R358) -/

/-- A CMD ring has a command that can be taken now. -/
def State.takeable (s : State) (n : Nat) : Bool :=
  let r := s.hw n
  s.live && s.ready 22 && decide (n < 64) && r.en && r.type == 0 && r.head != r.tail &&
  !(s.hosts.taken.any fun t => t.ring == n) && s.pairFree n

/-- The 64 bytes of the command at the head of a ring. -/
def State.cmdBytes (s : State) (n : Nat) : List Byte := s.ev.read ((s.hw n).base + 64 * (s.hw n).head) 64

/-- OPCODE of the command at the head of a ring. -/
def State.opcodeAt (s : State) (n : Nat) : Nat := byteFld (s.cmdBytes n) 0 2

/-- The command entry is well formed: STATUS zero, HOST the ring's owner, LENGTH at most 56, bytes beyond LENGTH zero. -/
def State.cmdOk (s : State) (n : Nat) : Bool :=
  let b := s.cmdBytes n
  let len := byteFld b 6 2
  byteFld b 4 1 == 0 && byteFld b 5 1 == s.ringOwner n && decide (len ≤ 56) && (b.drop (8 + len)).all fun x => x == 0#8

/-- Take the command at the head of a ring. -/
def State.takeCmd (s : State) (n : Nat) : State :=
  let b := s.cmdBytes n
  let t : Taken := {
    ring := n, host := s.ringOwner n, opcode := byteFld b 0 2, tag := byteFld b 2 2, pair := (s.hw n).pair,
    echo := byteFld b 5 1, copy := none, done := none }
  (s.modHwRing n fun r => { r with head := (r.head + 1) % r.entries }).modHosts fun q => { q with taken := q.taken ++ [t] }

/-- Opcodes of the command set, and the version each is served from (R359). -/
def opcodeFrom (op : Nat) : Option Nat :=
  if op = 1 ∨ op = 2 ∨ op = 3 ∨ op = 4 ∨ op = 0x10 ∨ op = 0x11 ∨ op = 0x12 then some 1
  else if op = 0x20 then some 2 else none

/-- Take a command with an opcode and carry it out: `body` has the host and the 64 bytes, and answers the status and the
result, or none where the completion comes later. -/
def State.runCmd (s : State) (n op : Nat) (body : State → Nat → List Byte → State × Option (Status × List Byte)) : State :=
  if s.takeable n && s.opcodeAt n == op then
    let h := s.ringOwner n
    let b := s.cmdBytes n
    let ok := s.cmdOk n
    let s1 := s.takeCmd n
    let served := match opcodeFrom op with | some v => decide (v ≤ s.hosts.sel.getD h 0) | none => false
    if !served then s1.complete n .badOpcode
    else if !ok then s1.complete n .badArg
    else
      match body s1 h b with
      | (s2, some (st, result)) => s2.complete n st result
      | (s2, none) => s2
  else s

/-- NOP; and any opcode the command set does not have, which is taken and refused (R359). -/
def State.runNop (s : State) (n : Nat) : State :=
  match opcodeFrom (s.opcodeAt n) with
  | none => s.runCmd n (s.opcodeAt n) fun s _ _ => (s, some (.badOpcode, []))
  | some _ => s.runCmd n 1 fun s _ _ => (s, some (.ok, []))

/-! ## Image commands (R307, R359) -/

/-- A microcode slot. -/
def State.imgSlot (s : State) (i : Nat) : ImageSlot := s.gaf.slots.getD i slotErased

/-- A slot is valid: its signature verifies, its format is 0x01, and the part is no older than it asks (R307). -/
def State.slotValid (s : State) (i : Nat) : Bool :=
  (s.imgSlot i).signed && (s.imgSlot i).format == 1 && decide ((s.imgSlot i).minsrev ≤ s.part.srev)

/-- Neither slot is valid. -/
def State.noImage (s : State) : Bool := !s.slotValid 0 && !s.slotValid 1

/-- The checks common to the image commands: the GAF claim and the modes of R59, and WAKE while neither slot is valid. -/
def State.imgCommon (s : State) (h : Nat) : List (Bool × Status) :=
  [(!s.owns h 0xB8, .notOwner), (!s.modes.cur.within (if s.noImage then 0x1B6 else 0x1B4), .notInMode),
   (!s.ready 16, .notReady), (s.wiping, .busy)]

/-- An engine in step runs from a slot. -/
def State.slotRunning (s : State) (i : Nat) : Bool :=
  s.gaf.engines.any fun (e : Engine) => e.inStep && e.slot == i

/-- Settle a command of a ring: refused at once, or accepted with an effect and completed later. One not legal in the mode
raises MODE_REFUSED, as a write would (R59). -/
def accept (s : State) (checks : List (Bool × Status)) (act : State → State) : State × Option (Status × List Byte) :=
  let st := firstOf checks
  if st = .ok then (act s, none)
  else (s.eventIf (st == .notInMode) 0xB8 57 0xFFFF [0, s.modes.cur.code], some (st, []))

/-- IMAGE_OPEN: the slot is erased. -/
def State.imageOpen (s : State) (h : Nat) (b : List Byte) : State × Option (Status × List Byte) :=
  let slot := byteFld b 8 1
  accept s ([(decide (1 < slot), .badArg), (byteFld b 9 1 != 255 - slot, .complementMismatch)] ++ s.imgCommon h ++
      [(s.hosts.session.isSome || s.slotRunning slot, .busy)]) fun s =>
    (s.modGaf fun g => { g with slots := setAt slotErased slot g.slots }).modHosts fun q =>
      { q with session := some { host := h, slot := slot, written := 0 } }

/-- IMAGE_DATA: the block goes from ring space to the slot. -/
def State.imageData (s : State) (h : Nat) (b : List Byte) : State × Option (Status × List Byte) :=
  let iofs := byteFld b 8 4
  let len := byteFld b 12 4
  let buf := byteFld b 16 4
  let hits := (List.range 64).any fun n => (s.hw n).en && overlap buf len (s.hw n).base (s.hw n).bytes
  let written := match s.hosts.session with | some q => q.written | none => iofs
  let bad := decide (len < 256) || decide (0x10000 < len) || decide (len % 256 ≠ 0) || decide (iofs ≠ written) ||
    decide (0x800000 < iofs + len) || decide (buf % 64 ≠ 0) || decide (0x2000000 < buf + len) || hits
  accept s ([(bad, .badArg)] ++ s.imgCommon h ++ [(s.hosts.session.isNone, .notReady)]) fun s =>
    let slot := match s.hosts.session with | some q => q.slot | none => 0
    let bytes := s.ev.read buf len
    (s.modGaf fun g => { g with
      slots := modAt (fun (i : ImageSlot) => { i with body := i.body ++ bytes }) slot g.slots }).modHosts fun q => { q with
        session := q.session.map fun x => { x with written := x.written + len } }

/-- IMAGE_CLOSE. -/
def State.imageClose (s : State) (h : Nat) : State × Option (Status × List Byte) :=
  accept s (s.imgCommon h ++ [(s.hosts.session.isNone, .notReady)]) id

/-- An image command that has taken its time ends: the header and the signature the device reads of the slot settle whether
it is valid, and the completion is posted. A failed flash die loads no image (R42, R307). -/
def State.imageDone (s : State) (signed : Bool) (format minsrev : BitVec 8) (version : Word) (hstv : BitVec 16) : State :=
  match s.hosts.taken.find? fun t => decide (0x10 ≤ t.opcode) && decide (t.opcode ≤ 0x12) && t.done.isNone with
  | none => s
  | some t =>
    if t.opcode ≠ 0x12 then s.complete t.ring (if s.mem.flashFail then .internal else .ok)
    else
      match s.hosts.session with
      | none => s.complete t.ring .badArg
      | some q =>
        let good := signed && format == 1#8 && decide (minsrev.toNat ≤ s.part.srev) && !s.mem.flashFail
        let s1 := s.modHosts fun x => { x with session := none }
        if good then
          (s1.modGaf fun g => { g with
            slots := modAt (fun (i : ImageSlot) => { i with
              signed := true, format := format.toNat, minsrev := minsrev.toNat, version := version,
              hstv := (hstv.toNat % 256, hstv.toNat / 256) }) q.slot g.slots }).complete t.ring .ok (leBytes 4 version.toNat)
        else s1.complete t.ring (if s.mem.flashFail then .internal else .badArg)

/-! ## LOG_READ (R359, R368) -/

/-- Entries the log holds. -/
def PLog.count (p : PLog) : Nat := if p.wrapped then 1024 else p.next

/-- The entry with a sequence number that is held. -/
def PLog.bySeq (p : PLog) (q : Nat) : List Byte :=
  let back := (p.seq + 2 ^ 32 - q) % 2 ^ 32
  Map.get (fun _ => []) ((p.next + 2048 - 1 - back) % 1024) p.entries

/-- The sequence a read from START begins at, and how many entries it copies. -/
def PLog.span (p : PLog) (start count : Nat) : Nat × Nat :=
  let back := sx 32 (p.seq + 2 ^ 32 - start)
  let n : Int := p.count
  let b := min back (n - 1)
  if b < 0 then (start, 0) else ((p.seq + 2 ^ 32 - b.toNat) % 2 ^ 32, min count (b.toNat + 1))

/-- LOG_READ: the status and the result, and what is copied ahead of the completion. -/
def State.logRead (n : Nat) (s : State) (_ : Nat) (b : List Byte) : State × Option (Status × List Byte) :=
  let start := byteFld b 8 4
  let count := byteFld b 12 2
  let buf := byteFld b 16 4
  if count = 0 ∨ 1024 < count ∨ buf % 4 ≠ 0 then (s, some (.badArg, []))
  else
    let p := s.ev.log
    let r := p.span start count
    let bytes := (List.range r.2).flatMap fun i => padTo 32 (p.bySeq ((r.1 + i) % 2 ^ 32))
    (s.modHosts fun q => { q with taken := q.taken.map fun (t : Taken) =>
      if t.ring = n ∧ t.done = none then { t with copy := some (buf, bytes) } else t }, some (.ok, leBytes 2 r.2 ++ leBytes 2 0 ++ leBytes 4 ((r.1 + r.2) % 2 ^ 32)))

/-! ## Versions (R360) -/

/-- The range of command set versions served: of the running image, or common to both while they differ. Where no engine
came to run, the device itself serves version 1, so that an image can be written (R309; DESIGN CHOICE, log entry 212). -/
def State.vcap (s : State) : Nat × Nat :=
  match (s.gaf.engines.filter Engine.inStep).map fun e => (s.imgSlot e.slot).hstv with
  | [] => if s.gaf.booted && !s.gaf.served then (1, 1) else (0, 0)
  | [a] => a
  | a :: b :: _ => (max a.1 b.1, min a.2 b.2)

/-- A version that a range and the served range have in common, the highest; none where there is none. -/
def State.common_ (s : State) (lo hi : Nat) : Option Nat :=
  let c := s.vcap
  let v := min hi c.2
  if max lo c.1 ≤ v ∧ v ≠ 0 then some v else none

/-- A CMD ring of a host is enabled. -/
def State.cmdRings (s : State) (h : Nat) : Bool :=
  (List.range 64).any fun n => (s.hw n).en && (s.hw n).type == 0 && s.ringOwner n == h

/-- A write of HST_VER. -/
def State.negotiate (s : State) (h o : Nat) (v : Word) (r : Row) : Acc :=
  let k := o / 0x1000 - 0xD0
  let ver := s.common_ (fld v 0 8) (fld v 8 8)
  let st := firstOf (s.common h (o / 0x1000) r.modes (r.ok v) ++ [(ver.isNone, .version), (s.cmdRings k, .busy)])
  if st = .ok then
    ((s.putReg o (mergeWord r.mask (s.reg o) v)).modHosts fun q => { q with sel := setAt (ver.getD 0) k q.sel }, st)
  else if st = .version then
    let s1 := if s.owns h (o / 0x1000) && !s.cmdRings k then s.modHosts fun q => { q with sel := setAt 0 k q.sel } else s
    (s1.event (0xD0 + k) 34 0xFFFF [v.toNat], st)
  else (s, st)

/-- Disable the rings of a host that are of some types; what is still to be taken from them is discarded. -/
def State.ringsOff (s : State) (h : Nat) (all : Bool) : State :=
  let off := fun (n : Nat) =>
    let r := s.hw n
    if s.ringOwner n = h ∧ (all = true ∨ r.type = 0) then { r with en := false } else r
  { s with ev := { s.ev with rings := (List.range 64).map off } }

/-- A change of image has left a host's SEL outside the served range (R360). -/
def State.versionLost (s : State) (h : Nat) : State :=
  let c := s.vcap
  let v := s.hosts.sel.getD h 0
  if v = 0 ∨ (c.1 ≤ v ∧ v ≤ c.2) ∨ c = (0, 0) then s
  else
    let s1 := (s.ringsOff h false).modHosts fun q => { q with
      sel := setAt 0 h q.sel,
      taken := q.taken.map fun (t : Taken) => if t.host = h ∧ t.done = none then { t with done := some (.version, []) } else t }
    s1.postOwed.event (0xD0 + h) 34

/-- Every host follows a change of the served range. -/
def State.versionsFollow (s : State) : State := (((s.versionLost 0).versionLost 1).versionLost 2).versionLost 3

/-! ## Host port reset (R369) -/

/-- A host port reset of a host. Commands already taken take effect, and their completions are not posted. -/
def State.portReset_ (s : State) (h : Nat) : State :=
  let keep := fun (x : ImageSession) => if x.host = h then none else some x
  let s1 := (s.ringsOff h true).modHosts fun q => { q with
    holder := q.holder.filter fun p => p.1 / 0x2000000 != h,
    upper := q.upper.filter fun p => p.1 / 0x2000000 != h,
    latched := q.latched.filter fun p => p.1 / 0x2000000 != h,
    staging := q.staging.filter fun p => p.1 / 0x8000 != h,
    session := q.session.bind keep,
    taken := q.taken.filter fun t => t.host != h,
    sel := setAt 0 h q.sel }
  let s2 := if s1.owns h 0xA0 then s1.dropEdit else s1
  ((s2.recAbandon h).eventTo (0xF - 2 ^ h) (0xD0 + h) 36)

/-- The link of a PCIe port is lost: HST_ID.LINK reads 0 until it has trained again, which it does from the instant `train`
(R370, R452). -/
def State.linkDown (s : State) (h : Nat) (train : Option Nat) : State :=
  s.modHosts fun q => { q with link := setAt false h q.link, train := setAt train h q.train }

/-- A PCIe port resets (R369). PERST_N low keeps the link from training, and training begins as it rises, or at reset release
(R452). In reset only the level of PERST_N moves. -/
def State.portLost (s : State) (h : Nat) (what : PortReset) : State :=
  match what with
  | .linkLoss => if s.live then (s.portReset_ h).linkDown h (if s.hosts.perst.getD h false then none else some s.now) else s
  | .hotReset => if s.live then s.portReset_ h else s
  | .functionReset => if s.live then s.portReset_ h else s
  | .perst low =>
    if s.hosts.perst.getD h false == low then s
    else
      let s1 := s.modHosts fun q => { q with perst := setAt low h q.perst }
      if !s.live then s1
      else if low then (s1.portReset_ h).linkDown h none
      else s1.modHosts fun q => { q with train := setAt (some s.now) h q.train }

/-- Release every claim of a host but its own HST page (R370). -/
def State.releaseAll (s : State) (h : Nat) : State :=
  (s.hosts.claims.filter fun p => p.2 == h).foldl (fun (s : State) p => s.claimEnds h p.1) s

/-- A write of HST_CTRL. -/
def State.hstCtrl (s : State) (h o : Nat) (v : Word) (r : Row) : Acc :=
  s.judged (s.common h (o / 0x1000) r.modes (r.ok v)) fun s =>
    let k := o / 0x1000 - 0xD0
    let s1 := if bitAt v 1 then s.releaseAll k else s
    if bitAt v 0 then s1.portReset_ k else s1

/-! ## Messages and log (R350, R364, R367) -/

/-- Send the messages of a host that the rate limit held back, once it has passed. -/
def State.msixDue (s : State) (h : Nat) : State :=
  let mine := s.ev.msixHeld.filter fun k => k / 128 == h
  match mine with
  | [] => s
  | k :: _ =>
    let due := fun (k : Nat) => Map.get (fun _ => 0) k s.ev.msixSent + us 20
    let s1 := s.advance (due k)
    let go := mine.filter fun k => decide (due k ≤ s1.now)
    { s1 with ev := go.foldl (fun (f : Fabric) k => f.msix s1.now h (k % 128))
                      { s1.ev with msixHeld := s1.ev.msixHeld.filter fun k => !go.contains k } }

/-- A coalescing window of a receiver closes at its time. -/
def State.windowClose (s : State) (h code subject : Nat) : State :=
  match s.ev.window h code subject with
  | none => s
  | some w =>
    let s1 := s.advance (w.opened + ms 1)
    { s1 with ev := s1.closeWindows s1.ev code subject }

/-- Queued log entries are written as places free; entries of the sentinel that the log then holds are posted. -/
def State.logDrain (s : State) : State :=
  if s.ev.log.queue.isEmpty || s.mem.flashFail then s
  else
    let due := match (s.ev.log.recent s.now).getLast? with
      | some t => if s.ev.log.places s.now = 0 then t + ms 1000 else s.now
      | none => s.now
    let s1 := s.advance due
    let s2 := { s1 with ev := s1.ev.afterLog (s1.ev.log.drain s1.now s1.devNs s1.mem.flashFail) }
    if s2.senOn then s2.senPosted else s2

end Sys2Proof.Machine
end

