-- ==== Sys2Proof/Machine/EngineOps.lean ====
section
/-! DEFINITION. The engines, the pontil, the forced switchover and its judgement, the rejoin and the images they run
(R290 to R313). The Gaffer's own oscillator is taken at its nominal rate. -/

namespace Sys2Proof.Machine

/-- Change an engine. -/
def State.modEng (s : State) (e : Nat) (f : Engine → Engine) : State :=
  s.modGaf fun g => { g with engines := modAt f e g.engines }

/-- In step, with its paths open and no fault declared: it can hold the pontil (R291). -/
def Engine.fit (q : Engine) : Bool := q.inStep && !q.cut && !q.flag && !q.mute

/-- TEST, LOAD or SYNC. -/
def Engine.joins (q : Engine) : Bool := q.st == .test || q.st == .load || q.st == .sync

/-- The engine is the successor: no engine holds the pontil, the guard runs, and it is not the former holder. -/
def State.successor (s : State) (e : Nat) : Bool := s.gaf.holder.isNone && s.gaf.guard.isSome && decide (e + s.gaf.former = 1)

/-- The causes after which an automatic JOIN may follow (R305). -/
def autoCause (c : Nat) : Bool := decide (1 ≤ c) && decide (c ≤ 10) && c != 7

/-- Both engines are in step and their images differ; a change of that is reported, and the command set served follows
(R308, R360). -/
def State.diffFollow (s : State) : State :=
  let a := s.engine 0
  let b := s.engine 1
  let d := a.inStep && b.inStep && a.ver != b.ver
  let s1 := s.modGaf fun g => { g with verDiff := d }
  (s1.eventIf (d != s.gaf.verDiff) 0xB8 7 0xFFFF [b2n d, a.ver.toNat, b.ver.toNat]).versionsFollow

/-- The engine that is, or is to be, the new holder of a forced switchover. -/
def State.newHolder (s : State) : Nat :=
  match s.gaf.holder with
  | some e => if s.gaf.granted then e else 1 - e
  | none => 1 - s.gaf.former

/-- A forced switchover is in progress: GAF_STAT.FORCING (R301, R302). -/
def State.forcingNow (s : State) : Bool := s.gaf.forcing || s.gaf.released

/-- The judgement window has ended (R302). -/
def State.judgeDue (s : State) : Bool := s.gaf.forcing && s.gaf.granted && decide (17 ≤ s.gaf.judged.2)

/-- The first of the conditions that is not met, 1 to 4. -/
def firstUnmet (f : Nat) : Nat := match (bitsSet 4 f).head? with | some k => k + 1 | none => 0

/-- An engine has had no FULL PASS for TINT hours (R303, R405). -/
def State.testDue (s : State) : Bool :=
  let span := fld (s.reg A.GAF_CFG) 16 10 * 3600000000000
  let old := fun (t : Nat) => t == 0 || decide (t + span < s.devNs)
  old s.gaf.testA || old s.gaf.testB

/-- Where no test is due any more, the next TEST_DUE is a new one, and waits for no hour to pass (R303). -/
def State.dueFollow (s : State) : State := if s.testDue then s else s.modGaf fun g => { g with dueAt := none }

/-- GAF_TEST is written, with the DEVTIME at the end of the window for a FULL PASS (R302): RESULT 1 PASS, 2 FAIL, 3 ABORTED, with its reason. -/
def State.judgeWrite (s : State) (result reason : Nat) : State :=
  let e := s.newHolder
  let full := result == 1 && (s.modes.cur == .follow || s.modes.cur == .form)
  (s.modGaf fun g => { g with
    judging := false,
    test := at_ 0 2 result ||| bitW 2 full ||| at_ 4 2 (e + 1) ||| at_ 8 4 reason,
    testA := if full && e == 0 then g.winEnd else g.testA,
    testB := if full && e == 1 then g.winEnd else g.testB }).dueFollow.event 0xB8 5 0xFFFF [result, reason]

/-- The window ends, and with it FORCING; a judgement that still stands is written (R302). -/
def State.judgeEnd (s : State) : State :=
  if s.judgeDue then
    (if !s.gaf.judging then s else if s.gaf.failed = 0 then s.judgeWrite 1 0 else s.judgeWrite 2 (firstUnmet s.gaf.failed)).modGaf
      fun g => { g with forcing := false }
  else s

/-- A HOLD entry, a RIDE entry or an engine fault in the window ends the judgement with ABORTED; the switchover itself goes
on (R302). -/
def State.judgeAbort (s : State) : State :=
  if s.judgeDue then s.judgeEnd else if s.gaf.judging then s.judgeWrite 3 5 else s

/-- Fence an engine (R294), for a cause or for the one it has already. A halted engine keeps its state. -/
def State.fence (s : State) (e cause : Nat) : State :=
  let c := if cause = 0 then (s.engine e).cause else cause
  let s1 := if cause = 0 then s else s.judgeAbort
  (s1.modEng e fun q => { q with
    st := if q.st = .halted then .halted else .fenced, cut := true, tx := false, lead := false, cause := c,
    faultSeq := if cause = 0 then q.faultSeq else s.ang.seq % 65536, synced := false,
    autoAt := if autoCause c then some (s.now + ms 1000) else none }).diffFollow

/-- A rejoin fails (R305). -/
def State.joinFails_ (s : State) (e cause : Nat) : State := (s.fence e cause).event 0xB8 4 e [cause]

/-- Every rejoin under way fails: the holder has lost the pontil or stopped. -/
def State.joinsFail (s : State) : State :=
  let s1 := if (s.engine 0).joins then s.joinFails_ 0 8 else s
  if (s1.engine 1).joins then s1.joinFails_ 1 8 else s1

/-- No engine can take over: cause ENGINE, present until the next reset (R296). -/
def State.engineLost (s : State) : State := s.causeOn cEngine

/-- The local outputs follow a stream that has stopped (R167). -/
def State.streamFollow (s : State) : State := if s.streamGone then s.streamStops else s

/-- An engine detects a fault and stops at once; from the stop of a holder events are held (R293, R294, R296, R298). -/
def State.engineFault (s : State) (e cause : Nat) : State :=
  let q := s.engine e
  if !q.inStep || q.flag || q.mute || q.cut then s
  else
    let other := s.engine (1 - e)
    let s0 := if s.gaf.holder = some e then { s with ev := { s.ev with holding := true } } else s
    let s1 := ((s0.modEng e fun q => { q with
      flag := true, tx := false, cause := cause, faultSeq := s.ang.seq % 65536 }).event 0xB8 1 e [cause]).judgeAbort.streamFollow
    if s.gaf.holder = some e then
      let s2 := { s1 with gaf := { s1.gaf with nextWhy := 1 } }.joinsFail
      if s2.gaf.frozen || !other.inStep then s2.engineLost else s2
    else if s1.gaf.frozen then s1
    else
      let s2 := (s1.fence e cause).event 0xB8 2 e [cause]
      if s.successor e then s2.engineLost else s2

/-! ## Heartbeats and the lease (R290, R291, R294) -/

/-- An engine in step has sent, with the other engine at the same instant, a heartbeat that carries another ANG_SEQ (R294,
R300). -/
def State.outOfStep (s : State) (e : Nat) : Bool :=
  let q := s.engine e
  let o := s.engine (1 - e)
  q.inStep && !q.cut && q.hbSent.isSome && q.hbSent == o.hbSent && q.hbSeq != o.hbSeq

/-- A heartbeat at a multiple of 500,000 ns of DEVTIME (R290). One with the fault flag renews no lease (R291), but its count is
compared as any other; the holder's is taken as right (R300). -/
def State.heartbeat (s : State) (e : Nat) (seq : Word) : State :=
  let q := s.engine e
  if !q.inStep || q.mute || decide (2 ≤ e) then s
  else
    let d := s.devNs
    let here := decide (d % 500000 = 0) && q.hbAt != some s.now
    let s1 := if here then s else s.advance (s.whenDev ((d / 500000 + 1) * 500000))
    let s2 := s1.modEng e fun q => { q with
      hb := (q.hb + 1) % 2 ^ 32, hbAt := some s1.now, hbSent := some s1.now, hbSeq := seq, mute := q.flag }
    if s2.gaf.frozen then s2
    else
      let s3 := if s2.gaf.holder = some e ∧ !s2.gaf.released ∧ !q.flag then s2.modGaf fun g => { g with lease := s1.now + ms 2 } else s2
      match s3.gaf.holder with
      | none => s3
      | some x => if s3.outOfStep (1 - x) then ((s3.fence (1 - x) 6).event 0xB8 2 (1 - x) [6]).streamFollow else s3

/-- An engine's heartbeat is missing for 2.0 ms (R294, R296); the former holder is fenced at the grant. -/
def State.heartbeatMissing (s : State) (e : Nat) : State :=
  let q := s.engine e
  match q.hbAt with
  | none => s
  | some t =>
    if !(q.inStep || q.st == .halted && s.gaf.holder == some e) || decide (2 ≤ e) then s
    else
      let s1 := s.advance (t + ms 2)
      if s1.gaf.frozen then
        (if s1.gaf.holder = some e then s1.joinsFail.engineLost else s1)
      else if s1.gaf.holder = some e ∨ s1.gaf.guard.isSome ∧ s1.gaf.former = e then s1
      else
        let s2 := ((s1.fence e 5).event 0xB8 2 e [5]).streamFollow
        if s1.successor e then s2.engineLost else s2

/-- The lease end passes: no engine holds the pontil, and the guard starts (R291, R296). -/
def State.leaseExpiry (s : State) : State :=
  match s.gaf.holder with
  | none => s
  | some e =>
    if s.gaf.frozen then s
    else
      let s1 := s.advance s.gaf.lease
      let q := s1.engine e
      let why := if q.flag || q.mute && q.cause != 7 then 1 else if s1.gaf.released then 3 else if q.st == .halted then 4 else 2
      let s2 := { s1 with
        ev := { s1.ev with holding := true },
        gaf := { s1.gaf with
          holder := none, former := e, guard := some (s1.gaf.lease + us 200), nextWhy := why } }.joinsFail
      if (s2.engine (1 - e)).fit then s2 else (s2.modGaf fun g => { g with released := false }).engineLost

/-- Host rings may be written again: every OVERFLOW entry due goes ahead of any other event (R365), then what `first` posts,
then the entries that waited, oldest first, and then the completions that stand (R298). -/
def State.ringsOpen (s : State) (first : State → State := id) : State :=
  let f := s.closeDue s.ev
  let f1 := (List.range 4).foldl s.postOverflow { f with holding := false, held := [] }
  let s1 := first { s with ev := f1 }
  let post := fun (g : Fabric) (x : HeldPost) =>
    s1.postTo g x.host x.code x.subject x.status x.first x.last x.count x.flags x.detail
  { s1 with ev := f.held.foldl post s1.ev }.postOwed

/-- The pontil is granted to an engine (R291), and the frames that waited for it are written (R298). -/
def State.grant (s : State) (e why : Nat) : State :=
  { s with
    reco := s.reco.release,
    modu := { s.modu with take := if s.modu.src = 0 ∨ s.modu.src = srcOf e then none else some e },
    gaf := { s.gaf with
      holder := some e, lease := s.now + ms 2, guard := none, served := true, swT := s.devNs, why := why, leadNext := true,
      engines := modAt (fun (q : Engine) => { q with st := .active }) e s.gaf.engines } }

/-- The SWITCHOVER event goes ahead of what is held. -/
def State.switchoverPosts (s : State) (former e why : Nat) : State :=
  s.ringsOpen fun s => s.event 0xB8 0 0xFFFF [former + 1, e + 1, why]

/-- A slot's image can run beside the holder's: valid, the same MAJOR and the same SFMT. -/
def State.slotFits (s : State) (slot : Nat) : Bool :=
  let i := s.imgSlot slot
  s.slotValid slot &&
  match s.gaf.holder with
  | none => true
  | some h =>
    let v := (s.engine h).ver
    fld v 24 8 == fld i.version 24 8 && fld v 0 8 == fld i.version 0 8

/-- A rejoin starts at TEST: the engine is reset. -/
def State.rejoin (s : State) (e slot : Nat) : State :=
  let was := s.successor e && (s.engine e).fit
  let s1 := ((s.modEng e fun q => { q with
    st := .test, tx := false, lead := false, slot := slot, ver := 0, flag := false, mute := false, cut := true, haltReq := false,
    synced := false, joinLater := none, clkBk := q.clkBk && !(s.clk.lock.getD e false), hbAt := none, consec := 0, load := (0, 0), joinAt := (s.now, s.now), autoAt := none }).diffFollow).streamFollow
  if was then s1.engineLost else s1

/-- A JOIN that waited for the fence of a halted holder begins (R306); a slot that no longer fits fails it (R308). -/
def State.lateJoin (s : State) (e : Nat) : State :=
  match (s.engine e).joinLater with
  | none => s
  | some slot =>
    if s.slotFits slot then s.rejoin e slot else (s.modEng e fun q => { q with joinLater := none }).joinFails_ e 9

/-- A JOIN of an engine that is out. A halted holder joins once it is fenced at the grant: it never holds the pontil while it
rejoins (R304, R306). -/
def State.joinOut (s : State) (e slot : Nat) : State :=
  let q := s.engine e
  let holds := s.gaf.holder == some e || (s.gaf.guard.isSome && s.gaf.former == e)
  if q.st = .halted ∧ !q.cut ∧ holds then s.modEng e fun q => { q with joinLater := some slot } else s.rejoin e slot

/-- The end of the guard (R291, R294, R301). -/
def State.guardEnd (s : State) : State :=
  match s.gaf.guard with
  | none => s
  | some t =>
    let s1 := s.advance t
    let former := s1.gaf.former
    let e := 1 - former
    if s1.gaf.frozen || !(s1.engine e).fit then
      (s1.judgeAbort.modGaf fun g => { g with guard := none, released := false, forcing := false }).lateJoin former
    else
      let why := s1.gaf.nextWhy
      let forced := why == 3
      let late := decide (s1.gaf.releaseAt + us 2300 < s1.now)
      let s2 := (s1.grant e why).modGaf fun g => { g with
        released := false, granted := g.forcing, judged := (g.judged.1, 0),
        failed := if late && g.forcing then setBit g.failed 0 true else g.failed,
        forced := if forced then satInc 16 g.forced 1 else g.forced,
        others := if forced then g.others else satInc 16 g.others 1 }
      let s3 := if forced then s2.modEng former fun q => { q with st := if q.st = .active then .standby else q.st }
                else s2.fence former (if why = 2 then 5 else 0)
      ((s3.switchoverPosts former e why).trigger 6).lateJoin former

/-- The Gaffer's oscillator or supply fails (R296). -/
def State.gafferFrozen (s : State) : State :=
  if s.gaf.frozen then s
  else
    let s1 := (s.modGaf fun g => { g with frozen := true }).event 0xB8 8
    let gone : Bool := match s.gaf.holder with
      | none => s.gaf.guard.isSome
      | some e => (s.engine e).flag || (s.engine e).mute && (s.engine e).st != .halted
    if gone then s1.engineLost else s1

/-! ## The forced switchover (R301 to R303) -/

/-- A forced switchover starts. -/
def State.forceStart (s : State) : State :=
  s.modGaf fun g => { g with
    forcing := true, judging := true, released := true, releaseAt := s.now, nextWhy := 3, judged := (0, 0), granted := false, failed := 0 }

/-- The checks of GAF_FORCE besides the common ones. -/
def State.forceChecks (s : State) : List (Bool × Status) :=
  [(!((s.engine 0).inStep && (s.engine 1).inStep) || s.gaf.frozen, .notReady),
   (s.forcingNow || (s.engine 0).joins || (s.engine 1).joins, .busy)]

/-- Condition 3 of R302 and FAULT bit 16 of condition 2, judged once in each beat of the window; a cell that goes ABSENT is
marked as it goes (`State.cellGone`). -/
def State.judgeForced (s : State) : State :=
  if !s.gaf.judging || s.judgeDue then s
  else
    let hurt := s.usedCells.any fun c => ((s.cell c).st == .active || (s.cell c).st == .charged) && (s.cellFault c).testBit 16
    let want := s.newHolder + 1
    let watch := (s.modes.cur == .follow || s.modes.cur == .form) && decide (2 ≤ s.gaf.judged.1)
    let wrong := watch && s.usedCells.any fun c => (s.cell c).st == .active && s.cellStatus c % 4 != want
    s.modGaf fun g => { g with failed := if hurt then (if wrong then setBit (setBit g.failed 1 true) 2 true else setBit g.failed 1 true)
                                         else if wrong then setBit g.failed 2 true else g.failed }

/-- TEST_DUE, and again each hour while a test is due (R303). -/
def State.testRaise (s : State) : State :=
  let s1 := match s.gaf.dueAt with | some t => s.advance (t + ms 3600000) | none => s
  (s1.modGaf fun g => { g with dueAt := some s1.now }).event 0xB8 6

/-! ## Rejoining (R304 to R308) -/

/-- The rejoining engine applies the log and is in step (R304). -/
def State.joined (s : State) (e : Nat) : State :=
  let msTook := (s.now - (s.engine e).joinAt.1) / ms 1
  ((s.modEng e fun q => { q with
    st := .standby, cut := false, tx := false, lead := false, synced := false, ver := (s.imgSlot q.slot).version,
    hbAt := some s.now, syncMs := min msTook 65535, rejoins := satInc 16 q.rejoins 1 }).event 0xB8 3 e [msTook]).diffFollow

/-- A stage of the rejoin ends. SYNC ends at the next beat start at which ANG32 crosses 0; at once where no beats run. -/
def State.rejoinStage (s : State) (e : Nat) (pass : Bool) : State :=
  let q := s.engine e
  let next := fun (st : EngState) => s.modEng e fun q => { q with st := st, joinAt := (q.joinAt.1, s.now) }
  if decide (2 ≤ e) then s
  else if q.st = .test then (if pass then next .load else s.joinFails_ e 8)
  else if q.st = .load then (if pass && s.slotFits q.slot then next .sync else s.joinFails_ e 9)
  else if q.st = .sync then
    if pass && s.gaf.holder.isSome && !s.mem.dramFail then
      if s.ang.beats then s.modEng e fun q => { q with synced := true } else s.joined e
    else s.joinFails_ e 8
  else s

/-- SYNC exceeds 400 ms. -/
def State.rejoinTimeout (s : State) (e : Nat) : State :=
  let q := s.engine e
  if q.st = .sync ∧ e < 2 then (s.advance (q.joinAt.2 + ms 400)).joinFails_ e 8 else s

/-- IMAGE_OPEN, and what it does to the rejoins that load from the slot: they fail with cause 9 (R305, R308). -/
def State.imageOpens (s : State) (h : Nat) (b : List Byte) : State × Option (Status × List Byte) :=
  let slot := byteFld b 8 1
  let r := s.imageOpen h b
  let go := fun (s : State) (e : Nat) =>
    if (s.engine e).joins && (s.engine e).slot == slot then s.joinFails_ e 9 else s
  if r.2.isNone then (go (go r.1 0) 1, none) else r

/-- The automatic JOIN, once an hour, of the slot the engine last ran from (R305). -/
def State.autojoin (s : State) (e : Nat) : State :=
  let q := s.engine e
  match q.autoAt with
  | none => s
  | some t =>
    let recent := match q.autoLast with | some u => decide (t < u + ms 3600000) | none => false
    if q.st = .fenced ∧ bitAt (s.reg A.GAF_CFG) 1 ∧ !recent ∧ e < 2 ∧ s.slotFits q.slot ∧ !s.forcingNow then
      let s1 := s.advance t
      (s1.rejoin e q.slot).modEng e fun q => { q with autoLast := some s1.now }
    else s

/-! ## Engine commands (R306, R311) -/

/-- The checks of ENGx_CTRL besides the common ones. -/
def State.engChecks (s : State) (e : Nat) (v : Word) : List (Bool × Status) :=
  let cmd := fld v 0 4
  let q := s.engine e
  let joinLike := cmd == 1 || cmd == 2
  [(joinLike && !s.slotFits (fld v 8 1), .version),
   (cmd == 2 && !s.modes.cur.within 0x1B4, .notInMode), (cmd == 3 && s.modes.cur != .service, .notInMode),
   (cmd == 3 && !(s.engine (1 - e)).inStep, .notReady),
   (q.joins || s.forcingNow, .busy),
   ((cmd == 2 || cmd == 4) && (q.st == .active || s.gaf.holder == some e), .busy)]

/-- What an accepted engine command does. -/
def State.engAct (s : State) (e : Nat) (v : Word) : State :=
  let cmd := fld v 0 4
  let q := s.engine e
  let slot := fld v 8 1
  let out := q.st == .off || q.st == .fenced || q.st == .halted
  if cmd = 1 then (if out then s.joinOut e slot else s)
  else if cmd = 2 then (if out then s.joinOut e slot else if q.st = .standby then s.rejoin e slot else s)
  else if cmd = 3 then (if q.inStep then s.modEng e fun q => { q with haltReq := true } else s)
  else if q.st = .off then s
  else
    let was := s.successor e && q.fit
    let s1 := ((s.modEng e fun q => { q with
      st := .off, cut := true, tx := false, lead := false, ver := 0, autoAt := none, joinLater := none }).diffFollow).streamFollow
    if was then s1.engineLost else s1

/-- A halted engine joins again as SERVICE is left (R59, R306). -/
def State.haltsEnd (s : State) : State :=
  let go := fun (s : State) (e : Nat) =>
    let q := s.engine e
    if q.st = .halted ∧ s.slotFits q.slot then s.joinOut e q.slot
    else if q.haltReq then s.modEng e fun q => { q with haltReq := false } else s
  go (go s 0) 1

/-! ## Beat starts, boot and overruns -/

/-- A pending HALT takes effect (R306): a halted holder keeps the pontil until its lease expires, another engine is fenced at once. -/
def State.haltBeat (s : State) (e : Nat) : State :=
  let q := s.engine e
  if !q.haltReq then s
  else
    let lost := s.successor e
    let s1 := (s.modEng e fun q => { q with
      st := .halted, tx := false, mute := true, cause := 7, faultSeq := s.ang.seq % 65536, haltReq := false }).diffFollow
    if s.gaf.holder = some e then
      { s1 with ev := { s1.ev with holding := true }, gaf := { s1.gaf with nextWhy := 4 } }.joinsFail.streamFollow
    else
      let s2 := (s1.modEng e fun q => { q with cut := !s.gaf.frozen, lead := false }).streamFollow
      if lost then s2.engineLost else s2

/-- Who hands over records from this beat on, and at which time (R295, R301, R304). -/
def State.txBeat (s : State) (e : Nat) : State :=
  s.modEng e fun q => { q with
    tx := q.inStep && !q.cut && !q.flag && !q.mute && !(s.gaf.released && s.gaf.holder.getD s.gaf.former == e),
    lead := if s.gaf.leadNext then s.gaf.holder == some e else q.lead }

/-- A rejoining engine that has loaded the snapshot is in step from a beat start at which ANG32 crosses 0 (R304). -/
def State.syncBeat (s : State) (e : Nat) : State :=
  if (s.engine e).synced && s.ang.idx == 0 then (if s.gaf.holder.isSome then s.joined e else s.joinFails_ e 8) else s

/-- Condition 4 of R302: the former holder is STANDBY and handing over its copies. -/
def State.shadowing (s : State) : Bool :=
  (s.engine (1 - s.newHolder)).st == .standby && (s.engine (1 - s.newHolder)).tx

/-- The engines at a beat start; the 17th after a forced grant ends the window of R302. An engine that comes into step at it hands over its copies from the next. -/
def State.engineBeat (s : State) : State :=
  let s1 := (((((s.haltBeat 0).haltBeat 1).txBeat 0).txBeat 1).syncBeat 0).syncBeat 1
  s1.dueFollow.modGaf fun g => { g with
    leadNext := false,
    winEnd := if g.forcing && g.granted && g.judged.2 == 16 then s.devNs else g.winEnd,
    failed := if g.forcing && g.granted && g.judged.2 == 16 && !s1.shadowing then setBit g.failed 3 true else g.failed,
    judged := if g.forcing then (g.judged.1 + 1, if g.granted then g.judged.2 + 1 else 0) else g.judged }

/-- An engine starts after reset, or fails its self-test (R297). -/
def State.bootEngine (s : State) (e slot : Nat) (pass : Bool) : State :=
  if pass then
    s.modEng e fun q => { q with
      st := .standby, slot := slot, ver := (s.imgSlot slot).version, cut := false, hbAt := some s.now }
  else (s.modEng e fun q => { q with slot := slot }).fence e 10

/-- Both engines have loaded from the boot slot (R297, R309). Where none can be granted the pontil, what hosts are sent no
longer waits for a grant (DESIGN CHOICE, log entry 212). -/
def State.engineBoot (s : State) (passA passB : Bool) : State :=
  if s.gaf.booted || !s.live then s
  else
    let want := fld (s.reg A.GAF_BOOT) 0 1
    let s0 := s.modGaf fun g => { g with booted := true }
    let alone := fun (s : State) => { s with reco := s.reco.release }.ringsOpen
    if s.noImage then alone ((s0.fence 0 9).fence 1 9)
    else
      let alt := !s.slotValid want
      let slot := if alt then 1 - want else want
      let s1 := (((s0.modGaf fun g => { g with alt := alt }).bootEngine 0 slot passA).bootEngine 1 slot passB).diffFollow
      let pref := fld (s.reg A.GAF_CFG) 0 1
      let ok := fun (e : Nat) => (s1.engine e).inStep
      let to_ := if s1.gaf.frozen then none else if ok pref then some pref else if ok (1 - pref) then some (1 - pref) else none
      match to_ with
      | none => alone s1
      | some e =>
        let s2 := s1.grant e 0
        s2.ringsOpen

/-- One engine at the compute deadline (R21). -/
def State.deadline (s : State) (e : Nat) (late : Bool) : State :=
  let q := s.engine e
  if !q.inStep || q.flag || q.mute then s
  else if !late then s.modEng e fun q => { q with consec := 0 }
  else
    let s1 := (s.modEng e fun q => { q with ovr := satInc 16 q.ovr 1, consec := min (q.consec + 1) 255 }).event (0xB0 + e) 32 0xFFFF
      [s.ang.seq]
    if 1 ≤ q.consec then s1.engineFault e 3 else s1

/-- The compute deadline at 70 % of the beat. -/
def State.computeDeadline (s : State) (lateA lateB : Bool) : State :=
  if s.ang.beats then
    let s1 := s.advance (s.beatMono + s.span (s.ang.blen * 7 / 10))
    (s1.deadline 0 lateA).deadline 1 lateB
  else s

end Sys2Proof.Machine
end

