-- ==== Sys2Proof/Machine/NetOps.lean ====
section
/-! DEFINITION. The station and protection networks: PRP, PTP and its masters, subscriptions, publications, sampled
values, and what reaches the safety channels (R372 to R390). -/

namespace Sys2Proof.Machine

/-- Change the networks. -/
def State.modNet (s : State) (f : Net → Net) : State := { s with net := f s.net }

/-- The NET block works, and so does a port: enabled in NET_CFG. -/
def State.netOn (s : State) : Bool := s.live && s.ready 23
def State.portOn (s : State) (p : Nat) : Bool := s.netOn && decide (p < 4) && (s.reg A.NET_CFG).getLsbD p

/-- A link of a port comes up or goes down (R387). A station port that goes down has no master any more. -/
def State.linkChange (s : State) (p : Nat) (up : Bool) : State :=
  if s.netOn && decide (p < 4) && s.net.link.testBit p != up then
    (s.modNet fun n => { n with
      link := setBit n.link p up, masters := if p < 2 ∧ !up then setAt none p n.masters else n.masters }).event 0xE0 0 p [b2n up]
  else s

/-- An enabled port timestamps every frame it receives, by DEVTIME, whatever becomes of it (R377); its error of up to ±8 ns is
left out (log entry 216). -/
def State.rxFrame (s : State) (p : Nat) : State :=
  if s.portOn p then s.modNet fun n => { n with rxStamp := setAt s.devNs p n.rxStamp } else s

/-- A port timestamps a PTP event message it sends. -/
def State.txEvent (s : State) (p : Nat) : State := s.modNet fun n => { n with txStamp := setAt s.devNs p n.txStamp }

/-! ## PRP (R373) -/

/-- A LAN is judged lost once no frame with its trailer has arrived for 3 × LIFE, or returns. -/
def State.prpPath (s : State) (lan : Nat) (lost : Bool) : State :=
  if s.netOn && decide (lan < 2) && s.net.prpOk.getD lan false == lost then
    let s1 := if lost then s.advance (s.net.lanAt.getD lan 0 + 3 * ms (fld (s.reg A.NET_PRP_CFG) 0 16)) else s
    (s1.modNet fun n => { n with
      prpOk := setAt (!lost) lan n.prpOk, lanAt := if lost then n.lanAt else setAt s.now lan n.lanAt }).event 0xE0 4 lan [b2n lost]
  else s

/-- The frames with a trailer taken within FORGET. -/
def State.prpKept (s : State) : List (Nat × Nat × Nat) :=
  s.net.seen.filter fun x => decide (s.now < x.2.2 + ms (fld (s.reg A.NET_PRP_CFG) 16 16))

/-- A frame with this source and trailer sequence is the second copy within FORGET. -/
def State.prpDup (s : State) (source seq : Nat) : Bool := s.prpKept.any fun x => x.1 == source && x.2.1 == seq

/-- A frame of the station pair is taken, or is the second copy within FORGET. -/
def State.prpFrame (s : State) (p source seq : Nat) (trailer : Bool) : State :=
  if !s.portOn p || decide (2 ≤ p) then s
  else if !trailer then s.rxFrame p
  else
    let dup := s.prpDup source seq
    ((s.rxFrame p).modNet fun n => { n with
      seen := if dup then s.prpKept else s.prpKept ++ [(source, seq, s.now)], lanAt := setAt s.now p n.lanAt,
      dup := if dup then (n.dup + 1) % 65536 else n.dup }).prpPath p false

/-- An address of two words, bytes 0 to 3 and bytes 4 and 5. -/
def State.addressAt (s : State) (o : Nat) : Nat := (s.reg o).toNat + 0x100000000 * fld (s.reg (o + 4)) 0 16

/-- The station address. -/
def State.netMac (s : State) : Nat := s.addressAt A.NET_MAC_LO

/-- A frame as a station port sends it. -/
def State.netFrame (s : State) (p dst appid : Nat) (trailer : Option (Nat × Nat × Nat)) (pdu : Pdu) : Out :=
  .net { port := p, src := s.netMac, dst := dst, vlan := s.reg A.NET_VLAN, appid := appid, trailer := trailer, pdu := pdu }

/-- A frame is sent on the enabled station ports, with the next trailer sequence and each LAN's identifier (R373). The size
in the trailer is open: no rule gives the length of the coded frame (DESIGN CHOICE, log entry 215). -/
def State.prpSend (s : State) (dst appid : Nat) (pdu : Pdu) : State :=
  let on := [0, 1].filter s.portOn
  if on.isEmpty then s
  else
    (on.foldl (fun (t : State) p =>
        t.send (s.netFrame p dst appid (some (s.net.prpSeq, 0xA + p, (s.open_ 0).toNat % 4096)) pdu)) s |>.modNet fun n =>
      { n with prpSeq := (n.prpSeq + 1) % 65536 }).took 1

/-- Time passes until a period after an instant, where there is one. -/
def State.every (s : State) (last : Option Nat) (d : Nat) : State :=
  match last with | none => s | some t => s.advance (t + d)

/-- A supervision frame, LIFE after the last. -/
def State.prpSupervision (s : State) : State :=
  if s.netOn then
    let s1 := s.every s.net.prpAt (ms (fld (s.reg A.NET_PRP_CFG) 0 16))
    (s1.modNet fun n => { n with prpAt := some s1.now }).prpSend 0 0 .supervision
  else s

/-! ## PTP (R374 to R376) -/

/-- A port runs PTP: named in PORTS, enabled and with its link up. -/
def State.ptpPort (s : State) (p : Nat) : Bool :=
  s.portOn p && decide (p < 2) && (s.reg A.NET_PTP_CFG).getLsbD (8 + p) && s.net.link.testBit p

/-- The master of a port that runs PTP. -/
def State.masterOf (s : State) (p : Nat) : Option Master := if s.ptpPort p then (s.net.masters[p]?).join else none

/-- The port followed: that of the better master, the present one where they are equal, none where there is none. -/
def State.ptpBest (s : State) : Option Nat :=
  match s.masterOf 0, s.masterOf 1 with
  | none, none => none
  | some _, none => some 0
  | none, some _ => some 1
  | some a, some b => if a.rank = b.rank then some s.net.port else if a.rank < b.rank then some 0 else some 1

/-- STATE of NET_PTP_STAT, as far as the manual names its values (log entry 50). -/
def State.ptpState (s : State) : Nat :=
  if !s.netOn || !bitAt (s.reg A.DEVTIME_CFG) 0 then 0
  else if !s.ptpPort 0 && !s.ptpPort 1 then 4
  else if s.ptpBest.isNone then 1
  else if !s.net.calibrated then 2 else 3

/-- The port followed and the state follow the masters (R375). -/
def State.ptpFollow (s : State) : State :=
  let port := s.ptpBest.getD s.net.port
  let moved := port != s.net.port
  let s1 := if moved then (s.modNet fun n => { n with port := port, calibrated := false }).event 0xE0 2 port else s
  let st := s1.ptpState
  if st = s1.net.ptp then s1 else (s1.modNet fun n => { n with ptp := st }).event 0xE0 1 0xFFFF [st]

/-- A PTP message of a domain is taken by a port that runs PTP in that domain (R374). -/
def State.ptpTakes (s : State) (p domain : Nat) : Bool := s.ptpPort p && fld (s.reg A.NET_PTP_CFG) 0 8 == domain

/-- An Announce message: a port keeps its own best master (R375), which is the sender where it is the master kept, or ranks
before it, or none is kept. -/
def State.announce (s : State) (p domain : Nat) (gm cls utc rank : Nat) : State :=
  let better := match s.masterOf p with | none => true | some m => m.gm == gm || decide (rank < m.rank)
  let s1 := s.rxFrame p
  if s.ptpTakes p domain then
    if better then
      (s1.modNet fun n => { n with
        masters := setAt (some { gm := gm, cls := cls, utc := utc, rank := rank, heard := s.now }) p n.masters }).ptpFollow
    else s1
  else s1

/-- Announce messages have stopped on a port: three intervals of 1 s have passed. -/
def State.announceTimeout (s : State) (p : Nat) : State :=
  match s.masterOf p with
  | none => s
  | some m => ((s.advance (m.heard + ms 3000)).modNet fun n => { n with masters := setAt none p n.masters }).ptpFollow

/-- A Sync on the port followed yields an offset (R376). -/
def State.ptpSync (s : State) (p domain : Nat) (offset : Int) : State :=
  if s.ptpBest = some p ∧ s.ptpTakes p domain = true ∧ bitAt (s.ureg A.DEVTIME_CFG) 0 then
    (((s.rxFrame p).modNet fun n => { n with syncAt := some s.now, calibrated := true }).ptpOffset offset).ptpFollow
  else s.rxFrame p

/-- No Sync has been used for LOSS, with PTP = 1 (R66). -/
def State.ptpHoldover (s : State) : State :=
  match if bitAt (s.ureg A.DEVTIME_CFG) 0 then s.net.syncAt else none with
  | none => s
  | some t =>
    let s1 := s.advance (t + ms (fld (s.reg A.NET_PTP_CFG) 16 16))
    ((s1.modNet fun n => { n with syncAt := none, calibrated := false }).ptpLost).ptpFollow

/-- Pdelay messages leave by a port, without a trailer (R373): 0 a request, 1 an answer, 2 its follow-up. -/
def State.sendPdelay (s : State) (p : Nat) (parts : List Nat) : State :=
  parts.foldl (fun (t : State) k => t.send (s.netFrame p 0 0 none (.pdelay k (fld (s.reg A.NET_PTP_CFG) 0 8)))) s

/-- A Pdelay_Req is sent, 1 s after the last of the port. -/
def State.pdelayAsk (s : State) (p : Nat) : State :=
  if s.ptpPort p then
    let s1 := s.every (s.net.pdelayAt.getD p none) (ms 1000)
    ((s1.modNet fun n => { n with pdelayAt := setAt (some s1.now) p n.pdelayAt }).txEvent p).sendPdelay p [0]
  else s

/-- A neighbour's Pdelay_Req is answered in two steps: the answer, and the follow-up that carries when it left. -/
def State.pdelayAnswer (s : State) (p domain : Nat) : State :=
  if s.ptpTakes p domain then ((s.rxFrame p).txEvent p).sendPdelay p [1, 2] else s.rxFrame p

/-- A peer delay measurement is complete. -/
def State.pdelayResp (s : State) (p domain d : Nat) : State :=
  if s.ptpTakes p domain then (s.rxFrame p).modNet fun n => { n with delay := setAt (d % 2 ^ 32) p n.delay } else s.rxFrame p

/-! ## Subscriptions (R378 to R380, R385, R386) -/

/-- A subscription's state. -/
def State.sub (s : State) (n : Nat) : Sub := Map.get (fun _ => subReset) n s.net.subs

/-- Change it. -/
def State.modSub (s : State) (n : Nat) (f : Sub → Sub) : State :=
  s.modNet fun q => { q with subs := Map.put (fun _ => subReset) n (f (s.sub n)) q.subs }

/-- A word of a subscription entry. -/
def State.subw (s : State) (n off : Nat) : Word := s.reg (A.NET_SUB n off)

/-- The enabled entries of a pair. -/
def State.subsOf (s : State) (pair : Nat) : List Nat :=
  (List.range 64).filter fun n => bitAt (s.subw n 0) 0 && fld (s.subw n 0) 1 1 == pair

/-- Destination address and APPID are those of the entry. -/
def State.subMatches (s : State) (n : Nat) (f : GooseFrame) : Bool :=
  f.dst == s.addressAt (A.NET_SUB n 8) && f.appid == fld (s.subw n 4) 0 16

/-- The member an entry takes. -/
def State.subMember (s : State) (n : Nat) (f : GooseFrame) : Option (Nat × List Byte) := f.members[fld (s.subw n 0) 2 5]?

/-- The five checks of an entry (R378). -/
def State.subAccepts (s : State) (n : Nat) (f : GooseFrame) : Bool :=
  s.subMatches n f && f.wellFormed && crc32 f.ref == (s.subw n 0x10).toNat && !f.sim && !f.ndsCom &&
  match s.subMember n f with
  | none => false
  | some m => m.1 == fld (s.subw n 0) 8 2 && (m.1 != 3 || m.2.length == 48)

/-- Accepted and discarded frames of a port, saturating. -/
def State.portCount (s : State) (p : Nat) (ok : Bool) : State :=
  s.modNet fun n => { n with cnt := modAt (fun (c : Nat × Nat) =>
    if ok then (satInc 16 c.1 1, c.2) else (c.1, satInc 16 c.2 1)) p n.cnt }

/-- How far a frame lies ahead of the last accepted one: newer, a duplicate, or older (R379). -/
def Sub.judge (q : Sub) (f : GooseFrame) : Nat :=
  match q.num with
  | none => 0
  | some (st, sq) =>
    if st ≠ f.stNum.toNat then 0
    else
      let d := (f.sqNum.toNat + 2 ^ 32 - sq) % 2 ^ 32
      if d = 0 then 1 else if d ≤ 2 ^ 31 then 0 else 2

/-- VALUE of a member: a BOOLEAN in bit 0. -/
def memberValue (m : Nat × List Byte) : Word := if m.1 = 0 then bitW 0 (decide (beNat m.2 ≠ 0)) else wd (beNat m.2)

/-- A station entry takes a newer frame. The value of a test frame is not used. -/
def State.subTakes (s : State) (n : Nat) (f : GooseFrame) : State :=
  let v := match s.subMember n f with | some m => memberValue m | none => 0#32
  s.modSub n fun q => { q with
    num := some (f.stNum.toNat, f.sqNum.toNat), last := wd s.devNs, due := some (s.now + ms f.tal), test := f.test,
    talExp := false, value := if f.test then q.value else v, valid := if f.test then q.valid else true }

/-- A frame on the station pair. -/
def State.gooseStation (s : State) (f : GooseFrame) : State :=
  let good := (s.subsOf 0).filter fun n => s.subAccepts n f
  let newer := good.filter fun n => (s.sub n).judge f == 0
  let dup := good.any fun n => (s.sub n).judge f == 1
  if newer.isEmpty then (if dup then s else s.portCount f.port false)
  else (newer.foldl (fun (s : State) n => s.subTakes n f) s).portCount f.port true

/-- The enabled entries of the protection pair that name the destination and APPID of a multicast frame (R372, R386). -/
def State.proNamed (s : State) (f : GooseFrame) : List Nat := (s.subsOf 1).filter fun n => f.dst.testBit 0 && s.subMatches n f

/-- Those that accept it. -/
def State.proTakers (s : State) (f : GooseFrame) : List Nat := (s.proNamed f).filter fun n => s.subAccepts n f && !f.test

/-- What an accepting entry hands to both safety channels: network, the 48 bytes, the receive timestamp and SRC (R385). -/
def State.envelopeOf (s : State) (n : Nat) (f : GooseFrame) : Nat × List Byte × Nat × Nat :=
  (f.port - 2, (match s.subMember n f with | some m => m.2 | none => []), s.devNs, fld (s.subw n 0) 12 3)

/-- An entry of the protection pair has accepted a frame (R380); stNum, sqNum and timeAllowedtoLive are not used (R385). -/
def State.proTakes (s : State) (n : Nat) (f : GooseFrame) : State :=
  s.modSub n fun q => { q with num := some (f.stNum.toNat, f.sqNum.toNat), last := wd s.devNs, valid := true, test := false }

/-- A frame on the protection pair: its envelopes are handed to both channels (R385), or it is discarded (R386). -/
def State.gooseProtection (s : State) (f : GooseFrame) : State :=
  if (s.proNamed f).isEmpty then (s.modNet fun n => { n with other := satInc 16 n.other 1 }).portCount f.port false
  else if (s.proTakers f).isEmpty then
    ((s.modNet fun n => { n with malf := satInc 16 n.malf 1 }).portCount f.port false).event 0xE0 5 f.port
  else
    ((s.proTakers f).foldl (fun (t : State) n => (t.proTakes n f).modNet fun q => { q with handed := q.handed ++ [s.envelopeOf n f] })
      s).portCount f.port true

/-- A GOOSE frame arrives (R378). A disabled port takes none; a second copy on the station pair is discarded (R373). -/
def State.goose (s : State) (f : GooseFrame) : State :=
  if !s.portOn f.port then s
  else if f.port < 2 then
    match f.trailer with
    | none => (s.prpFrame f.port f.source 0 false).gooseStation f
    | some seq =>
      let s1 := s.prpFrame f.port f.source seq true
      if s.prpDup f.source seq then s1 else s1.gooseStation f
  else (s.rxFrame f.port).gooseProtection f

/-- A copy handed over by the MAC, by its network, bytes and receive timestamp. -/
def handedIs (net : Nat) (bytes : List Byte) (rx : Nat) (x : Nat × List Byte × Nat × Nat) : Bool :=
  x.1 == net && x.2.1 == bytes && x.2.2.1 == rx

/-- The channels judge a copy handed to them (R330, R385). -/
def State.envelopeIn (s : State) (net : Nat) (bytes : List Byte) (rx : Nat) : State :=
  (s.modNet fun q => { q with handed := q.handed.eraseP (handedIs net bytes rx) }).envelope net bytes rx

/-- Supervision of an entry expires (R379). -/
def State.subTimeout (s : State) (n : Nat) : State :=
  match (s.sub n).due with
  | none => s
  | some t =>
    (((s.advance t).modSub n fun q => { q with valid := false, talExp := true, due := none })).event 0xE0 3 n

/-- VALUE and VALID of the entries as they stand. -/
def State.subVals (s : State) : List (Nat × (Word × Bool)) := s.net.subs.map fun p => (p.1, (p.2.value, p.2.valid))

/-- VALUE and VALID as the engines hold them from this beat start, and as the recorder records them for it, as far back as its
frames go (R24, R379; no frame class carries them: DESIGN CHOICE, log entry 217). -/
def State.subsBeat (s : State) : State :=
  let s1 := s.modNet fun q => { q with subsUsed := s.subVals }
  let old := match s.reco.frames.head? with | none => s.devNs | some f => f.time
  if s.ready 24 && !s.mem.dramFail then
    { s1 with reco := { s1.reco with subs := (s.reco.subs.filter fun x => decide (old ≤ x.1)) ++ [(s.devNs, s.subVals)] } }
  else s1

/-! ## Destination addresses: 48-bit values of two words (R7, R380, R382, R384) -/

/-- The word holds bytes 4 and 5 of a destination address; its low word lies 4 bytes below. -/
def dstHigh (o : Nat) : Bool :=
  (decide (A.NET_SV 0 0 ≤ o) && decide (o < A.NET_SV 2 0) && o % 16 == 12) ||
  (decide (A.NET_PUB 0 0 ≤ o) && decide (o < A.NET_PUB 16 0) && o % 64 == 12) ||
  (decide (A.NET_SUB 0 0 ≤ o) && decide (o < A.NET_SUB 64 0) && o % 32 == 12)

/-- Store a word of the NET page. Bytes 4 and 5 of an address wait for the write of its low word, which applies the
six; CONFREV beside them takes effect at once (DEDUCED from R7: it is no part of the address). -/
def State.netStore (s : State) (h o : Nat) (v : Word) (mask : Word) : State :=
  if dstHigh o then (s.putUpper h o (v &&& mask)).putReg o (mergeWord (mask &&& 0xFFFF0000#32) (s.reg o) v)
  else if dstHigh (o + 4) then s.pairLow h o 0xFFFF#32 v
  else s.putReg o (mergeWord mask (s.reg o) v)

/-! ## Writes of the NET tables -/

/-- The checks of a write of a subscription entry (R380, R390), given the entry it would leave. -/
def State.subChecks (s : State) (n off : Nat) (v : Word) (mask : Word) : List (Bool × Status) :=
  let w0 := if off = 0 then v else s.subw n 0
  let pair := bitAt w0 1
  let was := bitAt (s.subw n 0) 1
  let twin := bitAt w0 0 && pair && (s.subsOf 1).any fun m => m != n && fld (s.subw m 0) 12 3 == fld w0 12 3
  [(v &&& ~~~ mask != 0#32, .badArg), (pair != (fld w0 8 2 == 3), .badArg), (twin, .badArg),
   ((pair || was) && s.modes.cur != .service, .notInMode), ((pair || was) && s.sealClosed 3, .sealed)]

/-- A write of a subscription word. -/
def State.subWrite (s : State) (h o : Nat) (v : Word) (r : Row) : Acc :=
  let n := (o - A.NET_SUB 0 0) / 32
  let off := (o - A.NET_SUB 0 0) % 32
  s.judged (s.common h 0xE0 r.modes true ++ s.subChecks n off v r.mask) fun s =>
    let s1 := s.netStore h o v r.mask
    if off = 12 then s1
    else s1.modSub n fun q => { q with
      valid := false, due := none, num := none, value := if fld (s1.subw n 0) 8 2 = 3 then 0#32 else q.value }

/-! ## Publications (R381, R382) -/

/-- A number over a power of two as FLOAT32; the rounding of a value of more than 24 bits is open (log entry 11). -/
def floatOf (x : Int) (frac : Nat) : Word :=
  if x = 0 then 0#32
  else
    let m := x.natAbs
    let k := Nat.log2 m
    let q := if k ≤ 23 then m * 2 ^ (23 - k) else quoN m (2 ^ (k - 23))
    let e := k + 127 - frac
    bitW 31 (decide (x < 0)) ||| wd (e * 2 ^ 23 + (q - 2 ^ 23))

/-- A word of a publication entry. -/
def State.pubw (s : State) (n off : Nat) : Word := s.reg (A.NET_PUB n off)

/-- The value of an item. -/
def State.pubItem (s : State) (item subj : Nat) : Word :=
  if item = 1 then wd s.modes.cur.code
  else if item = 2 then wd s.modes.latch
  else if item = 3 then bitW 0 ((s.group subj).conf == 2)
  else if item = 4 then floatOf (s.quant 0x18).val 28
  else if item = 5 then floatOf (s.quant 0x19).val 28
  else if item = 6 then floatOf (s.quant 0x14).val 28
  else if item = 7 then floatOf s.rti.freq 16
  else if item = 8 then bitW 0 s.rti.isl
  else if item = 9 then floatOf s.bpt.headDis 28
  else s.reg (A.NET_PUBVAL subj)

/-- The present member values of a publication. -/
def State.pubVals (s : State) (n : Nat) : List Word :=
  (List.range (fld (s.pubw n 0) 1 4)).map fun m => let w := s.pubw n (0x14 + 4 * m); s.pubItem (fld w 0 8) (fld w 8 8)

/-- A publication's state. -/
def State.pub (s : State) (n : Nat) : Pub := Map.get (fun _ => pubReset) n s.net.pubs

/-- Change it. -/
def State.modPub (s : State) (n : Nat) (f : Pub → Pub) : State :=
  s.modNet fun q => { q with pubs := Map.put (fun _ => pubReset) n (f (s.pub n)) q.pubs }

/-- T0. -/
def State.pubT0 (s : State) (n : Nat) : Nat := fld (s.pubw n 4) 16 16

/-- Send the frame of a publication's present state. -/
def State.pubSend (s : State) (n : Nat) : State :=
  s.prpSend (s.addressAt (A.NET_PUB n 8)) (fld (s.pubw n 4) 0 16) (.goose n (fld (s.pubw n 0) 8 4) (s.pubw n 0x10)
    (wd (s.pub n).stNum) (wd (s.pub n).sqNum) (2 * s.pubT0 n) (s.pub n).vals)

/-- A publication at a beat start: a new stNum where a value differs from the one last sent (R381). -/
def State.pubBeat (s : State) (n : Nat) : State :=
  if !bitAt (s.pubw n 0) 0 then (if (s.pub n).sent then s.modPub n fun q => { q with sent := false } else s)
  else
    let vals := s.pubVals n
    if (s.pub n).sent && vals == (s.pub n).vals then s
    else
      (s.modPub n fun q => { q with
        stNum := (q.stNum + 1) % 2 ^ 32, sqNum := 0, vals := vals, sent := true, ms := min 2 (s.pubT0 n),
        due := s.now + ms 2 }).pubSend n

/-- Every publication at a beat start. -/
def State.pubsBeat (s : State) : State := if s.netOn then (List.range 16).foldl State.pubBeat s else s

/-- A retransmission: the interval doubles up to T0. -/
def State.pubAgain (s : State) (n : Nat) : State :=
  let q := s.pub n
  if !s.netOn || !q.sent || !bitAt (s.pubw n 0) 0 || decide (16 ≤ n) then s
  else
    let s1 := s.advance q.due
    let next := min (2 * q.ms) (s.pubT0 n)
    (s1.modPub n fun q => { q with sqNum := (q.sqNum + 1) % 2 ^ 32, ms := next, due := s1.now + ms next }).pubSend n

/-- A member of a publication names an item and an instance of the table (R382). -/
def pubMemberOk (w : Word) : Bool :=
  let item := fld w 0 8
  let subj := fld w 8 8
  decide (1 ≤ item) && decide (item ≤ 0xA) &&
  (if item = 3 then decide (subj < 4) else if item = 0xA then decide (subj < 16) else subj == 0)

/-- A write of a publication word: a reserved field that is not zero refuses it (R8), and an entry left enabled is judged
whole. -/
def State.pubWrite (s : State) (h o : Nat) (v : Word) (r : Row) : Acc :=
  let n := (o - A.NET_PUB 0 0) / 64
  let off := (o - A.NET_PUB 0 0) % 64
  let new := mergeWord r.mask (s.reg o) v
  let word := fun (b : Nat) => if b = off then new else s.pubw n b
  let nmem := fld (word 0) 1 4
  let bad := bitAt (word 0) 0 &&
    (decide (nmem < 1) || decide (8 < nmem) || !((List.range nmem).all fun m => pubMemberOk (word (0x14 + 4 * m))) ||
     !s.net.strings.testBit (fld (word 0) 8 4))
  s.judged (s.common h 0xE0 r.modes (r.ok v) ++ [(v &&& ~~~ r.mask != 0#32, .badArg), (bad, .badArg)]) fun s =>
    s.netStore h o v r.mask

/-! ## Sampled values (R383) -/

/-- The quantities the streams use. -/
def svQuants : List Nat := [0, 1, 2, 3, 4, 5, 6, 8, 9, 10]

/-- The pipeline keeps the values of this beat and the one before. -/
def State.svKeep (s : State) : State :=
  let vals := svQuants.map fun q => let p := Map.get (fun _ => pairReset) q s.adc.pairs; (p.valid, p.value)
  s.modNet fun n => { n with smpVals := ((s.ang.bstart / ns, s.loop.stepped, vals) :: n.smpVals).take 2 }

/-- Samples a second. -/
def State.svRate (s : State) : Nat := if s.fnom = 60 then 4800 else 4000

/-- The instant of sample k of a second that begins at `sec` ns. -/
def svInstant (rate sec k : Nat) : Nat := sec + (2 * k * 1000000000 + rate) / (2 * rate)

/-- The first sample instant later than a DEVTIME, with its smpCnt. -/
def svNext (rate t : Nat) : Nat × Nat :=
  let sec := t / 1000000000 * 1000000000
  let k := (t - sec) * rate / 1000000000
  let pick := [k, k + 1, k + 2].find? fun j => decide (t < svInstant rate sec j) && decide (j < rate)
  match pick with
  | some j => (svInstant rate sec j, j)
  | none => (sec + 1000000000, 0)

/-- The worse of two validities. -/
def Validity.worse : Validity → Validity → Validity
  | .invalid, _ => .invalid
  | _, .invalid => .invalid
  | .carried, _ => .carried
  | _, .carried => .carried
  | _, _ => .valid

/-- The quality word. -/
def Validity.quality : Validity → Word
  | .valid => 0#32 | .carried => 3#32 | .invalid => 1#32

/-- One channel between two beats: value in its unit and quality; `unit` is the size of 1 pu in that unit. -/
def svChannel (t t0 t1 : Nat) (unit : Nat) (a b : Validity × Int) : Int × Validity :=
  let d : Int := (t1 : Int) - t0
  let v := if d ≤ 0 then b.2 else a.2 + quo ((b.2 - a.2) * ((t : Int) - t0)) d.toNat
  (quo (v * unit) 0x10000000, a.1.worse b.1)

/-- INT32, saturating. -/
def int32 (x : Int) : Word := wi (clampI (-0x80000000) 0x7FFFFFFF x)

/-- The channels of a stream: currents in 1 mA, voltages in 10 mV, and the sum of the voltages. While a base is unset its
unit does not exist, and the values are free (R204). -/
def State.svWords (s : State) (src t t0 t1 : Nat) (old new : List (Validity × Int)) : List Word :=
  let at_ := fun (i unit : Nat) =>
    let x := svChannel t t0 t1 unit (old.getD i (.invalid, 0)) (new.getD i (.invalid, 0))
    if unit = 0 then ((s.open_ i).toInt, x.2) else x
  let cur := [3, 4, 5, 6].map fun i => at_ i (10 * s.iBase)
  let vol := (if src = 0 then [0, 1, 2] else [7, 8, 9]).map fun i => at_ i (10 * s.vBase)
  let un := (isum (vol.map (·.1)), vol.foldl (fun (w : Validity) x => w.worse x.2) .valid)
  (cur ++ vol ++ [un]).flatMap fun x => [int32 x.1, x.2.quality]

/-- smpSynch. -/
def Sync.smp : Sync → Nat
  | .ptp => 2 | .holdover => 1 | .host => 1 | _ => 0

/-- The next sample of a stream, if the pipeline has the two beats whose starts enclose it. A step at the later of the two
starts leaves the instants between in the timescale before it, and those passed over are not sent. -/
def State.svSample (s : State) (m : Nat) : State :=
  let cfg := s.reg (A.NET_SV m 0)
  match s.net.smpVals with
  | [(at1, sum1, new), (t0, sum0, old)] =>
    let t1 := ((at1 : Int) - (sum1 - sum0)).toNat
    let x := svNext s.svRate (max (t0 - 1) (s.net.smpLast.getD m 0))
    if s.netOn && decide (m < 2) && bitAt cfg 0 && decide (x.1 ≤ t1) && decide (t0 ≤ t1) then
      ((s.modNet fun n => { n with smpLast := setAt x.1 m n.smpLast }).took 10).prpSend (s.addressAt (A.NET_SV m 8))
        (fld (s.reg (A.NET_SV m 4)) 0 16) (.sv m (fld cfg 8 4) (fld (s.reg (A.NET_SV m 12)) 16 16) x.2 s.clock.sync.smp
          (s.svWords (fld cfg 1 1) x.1 t0 t1 old new))
    else s
  | _ => s

/-! ## The NET block -/

/-- String sets of a network image come into force at a beat start (R402). -/
def State.stringsBeat (s : State) : State :=
  match s.net.stringsNext with
  | none => s
  | some m => s.modNet fun n => { n with strings := m, stringsNext := none }

/-- A write of a NET register (R390). -/
def State.netWrite (s : State) (h o : Nat) (v : Word) (r : Row) : Acc :=
  if A.NET_SUB 0 0 ≤ o then s.subWrite h o v r
  else if A.NET_PUB 0 0 ≤ o then s.pubWrite h o v r
  else s.judged (s.common h 0xE0 r.modes (r.ok v)) fun s => s.netStore h o v r.mask

end Sys2Proof.Machine
end

