-- ==== Sys2Proof/Machine/ResetOps.lean ====
section
/-! DEFINITION. Reset and what survives it, readiness of the blocks, and the boundary-scan port (R40, R50, R63, R403 to
R405, R450 to R459, R467). -/

namespace Sys2Proof.Machine

/-- Change supply, reset and readiness. -/
def State.modPwr (s : State) (f : Reset → Reset) : State := { s with pwr := f s.pwr }

/-- Change the rail controller. -/
def State.modRail (s : State) (f : Rail → Rail) : State := { s with rail := f s.rail }

/-- Change the clock unit. -/
def State.modClk (s : State) (f : Clk → Clk) : State := { s with clk := f s.clk }

/-- A rail channel. -/
def State.railCh (s : State) (c : Nat) : RailCh := s.rail.ch.getD c (railChReset 0 0)

/-! ## What survives a reset -/

/-- Start target of a channel, µV (R410). -/
def State.startTarget (s : State) (c : Nat) : Nat :=
  if c < 2 then 800000 else if c = 2 then 1800000 else if s.rail.rc3sel = some true then 5000000 else 3300000

/-- The reference of a channel now, µV: it ramps over the soft start (R417) and moves at its slew (R420). -/
def RailCh.vNow (q : RailCh) (now : Nat) : Nat :=
  let dt := now - q.vAt
  match q.st with
  | .off => 0
  | .soft => if ms 2 ≤ dt then q.vTgt else q.vTgt * dt / ms 2
  | .on =>
    let d := q.slew * dt / us 10
    if q.vFrom ≤ q.vTgt then min q.vTgt (q.vFrom + d) else max q.vTgt (q.vFrom - d)

/-- The registers after a reset: those kept, and RAIL_VSET_3 where RC3_SEL is high (R405, R423). -/
def State.keptWords (s : State) : List (Nat × Word) :=
  let kept := s.regs.filter fun p => keptRegs.contains p.1
  if s.rail.rc3sel = some true then Map.put resetWord (A.RAIL_VSET 3) 0x1388#32 kept else kept

/-- The rails through a reset: they stay on, and their registers return to their reset values (R451). -/
def State.railsReset (s : State) : Rail :=
  let go := fun (c : Nat) =>
    let q := s.railCh c
    let tgt := s.startTarget c
    if q.st = .on then
      { q with vFrom := q.vNow s.now, vAt := s.now, vTgt := tgt, slew := 10000, cntB := 0, cntI := 0 }
    else { q with cntB := 0, cntI := 0 }
  { s.rail with ch := (List.range 4).map go }

/-- The clocks through a reset: references and loops run on, F0 is in use, counts begin anew, spread is applied (R433,
R434). -/
def State.clkReset_ (s : State) : Clk :=
  { s.clk with
    relock := 0, pool := .idle, retry := false, holdT := 0, takeovers := 0, losses := [0, 0], refLoss := 0, fab := 0,
    counts := [0, 0, 0, 0], refDiff := 0,
    ssc := s.reg A.CLK_SSC }

/-- The persistent log through a reset: its entries stay; the queue and the counts are lost (R371, R403). -/
def PLog.kept (p : PLog) : PLog := { p with queue := [], lost := 0, gapLost := 0, gapClasses := 0 }

/-- The pool members a reset's test finds failed, by DEV_CULLET index, read exhausted: a spare port's transmitter is dark, a
spare slice or comparator is out of the pool, a bank has no spare row left (R40, R146). -/
def State.foundFailed (s : State) (failed : List Nat) : State :=
  let port := fun (i : Nat) => if i = 0x18 then 0x20 else if i = 0x19 then 0x21 else 8 + (i - 0x1A)
  let ports := (failed.filter fun i => decide (0x18 ≤ i) && decide (i < 0x32)).map port
  let slices := (failed.filter fun i => decide (0x32 ≤ i) && decide (i < 0x36)).map fun i =>
    if i < 0x34 then 10 + (i - 0x32) else 22 + (i - 0x34)
  let banks := (failed.filter fun i => decide (0x38 ≤ i) && decide (i < 0x50)).map fun i => i - 0x38
  { s with
    rings := { s.rings with ports := ports.foldl (fun (l : List Port) (p : Nat) =>
      modAt (fun (q : Port) => { q with txFault := true, down := true }) p l) s.rings.ports }
    adc := { s.adc with
      slices := slices.foldl (fun l n => setAt Pool.exhausted n l) s.adc.slices
      cmpFail := (if failed.contains 0x36 then 1 else 0) + (if failed.contains 0x37 then 2 else 0) }
    mem := { s.mem with rows := banks.foldl (fun l b => setAt 32 b l) s.mem.rows } }

/-- A port through a reset: its substitution is kept (R147). -/
def Port.kept (p : Port) : Port := portReset p.serves

/-- The device after the wipe of a reset: everything at reset but what is kept (R40, R147, R403, R405). No spare row of an SRAM
bank is in use until the test of the release, or a scrub, finds it so (DEDUCED, log entry 97). -/
def State.wiped (s : State) : State :=
  { State.reset with
    free := s.free, part := s.part, pwr := s.pwr, lcy := s.lcy, regs := s.keptWords, pending := s.pending,
    clock := { clockReset with mono := s.clock.mono },
    hosts := { hostsReset with perst := s.hosts.perst },
    modes := { modesReset with hist := s.modes.hist },
    adc := { adcReset with calsetFlash := s.adc.calsetFlash, calsetOk := s.adc.calsetOk, dieFail := s.adc.dieFail },
    rings := { ringsReset with ports := s.rings.ports.map Port.kept },
    bpt := { bptReset with histT := s.bpt.histT, histSync := s.bpt.histSync, hist := s.bpt.hist },
    rti := { rtiReset with store := s.rti.store },
    gaf := { gafReset with
      engines := gafReset.engines.map fun (q : Engine) => { q with slot := fld (s.reg A.GAF_BOOT) 0 1 },
      test := s.gaf.test, testA := s.gaf.testA, testB := s.gaf.testB, forced := s.gaf.forced, others := s.gaf.others,
      slots := s.gaf.slots },
    mem := { memReset with
      flashFail := s.mem.flashFail, dramFail := s.mem.dramFail, ci := s.mem.ci,
      bootPend := fld (s.reg A.MEM_CI_BOOT) 0 4 != 0xF, bootVoid := s.mem.bootVoid },
    rail := s.railsReset, clk := s.clkReset_, sen := s.sen,
    ev := { fabricReset with log := s.ev.log.kept, out := s.ev.out } }

/-- The whole device goes into reset, or a further source joins the reset in force (R450, R467). The domain takes the
seal baseline over as SAF stops being ready. -/
def State.intoReset (s : State) (bit : Nat) : State :=
  let s1 := if s.safOn then s.senTakes else s
  let again := s.pwr.held && !s.pwr.dark
  s1.wiped.modPwr fun p => { p with
    dark := false, held := true, ready := 0, readyT := none, late := 0, cause := if again then setBit p.cause bit true else 2 ^ bit,
    count := if again then p.count else satInc 16 p.count 1 }

/-- The supply is gone or the rails have latched off: the pins take their unpowered states (R43, R453). -/
def State.goDark (s : State) : State :=
  let s1 := if s.safOn then s.senTakes else s
  s1.wiped.modPwr fun p => { p with
    dark := true, held := true, ready := 0, readyT := none, late := 0, sources := 0, scan := none }

/-- A source is active, or has ended. -/
def State.resetSource (s : State) (bit : Nat) (on : Bool) : State := s.modPwr fun p => { p with sources := setBit p.sources bit on }

/-- Reset can end: no source is active, the rails have power good, a reference is good and both fabric loops are locked,
and no lifecycle wipe is still to run (R404, R451). -/
def State.releaseDue (s : State) : Bool :=
  s.pwr.held && !s.pwr.dark && s.pwr.sources == 0 && s.pwr.scan.isNone && s.lcy.target.isNone &&
  (s.railCh 0).pg && (s.railCh 2).pg && (s.railCh 3).pg && s.clk.good.any id && s.clk.lock.getD 2 false && s.clk.lock.getD 3 false

/-- Blocks ready at release (R455). -/
abbrev readyAtRelease : Nat := 0x31C10E

/-- Internal reset ends: WAKE, the PCIe links train where PERST_N is high (R452), the pool members stand as their test found them, and DEVTIME starts (R40, R63). -/
def State.resetRelease (s : State) (failed : List Nat) : State :=
  if !s.releaseDue then s
  else
    let synced := s.sen.alive && s.sen.syncd
    let s1 := { s.foundFailed failed with
      pwr := { s.pwr with held := false, ready := readyAtRelease, released := s.now },
      hosts := { s.hosts with train := s.hosts.perst.map fun (low : Bool) => if low then none else some s.now },
      clock := { s.clock with dev := if synced then s.sen.rtc else 0, sync := if synced then .free else .unset } }
    if s1.rail.lastReport then (s1.modRail fun r => { r with lastReport := false }).event 0x11 4 else s1

/-! ## Readiness (R50, R455) -/

/-- The condition of a block, where the device itself holds it: an engine holds the pontil for the blocks of the
engines. -/
def State.blockMay (s : State) (b : Nat) : Bool :=
  if b = 4 then s.sen.alive
  else if b = 5 ∨ (9 ≤ b ∧ b ≤ 13) ∨ b = 24 then s.gaf.holder.isSome
  else decide (b < 26) && !(b == 18 || b == 19)

/-- What becoming ready does beside the bit. A fault of the analog die latches again as SAF is ready (R57). -/
def State.readyActs (s : State) (b : Nat) : State :=
  if b = 5 then s.startBeats
  else if b = 6 then s.calsetCheck
  else if b = 17 then
    let s1 := { s with saf := { s.saf with
      xOk := true, yOk := true, link := true, used := s.regs, tickAt := s.now, lastOk := [s.now, s.now] } }
    if s1.adc.dieFail then s1.causeOn cAnalog else s1
  else s

/-- A block becomes ready. One that has missed its limit stays not ready (R455). -/
def State.blockReady (s : State) (b : Nat) : State :=
  if !s.live || s.ready b || s.pwr.late.testBit b || !s.blockMay b then s
  else if b = 4 then s.senHandover
  else (s.modPwr fun p => { p with ready := setBit p.ready b true }).readyActs b

/-- DBG_READY_T stands once the last awaited block is ready (R464). -/
def State.readyTime (s : State) : State :=
  if s.live && s.allReady && s.pwr.readyT.isNone then
    s.modPwr fun p => { p with readyT := some (min ((s.now - p.released) / us 1) 0xFFFFFFFF) }
  else s

/-- Readiness limit of a block, ms after release (R455). -/
def readyLimit (b : Nat) : Nat :=
  if b = 0 then 1
  else if b = 6 ∨ b = 7 ∨ b = 22 ∨ b = 25 then 5
  else if b = 4 ∨ b = 23 then 10
  else if b = 18 ∨ b = 19 then 20
  else if b = 17 then 50
  else if b = 5 ∨ (9 ≤ b ∧ b ≤ 13) ∨ b = 24 then 80 else 0

/-- The monotone instant of a block's limit: from reset release, for the page of a PCIe host from the instant its link
training began (R452, R455). -/
def State.readyBy (s : State) (b : Nat) : Option Nat :=
  if b = 18 ∨ b = 19 then ((s.hosts.train[b - 18]?).join).map fun t => t + ms (readyLimit b)
  else some (s.pwr.released + ms (readyLimit b))

/-- A block has not become ready by its limit: it stays not ready (R455). -/
def State.readyLate (s : State) (b : Nat) : State :=
  match s.readyBy b with
  | none => s
  | some t =>
    if s.live && decide (b < 26) && !s.ready b && !s.pwr.late.testBit b then
      ((s.advance t).modPwr fun p => { p with late := setBit p.late b true }).event 2 0 b
    else s

/-- The link of a PCIe host trains. -/
def State.training (s : State) (h : Nat) : Bool := ((s.hosts.train[h]?).join).isSome

/-- A PCIe host's link completes training (R452), and its page is ready unless it has missed its limit (R455). -/
def State.hostLinkUp (s : State) (h : Nat) : State :=
  if s.live && decide (h < 2) && s.training h then
    { s with
      pwr := { s.pwr with ready := if s.pwr.late.testBit (18 + h) then s.pwr.ready else setBit s.pwr.ready (18 + h) true },
      hosts := { s.hosts with link := setAt true h s.hosts.link, train := setAt none h s.hosts.train } }
  else s

/-- How a configuration request to a PCIe host port is answered (R452). -/
inductive CfgAnswer where
  /-- not at all -/
  | noAnswer
  /-- Configuration Request Retry Status -/
  | retry
  /-- it completes -/
  | completes
  deriving DecidableEq, Repr

/-- The answer to a configuration request on HP_0 or HP_1 (R452). -/
def State.cfgAnswer (s : State) (h : Nat) : CfgAnswer :=
  if !s.live || !s.hosts.link.getD h false then .noAnswer else if s.ready (18 + h) then .completes else .retry

/-! ## Boundary scan (R456 to R459) -/

/-- The TAP runs: VDD_CORE and VDD_IO have power good. -/
def State.tapOn (s : State) : Bool := (s.railCh 0).pg && (s.railCh 2).pg

/-- The IDCODE register (R456). -/
def State.idcode (s : State) : Word := at_ 28 4 s.part.srev ||| at_ 12 16 0x9384 ||| at_ 1 11 0x2C5 ||| bitW 0 true

/-- Bits of a word, least significant first, as they are shifted out. -/
def wordBits (w : Word) : List Bool := (List.range 32).map fun i => w.getLsbD i

/-- Whether a pin-driving instruction may take effect (R458). -/
def State.scanAllowed (s : State) : Bool :=
  s.pwr.sources.testBit 1 && (!s.lcy.state.inUse || s.sen.base 7 == 1)

/-- The instruction register takes a new instruction; a pin-driving instruction in force ends, and the device passes
through a reset with cause SCAN (R458). -/
def State.scanEnds (s : State) : State :=
  if s.pwr.scan.isSome then (s.modPwr fun p => { p with scan := none }).intoReset 7 else s

/-- An instruction that drives no pins. -/
def State.tapPassive (s : State) (code : Nat) (byp : Bool) : State :=
  if s.tapOn then s.scanEnds.modPwr fun p => { p with ir := code, tapBypass := byp } else s

/-- The pin-driving instruction that is to be in force. -/
def State.scanWanted (s : State) : Option Nat :=
  if s.tapOn && decide (3 ≤ s.pwr.ir) && decide (s.pwr.ir ≤ 7) && s.scanAllowed then some s.pwr.ir else none

/-- A pin-driving instruction takes effect once its conditions hold, acts as BYPASS while they do not, and ends as they lapse
(R458). -/
def State.scanFollow (s : State) : State :=
  if s.scanWanted = s.pwr.scan then s
  else
    let s1 := s.scanEnds
    s1.modPwr fun p => { p with scan := s1.scanWanted, tapBypass := s1.scanWanted.isNone || decide (0x06 ≤ p.ir) }

/-- A pin-driving instruction: in force where it may be, BYPASS otherwise. One that is in force already goes on. -/
def State.tapDrives (s : State) (code : Nat) : State :=
  if !s.tapOn || s.pwr.scan == some code then s
  else (s.scanEnds.modPwr fun p => { p with ir := code, tapBypass := true }).scanFollow

/-- TRST_N low, or power-on: Test-Logic-Reset, IDCODE selected. -/
def State.tapReset (s : State) : State := s.scanEnds.modPwr fun p => { p with ir := 1, tapBypass := false }

/-- RESET_N is low for at least 10 µs, or high again. A pin-driving instruction ends as RESET_N rises. -/
def State.resetPin (s : State) (low : Bool) : State :=
  if s.pwr.dark then s
  else if low then (s.intoReset 1).resetSource 1 true
  else s.scanEnds.resetSource 1 false

end Sys2Proof.Machine
end

