-- ==== Sys2Proof/Machine/RailOps.lean ====
section
/-! DEFINITION. The rail channels: start order, protection, latch-off, voltage commands, burst mode and the switching
clock (R410 to R425). RC_0 and RC_1 form one rail and move together. -/

namespace Sys2Proof.Machine

/-- Change a rail channel. -/
def State.modCh (s : State) (c : Nat) (f : RailCh → RailCh) : State := s.modRail fun r => { r with ch := modAt f c r.ch }

/-- The channels of a channel's rail. -/
def railOf (c : Nat) : List Nat := if c < 2 then [0, 1] else [c]

/-- Change every channel of a channel's rail. -/
def State.modRailOf (s : State) (c : Nat) (f : RailCh → RailCh) : State :=
  (railOf c).foldl (fun (s : State) k => s.modCh k f) s

/-- The rail controller runs: the auxiliary input is present and nothing is latched. -/
def State.railOn (s : State) : Bool := s.rail.aux && s.rail.latch.isNone

/-- RAIL_CH_CFG of a channel; RC_1 reads RC_0's SLEW. -/
def State.chCfg (s : State) (c : Nat) : Word := s.reg (A.RAIL_CH_CFG c)

/-- SLEW as µV in 10 µs. -/
def State.slewOf (s : State) (c : Nat) : Nat := 1000 * fld (s.chCfg (if c = 1 then 0 else c)) 8 8

/-- PHASE of a channel. -/
def State.phaseOf (s : State) (c : Nat) : Nat :=
  if c = 1 then (fld (s.chCfg 0) 0 2 + 2) % 4 else fld (s.chCfg c) 0 2

/-- A rail starts its soft start (R417). -/
def State.railStart (s : State) (c : Nat) : State :=
  let tgt := s.startTarget c
  s.modRailOf c fun q => { railChReset 0 0 with
    st := .soft, pg := false, vFrom := 0, vAt := s.now, vTgt := tgt, phase := q.phase, limit := q.limit, cntB := q.cntB, cntI := q.cntI }

/-- Every channel off. -/
def State.railsDown (s : State) : State :=
  s.modRail fun r => { r with
    ch := r.ch.map fun (q : RailCh) => { q with st := .off, pg := false, burst := false, pulse := false, enable := false, consec := 0, last8 := 0, ilimNow := false,
                                                ilim := false, negcNow := false, negc := false, pgDue := none },
    follow := false, sync := none, move := 0, kHz := 1000, goal := 1000, lossPend := false, wasLost := false, burstEnds := [] }

/-- The power-on start: RC_0 and RC_1 together, the device in reset, the TAP in Test-Logic-Reset (R411, R450, R456). -/
def State.powerUp (s : State) : State :=
  (((s.railsDown.railStart 0).intoReset 0).modPwr fun p => { p with ir := 1, tapBypass := false, scan := none })

/-- The auxiliary input passes 8.6 V. RC3_SEL is read then. -/
def State.auxRise (s : State) (rc3 : Bool) : State :=
  if s.rail.aux then s
  else
    let s1 := s.modRail fun r => { r with aux := true, rc3sel := some rc3, latch := none }
    let s2 := s1.modRail fun r => { r with lastReport := r.lastValid }
    let s3 := s2.powerUp.modClk fun k => { k with good := [false, false], lock := [false, false, false, false], hold := none }
    s3.senAuxUp

/-- The auxiliary input falls below 8.2 V: every channel stops, and a latch ends there (R411, R419, R422). RAIL_LASTOFF stands in
flash (R405; DEDUCED, log entry 178). -/
def State.auxFall (s : State) : State :=
  if !s.rail.aux then s
  else
    let latched := s.rail.latch.isSome
    let s1 := s.railsDown.modRail fun r => { r with
      aux := false, latch := none, rc3sel := none, lastValid := latched }
    (s1.modClk fun k => { k with good := [false, false], lock := [false, false, false, false], hold := none }).goDark.senAuxDown

/-- A channel latches off: both switches of every channel off, RAIL_LASTOFF recorded, the device stops (R419). -/
def State.latchOff (s : State) (c cause : Nat) : State :=
  let s1 := (s.railsDown.modRail fun r => { r with latch := some (c, cause), last := some (c, cause) }).senEntry 4 c cause
  (s1.modClk fun k => { k with good := [false, false], lock := [false, false, false, false], hold := none }).goDark

/-- The conditions of R418 that the controller holds itself: 32 current-limited cycles for cause 1; for cause 3 the end of soft
start and a limit in the last 8 cycles; for cause 4 power good not reached since. What is left of the causes, and of cause 3, is
measured outside the model. -/
def State.latchDue (s : State) (c cause : Nat) : Bool :=
  let q := s.railCh c
  s.railOn && decide (c < 4) && decide (1 ≤ cause) && decide (cause ≤ 6) && (cause == 6 || q.st != .off) &&
  (if cause = 1 then decide (32 ≤ q.consec) else if cause = 3 then q.pgDue == some s.now && (q.ilimNow || q.last8 % 128 != 0)
   else if cause = 4 then q.pgDue.isSome else true)

/-- A condition of R418 is met; that of cause 4 is 5.0 ms after the end of soft start. -/
def State.railLatch (s : State) (c cause : Nat) : State :=
  if s.latchDue c cause then
    (match (s.railCh c).pgDue with | some t => (if cause = 4 then s.advance (t + ms 5) else s) | none => s).latchOff c cause
  else s

/-- RAIL_EN held low for 1 ms and released: the latch clears and the rails restart. -/
def State.railRestart (s : State) : State :=
  if s.rail.aux ∧ s.rail.latch.isSome then
    (s.modRail fun r => { r with latch := none, lastValid := true, lastReport := true }).powerUp
  else s

/-- A rail reaches power good: the next one in order starts (R411). -/
def State.railGood (s : State) (c : Nat) : State :=
  if !s.railOn || (s.railCh c).st != .on || (s.railCh c).pg || decide (4 ≤ c) then s
  else
    let s1 := s.modRailOf c fun q => { q with pg := true, pgDue := none }
    let s2 := s1.resetSource (if c < 2 then 2 else 3) (if c < 3 then false else s1.pwr.sources.testBit 3)
    if c < 2 then (if (s2.railCh 2).st = .off then s2.railStart 2 else s2)
    else if c = 2 then (if (s2.railCh 3).st = .off then s2.railStart 3 else s2) else s2

/-- The soft start of a rail ends: its reference is at the target (R417). -/
def State.softEnd (s : State) (c : Nat) (preb : Bool) : State :=
  if s.railOn && (s.railCh c).st == .soft then
    let s1 := s.advance ((s.railCh c).vAt + ms 2)
    s1.modRailOf c fun q => { q with st := .on, vFrom := q.vTgt, vAt := s1.now, slew := 10000, preb := preb, pgDue := some s1.now }
  else s

/-- VDD_CORE or VDD_IO is without power good for more than 50 µs: the device is in reset until it returns. -/
def State.corePgLoss (s : State) (c : Nat) : State :=
  if s.railOn && decide (c < 3) && (s.railCh c).st == .on && (s.railCh c).pg then
    let s1 := s.modRailOf c fun q => { q with pg := false }
    let bit := if c < 2 then 2 else 3
    (s1.intoReset bit).resetSource bit true
  else s

/-- The board rail loses power good. -/
def State.pgLost (s : State) : State :=
  if s.railOn && (s.railCh 3).st == .on && (s.railCh 3).pg then (s.modCh 3 fun q => { q with pg := false }).event 0x11 1 3 else s

/-! ## Switching clock (R412, R413) -/

/-- FSW in kHz. -/
def State.fsw (s : State) : Nat := 10 * fld (s.reg A.RAIL_CFG) 0 8

/-- SYNCEN. -/
def State.syncEn (s : State) : Bool := bitAt (s.reg A.RAIL_CFG) 12

/-- The channels go over to the internal oscillator, at the last frequency and then to FSW over 64 cycles. -/
def State.syncGone (s : State) : State :=
  (s.modRail fun r => { r with follow := false, move := 64, goal := s.fsw, lossPend := false, wasLost := true }).event 0x11 2

/-- RAIL_SYNC has been valid for 64 periods. The channels return to it, and SYNC_BACK is raised where it had been lost; a loss
that was to take effect at burst exit no longer does (R412, R422). -/
def State.syncValid (s : State) (kHz : Nat) : State :=
  if s.railOn && decide (400 ≤ kHz) && decide (kHz ≤ 2200) then
    let s1 := s.modRail fun r => { r with sync := some kHz, lossPend := false, wasLost := false }
    if s.syncEn && !s.rail.follow then
      (s1.modRail fun r => { r with follow := true, move := 64, goal := kHz }).eventIf s.rail.wasLost 0x11 3
    else if s.rail.follow then s1.modRail fun r => { r with goal := kHz, kHz := if r.move = 0 then kHz else r.kHz } else s1
  else s

/-- RAIL_SYNC is lost. Channels in burst mode follow no reference: where every rail is in burst the loss takes effect at
burst exit (R422). -/
def State.syncLost (s : State) : State :=
  if s.rail.sync.isNone then s
  else
    let s1 := s.modRail fun r => { r with sync := none }
    if !s.rail.follow then s1
    else if s.rail.ch.all fun q => q.burst then s1.modRail fun r => { r with lossPend := true }
    else s1.syncGone

/-! ## The driver (R414 to R416) -/

/-- The decoder's high side: enable and pulse. The protections of R415 and R416 turn it off after the decoder. -/
def RailCh.high (q : RailCh) : Bool := (q.enable && q.pulse) && !(q.ilimNow || q.bstuv || q.ov || q.drvuv)

/-- The decoder's low side: enable without pulse. Only the reverse limit and the driver supply turn it off. -/
def RailCh.low (q : RailCh) : Bool := (q.enable && !q.pulse) && !(q.negcNow || q.drvuv)

/-- The high-side and the low-side switch of a channel now; both are off in a channel that does not run. -/
def State.railSwitches (s : State) (c : Nat) : Bool × Bool :=
  if s.railOn && decide (c < 4) && (s.railCh c).st != .off then ((s.railCh c).high, (s.railCh c).low) else (false, false)

/-- The controller of a running channel gives its pulse and enable signals. -/
def State.drive (s : State) (c : Nat) (pulse enable : Bool) : State :=
  if !s.railOn || (s.railCh c).st == .off || decide (4 ≤ c) then s
  else s.modCh c fun q => { q with pulse := pulse, enable := enable }

/-- A rail leaves burst mode where one of its channels is to, as its cycle starts (R421). -/
def State.burstLeaves (s : State) (c : Nat) : State :=
  if s.rail.burstEnds.contains c then
    let s1 := (s.modRailOf c fun q => { q with burst := false }).modRail fun r => { r with
      burstEnds := r.burstEnds.filter fun d => !(railOf c).contains d }
    if s1.rail.lossPend then s1.syncGone else s1
  else s

/-- A switching cycle of a channel starts: burst mode is left where that was due, what the last one met is shown, counts reset,
a held-off high side resumes, and changes of RAIL_CFG and ILIM act (R413 to R416, R424, R425). -/
def State.switchCycle (s : State) (c : Nat) : State :=
  if !s.railOn || (s.railCh c).st == .off || decide (4 ≤ c) then s
  else
    let s1 := (s.burstLeaves c).modCh c fun q => { q with
      ilim := q.ilimNow, negc := q.negcNow, ilimNow := false, negcNow := false,
      consec := if q.bstuv ∨ q.ilimNow then q.consec else 0,
      last8 := (q.last8 * 2 + b2n q.ilimNow) % 256,
      bstuv := q.bstuv && !q.bstOk, bstOk := false,
      limit := fld (s.chCfg c) 16 8, phase := s.phaseOf c }
    if c ≠ 0 then s1
    else
      let want := s1.syncEn && s1.rail.sync.isSome
      s1.modRail fun r =>
        if r.follow && !s1.syncEn then { r with follow := false, move := 0, kHz := s1.fsw, goal := s1.fsw }
        else if want && !r.follow then { r with follow := true, move := 64, goal := r.sync.getD r.goal }
        else if r.move ≠ 0 then
          { r with move := r.move - 1, kHz := (((r.kHz : Int) + quo ((r.goal : Int) - r.kHz) r.move)).toNat }
        else if r.follow then { r with kHz := r.goal } else { r with kHz := s1.fsw, goal := s1.fsw }

/-! ## Protection (R415, R416) -/

/-- A channel switches. -/
def State.chRuns (s : State) (c : Nat) : Bool := s.railOn && decide (c < 4) && (s.railCh c).st != .off

/-- The current limit acts: the high side is off to the end of the cycle. 32 consecutive such cycles latch. -/
def State.limitActs (s : State) (c : Nat) : State :=
  let q := s.railCh c
  if !s.chRuns c || q.bstuv || q.ilimNow then s
  else
    let s1 := s.modCh c fun q => { q with ilimNow := true, consec := min (q.consec + 1) 63, cntI := satInc 16 q.cntI 1 }
    if 32 ≤ q.consec + 1 then s1.latchOff c 1 else s1

/-- The reverse limit acts: the low side is off to the end of the cycle. -/
def State.reverseActs (s : State) (c : Nat) : State := if s.chRuns c then s.modCh c fun q => { q with negcNow := true } else s

/-- A bootstrap falls below 3.8 V. A cycle that was current-limited already is not counted as such (R415, R422). -/
def State.bootLow (s : State) (c : Nat) : State :=
  if s.chRuns c && !(s.railCh c).bstuv then
    let s1 := s.modCh c fun q => { q with
      bstuv := true, bstOk := false, cntB := satInc 16 q.cntB 1,
      consec := if q.ilimNow then q.consec - 1 else q.consec, cntI := if q.ilimNow then q.cntI - 1 else q.cntI }
    s1.eventIf s1.live 0x11 0 c
  else s

/-- It has reached 4.2 V: switching resumes at the next cycle start. -/
def State.bootBack (s : State) (c : Nat) : State :=
  if s.chRuns c && (s.railCh c).bstuv then s.modCh c fun q => { q with bstOk := true } else s

/-- The output is above 112 % of the reference, or below 105 % again. -/
def State.overVolt (s : State) (c : Nat) (above : Bool) : State :=
  if s.chRuns c && (s.railCh c).ov != above then
    (s.modCh c fun q => { q with ov := above }).eventIf (above && s.live) 0x11 5 c
  else s

/-- The driver supply is below 4.2 V, or above 4.5 V again. -/
def State.driverUv (s : State) (c : Nat) (low : Bool) : State :=
  if s.chRuns c then s.modCh c fun q => { q with drvuv := low } else s

/-! ## Voltage commands and burst mode (R420 to R422) -/

/-- A rail is to leave burst mode at its next cycle start. -/
def State.burstExit (s : State) (c : Nat) : State :=
  if (s.railCh c).burst then s.modRail fun r => { r with burstEnds := r.burstEnds ++ (railOf c).filter fun d => !r.burstEnds.contains d }
  else s

/-- A rail enters burst mode: permitted for each of its channels, with power good (R421; log entry 219). -/
def State.burstEntry (s : State) (c : Nat) : State :=
  if s.chRuns c && (s.railCh c).pg && (railOf c).all fun d => bitAt (s.chCfg d) 4 then
    s.modRailOf c fun q => { q with burst := true }
  else s

/-- The reference of a rail moves from where it stands to a target. -/
def State.railMove (s : State) (c tgt : Nat) : State :=
  s.modRailOf c fun q => { q with vFrom := q.vNow s.now, vAt := s.now, vTgt := tgt, slew := s.slewOf c }

/-- Whether a value of RAIL_VSET lies in the range of its channel (R410). -/
def State.vsetOk (s : State) (c : Nat) (v : Word) : Bool :=
  if c = 1 then false
  else if c = 3 then
    (let t := s.startTarget 3 / 1000
     decide (t * 95 ≤ 100 * v.toNat) && decide (100 * v.toNat ≤ t * 105))
  else if c = 2 then inR v 0 13 1710 1890 else inR v 0 13 760 840

/-- An accepted RAIL_VSET. -/
def State.vset (s : State) (c : Nat) (v : Word) : State :=
  ((s.putReg (A.RAIL_VSET c) v).burstExit c).railMove c (1000 * v.toNat)

/-- A write of RAIL_CH_CFG: a new SLEW holds from here on; RC_1's SLEW and PHASE are RC_0's and take no write. -/
def State.chCfgWrite (s : State) (h o : Nat) (v : Word) (r : Row) : Acc :=
  let c := (o - A.RAIL_CH_CFG 0) / 32
  let old := s.reg o
  let theirs := c == 1 && (fld v 0 2 != s.phaseOf 1 || fld v 8 8 != fld (s.chCfg 0) 8 8)
  let a := s.rwStore h o v r [(theirs, .badArg)]
  if a.2 = .ok ∧ c ≠ 1 ∧ fld old 8 8 ≠ fld v 8 8 then (a.1.railMove c (a.1.railCh c).vTgt, .ok) else a

end Sys2Proof.Machine
end

