-- ==== Sys2Proof/Machine/ClkOps.lean ====
section
/-! DEFINITION. References, clock loops, holdover and takeover (R426 to R434). -/

namespace Sys2Proof.Machine

/-- The clock unit has supply. -/
def State.clkOn (s : State) : Bool := s.rail.aux && s.rail.latch.isNone && !s.pwr.dark

/-- PREF. -/
def State.prefRef (s : State) : Nat := fld (s.reg A.CLK_REFCFG) 0 1

/-- The loops in use: the fabric loop in use, and the loop of each engine that does not run on its backup oscillator. -/
def State.loopsUsed (s : State) : Nat :=
  2 ^ (2 + s.clk.fab) + (if (s.engine 0).clkBk then 0 else 1) + (if (s.engine 1).clkBk then 0 else 2)

/-- The condition of cause CLOCK ends once a reference is good and every loop in use has declared lock on it (R430). -/
def State.clockEnds (s : State) : State :=
  if s.clk.good.getD s.clk.use false && s.clk.hold.isNone && (s.clk.relock &&& s.loopsUsed) == 0 then s.causeOff cClock else s

/-- A good reference is selected; holdover ends there (R430). -/
def State.selectRef (s : State) (r : Nat) : State :=
  match s.clk.hold with
  | none => s.modClk fun k => { k with use := r }
  | some t => s.modClk fun k => { k with use := r, hold := none, holdT := min ((s.now - t) / us 1) 0xFFFFFFFF, relock := 0xF }

/-- A reference becomes good (R426). In holdover it is selected at once; before the first lock PREF is taken where good. -/
def State.refGood (s : State) (r : Nat) : State :=
  if !s.clkOn || decide (2 ≤ r) then s
  else
    let s1 := s.modClk fun k => { k with good := setAt true r k.good, goodAt := setAt s.now r k.goodAt }
    if s.clk.hold.isSome then s1.selectRef r
    else if !(s1.clk.good.getD s1.clk.use false) || (s1.pwr.held && r == s1.prefRef) then s1.selectRef r else s1

/-- A reference is lost. Loss of the one in use is holdover, and the other is selected where it is good (R430). -/
def State.refLost (s : State) (r : Nat) : State :=
  if !s.clkOn || decide (2 ≤ r) || !(s.clk.good.getD r false) then s
  else
    let s1 := s.modClk fun k => { k with good := setAt false r k.good, refLoss := satInc 8 k.refLoss 1 }
    let s2 := s1.eventIf s1.live 0x10 0 r
    if r ≠ s.clk.use ∨ s.clk.hold.isSome then s2
    else
      let s3 := (s2.modClk fun k => { k with hold := some s.now }).eventIf s2.live 0x10 1 r
      if s3.clk.good.getD (1 - r) false then s3.selectRef (1 - r) else s3

/-- No reference is good 10 ms after the loss (R430). -/
def State.holdoverEnds (s : State) : State :=
  match s.clk.hold with
  | none => s
  | some t => if s.clkOn then let s1 := s.advance (t + ms 10); if s1.live then s1.causeOn cClock else s1 else s

/-- With REVERT = 1, PREF is selected again once it has been good for 10 s. -/
def State.refRevert (s : State) : State :=
  let p := s.prefRef
  if s.clkOn && bitAt (s.reg A.CLK_REFCFG) 1 && s.clk.use != p && s.clk.good.getD p false && s.clk.hold.isNone then
    (s.advance (s.clk.goodAt.getD p 0 + ms 10000)).selectRef p
  else s

/-- Two good references differ (R426). -/
def State.refDiffers (s : State) (tenthPpm : Int) : State :=
  let s1 := s.modClk fun k => { k with refDiff := tenthPpm }
  s1.eventIf (s.clk.good.all id && decide (1000 < absI tenthPpm) && s1.live) 0x10 5

/-- The retry of a fabric loop ends: it has declared lock, or 100 ms have passed (R429). -/
def State.retryEnds (s : State) (locked : Bool) : State :=
  if !s.clkOn || !s.clk.retry then s
  else if locked then
    (s.modClk fun k => { k with retry := false, pool := .idle, lock := setAt true (3 - k.fab) k.lock }).wear 0x50
  else
    ((s.advance (s.clk.retryAt + ms 100)).modClk fun k => { k with retry := false, pool := .exhausted }).emptied_ (s.poolSum 5) 5

/-- The count of a lock window at the nominal frequency: 8,172 for an engine loop under downward spread (R428). -/
def State.lockCount (s : State) (l : Nat) : Nat := if l < 2 ∧ fld s.clk.ssc (4 * l) 2 = 1 then 8172 else 8192

/-- The count of a loop's window lies within ±8 counts. -/
def State.countFits (s : State) (l count : Nat) : Bool := decide (absI ((count : Int) - s.lockCount l) ≤ 8)

/-- A loop can declare lock: its windows fit and are judged, which those in holdover are not, a reference is there to lock to, and
the loop is none that has failed its retry (R428, R429). -/
def State.lockFits (s : State) (l count : Nat) : Bool :=
  s.clkOn && decide (l < 4) && s.clk.good.any id && s.clk.hold.isNone && s.countFits l count &&
  !(decide (l = 3 - s.clk.fab) && s.clk.pool == .exhausted)

/-- A loop loses lock: by the fast monitor, or by a window outside ±8 counts, none of which is judged in holdover (R428, R432). -/
def State.lockGoes (s : State) (l count : Nat) (fast : Bool) : Bool :=
  s.clkOn && decide (l < 4) && s.clk.lock.getD l false && (fast || (s.clk.hold.isNone && !s.countFits l count))

/-- A loop declares lock (R428). A joining engine restarts from its loop, and the retry of a fabric loop ends (R429). -/
def State.loopLocks (s : State) (l count : Nat) : State :=
  if !s.lockFits l count then s
  else
    let s0 := if l = 3 - s.clk.fab then s.retryEnds true else s
    let s1 := s0.modClk fun k => { k with
      lock := setAt true l k.lock, counts := setAt (count % 65536) l k.counts, relock := setBit k.relock l false }
    let s2 := if 2 ≤ l then s1.resetSource 4 false
      else if (s1.engine l).joins then s1.modEng l fun q => { q with clkBk := false } else s1
    s2.clockEnds

/-- A fabric loop is left with no locked twin: the device enters reset (R429). -/
def State.fabricLost (s : State) (l : Nat) : State :=
  ((s.modClk fun k => { k with lock := setAt false l k.lock }).intoReset 4).resetSource 4 true

/-- A loop loses lock (R429). An engine whose loop is lost stops with cause 4. Whichever fabric loop is lost, the other is then
in use after its twin's loss of lock with no spare left, and member 0x50 is substituted until the retry ends (R37 gives no
other state for a spare loop that is being retried; DEDUCED, log entry 95). -/
def State.loopLost (s : State) (l count : Nat) (fast : Bool) : State :=
  if !s.lockGoes l count fast then s
  else
    let s1 := s.modClk fun k => { k with lock := setAt false l k.lock, counts := setAt (count % 65536) l k.counts }
    if l < 2 then
      let s2 := (s1.modClk fun k => { k with losses := modAt (fun n => satInc 8 n 1) l k.losses }).modEng l fun q => { q with clkBk := true }
      let s3 := s2.eventIf s2.live 0x10 3 l
      (if (s3.engine l).joins then s3.joinFails_ l 8 else s3.engineFault l 4).clockEnds
    else
      let f := l - 2
      let twin := s.clk.lock.getD (3 - f) false
      if f = s.clk.fab then
        if twin then
          let s2 := s1.modClk fun k => { k with fab := 1 - f, takeovers := satInc 8 k.takeovers 1, retry := true, retryAt := s.now, pool := .substituted }
          (s2.eventIf s2.live 0x10 2 l).emptied_ (s.poolSum 5) 5
        else s1.fabricLost l
      else (s1.modClk fun k => { k with retry := true, retryAt := s.now, pool := .substituted }).emptied_ (s.poolSum 5) 5

/-- The port that receives through a delay-locked line. -/
def State.linePort (s : State) (p : Nat) : Option Nat := (List.range 34).find? fun q => s.lineOf q == p && (s.serves q == p || q == p)

/-- A delay-locked line stays out of lock for 5 µs: its port is down (R431). -/
def State.dllLost (s : State) (p : Nat) : State :=
  if s.live && decide (p < 34) && (s.port p).dll then
    let s1 := s.modPort p fun q => { q with dll := false }
    (match s.linePort p with | some q => s1.portDown q 1 | none => s1).event 0x10 4 p
  else s

end Sys2Proof.Machine
end

