-- ==== Sys2Proof/Machine/MemoryOps.lean ====
section
/-! DEFINITION. Uncorrectable errors, the scan of complement pairs, failed dies, and lifecycle changes (R42, R43, R399,
R400, R404, R405). -/

namespace Sys2Proof.Machine

/-! ## Uncorrectable errors (R399) -/

/-- An uncorrectable error is counted, SRAM or DRAM, and its address held. -/
def State.countUe (s : State) (sram : Bool) (addr : Word) : State :=
  s.modMem fun m => { m with
    sramU := if sram then satInc 16 m.sramU 1 else m.sramU, dramU := if sram then m.dramU else satInc 16 m.dramU 1, ue := addr }

/-- The address of an uncorrectable error (R407): in ring space that of the word or of the command entry, by the regions of
R391, else the one given. -/
def State.ueAddr (s : State) (loc item : Nat) (addr : Word) : Word :=
  if loc = 4 then wd (0x8000000 + item / 4 * 4)
  else if loc = 5 then wd (0x8000000 + (s.hw item).base + 64 * (s.hw item).head)
  else addr

/-- An engine loses a word of its SRAM: a fault of an engine in step, a failed rejoin of one that joins. -/
def State.engineUe (s : State) (e : Nat) : State :=
  if (s.engine e).joins then s.joinFails_ e 8 else s.engineFault e 2

/-- The DRAM die fails: host rings, recording and resynchronisation are lost (R42). -/
def State.dramDies (s : State) : State :=
  if s.mem.dramFail then s
  else
    (({ s with
        mem := { s.mem with dramFail := true },
        ev := { s.ev with rings := s.ev.rings.map fun (r : Ring) => { r with en := false } },
        reco := { s.reco with frames := [], opened := none, held := [] } }).joinsFail)

/-- An item of fabric SRAM is discarded, a word of a host's window reading its reset value then, and the access that needed
it ends with INTERNAL: `item` has the host in its bits from 25 on and the window offset below; from 4 hosts on it names the
CMD ring whose command needed the item. -/
def State.itemLost (s : State) (item : Nat) : State :=
  let h := item / 0x2000000
  let o := item % 0x2000000 / 4 * 4
  if h < 4 then ({ s with regs := Map.remove o s.regs }).refuse h (pageOf o) o .internal
  else
    let n := item - 0x8000000
    if s.takeable n then (s.takeCmd n).complete n .internal else s

/-- An uncorrectable error by location: 0 and 1 the SRAM of engine A and B, 2 an item of fabric SRAM, 3 a frame of recorder
memory by its place among those held, 4 ring space read by a host, which reads all ones, 5 the command entry at the head of a
CMD ring, 6 the resynchronisation region, 7 the DRAM die. -/
def State.uncorrectable (s : State) (loc item : Nat) (addr : Word) : State :=
  let a := s.ueAddr loc item addr
  if !s.live then s
  else if loc < 2 then (s.countUe true a).engineUe loc
  else if loc = 2 then ((s.countUe true a).event 0xF8 0 0xFFFF [a.toNat]).itemLost item
  else
    let s1 := s.countUe false a
    if loc = 3 then s1.modReco fun r => r.omit item
    else if loc = 4 then
      let s2 := s1.event 0xF8 0 0xFFFF [a.toNat]
      { s2 with ev := if item < 0x2000000 then s2.ev.write (item / 4 * 4) (leBytes 4 0xFFFFFFFF) else s2.ev }
    else if loc = 5 then (if s1.takeable item then (s1.takeCmd item).complete item .internal else s1)
    else if loc = 6 then s1.joinsFail
    else if loc = 7 then s1.dramDies
    else s

/-! ## Complement pairs (R400) -/

/-- The scan finds a pair: in the state of engine A or B (0, 1), of a safety channel (2), in fabric storage or the
profile in force (3, with the window offset of the pair), or in a record or an envelope on its way (4). Of a safety channel's
state `off` is even for channel X and odd for Y: the model's own operand (DESIGN CHOICE, log entry 160). -/
def State.complementScan (s : State) (loc off : Nat) (x xn : Word) : State :=
  if !s.live || xn == ~~~ x then s
  else
    let page := if loc < 2 then 0xB0 + loc else if loc = 2 then 0xC0 else pageOf off
    let s1 := s.event page 56 0xFFFF [off]
    if loc < 2 then s1.engineFault loc 1
    else if loc = 2 then s1.channelStops (off % 2)
    else if loc = 3 then s1.modMem fun m => { m with corrupt := Map.insert off (x, xn) m.corrupt }
    else s1

/-! ## Failed dies (R42, R43) -/

/-- The analog die fails outside the spared slices and comparators: cause ANALOG. -/
def State.analogDies (s : State) : State :=
  if s.live then { s with adc := { s.adc with dieFail := true } }.causeOn cAnalog else s

/-- The flash die fails. -/
def State.flashDies (s : State) : State := s.modMem fun m => { m with flashFail := true }

/-! ## Lifecycle changes (R404, R405) -/

/-- The fuses of LCY_KEYHASH. -/
def keyFuses : List Nat := (List.range 12).map fun i => 0x1080 + 4 * i

/-- A state with a code. -/
def lifecycleOf (c : Nat) : Lifecycle :=
  match c with
  | 0 => .blank | 1 => .provisioned | 2 => .field | _ => .returned

/-- The change is one of the table. -/
def State.lcyLegal (s : State) (t : Lifecycle) : Bool :=
  match s.lcy.state, t with
  | .blank, .provisioned => true
  | .provisioned, .field => true
  | .field, .returned => true
  | .returned, .provisioned => decide (s.lcy.cycles < 3)
  | _, _ => false

/-- The checks of a lifecycle change besides the common ones. -/
def State.lcyChecks (s : State) (t : Lifecycle) : List (Bool × Status) :=
  [(!s.lcyLegal t, .lifecycle),
   (s.lcy.state == .blank && t == .provisioned && keyFuses.all fun o => s.reg o == 0#32, .badArg)]

/-- The change begins: the partitions and the sentinel's entries are wiped (R404, R449). -/
def State.lcyStart (s : State) (t : Lifecycle) : State :=
  ({ s with lcy := { s.lcy with target := some t, wipe := 0 } }).senWipe t.code

/-- What the wipe leaves of the flash and the kept registers (R392, R405). -/
def State.lcyWiped (s : State) : State :=
  { s with
    regs := s.regs.filter fun p => keyFuses.contains p.1 || p.1 == A.SEN_CFG || p.1 == A.SEN_TAMP_CFG,
    rings := { s.rings with ports := (List.range 34).map fun i => { s.rings.ports.getD i (portReset 0x3F) with serves := if i < 32 then i else 0x3F } },
    bpt := { s.bpt with histT := 0, histSync := .unset, hist := [] },
    rti := { s.rti with store := [] },
    gaf := { s.gaf with test := 0#32, testA := 0, testB := 0, forced := 0, others := 0 },
    mem := { s.mem with ci := memReset.ci, bootVoid := false },
    rail := { s.rail with last := none, lastValid := false },
    pwr := { s.pwr with count := 0 },
    ev := { s.ev with log := plogReset } }

/-- The wipe ends: the fuses are blown and the device resets itself (R404). -/
def State.lcyEnd (s : State) : State :=
  match s.lcy.target with
  | none => s
  | some t =>
    if s.pwr.dark then s
    else
      let s1 := { s.lcyWiped with lcy := {
        state := t, target := none, wipe := 0,
        cycles := if s.lcy.state == Lifecycle.returned then min (s.lcy.cycles + 1) 3 else s.lcy.cycles } }
      let s2 := s1.intoReset 6
      s2.modPwr fun p => { p with count := 0 }

end Sys2Proof.Machine
end

