-- ==== Sys2Proof/Machine/ModeOps.lean ====
section
/-! DEFINITION. What a change of mode does, mode requests, and GRD_OPEN (R46, R47, R52 to R61, R221 to R224, R228 to
R230). -/

namespace Sys2Proof.Machine

/-! ## Entering a mode (R53) -/

/-- Words that leaving SERVICE returns to their reset values: forced states, trip lines asserted by the host, test
multiplexers (R59, R462). -/
def serviceWords : List Nat :=
  [A.MOD_TRIP_SW, A.MOD_FORCE_LHB, A.MOD_FORCE_CELL, A.DBG_ATB_0, A.DBG_ATB_1, A.DBG_DOB 0, A.DBG_DOB 1, A.DBG_DOB 2, A.DBG_DOB 3]

/-- What leaving SERVICE releases (R59, R462). A forced output is low until its next period boundary. -/
def State.leaveService (s : State) : State :=
  let s0 := s.applyForces (s.ureg A.MOD_FORCE_LHB) 0#32
  let kept := fun (p : Nat × Word) => !serviceWords.contains p.1
  let s1 := { s0 with regs := s0.regs.filter kept, used := s0.used.filter kept }
  (s1.haltsEnd).causeOff cSeal

/-- The angle source in a mode: the rotor in FORM and in RIDE entered from FORM, else the tracker once it has locked (R75,
R76). -/
def State.sourceFor (s : State) (m : Mode) : State :=
  let rotor := m == .form || (m == .ride && s.modes.rideFrom == .form)
  if rotor then s.modAng fun a => { a with src := 2, slew := false, quiet := false }
  else s.modAng fun a => { a with src := if a.ever then 1 else 0, quiet := a.quiet || a.src == 2 }

/-- HOLD is entered: every group is off, one put on since the latch too (R58); the close sequence and the stop end, trackers stop, islanding is disarmed, HOLD_ENTERED names the
causes and the recorder is triggered (R55, R228, R286). -/
def State.enterHoldMode (s : State) : State :=
  let s1 := (s.putBoth A.SAF_GRP_CMD 0#32).groupsOff.rtiHold.judgeAbort
  let s2 := s1.closeFails (if s.modes.latch.testBit cContactor then 6 else 7)
  let s3 := s2.modGrd fun g => { g with stop := .none, xfer := .none, xferAt := 0, step := 0 }
  (s3.event 0 33 0xFFFF [s.modes.latch]).trigger 1 true

/-- RIDE is entered (R54, R238, R271). -/
def State.enterRide (s : State) : State :=
  let s1 := s.dropXfer.judgeAbort.freezeTrackers
  let s2 := s1.modGrd fun g => { g with stop := .none }
  let s3 := s2.modRti fun r => { r with
    rides := satInc 16 r.rides 1, upre := s.upMean, idPre := s.grd.idRef, iqPre := s.grd.iqRef, recov := none }
  (s3.event 0xA0 0 s.rti.cause).trigger 2

/-- RIDE has returned: the role slots take over without a step, the recovery ceiling starts at the last id* (R223, R275). -/
def State.leaveRide (s : State) (m : Mode) : State :=
  let s1 := if m = .form then (s.preset 0x20 s.grd.idRef).preset 0x21 s.grd.iqRef
            else (s.preset 0x10 s.grd.idRef).preset 0x11 s.grd.iqRef
  let s2 := s1.modRti fun r => { r with recov := some s.grd.idRef, sinceRide := 0 }
  s2.thawTrackers.event 0xA0 1

/-- FOLLOW or FORM is entered from ENERGIZE (R223, R241, R278, R280, R285). -/
def State.enterRun (s : State) (m : Mode) : State :=
  let s1 := s.sigStart.queueAll
  let s2 := s1.modRti fun r => { r with pceil := if m = .follow then 0 else 0x7FFFFFFF, recov := none }
  if m = .form then
    s2.modGrd fun g => { g with
      pref := 0, vset := (s.quant 0x14).val, qset := 0, chase := 7, chaseNext := 0, omega := s.omegaOf s.ang.freq }
  else s2

/-- ENERGIZE is left: a close sequence whose main group is confirmed closed is done, any other ends with ABORTED (log entry
94). -/
def State.closeLeft (s : State) : State :=
  if s.grd.step = 4 ∧ s.confirmed 0 2 = true then s.closeEnds 5 1 else s.closeFails 3

/-- What is particular to the mode entered. -/
def State.modeActs (s : State) (old m : Mode) : State :=
  match m with
  | .hold => s.enterHoldMode
  | .ride => s.enterRide
  | .energize =>
    ((s.modGrd fun g => { g with trimV := 0, trimA := 0, stop := .none, result := 0, step := 0 }).modRti fun r => { r with
      window := [], validN := 0, armed := false }).cellsActive
  | .follow => if old = .ride then s.leaveRide m else if old = .energize then s.enterRun m else s
  | .form => if old = .ride then s.leaveRide m else if old = .energize then s.enterRun m else s
  | _ => s

/-- DEV_MODE as a change leaves it (R46, R53). -/
def State.setMode (s : State) (m : Mode) : State :=
  let asked := s.modes.trans && s.modes.asked
  { s with modes := { s.modes with
    cur := m, prev := some s.modes.cur, tgt := m, trans := false, asked := false, next := none, since := s.devNs,
    lastStat := if asked then .ok else s.modes.lastStat } }

/-- A decided change of mode takes effect (R53). A local output whose mode mask does not name the mode stops (R58, R164). -/
def State.enterMode (s : State) (m : Mode) : State :=
  let old := s.modes.cur
  let s1 := if old = .service then s.leaveService else s
  let s1 := if old = .energize && m != .hold then s1.closeLeft else s1
  let s1 := if old = .ride then s1.modRti fun r => { r with rideMs := (s1.now - r.rideT) / ms 1 } else s1
  let s2 := if old.within 0x70 && (m == .watch || m == .hold) then s1.writeHistory else s1
  let s3 := ((s2.setMode m).slotsEnter old m).sourceFor m
  let s4 := ((s3.modeActs old m).modGrd fun g => { g with xfer := .none, xferAt := 0 }).cellsFollow.dropEdit
  let s5 := { s4 with modu := { s4.modu with lhb := s4.modu.lhb.map fun (l : Lhb) => if l.inMode m then l else l.low } }
  s5.judgeCells.event 0 32 0xFFFF [m.code, old.code]

/-- The decided change of mode, if there is one. -/
def State.modeNext (s : State) : State :=
  match s.modes.next with
  | some m => s.enterMode m
  | none => s

/-- What follows every command: before beats run a decided change of mode takes effect at once, lock missing where it
matters is acted on, PTP follows its masters, DBG_READY_T stands once every awaited block is ready, the events that
posting and logging have raised themselves are raised, and a pin-driving instruction of the TAP is in force while its conditions
hold. -/
def State.settle (s : State) : State :=
  if !s.live then s.scanFollow
  else
    let s1 := if s.ang.beats then s else s.modeNext
    (s1.afterLock.ptpFollow.readyTime.flushOwn 3).scanFollow

/-! ## Mode requests (R47, R52) -/

/-- The mode with a code that can be asked for. -/
def modeAsked (c : Nat) : Option Mode :=
  match c with
  | 2 => some .watch | 3 => some .energize | 4 => some .follow | 5 => some .form | 8 => some .service | _ => none

/-- Blocks that WATCH needs, bits of DEV_READY_MAP, and the ring pages the cell table names (R52). -/
def State.watchReady (s : State) : Bool :=
  (s.pwr.ready &&& 0x2033FEC) == 0x2033FEC && s.usedCells.all fun c => (s.ringSt (s.cellRing c)).ready

/-- The seals of SERVICE: in PROVISIONED and FIELD SEAL_7 closed and SEAL_6 open. -/
def State.serviceSealed (s : State) : Bool := s.lcy.state.inUse && !(s.sealClosed 7 && !s.sealClosed 6)

/-- Main and series are both confirmed, open 1 or closed 2. -/
def State.bothConfirmed (s : State) (conf : Nat) : Bool := s.confirmed 0 conf && s.confirmed 1 conf

/-- A phase has too few charged cells of role active. -/
def State.chargedShort (s : State) : Bool :=
  [0, 1, 2].any fun x => decide (((s.cellsIn x .charged).filter fun c => s.cellRole c == 0).length < s.cellMin)

/-- The conditions of a row of R52, in its order: unmet, the status, WHY. Until the first grant every WATCH request is refused
with WHY 7 (R297). None where the table has no such row. -/
def State.modeConds (s : State) (t : Mode) : Option (List (Bool × Status × Nat)) :=
  let life := (!s.lcy.state.inUse, Status.lifecycle, 0)
  let open_ := (!s.bothConfirmed 1, Status.notReady, 4)
  let clear := (s.modes.latch != 0, Status.notReady, 6)
  let granted := (!s.gaf.served, Status.notReady, 7)
  match s.modes.cur, t with
  | .wake, .watch => some [life, (!s.watchReady, .notReady, 1), (s.gaf.holder.isNone, .notReady, 7)]
  | .wake, .service => some [((s.pwr.ready &&& 0x2020001) != 0x2020001, .notReady, 1), (s.serviceSealed, .sealed, 0)]
  | .watch, .energize =>
    some [(s.sealClosed 6, .sealed, 0), (!(s.selOk && s.rti.act == some s.psel), .sealed, 0), (!s.ang.lock, .notReady, 2),
          (s.chargedShort, .notReady, 3), open_, (s.unset, .notReady, 8)]
  | .energize, .watch => some []
  | .energize, .follow => some [(!s.bothConfirmed 2, .notReady, 5)]
  | .energize, .form => some [(!s.bothConfirmed 2, .notReady, 5), (!s.formSet, .notReady, 9)]
  | .follow, .form => some [(!s.formSet, .notReady, 9)]
  | .form, .follow => some [(!s.ang.lock, .notReady, 2)]
  | .follow, .watch => some []
  | .form, .watch => some []
  | .hold, .watch => some [life, clear, granted]
  | .watch, .service => some [(s.serviceSealed, .sealed, 0), open_]
  | .hold, .service => some [(s.serviceSealed, .sealed, 0), open_]
  | .service, .watch => some [life, clear, granted]
  | _, _ => none

/-- A request is made while something is still to be completed (R52). -/
def State.modeBusy (s : State) : Bool := s.modes.trans || s.ang.divPend || s.clock.step.isSome || s.wiping

/-- The status of a request and WHY. -/
def State.modeJudge (s : State) (h : Nat) (t : Mode) : Status × Nat :=
  match s.modeConds t with
  | none => (firstOf [(!s.owns h 0, .notOwner), (true, .notInMode)], 0)
  | some cs =>
    let st := firstOf ([(!s.owns h 0, .notOwner), (s.modeBusy, .busy)] ++ cs.map fun c => (c.1, c.2.1))
    (st, match cs.find? fun c => c.1 && c.2.1 == .notReady with | some c => c.2.2 | none => 0)

/-- GRD_STOP.RATE, PU32 a second (R229). -/
def State.stopRate (s : State) : Int := puFrac (fld (s.ureg A.GRD_STOP) 0 16 : Nat) 100

/-- An accepted request begins (R47, R221, R222, R228, R229). A change the device has already decided, or its own return to
WATCH, ends it at once (log entry 82). -/
def State.modeBegin (s : State) (t : Mode) : State :=
  if s.modes.next.isSome || (s.modes.returning && t != .watch) then { s with modes := { s.modes with lastStat := .lost } }
  else
    let s1 := { s with modes := { s.modes with trans := true, tgt := t, asked := true } }
    match s.modes.cur, t with
    | .energize, .watch => (s1.closeAborts 3).stopRun
    | .follow, .watch => s1.beginStop s.stopRate
    | .form, .watch => s1.beginStop s.stopRate
    | .follow, .form => s1.beginXfer (.toForm false) .form true
    | .form, .follow => s1.beginXfer .toFollow .follow true
    | _, _ => { s1 with modes := { s1.modes with next := some t } }

/-- The complement of DEV_MODE_REQ completes a request (R14, R47). One whose TARGET equals CUR completes before anything but the claim is judged and leaves LAST_STAT as it is
(DESIGN CHOICE, log entry 83). -/
def State.modeRequest (s : State) (h : Nat) (vn : Word) : Acc :=
  s.rwcComplementAcc h A.DEV_MODE_REQ vn (fun _ _ => []) fun v s =>
    let refuse := fun (st : Status) (why : Nat) => ({ s with modes := { s.modes with
      lastStat := st, why := if st = .notReady then why else s.modes.why } }, st)
    match modeAsked (fld v 0 4) with
    | none => refuse .badArg 0
    | some t =>
      if t = s.modes.cur then (if s.owns h 0 then (s, .ok) else refuse .notOwner 0)
      else
        let j := s.modeJudge h t
        if j.1 = .ok then ((s.putReg A.DEV_MODE_REQ v).modeBegin t, .ok) else refuse j.1 j.2

/-! ## HOLD requests and latches (R48, R56) -/

/-- DEV_HOLD_REQ takes one value, from any host. -/
def State.holdRequest (s : State) (v : Word) : Acc := if v = 0xF807#32 then (s.causePulse cHost, .ok) else (s, .badArg)

/-- Clear bits of DEV_HOLD_LATCH whose conditions are absent (R56). SAFE_FAULT stays while its condition does. -/
def State.latchClear (s : State) (h : Nat) (v : Word) : Acc :=
  let asked := fld v 0 13
  let st := firstOf [(!s.owns h 0, .notOwner), (s.wiping, .busy)]
  if st ≠ .ok then (s, st)
  else
    let stays := asked &&& s.modes.latch &&& s.modes.cond
    ({ s with modes := { s.modes with latch := (bitsSet 13 asked).foldl (fun l b =>
        if s.modes.cond.testBit b then l else setBit l b false) s.modes.latch } }, if stays = 0 then .ok else .notReady)

/-! ## GRD_OPEN (R230) -/

/-- The rate at which every reference reaches 0 within GRD_STOP.FAST. -/
def State.fastRate (s : State) : Int :=
  let g := s.grd
  let top := max (max (absI g.idRef) (absI g.iqRef)) (max (absI g.inD) (absI g.inQ))
  let t := fld (s.ureg A.GRD_STOP) 16 16
  if t = 0 then 0x7FFFFFFF * 1000 else quo (top * 1000) t + 1

/-- GRD_OPEN is accepted. ENERGIZE stays ENERGIZE: a change to FOLLOW or FORM already decided falls away (R230). -/
def State.openNow (s : State) : State :=
  match s.modes.cur with
  | .energize =>
    let s1 := s.closeAborts 3
    let m := s1.modes.abandon
    (s.stopFrom (if s1.modes.next = some .follow ∨ s1.modes.next = some .form then { s1 with modes := { m with next := none } } else s1)).stopRun
  | .ride => s.causePulse cHost
  | .follow | .form =>
    let s1 := s.dropXfer
    if s1.modes.next = some .watch then s1
    else if s1.modes.next.isSome then { s1 with modes := { s1.modes with lastStat := .lost } }
    else s.stopFrom (({ s1 with modes := { s1.modes with trans := true, tgt := .watch, asked := true } }).beginStop s.fastRate)
  | _ => s

/-- A write of GRD_OPEN. -/
def State.grdOpenWrite (s : State) (h : Nat) (v : Word) : Acc :=
  s.judged (s.common h 0x80 0x1FE (v == 0xFE01#32)) State.openNow

end Sys2Proof.Machine
end

