-- ==== Sys2Proof/Machine/BeatOps.lean ====
section
/-! DEFINITION. The beat: what a beat start brings into force, the pipeline, the report cutoff and the records handed to
the rings (R20 to R24, R77, R91, R120, R202, R295). -/

namespace Sys2Proof.Machine

/-- Change the loop engine. -/
def State.modLoop (s : State) (f : Loop → Loop) : State := { s with loop := f s.loop }

/-! ## Cell entries as they come into force (R35, R60, R142, R143, R247, R257, R258) -/

/-- A cell that would read STALE or ABSENT but for the bypass it holds: its join has not ended, its serial is not the entry's,
or the version its last report carries is not the entry's (R141, R142). -/
def State.strange (s : State) (c : Nat) : Bool :=
  (s.cell c).join != .done || (s.cellSerial c != 0 && (s.cell c).seen != s.cellSerial c) ||
  byteFld (s.cell c).last 5 1 != s.cellVer c

/-- A cell's reports are not being accepted. -/
def State.unseen (s : State) (c : Nat) : Bool := !(s.cell c).known || decide (3 ≤ (s.cell c).run)

/-- A cell's bypass is unlatched: it goes to LINKED where it reports, and is ABSENT otherwise. -/
def State.freeCell (s : State) (c : Nat) : State :=
  (s.modCell c fun q => { q with
    st := if s.unseen c then .absent else .linked, reason := 0, charged := 0 }).wantBypass c false

/-- What the word 0x00 of an entry does beyond its value: the roles (R35, R60, R247, R257, R258). -/
def State.roleActs (s : State) (c : Nat) (old new : Word) : State :=
  let used := bitAt old 31
  let q := s.cell c
  let moved := fld old 16 4 != fld new 16 4 || fld old 20 5 != fld new 20 5
  if !bitAt new 31 then
    if used then ((s.modCell c fun _ => cellLinkReset).clearTracker c false).leavePool c else s
  else if !used || moved then
    let s1 := (s.modCell c fun _ => cellLinkReset).clearTracker c false
    if fld new 0 2 = 1 then s1.joinPool c else if used then s1.leavePool c else s1
  else
    let was := fld old 0 2
    let now := fld new 0 2
    let s1 := if fld old 2 2 ≠ fld new 2 2 then s.clearTracker c false else if was ≠ now then s.clearTracker c true else s
    let held := q.st == .bypassed || q.st == .retired
    if now = 2 then
      if was = 2 then s1
      else if q.st == .absent || q.st == .stale then s1
      else ((s1.modCell c fun q => { q with st := .retired, charged := 0 }).wantBypass c true).modBpt fun b => { b with
        waiting := b.waiting.filter fun w => w.spare != c, closing := Map.remove c b.closing }
    else if now = 1 then
      if was = 1 then (if fld old 4 2 ≠ fld new 4 2 then s1.joinPool c else s1)
      else
        let s2 := if held then s1.freeCell c
          else s1.modCell c fun q => { q with st := if q.st == .charged || q.st == .active then .linked else q.st }
        s2.joinPool c
    else if was = 0 then
      if q.st = .bypassed then (s1.freeCell c).clearTracker c true else s1
    else
      let s2 := if held then s1.freeCell c
        else s1.modCell c fun q => { q with st := if q.st == .spare then .linked else q.st }
      if was = 1 then s2.leavePool c else s2

/-- What the word 0x04 does: a change of CFGVER makes the cell STALE until CONFIG is acknowledged, and steps 4 and 5 of
R141 are repeated, as after any write of it to a STALE cell; a change of PMIN or PMAX lets a cell that could not join try again (R142). -/
def State.versionActs (s : State) (c : Nat) (old new : Word) : State :=
  let q := s.cell c
  if fld old 0 8 ≠ fld new 0 8 ∨ q.st = .stale then
    let s1 := if q.st == .absent || q.st == .stale || q.st == .bypassed || q.st == .retired then s else s.staleCell c 5
    if q.st = .absent then s1.modCell c fun q => { q with join := if q.join == .done then .align else q.join }
    else s1.modCell c fun q => { q with join := .identify, joinAge := 0, idLow := none }
  else if old = new then s
  else if q.st = .absent then s.modCell c fun q => { q with join := if q.join == .done then .align else q.join }
  else s

/-- What SERIAL does: a serial number already read that is not the one written makes the cell STALE; BYPASSED and RETIRED change
only by host declaration (R61, R142). -/
def State.serialActs (s : State) (c : Nat) : State :=
  let q := s.cell c
  let differs := (q.join == .config || q.join == .done) && s.cellSerial c != 0 && q.seen != s.cellSerial c
  let able := !(q.st == .absent && q.join == .done)
  if differs && able then
    let s1 := s.modCell c fun q => { q with join := .done, joinAge := 0 }
    if q.st == .stale || q.st == .bypassed || q.st == .retired then s1 else s1.staleCell c 4
  else s

/-- The words of cell entries written in the last beat act, in the order of the writes; `was` is the number of spare cells
that stood idle before (R24, R39, R143). -/
def State.cellActs (s : State) (was : Nat) : State :=
  let s1 := s.rings.acts.foldl (fun s (a : Nat × Nat × Word × Word) =>
    if a.2.1 = 0 then s.roleActs a.1 a.2.2.1 a.2.2.2
    else if !bitAt (s.cw a.1 0) 31 then s
    else if a.2.1 = 8 then s.serialActs a.1 else s.versionActs a.1 a.2.2.1 a.2.2.2)
    { s with rings := { s.rings with acts := [] } }
  if s.rings.acts.isEmpty then s1 else s1.emptied_ was 0

/-! ## The beat start (R24, R53, R59, R77) -/

/-- The words the engines use from this beat start on: what hosts have written, but for set-points written in RIDE while
RIDE lasts (R24, R59). -/
def State.copyWords (s : State) : State :=
  let stays := s.modes.cur == .ride && (s.modes.next.isNone || s.modes.next == some .ride)
  if stays then { s with used := s.rideWait.foldl (fun m o => Map.put resetWord o (s.ureg o) m) s.regs }
  else { s with
    used := s.regs, rideWait := [], grd := { s.grd with chase := s.grd.chase ||| s.grd.chaseNext, chaseNext := 0 } }

/-- The copy of R24, and with it the forced states of the local outputs written in the last beat (R163). -/
def State.copyForces (s : State) : State := s.copyWords.applyForces (s.ureg A.MOD_FORCE_LHB) (s.copyWords.ureg A.MOD_FORCE_LHB)

/-- What is counted by beats begins anew, and what hosts have commanded in the last beat is in use (R24): report flags, cuts, role values, the pipeline, the start for the time delays of
R179, and the transfer's beats. -/
def State.beatFlags (s : State) : State :=
  let cell := fun (p : Nat × CellLink) => (p.1, { p.2 with got := false, atW := false, atE := false, latchNew := false })
  let cmod := fun (p : Nat × CellMod) => (p.1, { p.2 with vrun := p.2.vref })
  let at0 := ((s.ang.bstart : Int) - s.loop.stepped * 4294967296).toNat
  { s with
    rings := { s.rings with cells := (s.rings.cells.map cell).filter fun p => p.2 != cellLinkReset, cutoff := false },
    modu := { s.modu with cells := (s.modu.cells.map cmod).filter fun p => p.2 != cellModReset },
    adc := { s.adc with roles := [] },
    loop := { s.loop with
      starts := (at0 :: s.loop.starts).take 257, done := false, handed := false, copied := false, snapReq := false, snapArm := s.loop.snapReq, fresh := [] },
    grd := { s.grd with xferAt := if s.grd.xfer = .none then 0 else min (s.grd.xferAt + 1) 2, stopHeld := none, startHeld := false } }

/-- Once a cycle: ROCOF and the means of the unit, the budgets, the trackers' windows. -/
def State.cycleStart (s : State) : State :=
  let s1 := s.rtiBeat
  if s1.ang.idx = 0 then s1.rtiCycle.budgets.closeCycles else s1

/-- Everything else a beat start does, in its order. -/
def State.beatUnits (s : State) : State :=
  s.judgeRings.calsetBeat.subsBeat.stringsBeat.engineBeat.pubsBeat.refreshProfile.selectProfile.queueNew.beatCuts.cycleStart.cellsFollow.mevBeat s.ang.began

/-- A beat starts (R77). -/
def State.beatStart (s : State) : State :=
  if !s.live || !s.ang.beats then s
  else
    let s1 := s.toBeat
    let s2 := ((((s1.trackTime (s1.now - s.now)).stepBeat.copyForces).cellActs (s1.poolSum 0)).commitBeat.modeNext.fixBeat.afterLock).beatFlags.beatUnits
    (s2.gatherBeat s).cmpBeat s

/-! ## Records handed to the rings (R58, R120, R295) -/

/-- Cells that are sent EDGES records: on an enabled ring, with a version negotiated. -/
def State.sentCells (s : State) : List Nat := s.usedCells.filter fun c => s.ringEn (s.cellRing c) && (s.cell c).proto != 0

/-- One engine hands over its records of this beat, where beat records are sent. -/
def State.handOver (s : State) (e : Nat) : State :=
  if s.modes.cur = .wake then s
  else
    let holder := s.gaf.holder == some e
    let code := if e = 0 then 0xA else 0xB
    s.sentCells.foldl (fun t c => t.sendFrame (s.cellRing c) (s.edgesRecord code holder c)) s

/-- The engines that hand over at the leading time, or at the shadow time. -/
def State.handOvers (s : State) (lead : Bool) : State :=
  let go := fun (s : State) (e : Nat) => if (s.engine e).tx && (s.engine e).lead == lead then s.handOver e else s
  go (go s 0) 1

/-- The records of a pipeline that has run, handed over once the management window has opened: the window lasts from the
report cutoff to the first hand-over (R135). -/
def State.leadCopies (s : State) : State :=
  if s.loop.done && s.rings.cutoff && !s.loop.handed then
    (s.handOvers true).modLoop fun l => { l with handed := true }
  else s

/-- The management window stands open (R135). -/
def State.windowOpen (s : State) : Bool := s.rings.cutoff && (!s.loop.handed || s.modes.cur == .wake)

/-- The shadow copies, 1.5 µs after the holder's (R295). -/
def State.shadowCopies (s : State) : State :=
  if s.live && s.ang.beats && s.loop.handed && !s.loop.copied then
    (s.handOvers false).modLoop fun l => { l with copied := true }
  else s

/-! ## The pipeline (R91, R202) -/

/-- Every report of the beat has arrived, or the report cutoff has passed (R91). Where no report is awaited there is none to
wait for, and the pipeline may start from the beat start on (DESIGN CHOICE, log entry 89). -/
def State.reportsIn (s : State) : Bool :=
  s.rings.cutoff || s.usedCells.all fun c => !s.ringEn (s.cellRing c) || (s.cell c).got

/-- The pipeline of this beat can start: an engine is in step and it has not run. -/
def State.pipelineDue (s : State) : Bool := s.live && s.ang.beats && s.computing && !s.loop.done && s.reportsIn

/-- The loop slots in ascending index (R180). -/
def State.runLoop (s : State) : State := s.runSlots.foldl (State.execSlot State.supply State.withheld) s

/-- The end of the loop computation: references, the ceilings of the next beat, signature, the snapshot (R202). -/
def State.loopEnds (s : State) : State :=
  let s1 := s.recordRefs.ceilings.sigBeat s.stage.scaled
  if s1.loop.snapArm then
    (s1.modLoop fun l => { l with snapArm := false, snap := some (s1.ang.seq, l.slots, s1.rideWait) }).event 0x70 2
  else s1

/-- ENGx_LOAD of the engines that compute: how long a computation takes is open, and WORST is the largest so far
(log entry 14). -/
def State.loads (s : State) : State :=
  let one := fun (s : State) (e : Nat) =>
    let x := fld (s.open_ (0x3F00 + e)) 0 16
    s.modEng e fun q => if q.inStep then { q with load := (x, max x q.load.2) } else q
  one (one s 0) 1

/-- The pipeline of the beat, from the measurements to the records of the next beat. -/
def State.pipeline (s : State) : State :=
  if s.pipelineDue then
    let s1 := s.measure.anglePipe.afterLock.rtiPipe.gridPipe.runLoop.loopEnds
    let s2 := (s1.gridAlloc.modulate.svKeep.judgeForced.loads).took 16384
    (s2.modLoop fun l => { l with done := true }).leadCopies
  else s

/-- The report cutoff comes at 25 % of the beat; the records of a pipeline that has run by then go after the window's own
(R22, R135). -/
def State.reportCutoff (s : State) : State :=
  if s.live && s.ang.beats && !s.rings.cutoff then
    (s.advance (s.beatMono + s.span (s.ang.blen / 4))).cutoff.leadCopies
  else s

/-- A snapshot is asked for (R202). -/
def State.snapAsk (s : State) : State := s.modLoop fun l => { l with snapReq := true }

/-- A snapshot is released. -/
def State.snapFree (s : State) : State := s.modLoop fun l => { l with snapReq := false, snapArm := false, snap := none }

end Sys2Proof.Machine
end

