-- ==== Sys2Proof/Machine/TableOps.lean ====
section
/-! DEFINITION. Host writes of the tables: cell table, loop slots, beat schedule, profile store (R81 to R84, R143 to
R145, R191, R199, R236, R237, R258, R268). -/

namespace Sys2Proof.Machine

/-! ## Cell table -/

/-- A word of a cell entry as it would stand with one word written. -/
def State.entryWith (s : State) (c b : Nat) (v : Word) (o : Nat) : Word := if o = b then v else s.reg (A.CELL c o)

/-- The USED cells as written. -/
def State.writtenCells (s : State) : List Nat :=
  s.regs.filterMap fun p =>
    if 0x1000000 ≤ p.1 ∧ p.1 < 0x1018000 ∧ p.1 % 0x100 = 0 ∧ bitAt p.2 31 then some ((p.1 - 0x1000000) / 0x100) else none

/-- Codes and stated ranges of an entry that bind whether it is used or not: ROLE, TYPE, PHASE, POS, PMIN, PMAX, MINON, and
the step sizes. -/
def cellCodesOk (w : Nat → Word) : Bool :=
  inR (w 0) 0 2 0 2 && inR (w 0) 2 2 0 2 && inR (w 0) 4 2 0 2 && inR (w 0) 20 5 0 23 &&
  inR (w 4) 8 2 1 3 && inR (w 4) 10 2 1 3 && inR (w 0x40) 0 16 1000 50000 && inR (w 0x64) 0 8 1 255 && inR (w 0x64) 8 8 1 255

/-- What binds a USED entry by its own words (R145, R237). -/
def usedOk (w : Nat → Word) : Bool :=
  let ty := fld (w 0) 2 2
  let trk := bitAt (w 0x78) 0
  let batt := ty == 1 || ty == 2
  decide (fld (w 4) 0 8 ≠ 0) && decide (fld (w 4) 8 2 ≤ fld (w 4) 10 2) && (!batt || decide (2 ≤ fld (w 4) 10 2)) &&
  inR (w 0xA0) 0 16 200 10000 && decide (fld (w 0xA4) 16 16 < fld (w 0xA4) 0 16) &&
  decide (fld (w 0xA8) 0 16 < fld (w 0xA8) 16 16) && decide (fld (w 0xAC) 8 8 < fld (w 0xAC) 0 8) &&
  decide (fld (w 0x68) 0 16 ≠ 0) &&
  (ty == 1 || !trk || (decide (fld (w 0x60) 0 16 ≠ 0) && decide (fld (w 0x60) 0 16 < fld (w 0x60) 16 16))) &&
  decide (fld (w 0x64) 0 8 ≤ fld (w 0x64) 16 8) && decide (fld (w 0x64) 16 8 ≤ fld (w 0x64) 8 8) &&
  decide (fld (w 0x6C) 16 8 < fld (w 0x6C) 24 8) && decide (fld (w 0x6C) 24 8 ≤ 200) &&
  (!batt || (decide (fld (w 0x6C) 0 16 ≠ 0) && decide (fld (w 0x70) 0 16 ≠ 0) && decide (fld (w 0x70) 16 16 ≠ 0))) &&
  (!(ty == 1 || !trk) || decide (fld (w 0x74) 0 16 ≠ 0))

/-- What binds a USED entry beside the others: ring present, POS and CHAIN free, the ring limit of R136, and at most eight
spare-role cells in a phase (R258). -/
def State.placeOk (s : State) (c : Nat) (w0 : Word) : Bool :=
  let others := (s.writtenCells.filter fun d => d != c).map fun d => s.reg (A.CELL d 0)
  let ring := fld w0 16 4
  let onRing := others.filter fun x => fld x 16 4 == ring
  let inPhase := others.filter fun x => fld x 4 2 == fld w0 4 2
  s.present ring && (onRing.all fun x => fld x 20 5 != fld w0 20 5) && (inPhase.all fun x => fld x 8 7 != fld w0 8 7) &&
  fitsCells (onRing.length + 1) (fld (s.reg A.ANG_DIV) 0 11) (fld (s.reg A.ANG_FBAND) 16 16) &&
  (fld w0 0 2 != 1 || decide ((inPhase.filter fun x => fld x 0 2 == 1).length < 8))

/-- A write of a word of a cell entry is accepted on the whole entry it would leave. -/
def State.cellEntryOk (s : State) (c b : Nat) (v : Word) : Bool :=
  let w := s.entryWith c b v
  decide (c < s.part.cells) && v &&& ~~~ cellMask b == 0#32 && cellCodesOk w &&
  (!bitAt (w 0) 31 || (usedOk w && s.placeOk c (w 0)))

/-- A write that changes ROLE from retired to spare and nothing else (R59). -/
def onlyToSpare (old v : Word) : Bool := fld old 0 2 == 2 && fld v 0 2 == 1 && (old ^^^ v) == 3#32

/-- The write returns a repaired cell to service: its ROLE is active already, and it is BYPASSED (R258). -/
def State.returns (s : State) (c b : Nat) (v : Word) : Bool :=
  b == 0 && fld (s.reg (A.CELL c 0)) 0 2 == 0 && fld v 0 2 == 0 && bitAt v 31 && (s.cell c).st == .bypassed

/-- A write of a word of the cell table, in force from the next beat start (R143). Words that are state are read only, and
a write to them is ignored, but of an entry the part does not have (R145). SERIAL_HI waits for SERIAL_LO, whose write applies
both (R7). -/
def State.cellWrite (s : State) (h c b : Nat) (v : Word) : Acc :=
  let o := A.CELL c b
  let old := s.reg o
  if cellRo b then s.judged (s.common h 0x50 0x1FF (decide (c < s.part.cells))) id
  else
    let modes := if b = 0 && onlyToSpare old v then 0x1FC else mStop
    let st := firstOf (s.common h 0x50 modes (s.cellEntryOk c b v) ++
      [(s.returns c b v && (s.unseen c || s.strange c || s.cellFailed c), .notReady)])
    if st ≠ .ok then (s, st)
    else if b = 12 then (s.putUpper h o v, .ok)
    else
      let s1 := if b = 8 then s.pairLow h o 0xFFFFFFFF#32 v else s.putReg o v
      ({ s1 with rings := { s1.rings with
          acts := if b = 0 ∨ b = 4 ∨ b = 8 then s1.rings.acts ++ [(c, b, old, v)] else s1.rings.acts } }, .ok)

/-! ## Loop slots -/

/-- A write of a word of the slot table, engine A range: staging words, the commit, the set-point pair (R191, R199).
State words are read only. -/
def State.slotWrite (s : State) (h i b : Nat) (v : Word) : Acc :=
  let o := A.SLOT i b
  if b = 0 then
    let regs := s.slotRegs h i v
    let st := firstOf (s.common h 0x70 mStop (s.slotEntryOk regs i))
    if st = .ok then (s.commitSlot h i regs, .ok)
    else (s.modHosts fun q => { q with staging := q.staging.filter fun p => p.1 / 0x20 != h * 0x400 + i }, st)
  else if b < 0x40 then
    s.judged (s.common h 0x70 0x1FE true) fun s =>
      s.modHosts fun q => { q with staging := Map.insert (h * 0x8000 + i * 0x20 + b / 4) v q.staging }
  else if b = 0x40 then s.rwcValue h o v 0xFFFFFFFF#32 true
  else if b = 0x44 then
    s.rwcComplement h (A.SLOT i 0x40) v (fun _ s => s.common h 0x70 mSet true) fun v s =>
      let s1 := s.putReg (A.SLOT i 0x40) v
      if s.modes.cur = .ride ∧ !s.rideWait.contains (A.SLOT i 0x40) then
        { s1 with rideWait := A.SLOT i 0x40 :: s1.rideWait } else s1
  else if b < 0x50 then s.judged (s.common h 0x70 0x1FE (v == 0#32)) id
  else s.ignored h 0x70

/-! ## Beat schedule -/

/-- BEAT, EVERY, ACTION and TARGET of an entry's words. -/
def schedBeat (w : Word) : Nat := fld w 0 10
def schedAction (w : Word) : Nat := fld w 0 8
def schedTarget (w : Word) : Nat := fld w 8 8
def schedEvery (w : Word) : Nat := fld w 16 10

/-- An entry fires in beat `b` of a cycle, modes apart. -/
def firesIn (w0 w4 : Word) (b : Nat) : Bool :=
  if schedEvery w4 = 0 then b == schedBeat w0
  else decide (schedBeat w0 ≤ b) && decide ((b - schedBeat w0) % schedEvery w4 = 0)

/-- The highest TARGET of an action. -/
def targetMax (a : Nat) : Nat := if a = 1 ∨ a = 2 then 15 else if a = 3 ∨ a = 4 then 3 else 0

/-- The enabled entries of some register words. -/
def schedOn (regs : List (Nat × Word)) : List Nat :=
  let listed := regs.filterMap fun p =>
    if 0x1200000 ≤ p.1 ∧ p.1 < 0x1204000 ∧ p.1 % 16 = 12 ∧ bitAt p.2 0 then some ((p.1 - 0x1200000) / 16) else none
  ([0, 1].filter fun n => !listed.contains n && bitAt (Map.get resetWord (A.SCHED n 12) regs) 0) ++ listed

/-- At most 32 enabled entries fire in any beat of the cycle. -/
def schedFits (regs : List (Nat × Word)) (div : Nat) : Bool :=
  let es := (schedOn regs).map fun n => (Map.get resetWord (A.SCHED n 0) regs, Map.get resetWord (A.SCHED n 4) regs)
  (List.range div).all fun b => decide ((es.filter fun e => firesIn e.1 e.2 b).length ≤ 32)

/-- The entry a write would leave is accepted (R84), against the DIV written (DESIGN CHOICE, log entry 205). -/
def State.schedOk (s : State) (n b : Nat) (v : Word) : Bool :=
  let regs := Map.put resetWord (A.SCHED n b) v s.regs
  let get := fun o => Map.get resetWord (A.SCHED n o) regs
  let div := fld (s.reg A.ANG_DIV) 0 11
  let act := schedAction (get 4)
  let width := fld (get 8) 16 16
  v &&& ~~~ schedMask b == 0#32 && decide (schedBeat (get 0) < div) && decide (schedEvery (get 4) ≤ div) && decide (act ≤ 4) &&
  (!bitAt (get 12) 0 ||
    (decide (schedTarget (get 4) ≤ targetMax act) && (decide (width ≠ 0) == decide (act = 2)) && schedFits regs div))

/-- A write of a word of the beat schedule. -/
def State.schedWrite (s : State) (h n b : Nat) (v : Word) : Acc :=
  s.judged (s.common h 0x20 mStop (s.schedOk n b v)) fun s => s.putReg (A.SCHED n b) v

/-! ## Profile store -/

/-- A write of a word of the profile store goes to the staging of the open edit. -/
def State.profileWrite (s : State) (h p b : Nat) (v : Word) : Acc :=
  s.judged (s.common h 0xA0 mEdit true ++ [(s.rti.edit != some p, .notReady)]) fun s =>
    s.modRti fun r => { r with staging := Map.put (fun _ => 0#32) (b / 4) v r.staging }

/-- A write of a word of a table; one outside every table, in engine B's slots or in the tracker table is ignored and
raises UNMAPPED (R30). -/
def State.tableWrite (s : State) (h o : Nat) (v : Word) : Acc :=
  if 0x1000000 ≤ o ∧ o < 0x1018000 then
    s.access h o fun s => s.cellWrite h ((o - 0x1000000) / 0x100) (o % 0x100) v
  else if 0x1100000 ≤ o ∧ o < 0x1120000 then
    s.access h o fun s => s.slotWrite h ((o - 0x1100000) / 0x80) (o % 0x80) v
  else if 0x1200000 ≤ o ∧ o < 0x1204000 then
    s.access h o fun s => s.schedWrite h ((o - 0x1200000) / 16) (o % 16) v
  else if 0x1400000 ≤ o ∧ o < 0x1402000 then
    s.access h o fun s => s.profileWrite h ((o - 0x1400000) / 0x400) (o % 0x400) v
  else (s.event 0 35 0xFFFF [o], .ok)

end Sys2Proof.Machine
end

