-- ==== Sys2Proof/Machine/Views.lean ====
section
/-! DEFINITION. What a host reads: the common header, the registers the device drives, the tables, and the effects a read
has (R7, R12, R13, R28 to R32, R51, R201, R202, and the register maps of every chapter). -/

namespace Sys2Proof.Machine

/-- The low and the high word of a number. -/
def loW (n : Nat) : Word := wd n
def hiW (n : Nat) : Word := wd (n / 2 ^ 32)

/-- Two counters of 16 bits. -/
def pair16 (lo hi : Nat) : Word := at_ 0 16 lo ||| at_ 16 16 hi

/-- A value scaled to a signed field of 16 bits at a place. -/
def sat16At (lo : Nat) (x : Int) : Word := at_ lo 16 (wi (sat16 x)).toNat

/-! ## DEV, LCY and DBG (R34, R36, R39, R44 to R50, R408, R464) -/

/-- DEV_CULLET_ENT and DEV_CULLET_FOR of the member DEV_CULLET_IDX names. -/
def State.cullet (s : State) : Word × Word :=
  let i := fld (s.reg A.DEV_CULLET_IDX) 0 7
  let m := s.member i
  (at_ 28 4 m.1 ||| at_ 26 2 m.2.1.code ||| at_ 16 10 m.2.2.1 ||| at_ 0 16 (Map.get (fun _ => 0) i s.modes.hist), at_ 0 10 m.2.2.2)

/-- DEV_READY_LNK. -/
def State.readyLnk (s : State) : Word :=
  wd ((List.range 16).foldl (fun m k => setBit m k (s.ringSt k).ready) 0)

/-- DEV_MODE. -/
def State.modeWord (s : State) : Word :=
  let m := s.modes
  at_ 0 4 m.cur.code ||| at_ 4 4 (match m.prev with | some p => p.code | none => 0) ||| at_ 8 4 (if m.trans then m.tgt else m.cur).code ||| bitW 12 m.trans |||
  at_ 16 8 m.lastStat.code ||| at_ 24 4 m.why

def State.viewDev (s : State) (o : Nat) : Word :=
  if o = A.DEV_ID then at_ 0 8 s.part.srev ||| at_ 8 10 s.part.cells
  else if o = A.DEV_MODE then s.modeWord
  else if o = A.DEV_MODE_T_LO then loW s.modes.since
  else if o = A.DEV_MODE_T_HI then hiW s.modes.since
  else if o = A.DEV_HOLD_LATCH then wd s.modes.latch
  else if o = A.DEV_HOLD_COND then wd s.modes.cond
  else if o = A.DEV_READY_MAP then wd (s.pwr.ready % 2 ^ 26)
  else if o = A.DEV_READY_LNK then s.readyLnk
  else if o = A.DEV_CULLET_ENT then s.cullet.1
  else if o = A.DEV_CULLET_FOR then s.cullet.2
  else if o = A.DEV_CULLET_SUM then s.culletSum
  else s.reg o

/-- LCY page. How far the wipe has come is open (log entry 10). -/
def State.viewLcy (s : State) (o : Nat) : Word :=
  if o = A.LCY_STATE then wd s.lcy.state.code
  else if o = A.LCY_STAT then
    (if s.lcy.target.isSome then bitW 0 true ||| at_ 8 8 ((s.open_ 0).toNat % 101) else 0#32)
  else if o = A.LCY_CYCLES then wd s.lcy.cycles
  else s.reg o

/-- The engine DBG_ENG_ADDR selects. -/
def State.dbgEngine (s : State) : Nat := fld (s.reg A.DBG_ENG_ADDR) 31 1

def State.viewDbg (s : State) (o : Nat) : Word :=
  if o = A.DBG_RSTCAUSE then wd s.pwr.cause
  else if o = A.DBG_RSTCNT then wd s.pwr.count
  else if o = A.DBG_ENG_DATA then
    (if (s.engine s.dbgEngine).st = .halted then Config.engineSram s.dbgEngine (fld (s.reg A.DBG_ENG_ADDR) 2 20) else 0#32)
  else if o = A.DBG_READY_T then wd (s.pwr.readyT.getD 0)
  else s.reg o

/-! ## CLK, RAIL and SEN (R423, R424, R433, R434, R447, R448) -/

def State.viewClk (s : State) (o : Nat) : Word :=
  let k := s.clk
  let lk := fun i => k.lock.getD i false
  if o = A.CLK_STAT then
    bitW 0 (k.good.getD 0 false) ||| bitW 1 (k.good.getD 1 false) ||| at_ 2 1 k.use ||| bitW 3 k.hold.isSome ||| at_ 4 1 k.fab |||
    bitW 5 (lk 0) ||| bitW 6 (lk 1) ||| bitW 7 (lk 2) ||| bitW 8 (lk 3) ||| bitW 9 (s.engine 0).clkBk ||| bitW 10 (s.engine 1).clkBk
  else if o = A.CLK_HOLD_T then wd k.holdT
  else if o = A.CLK_LOSS_CNT then
    at_ 0 8 k.takeovers ||| at_ 8 8 (k.losses.getD 0 0) ||| at_ 16 8 (k.losses.getD 1 0) ||| at_ 24 8 k.refLoss
  else if o = A.CLK_CNT_ENG then pair16 (k.counts.getD 0 0) (k.counts.getD 1 0)
  else if o = A.CLK_CNT_FAB then pair16 (k.counts.getD 2 0) (k.counts.getD 3 0)
  else if o = A.CLK_DLL_LO then wd ((List.range 32).foldl (fun m p => setBit m p (s.port p).dll) 0)
  else if o = A.CLK_DLL_HI then bitW 0 (s.port 0x20).dll ||| bitW 1 (s.port 0x21).dll
  else if o = A.CLK_REFDIFF then wi k.refDiff
  else s.reg o

/-- RAIL_VNOW in mV. -/
def State.railNow (s : State) (c : Nat) : Nat := (s.railCh c).vNow s.now / 1000

/-- RAIL_VSET as it reads: RC_1 reads RC_0's. -/
def State.railSet (s : State) (c : Nat) : Word := s.reg (A.RAIL_VSET (if c = 1 then 0 else c))

/-- RAIL_CH_STAT. -/
def State.railStat (s : State) (c : Nat) : Word :=
  let q := s.railCh c
  bitW 0 q.pg ||| bitW 1 (wd (s.railNow c) != s.railSet c) ||| bitW 2 q.burst ||| bitW 3 q.bstuv ||| bitW 4 q.ilim |||
  bitW 5 q.negc ||| bitW 6 q.ov ||| bitW 7 q.drvuv ||| bitW 8 q.preb ||| at_ 16 6 q.consec

def State.viewRail (s : State) (o : Nat) : Word :=
  let r := s.rail
  if o = A.RAIL_STAT then
    (List.range 4).foldl (fun w c => w ||| bitW c (s.railCh c).pg ||| bitW (c + 4) (s.railCh c).burst) (bitW 8 (r.follow && r.sync.isSome))
  else if o = A.RAIL_SYNC_F then at_ 0 12 (r.sync.getD 0)
  else if o = A.RAIL_LASTOFF then
    bitW 8 r.lastValid ||| (match r.last with | some (c, x) => at_ 0 3 c ||| at_ 4 4 x | none => 7#32)
  else if 0x11100 ≤ o ∧ o < 0x11180 then
    let c := (o - 0x11100) / 32
    let b := (o - 0x11100) % 32
    if b = 0 then
      (if c = 1 then setFld (setFld (s.reg o) 0 2 (s.phaseOf 1)) 8 8 (fld (s.chCfg 0) 8 8) else s.reg o)
    else if b = 4 then s.railSet c
    else if b = 8 then ~~~ s.railSet c
    else if b = 12 then wd (s.railNow c)
    else if b = 16 then s.railStat c
    else if b = 20 then pair16 (s.railCh c).cntB (s.railCh c).cntI
    else 0#32
  else s.reg o

/-- The log entry SEN_LOG_IDX names; an erased one reads 0xFF. -/
def State.senLogEntry (s : State) : List Byte :=
  match s.sen.entry (fld (s.reg A.SEN_LOG_IDX) 0 8) with
  | some b => padTo 16 b
  | none => List.replicate 16 0xFF#8

def State.viewSen (s : State) (o : Nat) : Word :=
  let q := s.sen
  if o = A.SEN_STAT then
    bitW 0 q.syncd ||| at_ 1 2 q.band ||| bitW 3 q.txSusp ||| bitW 4 q.gap ||| bitW 5 q.harv ||| bitW 6 q.chg |||
    bitW 7 q.cellFlt ||| bitW 8 q.armed ||| bitW 9 q.frame.isSome
  else if o = A.SEN_VCELL then at_ 0 13 q.vcell
  else if o = A.SEN_VHARV then at_ 0 13 q.vharv
  else if o = A.SEN_RTC_LO then loW s.senNs
  else if o = A.SEN_RTC_HI then hiW s.senNs
  else if o = A.SEN_GAP_FROM_LO then loW q.gapFrom
  else if o = A.SEN_GAP_FROM_HI then hiW q.gapFrom
  else if o = A.SEN_GAP_TO_LO then loW q.gapTo
  else if o = A.SEN_GAP_TO_HI then hiW q.gapTo
  else if o = A.SEN_LOG_STAT then
    at_ 0 8 q.next ||| at_ 8 9 q.committed_.length ||| at_ 17 7 (min s.alertsPending.length 127)
  else if 0x12074 ≤ o ∧ o ≤ 0x12080 then wd (byteFld s.senLogEntry (o - 0x12074) 4)
  else if o = A.SEN_CNT then at_ 0 8 q.defer ||| at_ 8 8 q.abort ||| at_ 16 8 q.torn ||| at_ 24 8 q.lost
  else if o = A.SEN_BASE then at_ 0 8 q.baseSeal ||| at_ 8 2 q.baseTamp
  else s.reg o

/-! ## ANG (R86, R87) -/

/-- ANG32 at a read: the beat's start angle, and the part of the beat that has passed. -/
def State.angleNow (s : State) : Word :=
  if s.ang.beats then
    wd (quoN ((s.ang.idx * s.ang.blen + min (s.clock.dev - s.ang.bstart) s.ang.blen) * 2 ^ 32) (s.ang.div * s.ang.blen))
  else 0#32

/-- ANG_DIFF: the virtual rotor, or the angle on its way back from it, against the measured angle. -/
def State.angleDiff (s : State) : Word :=
  if s.ang.src = 2 then wi (-s.ang.diff) else if s.ang.quiet then wi (-s.ang.d) else 0#32

def State.viewAng (s : State) (o : Nat) : Word :=
  let a := s.ang
  if o = A.ANG_STAT then
    bitW 0 a.lock ||| bitW 1 a.ever ||| bitW 2 a.fly ||| bitW 3 a.slew ||| bitW 4 a.clamp ||| bitW 5 a.fout ||| at_ 8 2 a.src
  else if o = A.ANG_DIV then s.reg o ||| bitW 16 a.divPend
  else if o = A.ANG_NOW then s.angleNow
  else if o = A.ANG_FREQ then wd a.rate
  else if o = A.ANG_DIFF then s.angleDiff
  else if o = A.ANG_JMP_LAST then wi a.jmpLast
  else if o = A.ANG_BEAT then at_ 0 10 a.idx ||| at_ 10 22 a.cyc
  else if o = A.ANG_SEQ then wd a.seq
  else if o = A.ANG_BSTART_LO then loW (a.bstart / ns)
  else if o = A.ANG_BSTART_HI then hiW (a.bstart / ns)
  else if o = A.ANG_BLEN then wd (a.blen / 0x1000000)
  else if o = A.DEVTIME_LO then loW s.devNs
  else if o = A.DEVTIME_HI then hiW s.devNs
  else if o = A.DEVTIME_STAT then at_ 0 3 s.clock.sync.code ||| bitW 3 s.clock.stepPend
  else if o = A.DEVTIME_OFS then wi s.clock.ofs
  else if o = A.DEVTIME_RATE then wi s.clock.rate
  else s.reg o

/-! ## ADC and CMP (R99, R113 to R115) -/

/-- Four bits for the slice of each slot from `k`. -/
def State.slotMap (s : State) (k n : Nat) : Word :=
  (List.range n).foldl (fun w i => w ||| at_ (4 * i) 4 (s.svc (k + i)).slice) 0#32

/-- ADC_CAL_STAT. Between steps SLOT and BANK name the slot of the next step, and SPARE the last spare (DESIGN CHOICE, log entry
235). -/
def State.calStat (s : State) : Word :=
  let a := s.adc
  at_ 0 4 (a.rotSlot % 10) ||| at_ 4 1 (a.rotSlot / 10) ||| bitW 5 (a.rot == .sliceCal || a.rot == .takeBack) |||
  at_ 8 4 (a.rotSpare % 12) ||| at_ 16 16 a.rotSteps

/-- ADC_SEQ_STAT. -/
def State.seqStat (s : State) (n : Nat) : Word :=
  let q := s.seq n
  bitW 0 (q.phase == .running) ||| bitW 1 (q.phase == .delay || q.phase == .waiting) ||| bitW 2 (q.phase == .preempted) |||
  at_ 3 5 q.next ||| at_ 8 8 q.preempt ||| at_ 16 16 q.exec

def State.viewAdc (s : State) (o : Nat) : Word :=
  if o = A.ADC_SEQ_OVR then wd s.adc.ovr
  else if o = A.ADC_SLOTMAP_B0_LO then s.slotMap 0 8
  else if o = A.ADC_SLOTMAP_B0_HI then s.slotMap 8 2
  else if o = A.ADC_SLOTMAP_B1_LO then s.slotMap 10 8
  else if o = A.ADC_SLOTMAP_B1_HI then s.slotMap 18 2
  else if o = A.ADC_CAL_STAT then s.calStat
  else if o = A.ADC_STAT then
    at_ 0 2 s.adc.calsetSrc ||| bitW 8 (s.adc.nocal.getD 0 false) ||| bitW 9 (s.adc.nocal.getD 1 false)
  else if A.ADC_SEQ_STAT 0 ≤ o ∧ o < A.ADC_SEQ_STAT 16 then s.seqStat ((o - A.ADC_SEQ_STAT 0) / 4)
  else if o = A.ADC_CALSET_DATA then Map.get (fun _ => 0#32) (fld (s.reg A.ADC_CALSET_IDX) 0 10) s.adc.staging
  else if o = A.ADC_WMON_OUT then wd s.adc.wmon
  else if A.ADC_RESULT 0 0 ≤ o ∧ o < 0x32000 then
    let k := (o - A.ADC_RESULT 0 0) / 4
    s.resultWord (k / 32) (k % 32)
  else s.reg o

def State.viewCmp (s : State) (o : Nat) : Word :=
  if o = A.CMP_LIVE then wd ((List.range 16).foldl (fun m n => setBit m n (s.cmpOut n)) 0) ||| at_ 16 8 s.cmpLines
  else s.reg o

/-! ## LNK and LNKC (R148 to R150) -/

/-- Positions linked on a ring, as a bit map. -/
def State.linkedMap (s : State) (k : Nat) : Nat :=
  (s.ringCells k).foldl (fun m c => if s.linked c then setBit m (s.cellPos c) true else m) 0

/-- LNK_STAT. -/
def State.lnkStat (s : State) (k : Nat) : Word :=
  let r := s.ringSt k
  let cs := s.ringCells k
  bitW 0 (s.endSync (2 * k)) ||| bitW 1 (s.endSync (2 * k + 1)) ||| bitW 2 r.closed |||
  bitW 3 (!cs.isEmpty && cs.all fun c => (s.cell c).aligned) ||| at_ 4 4 (s.ringNr k) ||| at_ 8 5 r.brkCw ||| at_ 16 5 r.brkCcw |||
  at_ 24 5 (bitsSet 32 (s.linkedMap k)).length

def State.viewLnk (s : State) (k b : Nat) : Word :=
  let r := s.ringSt k
  let measured := r.gotEw || r.gotWe
  if b = A.LNK_STAT then s.lnkStat k
  else if b = A.LNK_TEW then wd r.tew
  else if b = A.LNK_TWE then wd r.twe
  else if b = A.LNK_TDLV then (if measured then wd (quoN (s.tdlv10 k) 10) else 0#32)
  else if b = A.LNK_TREP then (if measured then wd (quoN (s.trep10 k) 10) else 0#32)
  else if b = A.LNK_LINKED then wd (s.linkedMap k)
  else if b = A.LNK_CNT_CRC then pair16 r.crcCw r.crcCcw
  else if b = A.LNK_CNT_LATE then wd r.late
  else if b = A.LNK_CNT_ABORT then wd r.aborts
  else if b = A.LNK_CNT_MISS then wd r.missed
  else s.reg (0x40000 + 0x1000 * k + b)

/-- LNKC_PORT: DARK while the port is down or its transmitter serves no enabled ring (R146, R149). -/
def State.portWord (s : State) (p : Nat) : Word :=
  let q := s.port p
  let serves := s.serves p
  bitW 0 q.sync ||| bitW 1 q.los ||| bitW 2 q.txFault ||| bitW 3 (q.down || serves == 0x3F || !s.ringEn (serves / 2)) ||| at_ 8 6 serves |||
  at_ 16 16 q.lcerr

/-- LNKC_SUB of the spare LNKC_SUB_SEL names. -/
def State.subWord (s : State) : Word :=
  let p := fld (s.reg A.LNKC_SUB_SEL) 0 6
  wd (if s.sparePort p then s.serves p else 0x3F)

def State.viewLnkc (s : State) (o : Nat) : Word :=
  if o = A.LNKC_SUB then s.subWord
  else if o = A.LNKC_SUB_N then ~~~ s.subWord
  else if A.LNKC_PORT 0 ≤ o ∧ o < A.LNKC_PORT 34 then s.portWord ((o - A.LNKC_PORT 0) / 4)
  else s.reg o

/-! ## MOD (R174 to R176) -/

/-- The pulse and enable pins of an output now; none: high-impedance. While a pin-driving instruction is in force they drive
the levels shifted in (R459): the cells of output k are 2k and 2k + 1 (DESIGN CHOICE, log entry 96), and HIGHZ drives none of
them (DEDUCED from R456, IEEE 1149.1, log entry 96). -/
def State.lhbPins (s : State) (k : Nat) : Option (Bool × Bool) :=
  match s.pwr.scan with
  | some code => if code = 0x06 then none else some (s.pwr.cells.getD (2 * k) false, s.pwr.cells.getD (2 * k + 1) false)
  | none => some ((s.lhb k).pins ((2 * (s.now - (s.lhb k).start) / ns : Nat) : Int))

/-- The levels of an output's pins as MOD_LHB_OUT shows them. -/
def State.lhbShown (s : State) (k : Nat) : Bool × Bool := (s.lhbPins k).getD (false, false)

def State.viewLhb (s : State) (k b : Nat) : Word :=
  let l := s.lhb k
  if b = 0x14 then wd l.aper
  else if b = 0x18 then wd l.acmp
  else if b = 0x1C then bitW 0 l.pend.isSome ||| bitW 1 l.cut ||| bitW 2 l.safe ||| bitW 3 l.on ||| bitW 4 l.clamp
  else if b = 0x20 then wi (quo l.leg.acc 2)
  else if b = 0x24 then pair16 l.leg.drop l.leg.str
  else if b = 0x28 then pair16 l.leg.accClr l.cutp
  else s.reg (A.LHB k b)

def State.viewMod (s : State) (o : Nat) : Word :=
  let m := s.modu
  if o = A.MOD_STAT then at_ 0 8 (m.ovm.getD 0 0) ||| at_ 8 8 (m.ovm.getD 1 0) ||| at_ 16 8 (m.ovm.getD 2 0)
  else if o = A.MOD_TRIP_LIVE then at_ 0 8 m.lines ||| at_ 8 8 s.rawLines
  else if o = A.MOD_TRIP_LATCH then wd m.latch
  else if o = A.MOD_LHB_OUT then
    (List.range 12).foldl (fun w k => w ||| bitW k (s.lhbShown k).1 ||| bitW (k + 16) (s.lhbShown k).2) 0#32
  else if o = A.MOD_SRC then wd m.src
  else if A.LHB 0 0 ≤ o ∧ o < A.LHB 12 0 then s.viewLhb ((o - A.LHB 0 0) / 0x40) ((o - A.LHB 0 0) % 0x40)
  else s.reg o

/-! ## LPE (R185, R187, R203) -/

/-- Slots in OUT_HOLD. -/
def State.heldSlots (s : State) : List Nat := (s.loop.slots.filter fun p => p.2.st == .outHold).map (·.1)

def State.viewLpe (s : State) (o : Nat) : Word :=
  let held := s.heldSlots
  if o = A.LPE_STAT then
    bitW 0 (!held.isEmpty) ||| bitW 1 (held.any fun i => bitAt (s.sw i 0) 5) ||| at_ 16 10 held.length
  else if o = A.LPE_CAP then wd (lpeCap s.ang.div s.fmax)
  else if o = A.LPE_UNITS then let u := lpeUnits s.regs; at_ 0 11 u.1 ||| at_ 16 8 u.2
  else if o = A.LPE_SNAPSTAT then
    (match s.loop.snap with | some (q, _) => bitW 0 true ||| at_ 16 16 q | none => 0#32)
  else if o = A.LPE_ENG then bitW 0 (s.engine 0).inStep ||| bitW 1 (s.engine 1).inStep
  else if A.LPE_HOLDMAP 0 ≤ o ∧ o < A.LPE_HOLDMAP 32 then
    let w := (o - A.LPE_HOLDMAP 0) / 4
    wd (held.foldl (fun m i => if i / 32 = w then setBit m (i % 32) true else m) 0)
  else s.reg o

/-- STATE of a slot. -/
def SlotState.code : SlotState → Nat
  | .idle => 0 | .run => 1 | .outHold => 2

/-- A set-point of the slot waits for RIDE to return (R192). -/
def State.setpointWaits (s : State) (i : Nat) : Bool := s.rideWait.contains (A.SLOT i 0x40)

/-- A state word of a slot entry. -/
def slotWord (q : LoopSlot) (spw : Bool) (b : Nat) : Word :=
  if b = 0x50 then
    at_ 0 2 q.st.code ||| bitW 2 q.sath ||| bitW 3 q.satl ||| bitW 4 q.inhib ||| bitW 5 spw ||| at_ 6 2 q.hcause |||
    at_ 8 8 q.frz ||| at_ 16 16 q.holds
  else if b = 0x54 then wi q.out
  else if b = 0x58 then wi q.err
  else if b = 0x5C then wi q.intg
  else if b = 0x60 then wi q.rs1
  else if b = 0x64 then wi q.rs2
  else if 0x68 ≤ b ∧ b < 0x78 then q.notch.getD ((b - 0x68) / 4) 0#32
  else if b = 0x78 then wi q.spUsed
  else if b = 0x7C then wd q.exec
  else 0#32

/-- A word of the loop slot table as an engine's range reads it (R201, R202). -/
def State.slotRead (s : State) (e i b : Nat) : Word :=
  if !(s.engine e).inStep then 0#32
  else if 0x50 ≤ b then
    match s.loop.snap with
    | some (_, l, w) => slotWord (Map.get (fun _ => loopSlotReset) i l) (w.contains (A.SLOT i 0x40)) b
    | none => slotWord (s.slot i) (s.setpointWaits i) b
  else if b = 0x44 then ~~~ s.reg (A.SLOT i 0x40)
  else s.reg (A.SLOT i b)

/-! ## GRD (R231, R232) -/

def State.viewGrd (s : State) (o : Nat) : Word :=
  let g := s.grd
  if o = A.GRD_SBASE then wi (nearest ((3 * fld (s.reg A.GRD_VBASE) 0 20 * fld (s.reg A.GRD_IBASE) 0 20 : Nat) : Int) 2000)
  else if o = A.GRD_STAT then
    bitW 0 s.unset ||| bitW 1 g.neut ||| bitW 2 g.v0sat ||| bitW 3 g.curtOn ||| bitW 4 g.ilima ||| bitW 5 g.plima
  else if o = A.GRD_CLS_STAT then at_ 0 4 g.step ||| at_ 8 4 g.result ||| bitW 16 g.scok
  else if o = A.GRD_SC_MEAS then sat16At 0 (quo (g.da * 36000) (2 ^ 32)) ||| sat16At 16 (quo (g.dv * 1000) 0x10000000)
  else if o = A.GRD_ROT_F then wi (quo (g.omega * s.fnom) 4096)
  else if o = A.GRD_ROT_PACC then wi g.pacc
  else if A.GRD_POFF 0 ≤ o ∧ o < A.GRD_POFF 3 then wi (g.poff.getD ((o - A.GRD_POFF 0) / 4) 0)
  else if o = A.GRD_IMB_A then wi g.imbA
  else if A.GRD_CURT 0 ≤ o ∧ o < A.GRD_CURT 3 then wi (g.curt.getD ((o - A.GRD_CURT 0) / 4) 0)
  else if o = A.GRD_V0 then wi g.v0
  else s.reg o

/-! ## BPT (R246, R260, R261) -/

/-- STATE of a tracker. -/
def TrkState.code : TrkState → Nat
  | .off => 0 | .queued => 1 | .start => 2 | .track => 3 | .global => 4 | .curtailed => 5 | .frozen => 6

def State.viewBpt (s : State) (o : Nat) : Word :=
  let b := s.bpt
  let shows := fun (f : TrkState → Bool) => s.usedCells.any fun c => f (s.trkState c)
  if o = A.BPT_STAT then
    bitW 0 (shows fun t => t == .queued || t == .start) ||| bitW 1 (b.gsw && s.modes.cur.within 0x70) |||
    bitW 2 (shows fun t => t == .curtailed) ||| bitW 3 b.headLow ||| bitW 4 (b.cells.any fun p => p.2.lehr.isSome)
  else if o = A.BPT_HEAD_DIS then wi b.headDis
  else if o = A.BPT_HEAD_CHG then wi b.headChg
  else if o = A.BPT_EAVAIL then wd b.eavail
  else if o = A.BPT_DISP then wi b.disp
  else if o = A.BPT_CNT then pair16 b.subs b.subFail
  else if o = A.BPT_HIST_T_LO then loW b.histT
  else if o = A.BPT_HIST_T_HI then hiW b.histT
  else s.reg o

/-- A word of a tracker entry. A cell that is not ACTIVE, or has no tracker, shows OFF. -/
def State.trackerRead (s : State) (c b : Nat) : Word :=
  let t := s.trk c
  let st := (s.trkState c).code
  if b = 0x00 then
    at_ 0 4 st ||| bitW 4 t.histu ||| bitW 5 t.up ||| bitW 6 t.void ||| bitW 7 t.rev ||| at_ 8 5 t.swpt ||| at_ 13 3 t.run
  else if b = 0x04 then pair16 (if bitAt (s.cw c 0) 31 then s.vtgtOf c else 0) t.step
  else if b = 0x08 then pair16 t.vbest t.vctr
  else if b = 0x0C then wi t.pbest
  else if b = 0x10 then wi t.pmeas
  else if b = 0x14 then wi t.offer
  else if b = 0x18 then wi t.share
  else if b = 0x1C then at_ 0 24 t.eavail ||| bitW 24 t.lehr.isSome ||| bitW 25 t.rsv
  else if b = 0x20 then pair16 (min (t.paff / 10) 65535) (min (t.paffc / 10) 65535)
  else if b = 0x24 then wd t.hage
  else if b = 0x28 then pair16 t.sweeps t.jumps
  else if b = 0x2C then wd t.steps
  else 0#32

/-! ## RTI (R287, R288) -/

/-- TIME of RTI_RIDE, ms. -/
def State.rideMs (s : State) : Nat := if s.modes.cur = .ride then (s.now - s.rti.rideT) / ms 1 else s.rti.rideMs

/-- The unit works in FOLLOW, or in RIDE entered from it. -/
def State.followish (s : State) : Bool := s.modes.cur == .follow || (s.modes.cur == .ride && s.modes.rideFrom == .follow)

/-- RTI_PCEIL. -/
def State.pceilNow (s : State) : Int :=
  let p := min (s.ureg A.GRD_PLIM).toInt s.rti.pceil
  if s.rti.armed then p else min p (puFrac 20 100)

/-- PREARM: the limit of 0.20 pu before arming binds. -/
def State.prearm (s : State) : Bool :=
  !s.rti.armed && s.followish && s.grd.plima && 
  decide (puFrac 20 100 ≤ min (s.ureg A.GRD_PLIM).toInt (if s.modes.cur == .ride then min s.rti.pceil s.pCap else s.rti.pceil))

/-- RTI_STAT. -/
def State.rtiStat (s : State) : Word :=
  bitW 0 s.rti.armed ||| bitW 1 s.rti.isl ||| bitW 2 s.prearm ||| bitW 3 s.rti.recov.isSome ||| bitW 4 (s.rti.sigOn && !s.rti.chipOk) |||
  bitW 5 s.reconNow ||| bitW 6 (s.rti.act.isSome && valuesOk s.pw (s.fnom * 100))

/-- RTI_PSEL. -/
def State.pselWord (s : State) : Word :=
  at_ 0 3 s.psel ||| at_ 4 3 (s.rti.act.getD 0) ||| at_ 8 8 ((List.range 8).foldl (fun m p => setBit m p (s.profValid p)) 0) |||
  bitW 16 s.selOk ||| bitW 17 (s.usable 0xA0 && s.rti.act != some s.psel)

def State.viewRti (s : State) (o : Nat) : Word :=
  let r := s.rti
  let thou := fun (x : Int) => min (quo (x * 1000) 0x10000000).toNat 65535
  if o = A.RTI_STAT then s.rtiStat
  else if o = A.RTI_PSEL then s.pselWord
  else if o = A.RTI_PEDIT_ST then
    bitW 0 r.edit.isSome ||| at_ 4 3 (r.edit.getD (r.busy.getD 0)) ||| bitW 8 r.busy.isSome ||| at_ 16 8 r.lastStat.code
  else if o = A.RTI_ULOW then pair16 (thou r.ulow) (thou r.uhigh)
  else if o = A.RTI_RIDE then at_ 0 24 (min s.rideMs 0xFFFFFF) ||| at_ 24 4 r.cause
  else if o = A.RTI_RIDE_CNT then pair16 r.rides r.latches
  else if o = A.RTI_FREQ then wd r.freq
  else if o = A.RTI_ROCOF then wi r.rocof
  else if o = A.RTI_TRIPWHY then at_ 0 4 r.tripWhy
  else if o = A.RTI_SIG_STAT then at_ 0 6 r.seed ||| at_ 8 6 r.chipPos ||| at_ 16 6 r.validN
  else if o = A.RTI_ZMAG then wi r.zmag
  else if o = A.RTI_ZANG then r.zang
  else if o = A.RTI_PCEIL then wi s.pceilNow
  else if o = A.RTI_ISLWHY then at_ 0 4 r.islWhy
  else s.reg o

/-! ## ENGA, ENGB and GAF (R310 to R313) -/

/-- STATE of an engine. -/
def EngState.code : EngState → Nat
  | .off => 0 | .test => 1 | .load => 2 | .sync => 3 | .standby => 4 | .active => 5 | .fenced => 6 | .halted => 7

/-- ENGx_STAT. -/
def State.engStat (s : State) (e : Nat) : Word :=
  let q := s.engine e
  at_ 0 4 q.st.code ||| bitW 4 q.inStep ||| bitW 5 (s.gaf.holder == some e) ||| bitW 6 q.tx ||| bitW 7 q.lead ||| at_ 8 1 q.slot |||
  bitW 9 s.gaf.verDiff ||| bitW 10 q.clkBk

def State.viewEng (s : State) (e b : Nat) : Word :=
  let q := s.engine e
  if b = A.ENG_STAT then s.engStat e
  else if b = A.ENG_VER then q.ver
  else if b = A.ENG_FAULT then at_ 0 8 q.cause ||| at_ 16 16 q.faultSeq
  else if b = A.ENG_LOAD then pair16 q.load.1 q.load.2
  else if b = A.ENG_OVR then at_ 0 16 q.ovr ||| at_ 16 8 q.consec
  else if b = A.ENG_SYNC then pair16 q.syncMs q.rejoins
  else if b = A.ENG_HB then wd q.hb
  else s.reg (A.ENG e b)

/-- A heartbeat of an engine within the last 2.0 ms. -/
def State.beating (s : State) (e : Nat) : Bool :=
  match (s.engine e).hbSent with | some t => decide (s.now ≤ t + ms 2) | none => false

/-- GAF_STAT. -/
def State.gafStat (s : State) : Word :=
  let g := s.gaf
  at_ 0 2 (match g.holder with | some e => e + 1 | none => 0) ||| bitW 2 g.guard.isSome ||| bitW 3 g.frozen ||| bitW 4 s.forcingNow |||
  bitW 5 (s.beating 0) ||| bitW 6 (s.beating 1) ||| bitW 7 ((s.engine 0).inStep && (s.engine 1).inStep) ||| bitW 8 s.testDue |||
  at_ 12 4 g.why

def State.viewGaf (s : State) (o : Nat) : Word :=
  let g := s.gaf
  if o = A.GAF_STAT then s.gafStat
  else if o = A.GAF_LEASE then
    at_ 0 12 (if g.holder.isSome then (g.lease - s.now) / us 1 else 0) |||
    at_ 16 8 (match g.guard with | some t => (t - s.now) / us 1 | none => 0)
  else if o = A.GAF_SWCNT then pair16 g.forced g.others
  else if o = A.GAF_SW_T_LO then loW g.swT
  else if o = A.GAF_SW_T_HI then hiW g.swT
  else if o = A.GAF_TEST then g.test
  else if o = A.GAF_TEST_A_LO then loW g.testA
  else if o = A.GAF_TEST_A_HI then hiW g.testA
  else if o = A.GAF_TEST_B_LO then loW g.testB
  else if o = A.GAF_TEST_B_HI then hiW g.testB
  else if o = A.GAF_IMG_STAT then bitW 0 (s.slotValid 0) ||| bitW 1 (s.slotValid 1) ||| bitW 4 g.alt
  else if o = A.GAF_IMG0_VER then (if s.slotValid 0 then (s.imgSlot 0).version else 0#32)
  else if o = A.GAF_IMG1_VER then (if s.slotValid 1 then (s.imgSlot 1).version else 0#32)
  else s.reg o

/-! ## SAF (R340 to R343) -/

/-- SAF_GRP_STAT. H and L show how the switches read at the last tick or check (DEDUCED, log entry 237). -/
def Group.word (q : Group) : Word :=
  bitW 0 q.cmd ||| bitW 1 q.rdH ||| bitW 2 q.rdL ||| bitW 3 q.fba ||| bitW 4 q.fbb ||| at_ 5 2 q.conf ||| bitW 7 q.fbFail |||
  bitW 8 q.tFail ||| at_ 16 16 q.skip

/-- SAF_SIP_STAT. -/
def Sip.word (q : Sip) : Word :=
  bitW 0 q.a ||| bitW 1 q.b ||| bitW 2 q.run ||| bitW 3 (q.disc || q.cross) ||| bitW 4 q.disc ||| bitW 5 q.cross ||| bitW 6 q.arm |||
  at_ 16 11 q.cnt

/-- SAF_SEAL. -/
def State.sealWord (s : State) : Word :=
  (List.range 8).foldl (fun w k => w ||| bitW k (s.seal k).val ||| bitW (8 + k) (s.seal k).bad) (at_ 16 8 s.saf.sealNo ||| at_ 24 8 s.saf.sealNc)

def State.viewSaf (s : State) (o : Nat) : Word :=
  let q := s.saf
  if o = A.SAF_STAT then
    bitW 0 q.xOk ||| bitW 1 q.yOk ||| bitW 2 q.link ||| bitW 3 s.permit ||| bitW 4 s.stopDemand ||| bitW 5 (s.clock.sync == .ptp)
  else if o = A.SAF_LATCH then wd q.latch
  else if A.SAF_GRP_STAT 0 ≤ o ∧ o < A.SAF_GRP_STAT 4 then (s.group ((o - A.SAF_GRP_STAT 0) / 4)).word
  else if o = A.SAF_SEAL then s.sealWord
  else if o = A.SAF_SI_LIVE then
    (List.range 4).foldl (fun w l => w ||| bitW (16 + l) (s.usable 0xC0 && !decide (s.now + us 100 < q.tpUntil.getD l 0))) (at_ 0 16 q.si)
  else if A.SAF_SIP_STAT 0 ≤ o ∧ o < A.SAF_SIP_STAT 8 then (s.sip ((o - A.SAF_SIP_STAT 0) / 4)).word
  else if o = A.SAF_IT_STAT then
    bitW 0 s.permOk ||| bitW 16 (s.usable 0xC1 && s.netSilent 0) ||| bitW 17 (s.usable 0xC1 && s.netSilent 1) |||
    at_ 8 8 ((List.range 8).foldl (fun m i => setBit m i (s.source i).blocked) 0)
  else if o = A.SAF_IT_CNT_A then pair16 (q.itCnt.getD 0 (0, 0)).1 (q.itCnt.getD 0 (0, 0)).2
  else if o = A.SAF_IT_CNT_B then pair16 (q.itCnt.getD 1 (0, 0)).1 (q.itCnt.getD 1 (0, 0)).2
  else if o = A.SAF_IT_CNT_P then pair16 q.itDis q.itUnp
  else if o = A.SAF_IT_VER then 0x0101#32
  else s.reg o

/-! ## HST and QUE (R353, R370, R371) -/

/-- First pages of the blocks of DEV_READY_MAP, by bit. -/
def mapPages : List Nat :=
  [0x01, 0x02, 0x10, 0x11, 0x12, 0x20, 0x30, 0x32, 0x50, 0x60, 0x70, 0x80, 0x90, 0xA0, 0xB0, 0xB1, 0xB8, 0xC0,
   0xD0, 0xD1, 0xD2, 0xD3, 0xD8, 0xE0, 0xF0, 0xF8, 0x00]

def State.viewHst (s : State) (h b : Nat) : Word :=
  if b = A.HST_ID then at_ 0 2 h ||| bitW 4 (decide (2 ≤ h)) ||| bitW 5 (s.hosts.link.getD h false)
  else if b = A.HST_VER then setFld (s.reg (A.HST h b)) 16 8 (s.hosts.sel.getD h 0)
  else if b = A.HST_VCAP then at_ 0 8 s.vcap.1 ||| at_ 8 8 s.vcap.2
  else if (b = A.HST_CLAIM_LO ∨ b = A.HST_CLAIM_HI) ∧ s.ready (18 + h) = false then 0#32
  else if b = A.HST_CLAIM_LO then
    (mapPages.zipIdx).foldl (fun w p => w ||| bitW p.2 (s.owns h p.1)) 0#32
  else if b = A.HST_CLAIM_HI then (List.range 16).foldl (fun w k => w ||| bitW k (s.owns h (0x40 + k))) 0#32
  else if 0x60 ≤ b ∧ b < 0x80 then
    let w := (b - 0x60) / 4
    pair16 (s.ev.lossOf h (2 * w)) (s.ev.lossOf h (2 * w + 1))
  else if b = A.HST_EVTAG then at_ 0 16 (s.ev.tag.getD h 0)
  else s.reg (A.HST h b)

/-- QUE_STAT: enabled rings, and ring space in no enabled ring; 0 until QUE is ready (R51, R371). -/
def State.queStat (s : State) : Word :=
  let on := s.ev.rings.filter (·.en)
  if s.ready 22 then at_ 0 7 on.length ||| at_ 16 16 ((0x2000000 - nsum (on.map Ring.bytes)) / 1024) else 0#32

def State.viewQue (s : State) (o : Nat) : Word :=
  let p := s.ev.log
  if o = A.QUE_STAT then s.queStat
  else if o = A.QUE_LOG_STAT then at_ 0 10 p.next ||| at_ 12 4 (p.places s.now) ||| at_ 16 6 p.queue.length ||| bitW 24 p.wrapped
  else if o = A.QUE_LOG_LOST then wd p.lost
  else if o = A.QUE_LOG_SEQ then wd p.seq
  else if A.QUE_RING_CFG 0 ≤ o ∧ o < A.QUE_RING_CFG 64 then
    let (n, b) := ringReg o
    let r := s.hw n
    if b = 0 then at_ 0 4 r.size ||| at_ 4 2 r.type ||| bitW 6 r.en ||| bitW 7 r.ien ||| at_ 8 6 r.pair ||| at_ 16 2 (s.ringOwner n)
    else if b = 4 then wd r.base else if b = 8 then wd r.head else wd r.tail
  else s.reg o

/-! ## NET, REC and MEM (R380, R382, R388, R389, R406, R407) -/

/-- NET_PTP_STAT, GM and MPD of the port followed. -/
def State.ptpMaster (s : State) : Option Master := s.masterOf s.net.port

def State.viewSub (s : State) (n b : Nat) : Word :=
  let q := s.sub n
  if b = 0x14 then q.value
  else if b = 0x18 then
    bitW 0 q.valid ||| bitW 1 q.talExp ||| bitW 2 q.test ||| at_ 16 16 (match q.num with | some x => x.1 | none => 0)
  else if b = 0x1C then q.last
  else s.reg (A.NET_SUB n b)

def State.viewNet (s : State) (o : Nat) : Word :=
  let n := s.net
  if o = A.NET_STAT then at_ 0 4 n.link ||| bitW 4 (n.prpOk.getD 0 false) ||| bitW 5 (n.prpOk.getD 1 false)
  else if o = A.NET_PRP_CNT then at_ 0 16 n.dup
  else if o = A.NET_PTP_STAT then
    at_ 0 3 n.ptp ||| at_ 4 1 n.port |||
    (match s.ptpMaster with | some m => at_ 8 8 m.cls ||| at_ 16 16 m.utc | none => 0#32)
  else if o = A.NET_PTP_GM_LO then (match s.ptpMaster with | some m => loW m.gm | none => 0#32)
  else if o = A.NET_PTP_GM_HI then (match s.ptpMaster with | some m => hiW m.gm | none => 0#32)
  else if o = A.NET_PTP_MPD then wd (n.delay.getD n.port 0)
  else if A.NET_PORT_CNT 0 ≤ o ∧ o < A.NET_PORT_CNT 4 then
    let c := n.cnt.getD ((o - A.NET_PORT_CNT 0) / 4) (0, 0)
    pair16 c.1 c.2
  else if o = A.NET_PRO_CNT then pair16 n.malf n.other
  else if A.NET_SUB 0 0 ≤ o then s.viewSub ((o - A.NET_SUB 0 0) / 32) ((o - A.NET_SUB 0 0) % 32)
  else if A.NET_PUB 0 0 ≤ o then
    let k := (o - A.NET_PUB 0 0) / 64
    let b := (o - A.NET_PUB 0 0) % 64
    if b = 0x34 then wd (s.pub k).stNum else if b = 0x38 then wd (s.pub k).sqNum else s.reg o
  else s.reg o

/-- DEPTH, ms: what the recorder memory holds at the present frame rate; 0 while there is none (R394, log entry 23). -/
def Recorder.depth (r : Recorder) : Nat := if r.rate = 0 then 0 else 134217728 * 1000 / r.rate

def State.viewRec (s : State) (o : Nat) : Word :=
  let r := s.reco
  if o = A.REC_STAT then bitW 0 r.opened.isSome ||| at_ 1 3 r.held.length ||| at_ 16 16 (min r.depth 65535)
  else if o = A.REC_CNT then pair16 r.missed r.unsent
  else if o = A.REC_TRIGMASK then s.reg o ||| bitW 1 true
  else if A.REC_HVER 0 ≤ o ∧ o < A.REC_HVER 4 then setFld (s.reg o) 16 8 (r.sel.getD ((o - A.REC_HVER 0) / 4) 0)
  else s.reg o

/-- The MEM page. BUSY of MEM_CI_STAT stands too from MEM ready until a boot apply that is to come has ended (DEDUCED, log entry 226). -/
def State.viewMem (s : State) (o : Nat) : Word :=
  let m := s.mem
  if o = A.MEM_ECC_SRAM then pair16 m.sramC m.sramU
  else if o = A.MEM_ECC_DRAM then pair16 m.dramC m.dramU
  else if o = A.MEM_UE_ADDR then m.ue
  else if o = A.MEM_FLASH_STAT then bitW 0 m.flashFail ||| bitW 1 (m.ciOp.isSome || s.adc.calsetBusy || s.rti.busy.isSome)
  else if o = A.MEM_CI_STAT then bitW 0 (m.ciOp.isSome || (m.bootPend && s.ready 25)) ||| at_ 8 8 m.ciLast.code ||| at_ 16 16 m.ciFail
  else if o = A.MEM_CI_VALID then
    (m.ci.zipIdx).foldl (fun w p => w ||| bitW p.2 p.1.valid ||| (if p.1.valid then at_ (16 + 2 * p.2) 2 p.1.type else 0#32)) 0#32
  else s.reg o

/-! ## The register space -/

/-- A page of the list of R28. -/
def listed (page : Nat) : Bool := !(rowsOf page).isEmpty

/-- A register of a page beyond the common header, as its block drives it or holds it. A write-only register reads 0, and
the second word of a complement pair reads the complement. -/
def State.blockWord (s : State) (o : Nat) : Word :=
  let page := o / 0x1000
  if page < 0x60 then
    if page = 0 then s.viewDev o else if page = 1 then s.viewLcy o else if page = 2 then s.viewDbg o
    else if page = 0x10 then s.viewClk o else if page = 0x11 then s.viewRail o else if page = 0x12 then s.viewSen o
    else if page = 0x20 then s.viewAng o else if page = 0x30 ∨ page = 0x31 then s.viewAdc o else if page = 0x32 then s.viewCmp o
    else if page = 0x50 then s.viewLnkc o else s.viewLnk (page - 0x40) (o % 0x1000)
  else
    if page = 0x60 then s.viewMod o else if page = 0x70 then s.viewLpe o else if page = 0x80 then s.viewGrd o
    else if page = 0x90 then s.viewBpt o else if page = 0xA0 then s.viewRti o
    else if page = 0xB0 ∨ page = 0xB1 then s.viewEng (page - 0xB0) (o % 0x1000)
    else if page = 0xB8 then s.viewGaf o else if page = 0xC0 ∨ page = 0xC1 then s.viewSaf o
    else if page = 0xD8 then s.viewQue o else if page = 0xE0 then s.viewNet o else if page = 0xF0 then s.viewRec o
    else if page = 0xF8 then s.viewMem o else s.viewHst (page - 0xD0) (o % 0x1000)

/-- The access class of a written register. -/
def clsAt (o : Nat) : Option Cls := (rowAt o).map (·.cls)

/-- A register beyond the header of a page: a block that is not usable shows its reset values (R51). -/
def State.pageWord (s : State) (o : Nat) : Word :=
  let page := o / 0x1000
  let s1 := if s.usable page then s else s.wiped
  if clsAt o = some .wo then 0#32
  else if clsAt o = none ∧ clsAt (o - 4) = some .rwc then ~~~ s1.blockWord (o - 4)
  else s1.blockWord o

/-- READY of a page. -/
def State.pageReady (s : State) (page : Nat) : Bool :=
  match lnkRing page with
  | some k => (s.ringSt k).ready
  | none => s.usable page

/-- The level of a digital observe pin; none while it is high-impedance (R453, R461). The phase of a clock and the width of a
pulse are open where R461 gives none (log entry 229). -/
def State.dobPin (s : State) (n : Nat) : Option Bool :=
  let code := fld (s.reg (A.DBG_DOB n)) 0 8
  let idx := fld (s.reg (A.DBG_DOB n)) 8 6
  if !s.live then none
  else if code = 0x00 then some false
  else if code = 0x01 then some (s.ang.beats && decide (2 * (s.now - s.ang.began) < 5 * ns))
  else if code = 0x02 then some (s.modu.lines.testBit idx)
  else if code = 0x03 then some (s.rawLines.testBit idx)
  else if code = 0x04 then some ((List.range 16).any fun c => s.cmpCircuit c == idx && s.cmpOut c)
  else if code = 0x05 then some ((s.adc.seqs[idx]?.map (·.phase)) == some .running)
  else if code = 0x06 then
    some ((List.range 20).any fun k => (s.svc k).conv.isSome && decide ((s.svc k).slice + 12 * (k / 10) = idx))
  else if code = 0x07 ∨ code = 0x0A ∨ code = 0x0B then some (Config.observe code idx s.now)
  else if code = 0x08 then
    some (match (s.engine idx).hbSent with | some t => Config.observePulse code (s.now - t) | none => false)
  else if code = 0x09 then some (s.gaf.holder == some 0)
  else if code = 0x0C then some (s.railSwitches idx).1
  else if code = 0x0D then some (s.safOn && Config.observePulse code (s.now - s.saf.tickAt))
  else if code = 0x0E then some (decide (s.devNs % 1000000000 < 1000))
  else none

/-- HP_2_INT and HP_3_INT: the pin of a quad-SPI host is high unless its page interrupt is asserted or a ring it owns, which
the device fills, with IEN = 1, is not empty (R350). -/
def State.hpInt (s : State) (h : Nat) : Bool :=
  !(s.pageIrq s.ev h ||
    (List.range 64).any fun n =>
      let r := s.hw n
      s.ringOwner n == h && r.en && r.ien && r.type != 0 && r.head != r.tail)

/-- OR of the four hosts' flags of a page. -/
def State.irqRaw (s : State) (page : Nat) : Word :=
  s.ev.flags 0 page ||| s.ev.flags 1 page ||| s.ev.flags 2 page ||| s.ev.flags 3 page

/-- The common header (R12). -/
def State.headerWord (s : State) (h page b : Nat) : Word :=
  let holder := s.holderOf page
  if b = 0x00 then at_ 16 16 0x9384 ||| at_ 0 12 (blockOf page)
  else if b = 0x04 then (Config.blockVersion (blockOf page)).setWidth 32
  else if b = 0x08 then bitW 0 (!s.fusedPage page)
  else if b = 0x0C then bitW 0 (s.pageReady page)
  else if b = 0x14 then bitW 0 (s.irqRaw page != 0#32) ||| bitW 1 holder.isSome ||| bitW 2 (holder == some h)
  else if b = 0x18 then s.irqRaw page
  else if b = 0x1C then s.win h (page * 0x1000 + 0x1C)
  else if b = 0x20 then s.ev.flags h page &&& s.irqEn h page
  else if b = 0x24 then
    at_ 0 2 (holder.getD 0) ||| bitW 2 holder.isSome |||
    bitW 3 (s.keyed h page)
  else if b = 0x28 then s.win h (page * 0x1000 + 0x28)
  else 0#32

/-! ## The tables (R29, R81, R143, R155, R185, R236, R246, R266) -/

/-- A word of a cell table entry that the device drives. -/
def State.cellState (s : State) (c b : Nat) : Word :=
  let q := s.cell c
  let m := s.cmod c
  if b = 0x10 then
    at_ 0 4 q.st.code ||| at_ 4 2 q.proto ||| bitW 6 q.cw ||| bitW 7 q.ccw ||| at_ 8 4 q.reason
  else if b = 0x14 then loW q.seen
  else if b = 0x18 then hiW q.seen
  else if b = 0x1C then pair16 q.miss q.crcErr
  else if b = 0x20 then at_ 0 20 q.dlyE
  else if b = 0x24 then at_ 0 20 q.dlyW
  else if b = 0x44 then wi m.leg0.acc
  else if b = 0x48 then wi m.leg1.acc
  else if b = 0x4C then pair16 m.leg0.drop m.leg1.drop
  else if b = 0x50 then pair16 m.leg0.str m.leg1.str
  else if b = 0x54 then pair16 m.leg0.accClr m.leg1.accClr
  else if b = 0x58 then at_ 0 16 m.cutb
  else if 0xC0 ≤ b ∧ b < 0xE0 then wd (byteFld q.last (b - 0xC0) 4)
  else 0#32

/-- A word of a table. -/
def State.tableWord (s : State) (o : Nat) : Word :=
  if o < 0x1018000 then
    (if cellRo (o % 0x100) then s.cellState ((o - 0x1000000) / 0x100) (o % 0x100) else s.reg o)
  else if 0x1100000 ≤ o ∧ o < 0x1120000 then s.slotRead 0 ((o - 0x1100000) / 0x80) (o % 0x80)
  else if 0x1180000 ≤ o ∧ o < 0x11A0000 then s.slotRead 1 ((o - 0x1180000) / 0x80) (o % 0x80)
  else if 0x1200000 ≤ o ∧ o < 0x1204000 then s.reg o
  else if 0x1300000 ≤ o ∧ o < 0x1306000 then s.trackerRead ((o - 0x1300000) / 0x40) (o % 0x40)
  else if 0x1400000 ≤ o ∧ o < 0x1402000 then Map.get (fun _ => 0#32) ((o - 0x1400000) / 4) s.rti.store
  else 0#32

/-- The second word of a complement pair that begins at an offset: 4 bytes on, in the profile store 0x200. -/
def pairEnd (o : Nat) : Nat := if o < 0x1400000 then o + 4 else o + 0x200

/-- A word a corruption has left in a complement pair (R400). -/
def State.corrupted (s : State) (o : Nat) : Option Word :=
  match s.mem.corrupt.find? fun p => p.1 == o || pairEnd p.1 == o with
  | some p => some (if p.1 = o then p.2.1 else p.2.2)
  | none => none

/-- A word of the host window as it reads, without what the read itself does. -/
def State.readWord (s : State) (h o : Nat) : Word :=
  match s.corrupted o with
  | some w => w
  | none =>
    if 0x1000000 ≤ o then
      (if s.usable (pageOf o) then s.tableWord o else s.wiped.tableWord o)
    else if !listed (o / 0x1000) then 0#32
    else if o % 0x1000 < 0x40 then s.headerWord h (o / 0x1000) (o % 0x1000)
    else s.pageWord o

/-! ## What a read does (R7, R448, R463) -/

/-- Low words whose read latches the upper word above them (R7; DEDUCED, log entry 101). -/
def wideLow : List Nat :=
  [A.DEV_MODE_T_LO, A.ANG_BSTART_LO, A.DEVTIME_LO, A.BPT_HIST_T_LO, A.GAF_SW_T_LO, A.GAF_TEST_A_LO, A.GAF_TEST_B_LO,
   A.SEN_RTC_LO, A.SEN_GAP_FROM_LO, A.SEN_GAP_TO_LO, A.NET_MAC_LO, A.NET_PTP_GM_LO]

/-- The upper words that a read of a low word latches: those of LCY_KEYHASH, of a cell's serial numbers, and of the pairs. -/
def upperWords (o : Nat) : List Nat :=
  if o = A.LCY_KEYHASH 0 then (List.range 11).map fun i => A.LCY_KEYHASH (i + 1)
  else if wideLow.contains o || dstHigh (o + 4) ||
      (decide (0x1000000 ≤ o) && decide (o < 0x1018000) && (o % 0x100 == 8 || o % 0x100 == 0x14)) then [o + 4]
  else []

/-- A read of a word by a host: the state it leaves, the word, and the status of the access. -/
def State.hostRead (s : State) (h o : Nat) : State × Word × Status :=
  let k := winKey h o
  let w := s.readWord h o
  if o = A.DBG_ENG_DATA ∧ (s.engine s.dbgEngine).st ≠ .halted then (s.refuse h 2 o .notReady, 0#32, .notReady)
  else if o = A.SEN_STAT then (s.modSen fun q => { q with cellFlt := false }, w, .ok)
  else if upperWords o ≠ [] then
    ({ s with hosts := { s.hosts with
        latched := (upperWords o).foldl (fun l u => Map.insert (winKey h u) (s.readWord h u) l) s.hosts.latched } }, w, .ok)
  else
    match s.hosts.latched.find? fun p => p.1 == k with
    | some p => ({ s with hosts := { s.hosts with latched := Map.remove k s.hosts.latched } }, p.2, .ok)
    | none => (s, w, .ok)

end Sys2Proof.Machine
end

