-- ==== Sys2Proof/Machine/WriteOps.lean ====
section
/-! DEFINITION. Registers whose write does or checks more than its row says, block by block. -/

namespace Sys2Proof.Machine

/-! ## Stores -/

/-- Store a word the comparators use: at once while no beats run (R24, R112). -/
def State.putCmp (s : State) (o : Nat) (v : Word) : State :=
  if s.ang.beats then s.putReg o v else (s.putBoth o v).cmpFollow s.cmpShown

/-- The rotor's reference a set-point register sets, as a bit of `chase`. -/
def formBit (o : Nat) : Nat :=
  if o = A.GRD_FORM_P then 1 else if o = A.GRD_FORM_V then 2 else if o = A.GRD_FORM_Q then 4 else 0

/-- Store a set-point: one accepted in RIDE is not used until RIDE has returned (R59, R192, R233, R262), and one of the
rotor's is followed from then on (R221). -/
def State.putSet (s : State) (o : Nat) (v : Word) : State :=
  let s1 := (s.putReg o v).modGrd fun g => { g with chaseNext := g.chaseNext ||| formBit o }
  if s.modes.cur = .ride ∧ !s.rideWait.contains o then { s1 with rideWait := o :: s1.rideWait } else s1

/-! ## ANG (R78, R79, R86) -/

/-- A division and band pass the checks of R23, R136, R181 and R190, and the carrier fits the division (R175). -/
def State.bandFits (s : State) (div fmin fmax : Nat) : Bool :=
  ((List.range 16).all fun k => !s.ringEn k || s.ringFits k div fmax) && notchesFit s.regs div fmin &&
  decide ((lpeUnits s.regs).1 ≤ lpeCap div fmax)

/-- A band holds FMIN < FNOM < FMAX inside 40.00 to 72.00 Hz. -/
def bandOk (fnom fmin fmax : Nat) : Bool :=
  decide (4000 ≤ fmin) && decide (fmin < 100 * fnom) && decide (100 * fnom < fmax) && decide (fmax ≤ 7200)

/-- A write of ANG_CFG: a change of FNOM takes the band to its default for that frequency (R87). It is refused where that
band fails the checks a write of ANG_FBAND is held to (DESIGN CHOICE, log entry 87). -/
def State.angCfg (s : State) (h o : Nat) (v : Word) (r : Row) : Acc :=
  let swap := bitAt v 0 != bitAt (s.reg o) 0
  let band := if bitAt v 0 then 0x19C81518#32 else 0x157C1194#32
  let div := fld (s.reg A.ANG_DIV) 0 11
  let fits := !swap || s.bandFits div (fld band 0 16) (fld band 16 16)
  s.judged (s.common h 0x20 r.modes (r.ok v) ++ [(!fits, .badArg)]) fun s =>
    let s1 := s.putReg o (mergeWord r.mask (s.reg o) v)
    if swap then s1.putReg A.ANG_FBAND band else s1

/-- A write of ANG_DIV: a new division waits for the crossing of 0; the one in force, written again, ends the wait of another
(DESIGN CHOICE, log entry 204). -/
def State.angDiv (s : State) (h o : Nat) (v : Word) (r : Row) : Acc :=
  let div := fld v 0 11
  let band := s.reg A.ANG_FBAND
  let fits := s.bandFits div (fld band 0 16) (fld band 16 16) && decide (4 * fld (s.reg A.MOD_CFG) 0 6 ≤ div)
  s.judged (s.common h 0x20 r.modes (r.ok v) ++ [(!fits, .badArg)]) fun s =>
    let s1 := s.putReg o (mergeWord r.mask (s.reg o) v)
    if s1.ang.beats then s1.modAng fun a => { a with divPend := div != a.div }
    else s1.modAng fun a => { a with div := div, divPend := false }

/-- A write of ANG_FBAND, judged with the DIV last written (DESIGN CHOICE, log entry 205). -/
def State.angBand (s : State) (h o : Nat) (v : Word) (r : Row) : Acc :=
  let fmin := fld v 0 16
  let fmax := fld v 16 16
  let fnom := if bitAt (s.reg A.ANG_CFG) 0 then 60 else 50
  let fits := bandOk fnom fmin fmax && s.bandFits (fld (s.reg A.ANG_DIV) 0 11) fmin fmax
  s.rwStore h o v r [(!fits, .badArg)]

/-- DEVTIME cannot be set now: PTP disciplines it, a step is outstanding (R65), or a switching mode has been decided, which
is entered with no step outstanding (R66; DESIGN CHOICE, log entry 88: the refusal is BUSY). -/
def State.timeBusy (s : State) : Bool := bitAt (s.reg A.DEVTIME_CFG) 0 || s.clock.step.isSome || s.switchingSoon

/-- A write of DEVTIME_SET_LO: the value written, with the high word written before it, less DEVTIME now is the step
(R7, R65). With no high word waiting its value is 0 (DESIGN CHOICE, log entry 80). Before beats run it applies at once. -/
def State.devtimeSet (s : State) (h : Nat) (v : Word) : Acc :=
  s.judged (s.common h 0x20 mStop true ++ [(s.timeBusy, .busy)]) fun s =>
    let t := v.toNat + 4294967296 * (s.upperOf h A.DEVTIME_SET_HI 0#32).toNat
    let ofs := (t : Int) - (s.devNs : Int)
    let s1 := s.dropUpper h A.DEVTIME_SET_HI
    if s1.ang.beats then s1.decideStep ofs .host else s1.applyStep ofs .host

/-! ## ADC and CMP (R94, R95, R101, R106, R111) -/

/-- A gather entry of a sequence in a bank: channel, gain, averaging and tag (R95). -/
def entryOk (bank : Nat) (w : Word) : Bool :=
  let ch := entChan w
  decide (ch ≤ 0x37) && chanBank ch == bank && (decide (ch < 0x30) || entGain w == 0) && inR w 9 4 0 8 &&
  (inR w 16 8 0 0x95 || inR w 16 8 0xC0 0xFF)

/-- A sequence configuration: SLOT, INJ, and TSEL for its TSRC (R94). -/
def seqCfgOk (w : Word) : Bool :=
  inR w 0 4 0 9 && inR w 5 3 0 4 &&
  (match fld w 8 2 with | 1 => inR w 10 5 0 15 | 3 => true | _ => fld w 10 5 == 0)

/-- A write of ADC_SEQ_CFG: no entry may be left in conflict, but one that still holds the reset value 0 (log entry 43). -/
def State.seqCfg (s : State) (h o : Nat) (v : Word) (r : Row) : Acc :=
  let q := (o - A.ADC_SEQ_CFG 0) / 4
  let fits := (List.range 32).all fun e => let w := s.reg (A.ADC_GATHER q e)
    (w == 0#32 && !s.adc.written.contains (32 * q + e)) || entryOk (fld v 4 1) w
  s.rwStore h o v r [(!(seqCfgOk v && fits), .badArg)]

/-- A write of a gather entry; a reserved field that is not zero refuses it. -/
def State.gatherWrite (s : State) (h o : Nat) (v : Word) (r : Row) : Acc :=
  let q := (o - A.ADC_GATHER 0 0) / 0x80
  let a := s.rwStore h o v r [(v &&& ~~~ r.mask != 0#32 || !entryOk (fld (s.reg (A.ADC_SEQ_CFG q)) 4 1) v, .badArg)]
  let k := (o - A.ADC_GATHER 0 0) / 4
  if a.2 = .ok then (a.1.modAdc fun d => { d with
    dirty := k :: d.dirty, written := if d.written.contains k then d.written else k :: d.written }, .ok) else a

/-- A write of a window monitor's registers returns it to inside. -/
def State.wmonWrite (s : State) (h o : Nat) (v : Word) (r : Row) : Acc :=
  let n := (o - A.ADC_WMON_CFG 0) / 8
  let q := fld v 0 4
  let last := lastEntry (fld (s.reg (A.ADC_SEQ_CFG q)) 4 1) ((List.range 32).map fun e => s.reg (A.ADC_GATHER q e))
  let fits := o % 8 ≠ 0 || decide (fld v 4 5 ≤ last)
  let a := s.rwStore h o v r [(!fits, .badArg)]
  if a.2 = .ok then (a.1.modAdc fun d => { d with wmon := setBit d.wmon n false }, .ok) else a

/-- A write of ADC_CALSET_DATA: the staging word at the index, which advances, from 1,023 to 0 (DESIGN CHOICE, log entry 208). -/
def State.calsetData (s : State) (h : Nat) (v : Word) : Acc :=
  s.judged (s.common h 0x31 mService true) fun s =>
    let i := fld (s.reg A.ADC_CALSET_IDX) 0 10
    (s.modAdc fun a => { a with staging := Map.put (fun _ => 0#32) i v a.staging }).putReg A.ADC_CALSET_IDX (wd ((i + 1) % 1024))

/-- A completed ADC_CALSET_CMD. -/
def State.calsetCmd (s : State) (h : Nat) (vn : Word) : Acc :=
  s.rwcComplement h A.ADC_CALSET_CMD vn
    (fun v s => s.common h 0x31 mService (v != 2#32 || calsetOk s.adc.staging) ++
      [(s.adc.calsetBusy, .busy), (v == 2#32 && s.mem.flashFail, .internal)])
    fun v s =>
      let s1 := s.putReg A.ADC_CALSET_CMD v
      if v = 1#32 then s1.modAdc fun a => { a with staging := a.calset } else s1.calsetBegin

/-- A completed CMP_SUB16 or CMP_SUB17. -/
def State.cmpSub (s : State) (h o : Nat) (vn : Word) : Acc :=
  let other := if o = A.CMP_SUB16 then A.CMP_SUB17 else A.CMP_SUB16
  let i := if o = A.CMP_SUB16 then 0x36 else 0x37
  s.rwcComplement h o vn
    (fun v s => s.common h 0x32 mService true ++ [(fld v 0 5 != 0x1F && fld (s.reg other) 0 5 == fld v 0 5, .busy)])
    fun v s =>
      let s1 := s.putCmp o v
      if fld v 0 5 = 0x1F ∨ fld v 0 5 = fld (s.reg o) 0 5 then s1 else (s1.wear i).emptied_ (s.poolSum 3) 3

/-! ## LNK and LNKC (R147, R149) -/

/-- The delay-locked lines of a ring's two ends lock with the enable of their ports, and are off without it (R431; at once
within the 20 µs: DESIGN CHOICE, log entry 227). -/
def State.linesSet (s : State) (k : Nat) (on : Bool) : State :=
  (s.modPort (2 * k) fun q => { q with dll := on }).modPort (2 * k + 1) fun q => { q with dll := on }

/-- A write of LNK_CTRL: a ring with an ACTIVE cell is not taken out of use, and no probe passes round one
that is (R149). -/
def State.lnkCtrl (s : State) (h o : Nat) (v : Word) (r : Row) : Acc :=
  let k := (o - 0x40000) / 0x1000
  let live := !bitAt v 0 && (s.ringCells k).any fun c => (s.cell c).st == .active
  let a := s.rwStore h o v r [(live, .busy)]
  if a.2 ≠ .ok then a
  else if bitAt v 0 then ((if bitAt (s.reg o) 0 then a.1 else a.1.linesSet k true).judgeRing k, .ok)
  else (((a.1.linesSet k false).modRing k fun r => { r with closed := false, pass := (false, false), probing := (false, false) }).judgeRing k, .ok)

/-- The cullet member of a spare port (R35). -/
def portMember (p : Nat) : Nat := if p = 0x20 then 0x18 else if p = 0x21 then 0x19 else 0x1A + (p - 8)

/-- The selected spare takes over a port, or returns to idle; what it served before goes back to its own port. -/
def State.serve (s : State) (p t : Nat) : State :=
  let old := s.serves p
  let s1 := if old = 0x3F then s else s.modPort old fun q => { q with serves := old }
  let s2 := s1.modPort p fun q => { q with serves := t }
  let s3 := if t = 0x3F then s2 else s2.modPort t fun q => { q with serves := 0x3F }
  let again := fun (s : State) (k : Nat) => (s.modRing k fun r => { r with probeIn := 0 }).judgeRing k
  let s4 := if old = 0x3F then s3 else again s3 (old / 2)
  if t = 0x3F then s4
  else
    let s5 := again s4 (t / 2)
    if old = t then s5 else (s5.wear (portMember p)).emptied_ (s.poolSum 1) 1

/-- A completed LNKC_SUB. -/
def State.portSub (s : State) (h : Nat) (vn : Word) : Acc :=
  s.rwcComplement h A.LNKC_SUB vn
    (fun v s =>
      let p := fld (s.reg A.LNKC_SUB_SEL) 0 6
      let t := fld v 0 6
      let bad := !s.sparePort p || (t != 0x3F && s.sparePort t)
      let taken := t != 0x3F && (List.range 34).any fun q => q != p && q != t && s.serves q == t
      s.common h 0x50 mService (!bad) ++ [(taken, .busy)])
    fun v s => s.serve (fld (s.reg A.LNKC_SUB_SEL) 0 6) (fld v 0 6)

/-! ## MOD (R163, R165, R168, R174, R175) -/

/-- A modulator event: its output and offset belong to its source, and a beat offset lies within the beat at FMAX. -/
def State.mevOk (s : State) (v : Word) : Bool :=
  let src := fld v 0 3
  let lhb := fld v 4 4
  let ofs := fld v 8 24
  let cycle := fld (s.reg A.ANG_FBAND) 16 16 * fld (s.reg A.ANG_DIV) 0 11
  decide (src ≤ 3) && (if src = 1 ∨ src = 2 then decide (lhb ≤ 11) && ofs == 0
    else lhb == 0 && (if src = 3 then decide (ofs * cycle < 100000000000) else ofs == 0))

/-- A write of MOD_LHB_COMMIT: the shadow pairs of the outputs named become pending, all or none. -/
def State.lhbCommit (s : State) (h : Nat) (v : Word) : Acc :=
  let named := bitsSet 12 v.toNat
  let per := fun (k : Nat) => fld (s.reg (A.LHB k 8)) 0 22
  let good := named.all fun k =>
    let dt := s.reg (A.LHB k 4)
    decide (2000 ≤ per k) && decide (per k ≤ 4000000) && decide (2 * (fld dt 0 16 + fld dt 16 16) ≤ per k)
  s.judged (s.common h 0x60 0x1FE good) fun s =>
    named.foldl (fun s k => s.modLhb k fun l => { l with pend := some (per k, fld (s.reg (A.LHB k 0xC)) 0 22) }) s

/-- The first field of a value of two-bit fields that is 0b11. -/
def firstThree (n : Nat) (v : Word) : Nat := ((List.range n).find? fun k => fld v (2 * k) 2 == 3).getD 0

/-- A completed MOD_FORCE_LHB. It acts at the next beat start (R24). -/
def State.forceLhbs (s : State) (h : Nat) (vn : Word) : Acc :=
  s.rwcComplementAcc h A.MOD_FORCE_LHB vn (fun _ _ => []) fun v s =>
    if noThree 12 v.toNat then s.judged (s.common h 0x60 mService true) fun s => s.putReg A.MOD_FORCE_LHB v
    else (s.event 0x60 3 (firstThree 12 v), .badArg)

/-- A completed MOD_FORCE_CELL. -/
def State.forceCells (s : State) (h : Nat) (vn : Word) : Acc :=
  s.rwcComplementAcc h A.MOD_FORCE_CELL vn (fun _ _ => []) fun v s =>
    let c := fld (s.reg A.MOD_FORCE_CSEL) 0 9
    let away := (s.cell c).st == .absent || (s.cell c).st == .stale
    if noThree 2 v.toNat then
      s.judged (s.common h 0x60 mService true ++ [(v != 0#32 && c != 0x1FF && away, .notReady)]) fun s =>
        s.putReg A.MOD_FORCE_CELL v
    else (s.event 0x60 3 c [firstThree 2 v], .badArg)

/-! ## LPE (R196, R202, R203) -/

/-- A write of LPE_RELEASE. -/
def State.lpeRelease (s : State) (h : Nat) (v : Word) (r : Row) : Acc :=
  let i := fld v 0 10
  let q := s.slot i
  let held := q.st == .outHold
  s.judged (s.common h 0x70 0x1FE true ++
      [(!r.ok v, .complementMismatch), (held && q.hcause == 1 && !s.inputsOk i, .notReady)]) fun s =>
    if held then s.releaseSlot i else s

/-- A write of LPE_SNAP. -/
def State.lpeSnap (s : State) (h : Nat) (v : Word) (r : Row) : Acc :=
  let both := (s.engine 0).inStep && (s.engine 1).inStep
  let ask := v == 1#32
  s.judged (s.common h 0x70 0x1FE (r.ok v) ++
      [(ask && !both, .notReady), (ask && (s.loop.snap.isSome || s.loop.snapReq || s.loop.snapArm), .busy)]) fun s =>
    if ask then s.snapAsk else s.snapFree

/-! ## GRD and BPT (R227, R228, R245, R256) -/

/-- A completed GRD_CLOSE. -/
def State.closeCmd (s : State) (h : Nat) (vn : Word) : Acc :=
  s.rwcComplement h A.GRD_CLOSE vn (fun v s => s.common h 0x80 0x008 true ++ [(v == 1#32 && s.closing, .busy)]) fun v s =>
    let s1 := s.putReg A.GRD_CLOSE v
    if v = 1#32 then s1.closeBegin.closeRun else if s1.closing then s1.stopFrom (s1.closeAborts 3) else s1

/-- A completed BPT_STORE_P: a discharge beyond ΣPAFF, or a charge beyond ΣPAFFC, is refused with ENERGY (R251). -/
def State.storeDispatch (s : State) (h : Nat) (vn : Word) : Acc :=
  let beyond := fun (v : Word) (s : State) =>
    decide (s.plantPu (s.sumAff : Nat) 0x2805 < v.toInt) || decide (s.plantPu (s.sumAffC : Nat) 0x2806 < -v.toInt)
  s.rwcComplement h A.BPT_STORE_P vn (fun v s => s.common h 0x90 mSet true ++ [(beyond v s, .energy)])
    fun v s => s.putSet A.BPT_STORE_P v

/-- A completed BPT_SUBST. -/
def State.bptSubst (s : State) (h : Nat) (vn : Word) : Acc :=
  s.rwcComplement h A.BPT_SUBST vn
    (fun v s =>
      let f := fld v 0 9
      let p := fld v 16 9
      let st := (s.cell f).st
      let bad := (s.cell p).st != .spare || s.cellPhase p != s.cellPhase f || !(st == .active || st == .charged || st == .bypassed)
      s.common h 0x90 mService (!bad) ++ [(s.bpt.waiting.any fun w => w.phase == s.cellPhase f, .busy)])
    fun v s =>
      let f := fld v 0 9
      let was := (s.cell f).st
      let s1 := s.putReg A.BPT_SUBST v
      let s2 := if was = .active ∨ was = .charged then s1.takeOut f 8 else s1
      s2.standIn f (fld v 16 9) (if was = .active then .active else .charged)

/-! ## RTI (R268, R289) -/

/-- A commit of the staged profile is refused. -/
def State.commitStatus (s : State) (p : Nat) : Status :=
  let w := fun b => Map.get (fun _ => 0#32) (b / 4) s.rti.staging
  if s.rti.edit = none then .notReady
  else if s.rti.edit ≠ some p then .badArg
  else if !halvesOk w then .complementMismatch
  else if !valuesOk w (s.fnom * 100) then .badArg else .ok

/-- A completed RTI_PEDIT. LAST keeps the status of the last commit. -/
def State.pedit (s : State) (h : Nat) (vn : Word) : Acc :=
  s.rwcComplementAcc h A.RTI_PEDIT vn (fun _ _ => []) fun v s =>
    let cmd := fld v 0 4
    let p := fld v 8 3
    let st0 := firstOf (s.common h 0xA0 mEdit true ++
      [(cmd != 3 && s.sealClosed 3, .sealed), (cmd == 1 && (s.rti.edit.isSome || s.rti.busy.isSome), .busy),
       (cmd == 2 && s.rti.busy.isSome, .busy), (cmd == 3 && s.rti.edit.isSome && s.rti.edit != some p, .badArg)])
    let s1 := s.putReg A.RTI_PEDIT v
    if cmd = 2 then
      let st := firstOf [(st0 != .ok, st0), (s.commitStatus p != .ok, s.commitStatus p)]
      if st = .ok then (s1.commitProfile p, .ok) else (s.modRti fun r => { r with lastStat := st }, st)
    else if st0 ≠ .ok then (s, st0)
    else if cmd = 1 then (s1.modRti fun r => { r with edit := some p, staging := profWords r.store p }, .ok)
    else if s1.rti.edit.isSome then (s1.dropEdit, .ok)
    else (s1, .ok)

/-! ## Engines, Gaffer, safety (R306, R302, R317, R335, R343) -/

/-- A completed ENGx_CTRL. -/
def State.engCtrl (s : State) (h o : Nat) (vn : Word) : Acc :=
  let e := (o - 0xB0000) / 0x1000
  s.rwcComplement h o vn (fun v s => s.common h (0xB0 + e) 0x1FE true ++ s.engChecks e v) fun v s =>
    (s.putReg o v).engAct e v

/-- A completed GAF_FORCE. -/
def State.gafForce (s : State) (h : Nat) (vn : Word) : Acc :=
  s.rwcComplement h A.GAF_FORCE vn (fun _ s => s.common h 0xB8 0x1B4 true ++ s.forceChecks) fun v s =>
    (s.putReg A.GAF_FORCE v).forceStart

/-- No bit of SAF_LATCH stands and no STOP pair demands: a group may be energised (R317). -/
def State.mayEnergize (s : State) : Bool := s.saf.latch == 0 && !s.stopDemand

/-- The group of a role follows its bit of SAF_GRP_CMD: a bit written 1 energises it, in the modes that may set a bit, and a
bit cleared opens it (R317, R343). -/
def State.groupBit (s : State) (role : Nat) (old new : Bool) : State :=
  if new then (if s.mayEnergize && s.modes.cur.within 0x13C then s.groupOn (s.groupOf role) else s)
  else if old then s.groupOff (s.groupOf role) else s

/-- A completed SAF_GRP_CMD. One that sets no bit and clears none is legal where clearing is (DESIGN CHOICE, log entry 187). -/
def State.groupCmd (s : State) (h : Nat) (vn : Word) : Acc :=
  s.rwcComplement h A.SAF_GRP_CMD vn
    (fun v s => s.common h 0xC0 (if v &&& ~~~ s.reg A.SAF_GRP_CMD = 0#32 then 0x1FE else 0x13C) true)
    fun v s =>
      let old := s.reg A.SAF_GRP_CMD
      ((s.putBoth A.SAF_GRP_CMD v).groupBit 2 (bitAt old 0) (bitAt v 0)).groupBit 3 (bitAt old 1) (bitAt v 1)

/-- The condition of SAF_LATCH.TEST: a switch that is commanded off has read on for more than 5 ms. -/
def State.testCond (s : State) : Bool := s.saf.groups.any fun q => q.onH == 6 || q.onL == 6

/-- The condition of SAF_LATCH.FBDIS: a group in steady state whose mirrors do not follow. -/
def State.fbdisCond (s : State) : Bool :=
  s.saf.groups.any fun q => q.conf != 3 && !q.follows && (q.fba == q.fbb || decide (s.fbT < q.disagree))

/-- SAF_ACK: what can be cleared is cleared; NOT_READY while something stays (R335). -/
def State.acknowledge (s : State) : Acc :=
  let clear := fun (s : State) (bit : Nat) (cond : Bool) => if s.saf.latch.testBit bit && !cond then s.safClear bit else s
  let s1 := clear (clear (clear s lTest s.testCond) lFbdis s.fbdisCond) lItsup s.saf.itCond
  let s2 := { s1 with saf := { s1.saf with groups := s1.saf.groups.map fun q => { q with
    fbFail := q.fbFail && !q.follows, tFail := q.tFail && (q.onH == 6 || q.onL == 6) } } }
  let left := [lTest, lFbdis, lItsup].any (fun b => s2.saf.latch.testBit b) || s2.saf.groups.any fun q => q.fbFail || q.tFail
  (s2, if left then .notReady else .ok)

/-- A completed SAF_ACK. -/
def State.safAck (s : State) (h : Nat) (vn : Word) : Acc :=
  s.rwcComplementAcc h A.SAF_ACK vn (fun _ s => s.common h 0xC0 0x1FE true) fun v s => (s.putReg A.SAF_ACK v).acknowledge

/-- Source registers leave no two enabled sources with one identifier (R330). -/
def State.srcUnique (s : State) (o : Nat) (v : Word) : Bool :=
  let get := fun (a : Nat) => if a = o then v else s.reg a
  let ids := ((List.range 8).filter fun n => bitAt (get (A.SAF_IT_SRC_CTRL n)) 0).map fun n => get (A.SAF_IT_SRC_ID n)
  decide ids.Nodup

/-! ## Recorder, images, lifecycle (R401, R402, R404, R409) -/

/-- REC_MAXLEN is at least PRE + POST after a write of one of the three. -/
def State.recTimesOk (s : State) (o : Nat) (v : Word) : Bool :=
  let get := fun (a : Nat) => if a = o then v.toNat else (s.reg a).toNat
  decide (get A.REC_PRE + get A.REC_POST ≤ get A.REC_MAXLEN)

/-- The modes of a MEM_CI_CMD: WRITE and ERASE, or APPLY. -/
def ciModes (cmd : Nat) : Nat := if cmd = 2 then mBase else mStop

/-- A write of MEM_CI_BOOT: the boot apply is that slot's again (DEDUCED, log entry 218). -/
def State.ciBoot (s : State) (h o : Nat) (v : Word) (r : Row) : Acc :=
  let a := s.rwStore h o v r []
  if a.2 = .ok then (a.1.modMem fun m => { m with bootVoid := false }, .ok) else a

/-- A completed MEM_CI_CMD starts its operation; WRITE and ERASE erase the slot, and of the slot MEM_CI_BOOT names leave the
boot apply empty (R409). -/
def State.ciCmd (s : State) (h : Nat) (vn : Word) : Acc :=
  s.rwcComplement h A.MEM_CI_CMD vn
    (fun v s => s.common h 0xF8 (ciModes (fld v 0 4)) true ++ [(s.mem.ciOp.isSome, .busy)])
    fun v s =>
      let cmd := fld v 0 4
      let slot := fld v 4 3
      let img := if cmd = 1 then s.ev.read (s.reg A.MEM_CI_BUF).toNat (s.reg A.MEM_CI_LEN).toNat else []
      (s.putReg A.MEM_CI_CMD v).modMem fun m => { m with
        ciOp := some (cmd, slot, h, img), bootVoid := m.bootVoid || (cmd != 2 && slot == fld (s.reg A.MEM_CI_BOOT) 0 4),
        ci := if cmd = 2 ∨ m.flashFail = true then m.ci else setAt { valid := false, type := 0, bytes := [] } slot m.ci }

/-- A completed LCY_CMD. -/
def State.lcyCmd (s : State) (h : Nat) (vn : Word) : Acc :=
  s.rwcComplement h A.LCY_CMD vn
    (fun v s => s.common h 1 mService true ++ s.lcyChecks (lifecycleOf (fld v 0 2)))
    fun v s => (s.putReg A.LCY_CMD v).lcyStart (lifecycleOf (fld v 0 2))

end Sys2Proof.Machine
end

