-- ==== Sys2Proof/Machine/HostAccess.lean ====
section
/-! DEFINITION. A host's access to a word of its window and of ring space: the dispatch of a write to what it does (R13,
R14, R30, R345, R346). -/

namespace Sys2Proof.Machine

/-- A completed RW-C pair: X at `o`, with the complement written (R14). -/
def State.rwcWrite (s : State) (h o : Nat) (vn : Word) (r : Row) : Acc :=
  let page := o / 0x1000
  let plain := fun (extra : State → List (Bool × Status)) (act : Word → State → State) =>
    s.rwcComplement h o vn (fun _ s => s.common h page r.modes true ++ extra s) act
  if o = A.DEV_MODE_REQ then s.modeRequest h vn
  else if o = A.LCY_CMD then s.lcyCmd h vn
  else if o = A.DBG_SWRST then plain (fun _ => []) fun _ s => s.intoReset 5
  else if page = 0x11 then
    let c := (o - A.RAIL_VSET 0) / 0x20
    s.rwcComplement h o vn (fun v s => s.common h page r.modes (s.vsetOk c v)) fun v s => s.vset c v
  else if o = A.ADC_CALSET_CMD then s.calsetCmd h vn
  else if o = A.CMP_SUB16 ∨ o = A.CMP_SUB17 then s.cmpSub h o vn
  else if page = 0x32 then plain (fun _ => []) fun v s => s.putCmp o v
  else if o = A.LNKC_SUB then s.portSub h vn
  else if o = A.MOD_FORCE_LHB then s.forceLhbs h vn
  else if o = A.MOD_FORCE_CELL then s.forceCells h vn
  else if o = A.GRD_CLOSE then s.closeCmd h vn
  else if o = A.BPT_STORE_P then s.storeDispatch h vn
  else if o = A.GRD_PLIM ∨ o = A.GRD_FORM_P ∨ o = A.GRD_FORM_V ∨ o = A.GRD_FORM_Q ∨ o = A.BPT_PREQ then
    plain (fun _ => []) fun v s => s.putSet o v
  else if o = A.BPT_SUBST then s.bptSubst h vn
  else if o = A.RTI_PEDIT then s.pedit h vn
  else if o = A.RTI_SIG_SHIFT then plain (fun s => [(s.sealClosed 3, .sealed)]) fun v s => s.putReg o v
  else if page = 0xB0 ∨ page = 0xB1 then s.engCtrl h o vn
  else if o = A.GAF_FORCE then s.gafForce h vn
  else if o = A.GAF_BOOT then
    s.rwcComplement h o vn (fun v s => s.common h page r.modes (s.slotValid (fld v 0 1))) fun v s => s.putReg o v
  else if o = A.SAF_ACK then s.safAck h vn
  else if o = A.SAF_GRP_CMD then s.groupCmd h vn
  else if page = 0xC1 then plain (fun s => [(s.sealClosed 3, .sealed)]) fun v s => s.putReg o v
  else if o = A.MEM_CI_CMD then s.ciCmd h vn
  else plain (fun _ => []) fun v s => s.putReg o v

/-- A write of a register of the first pages: DEV to SEN. The twelve words of LCY_KEYHASH are one value: eleven wait for the
lowest, which applies them (R7). -/
def State.rwLow (s : State) (h o : Nat) (v : Word) (r : Row) : Acc :=
  let inUse := s.lcy.state.inUse
  if o = A.DEV_HOLD_REQ then (if s.wiping && v == 0xF807#32 then (s, .busy) else s.holdRequest v)
  else if o = A.DEV_HOLD_LATCH then s.latchClear h v
  else if 0x1080 ≤ o ∧ o < 0x10B0 then
    s.judged (s.common h 1 r.modes true ++ [(s.lcy.state != .blank, .lifecycle)]) fun s =>
      if o = A.LCY_KEYHASH 0 then
        ((List.range 11).foldl (fun s i => s.applyUpper h (A.LCY_KEYHASH (i + 1)) 0xFFFFFFFF#32) s).putReg o v
      else s.putUpper h o v
  else if o = A.DBG_ATB_0 ∨ o = A.DBG_ATB_1 then s.rwStore h o v r [(fld v 0 8 == 8 && inUse, .lifecycle)]
  else if 0x2060 ≤ o ∧ o < 0x2070 then s.rwStore h o v r [(fld v 0 8 == 0x0D && inUse, .lifecycle)]
  else if o = A.SEN_TAMP_CFG then
    let old := s.reg o
    let a := s.rwStore h o v r [(s.sealClosed 3, .sealed)]
    if a.2 = .ok then (a.1.tampConfig old (a.1.reg o), .ok) else a
  else if A.RAIL_CH_CFG 0 ≤ o ∧ o < 0x11180 then s.chCfgWrite h o v r
  else s.rwStore h o v r []

/-- A write of a register of the ANG, ADC and CMP pages. -/
def State.rwMeasure (s : State) (h o : Nat) (v : Word) (r : Row) : Acc :=
  if o = A.ANG_CFG then s.angCfg h o v r
  else if o = A.ANG_DIV then s.angDiv h o v r
  else if o = A.ANG_FBAND then s.angBand h o v r
  else if o = A.DEVTIME_SET_LO then s.devtimeSet h v
  else if o = A.DEVTIME_SET_HI then s.judged (s.common h 0x20 mStop true ++ [(s.timeBusy, .busy)]) fun s => s.putUpper h o v
  else if o = A.DEVTIME_CFG then s.rwStore h o v r [(s.clock.step.isSome, .busy)]
  else if o = A.ADC_SWTRIG then
    s.judged (s.common h 0x30 r.modes true) fun s =>
      (bitsSet 16 v.toNat).foldl (fun s q => s.trigSeq 2 0 q) s
  else if o = A.ADC_SEQ_OVR then
    s.judged (s.common h 0x30 r.modes true) fun s =>
      s.modAdc fun a => { a with ovr := (bitsSet 16 v.toNat).foldl (fun m q => setBit m q false) a.ovr }
  else if A.ADC_SEQ_CFG 0 ≤ o ∧ o < A.ADC_SEQ_CFG 16 then s.seqCfg h o v r
  else if A.ADC_GATHER 0 0 ≤ o ∧ o < 0x31000 then s.gatherWrite h o v r
  else if o = A.ADC_CALSET_DATA then s.calsetData h v
  else if 0x31200 ≤ o ∧ o < 0x31300 then s.wmonWrite h o v r
  else if 0x32000 ≤ o then s.judged (s.common h 0x32 r.modes (r.ok v)) fun s => s.putCmp o (mergeWord r.mask (s.reg o) v)
  else s.rwStore h o v r []

/-- A write of a register of the LNK, LNKC and MOD pages. -/
def State.rwCells (s : State) (h o : Nat) (v : Word) (r : Row) : Acc :=
  if o < 0x50000 then s.lnkCtrl h o v r
  else if o = A.MOD_CFG then s.rwStore h o v r [(decide (fld (s.reg A.ANG_DIV) 0 11 < 4 * fld v 0 6), .badArg)]
  else if o = A.MOD_TRIP_LATCH then
    s.judged (s.common h 0x60 r.modes true) fun s =>
      { s with modu := { s.modu with latch := (bitsSet 8 v.toNat).foldl (fun m k => setBit m k false) s.modu.latch } }
  else if o = A.MOD_CNT_CLR then s.judged (s.common h 0x60 r.modes (r.ok v)) State.clearCounters
  else if o = A.MOD_LHB_COMMIT then s.lhbCommit h v
  else if o = A.MOD_FORCE_CSEL then
    let c := fld v 0 9
    s.rwStore h o v r [(c != 0x1FF && !bitAt (s.reg (A.CELL c 0)) 31, .badArg)]
  else if A.MOD_MEV 0 ≤ o ∧ o < A.MOD_MEV 16 then s.rwStore h o v r [(!s.mevOk v, .badArg)]
  else s.rwStore h o v r []

/-- A write of a register of the LPE to SAF pages. -/
def State.rwControl (s : State) (h o : Nat) (v : Word) (r : Row) : Acc :=
  if o = A.LPE_RELEASE then s.lpeRelease h v r
  else if o = A.LPE_SNAP then s.lpeSnap h v r
  else if o = A.GRD_OPEN then s.grdOpenWrite h v
  else if o = A.BPT_SWEEP then
    s.judged (s.common h 0x90 r.modes (r.ok v) ++ [(s.sweepsOn, .busy)]) State.beginGlobal
  else if 0xC1000 ≤ o ∧ o < 0xC2000 then
    s.rwStore h o v r [(s.sealClosed 3, .sealed), (!s.srcUnique o v, .badArg)]
  else s.rwStore h o v r []

/-- A write of a register of the HST to MEM pages. -/
def State.rwHosts (s : State) (h o : Nat) (v : Word) (r : Row) : Acc :=
  if o < 0xD4000 then
    let b := o % 0x1000
    if b = A.HST_VER then s.negotiate h o v r else if b = A.HST_CTRL then s.hstCtrl h o v r else s.rwStore h o v r []
  else if A.QUE_OWNER 0 ≤ o ∧ o < A.QUE_OWNER 4 then s.queOwner h o v r
  else if A.QUE_RING_CFG 0 ≤ o ∧ o < A.QUE_RING_CFG 64 then s.ringWrite h o v
  else if o = A.NET_MAC_HI then s.judged (s.common h 0xE0 r.modes true) fun s => s.putUpper h o v
  else if o = A.NET_MAC_LO then
    s.judged (s.common h 0xE0 r.modes true) fun s => s.pairLow h o 0xFFFF#32 v
  else if 0xE0000 ≤ o ∧ o < 0xE1000 then s.netWrite h o v r
  else if o = A.REC_TRIG then s.judged (s.common h 0xF0 r.modes (r.ok v)) fun s => s.trigger 0
  else if A.REC_HVER 0 ≤ o ∧ o < A.REC_HVER 4 then s.recVersion h o v
  else if o = A.MEM_CI_BOOT then s.ciBoot h o v r
  else if o = A.REC_PRE ∨ o = A.REC_POST ∨ o = A.REC_MAXLEN then s.rwStore h o v r [(!s.recTimesOk o v, .badArg)]
  else s.rwStore h o v r []

/-- A write of an RW, WO or W1C register. -/
def State.rwWrite (s : State) (h o : Nat) (v : Word) (r : Row) : Acc :=
  if o < 0x20000 then s.rwLow h o v r
  else if o < 0x40000 then s.rwMeasure h o v r
  else if o < 0x70000 then s.rwCells h o v r
  else if o < 0xD0000 then s.rwControl h o v r
  else s.rwHosts h o v r

/-- The write of the value of an RW-C register. A value of DEV_MODE_REQ that names no mode to ask for is refused here, on the
value alone, and LAST_STAT tells it as it tells any refusal (R14, R47; DESIGN CHOICE, log entry 83). -/
def State.valueWrite (s : State) (h o : Nat) (v : Word) (r : Row) : Acc :=
  let a := s.rwcValue h o v r.mask (r.ok v)
  if o = A.DEV_MODE_REQ ∧ a.2 = .badArg then ({ a.1 with modes := { a.1.modes with lastStat := .badArg } }, .badArg) else a

/-- A write of a register of a listed page beyond the common header. Read-only registers ignore it. -/
def State.regWrite (s : State) (h o : Nat) (v : Word) : Acc :=
  match rowAt o with
  | some r => if r.cls = .rwc then s.valueWrite h o v r else s.rwWrite h o v r
  | none =>
    match rowAt (o - 4) with
    | some r => if r.cls = .rwc then s.rwcWrite h (o - 4) v r else s.ignored h (o / 0x1000)
    | none => s.ignored h (o / 0x1000)

/-- The first word of a complement pair, whose write waits for the second. -/
def waitsForPair (o : Nat) : Bool :=
  clsAt o == some .rwc || (decide (0x1100000 ≤ o) && decide (o < 0x1120000) && o % 0x80 == 0x40)

/-- A write puts a complement pair right again that a corruption had left (R400): the word written, or the pair its
second word ends. -/
def State.mended (s : State) (o : Nat) : State :=
  if waitsForPair o then s
  else if s.mem.corrupt.isEmpty then s
  else { s with mem := { s.mem with corrupt := s.mem.corrupt.filter fun p => p.1 != o && pairEnd p.1 != o } }

/-- A host writes a word of its window: the state it leaves and the status of the access. -/
def State.hostWrite (s : State) (h o : Nat) (v : Word) : Acc :=
  if o % 4 ≠ 0 then (s.event 0 36 0xFFFF [o], .ok)
  else
    let page := o / 0x1000
    let a :=
      if 0x1000000 ≤ o then s.tableWrite h o v
      else if !listed page then (s.event 0 35 0xFFFF [o], .ok)
      else if o % 0x1000 < 0x40 then s.access h o fun s => s.headerWrite h page (o % 0x1000) v
      else s.access h o fun s => s.regWrite h o v
    if a.2 = .ok then (a.1.mended o, .ok) else a

/-- The first address by which a command names ring space rather than the window (R345). -/
abbrev spaceBase : Nat := 0x80000000

/-- A write by a host to its window, or to ring space. -/
def State.hostPut (s : State) (h o : Nat) (v : Word) : State :=
  if spaceBase ≤ o then (if o % 4 = 0 then s.spaceWrite h (o - spaceBase) v else s.event 0 36 0xFFFF [o]) else (s.hostWrite h o v).1

/-- A host reads a word of its window, or of ring space: what the read itself does, and the word (R344, R345). -/
def State.hostGet (s : State) (h o : Nat) : State × Word :=
  if spaceBase ≤ o then (s, s.spaceRead (o - spaceBase)) else let r := s.hostRead h (o / 4 * 4); (r.1, r.2.1)

/-- The bytes a PCIe read of part of a word returns: those asked for, of the whole word (R345). -/
def partRead (o n : Nat) (w : Word) : List Byte := ((leBytes 4 w.toNat).drop (o % 4)).take n

/-- Hosts 0 and 1 are on PCIe ports, hosts 2 and 3 on quad-SPI ports (R370). -/
def onPcie (h : Nat) : Bool := decide (h < 2)

/-- A transfer of a word by a host. On a PCIe port `way` holds the byte enables of a write in its low four bits: one that
does not cover the whole word is ignored and raises BAD_ACCESS (R345). On a quad-SPI port it is the command: 0x38 writes, 0xEB
reads, and any other is ignored (R344). -/
def State.transfer (s : State) (h : Nat) (way : BitVec 8) (o : Nat) (v : Word) : State :=
  if onPcie h then (if way.extractLsb' 0 4 = 0xF#4 then s.hostPut h o v else s.event 0 36 0xFFFF [o])
  else if way = 0x38#8 then s.hostPut h o v
  else if way = 0xEB#8 then (s.hostGet h o).1
  else s

/-- The complement of an RW-C value is written, its value being pending: the commands that name a whole RW-C
operation. -/
def State.hostComplete (s : State) (h o : Nat) (v : Word) : State := (s.hostWrite h (o + 4) (~~~ v)).1

end Sys2Proof.Machine
end

