-- ==== Sys2Proof/Machine/Pins.lean ====
section
/-! DEFINITION. What the pins of the package show: observe pins, pin groups in every state of supply and reset, and the
boundary-scan chain (R453, R457 to R461, R476). -/

namespace Sys2Proof.Machine

/-- A pin, or a pair of a differential pin. -/
inductive Pin where
  /-- LHB_PUL_k -/
  | lhbPul (k : Nat)
  /-- LHB_EN_k -/
  | lhbEn (k : Nat)
  /-- DOB_n -/
  | dob (n : Nat)
  /-- transmit disable of a ring port, by port code -/
  | txDis (port : Nat)
  /-- loss of signal of a ring port -/
  | los (port : Nat)
  /-- serial output of a ring port 0 to 33, or of a network port 34 to 37 -/
  | portTx (port : Nat)
  /-- PCIe transmit lane: lanes 0 and 1 of HP_0, then of HP_1 -/
  | pcieTx (lane : Nat)
  /-- quad-SPI data: IO0 to IO3 of HP_2, then of HP_3 -/
  | hpIo (n : Nat)
  /-- HP_2_INT or HP_3_INT -/
  | hpInt (h : Nat)
  /-- PERST_N of HP_0 or HP_1 -/
  | perst (h : Nat)
  /-- RESET_N -/
  | resetN
  /-- REFCLK_n -/
  | refclk (n : Nat)
  /-- SDO_H_g -/
  | sdoH (g : Nat)
  /-- SDO_L_g -/
  | sdoL (g : Nat)
  /-- TP_k -/
  | tp (k : Nat)
  /-- SI_n -/
  | si (n : Nat)
  /-- SFB_g_A -/
  | sfbA (g : Nat)
  /-- SFB_g_B -/
  | sfbB (g : Nat)
  /-- high-side gate of a rail channel -/
  | gateHigh (c : Nat)
  /-- low-side gate of a rail channel -/
  | gateLow (c : Nat)
  /-- SEAL_COM -/
  | sealCom
  /-- SEN_TX -/
  | senTx
  /-- ATB_n -/
  | atb (n : Nat)
  /-- TDO -/
  | tdo
  deriving DecidableEq, Repr

/-- What a pin shows. -/
inductive PinLevel where
  /-- high-impedance -/
  | highZ
  /-- low -/
  | low
  /-- high -/
  | high
  /-- a switch that is off -/
  | off
  /-- a switch that is on -/
  | on
  /-- a serial output that sends nothing -/
  | idle
  /-- a signal of its own in time: serial data, a clock -/
  | runs
  /-- an analog voltage, µV -/
  | analog (uv : Int)
  deriving DecidableEq, Repr

/-- A level of a push-pull output. -/
def PinLevel.of (b : Bool) : PinLevel := if b then .high else .low

/-- A switch. -/
def PinLevel.switch (b : Bool) : PinLevel := if b then .on else .off

/-! ## The analog observe pins (R460) -/

/-- Gain of a front end by its code, in halves (R89). -/
def gainHalves (code : Nat) : Int := if code = 7 then 1 else 2 ^ (code + 1)

/-- The voltage of an observed signal: the front end of an input whose level is known, a comparator's threshold, the sentinel's
cell and VHARV are in the state, every other is open (log entry 229). -/
def State.atbVolts (s : State) (code idx : Nat) : Int :=
  let open_ := Config.observeUv code idx s.now
  if code = 0x01 then
    (match s.adc.ain.find? fun p => p.1 == idx with
     | some p => p.2 * gainHalves (Map.get (fun _ => 0) idx s.adc.gains) / 2
     | none => open_)
  else if code = 0x02 then (match s.cmpServed idx with | some n => s.cmpLevel idx n | none => open_)
  else if code = 0x08 then ((if idx = 0 then s.sen.vcell else s.sen.vharv) * 500 : Nat)
  else open_

/-- ATB_n. -/
def State.atb (s : State) (n : Nat) : PinLevel :=
  let code := fld (s.reg (A.DBG_ATB_0 + 4 * n)) 0 8
  if !s.live || code == 0 then .highZ else .analog (s.atbVolts code (fld (s.reg (A.DBG_ATB_0 + 4 * n)) 8 6))

/-! ## Pin groups (R453) -/

/-- A ring port transmits: it carries the role of an end of a ring in use, and is not down (R146, R147, R149). -/
def State.transmits (s : State) (p : Nat) : Bool :=
  let role := s.serves p
  s.live && decide (role < 32) && bitAt (s.reg (A.LNK (role / 2) A.LNK_CTRL)) 0 && !(s.port p).down && !(s.port p).txFault

/-- SEN_TX: idle high, and in a frame its bytes of a start bit, eight data bits, least significant first, and a stop bit
(R441). -/
def State.senTx (s : State) : Bool :=
  match s.sen.frame with
  | none => true
  | some f =>
    let t := s.now - f.start
    let k := t % alertByte * 10 / alertByte
    if k = 0 then false else if k = 9 then true else (byteFld f.bytes (t / alertByte) 1).testBit (k - 1)

/-- TP_k: off unless its channel runs, else high but for its pulses (R314, R323). -/
def State.testLine (s : State) (k : Nat) : PinLevel :=
  if !s.safOn || !(if k < 2 then s.saf.xOk else s.saf.yOk) then .off
  else .of (decide (s.saf.tpUntil.getD k 0 ≤ s.now + us 100))

/-- What a pin shows of its own block and mode, under no pin-driving instruction. -/
def State.pinOwn (s : State) (p : Pin) : PinLevel :=
  let dead := s.pwr.dark
  match p with
  | .lhbPul k => .of (!dead && ((s.lhbPins k).getD (false, false)).1)
  | .lhbEn k => .of (!dead && ((s.lhbPins k).getD (false, false)).2)
  | .dob n => (match s.dobPin n with | some b => .of b | none => .highZ)
  | .txDis k => if dead then .highZ else .of (!s.transmits k)
  | .los k => .of (s.port k).los
  | .portTx k =>
    if dead then .highZ else if (if k < 34 then s.transmits k else s.portOn (k - 34)) then .runs else .idle
  | .pcieTx k =>
    if dead then .highZ else if s.live && (s.hosts.link.getD (k / 2) false || s.training (k / 2)) then .runs else .idle
  | .hpIo _ => if s.live then .runs else .highZ
  | .hpInt h => if s.live && !s.hpInt h then .low else .highZ
  | .perst h => .of (!s.hosts.perst.getD h false)
  | .resetN => .of (!s.pwr.sources.testBit 1)
  | .refclk _ => .runs
  | .sdoH g => .switch (s.live && (s.group g).h)
  | .sdoL g => .switch (s.live && (s.group g).l)
  | .tp k => s.testLine k
  | .si n => .of (s.saf.si.testBit n)
  | .sfbA g => .of (s.group g).fba
  | .sfbB g => .of (s.group g).fbb
  | .gateHigh c => .switch (s.railSwitches c).1
  | .gateLow c => .switch (s.railSwitches c).2
  | .sealCom => if s.sen.alive then .of s.sealCom else .highZ
  | .senTx => if s.sen.alive then .of s.senTx else .highZ
  | .atb n => s.atb n
  | .tdo => if s.tapOn then .runs else .highZ

/-! ## The boundary-scan chain (R457, R459) -/

/-- The pins whose cells a pin-driving instruction drives, in the order of the chain (DESIGN CHOICE, log entry 96). -/
def drivenPins : List Pin :=
  ((List.range 12).flatMap fun k => [.lhbPul k, .lhbEn k]) ++ (List.range 4).map .dob ++ (List.range 34).map .txDis ++
  (List.range 38).map .portTx ++ (List.range 4).map .pcieTx ++ (List.range 8).map .hpIo ++ [.hpInt 2, .hpInt 3]

/-- The pins that are only observed: the cells of R457 that are observe-only, and inputs. -/
def observedPins : List Pin :=
  ((List.range 4).flatMap fun g => [.sdoH g, .sdoL g]) ++ (List.range 4).map .tp ++ [.refclk 0, .refclk 1] ++
  (List.range 34).map .los ++ (List.range 16).map .si ++ ((List.range 4).flatMap fun g => [.sfbA g, .sfbB g]) ++
  [.perst 0, .perst 1, .resetN]

/-- What a pin shows: under a pin-driving instruction a driven pin has the level of its cell, and HIGHZ drives none (R457,
R459). -/
def State.pin (s : State) (p : Pin) : PinLevel :=
  match s.pwr.scan with
  | none => s.pinOwn p
  | some code =>
    match drivenPins.findIdx? fun q => q == p with
    | none => s.pinOwn p
    | some i => if code = 0x06 then .highZ else .of (s.pwr.cells.getD i false)

/-- The bit a boundary cell captures: the level of its pin, and an open value where that is none of two levels. -/
def PinLevel.bit (l : PinLevel) (w : Word) : Bool :=
  match l with
  | .high => true
  | .on => true
  | .low => false
  | .off => false
  | _ => bitAt w 0

/-- The cells capture the levels of their pins and shift them out (R457). -/
def State.capture (s : State) : State :=
  let pins := drivenPins ++ observedPins
  (s.send (.tdo (pins.zipIdx.map fun x => (s.pin x.1).bit (s.open_ x.2)))).took pins.length

/-- Boundary cells shifted in under the instruction in force, while what they have captured is shifted out; none leaves them as
they are. -/
def State.shiftCells (s : State) (cells : List Bool) : State :=
  if s.pwr.scan.isSome && !cells.isEmpty then s.capture.modPwr fun p => { p with cells := cells } else s

end Sys2Proof.Machine
end

