-- ==== Sys2Proof/Machine/Answer.lean ====
section
/-! DEFINITION. The forms a command's answer takes. Every meaning answers a next state: a command that the block does not
meet, because its condition is absent, leaves the state as it is (log entry 60). -/

namespace Sys2Proof.Machine

/-- What a step answers. -/
abbrev Answer := Host.Outcome State Fault Refusal

/-- The command's effect where its condition holds, and what follows every command (`State.settle`). -/
def answer (s : State) (c : Bool) (f : State → State) : Answer := .next (if c then (f s).settle else s)

/-- A command of one of the four hosts to a device out of reset. -/
def byHost (s : State) (h : Nat) (f : State → State) : Answer := answer s (s.live && decide (h < 4)) f

/-- A command that needs the device powered and out of reset. -/
def running (s : State) (c : Bool) (f : State → State) : Answer := answer s (s.live && c) f

/-- A host writes one word. -/
def hostWord (s : State) (h o : Nat) (v : Word) : Answer := byHost s h fun s => s.hostPut h o v

/-- A host completes an RW-C pair whose value is `v` (R14). -/
def hostPair (s : State) (h o : Nat) (v : Word) : Answer := byHost s h fun s => s.hostComplete h o v

/-- The word of LOCK that carries an operation and its argument (R348). -/
def lockWord (op : Nat) (arg : BitVec 24) : Word := wd (op * 0x1000000 + arg.toNat)

end Sys2Proof.Machine
end

