-- ==== Sys2Proof/Machine/AngleCmds.lean ====
section
/-! DEFINITION. Commands of DEVTIME and the angle unit. -/

namespace Sys2Proof.Machine

/-- DEVTIME_SET (R65): the low word completes a write of DEVTIME and forms a step. -/
def execDevtimeSet (h : Nat) (v : Word) (s : State) : Answer := hostWord s h A.DEVTIME_SET_LO v

/-- PTP_SYNC_RECEIVE (R376). -/
def execPtpSyncReceive (port domain : Nat) (offset : Int) (s : State) : Answer :=
  running s (decide (port < 4)) fun s => s.ptpSync port domain offset

/-- PTP_HOLDOVER (R66). -/
def execPtpHoldover (s : State) : Answer := running s true State.ptpHoldover

/-- LOCK_DECLARED (R69, R76). -/
def execLockDeclared (s : State) : Answer := running s s.lockDue State.lockOn

/-- LOCK_LOST (R70, R71). -/
def execLockLost (s : State) : Answer := running s s.lossDue State.lockOff

/-- FLYWHEEL_ENTRY (R72). -/
def execFlywheelEntry (s : State) : Answer := running s s.flyDue State.flyOn

/-- FLYWHEEL_END (R73). -/
def execFlywheelEnd (s : State) : Answer := running s s.flyEndDue State.flyOff

/-- SLEW_END (R74). -/
def execSlewEnd (s : State) : Answer := running s s.slewEndDue State.slewOff

/-- ANG_DIV_WRITE (R78, R79). -/
def execAngDivWrite (h : Nat) (v : Word) (s : State) : Answer := hostWord s h A.ANG_DIV v

/-- The next beat start is the one at which ANG32 crosses 0. -/
def State.crossesNext (s : State) : Bool := decide (s.ang.div ≤ s.ang.idx + 1)

/-- DIV_TAKE_EFFECT (R79): the beat start at which ANG32 crosses 0 comes while a division is pending, and the division
takes effect in it. -/
def execDivTakeEffect (s : State) : Answer := running s (s.ang.beats && s.ang.divPend && s.crossesNext) State.beatStart

/-- ANG_CFG_WRITE (R80). -/
def execAngCfgWrite (h : Nat) (v : Word) (s : State) : Answer := hostWord s h A.ANG_CFG v

end Sys2Proof.Machine
end

