-- ==== Sys2Proof/Machine/BeatCmds.lean ====
section
/-! DEFINITION. Commands of the beat: its start, the schedule, cell reports, joining, the cutoff, the pipeline. -/

namespace Sys2Proof.Machine

/-- BEAT_START (R77). -/
def execBeatStart (s : State) : Answer := running s s.ang.beats State.beatStart

/-- The instant at which an entry of the schedule fires in this beat (R81). -/
def State.fireAt (s : State) (w0 : Word) : Nat := s.beatMono + s.span (fld w0 16 16 * s.ang.blen / 65536)

/-- The action of an entry of the schedule (R82). -/
def State.fireAct (s : State) (act target width : Nat) : State :=
  if act = 1 then s.trigSeq 0 0 target
  else if act = 2 then s.blankOpen target width
  else if act = 3 then s.recFrame target
  else if act = 4 then s.eventTo (2 ^ target) 0x20 36
  else s

/-- An entry of the schedule as the engines use it is enabled, names the mode and fires in this beat (R81). -/
def State.fires (s : State) (n : Nat) : Bool :=
  let w8 := s.ureg (A.SCHED n 8)
  s.ang.beats && decide (n < 1024) && bitAt (s.ureg (A.SCHED n 12)) 0 && s.modes.cur.inMask (fld w8 1 8) &&
  firesIn (s.ureg (A.SCHED n 0)) (s.ureg (A.SCHED n 4)) s.ang.idx

/-- The entries of this beat that pass GATHER triggers to the analog die at the instant of an entry, that one among them,
in ascending sequence number (R85). -/
def State.gathersWith (s : State) (n : Nat) : List Nat :=
  let at0 := fld (s.ureg (A.SCHED n 0)) 16 16
  let es := (schedOn s.used).filter fun k =>
    s.fires k && schedAction (s.ureg (A.SCHED k 4)) == 1 && fld (s.ureg (A.SCHED k 0)) 16 16 == at0
  (List.range 16).flatMap fun q => es.filter fun k => schedTarget (s.ureg (A.SCHED k 4)) == q

/-- An entry performs its action. -/
def State.fireEntry (s : State) (n : Nat) : State :=
  let w4 := s.ureg (A.SCHED n 4)
  (s.modAng fun a => { a with fired := n :: a.fired }).fireAct (schedAction w4) (schedTarget w4)
    (fld (s.ureg (A.SCHED n 8)) 16 16)

/-- SCHEDULE_ENTRY_FIRE (R81, R82, R85): an entry fires once in a beat, at its instant; the GATHER triggers of one instant
go together. -/
def execScheduleEntryFire (entry : Nat) (s : State) : Answer :=
  running s (s.fires entry && !s.ang.fired.contains entry) fun s =>
    let s1 := s.advance (s.fireAt (s.ureg (A.SCHED entry 0)))
    if schedAction (s.ureg (A.SCHED entry 4)) = 1 then (s.gathersWith entry).foldl State.fireEntry s1 else s1.fireEntry entry

/-- BLANK_WINDOW_END (R85, R109). -/
def execBlankWindowEnd (cmp : Nat) (s : State) : Answer := running s true fun s => s.blankClose cmp

/-- SCHEDULE_ENTRY_WRITE (R84). -/
def execScheduleEntryWrite (h entry word : Nat) (v : Word) (s : State) : Answer :=
  running s (decide (h < 4) && decide (entry < 1024) && decide (word < 4)) fun s => s.hostPut h (A.SCHED entry (4 * word)) v

/-- CELL_REPORT (R22, R123, R141): the bytes of the frame, and the line code errors the port has met since the one before. -/
def execCellReport (port : Nat) (bytes : List Byte) (errs : Nat) (s : State) : Answer :=
  running s (decide (port < 34)) fun s => s.cellReport port bytes errs

/-- A cell has stood inside its charged window for 16 beats (R60). -/
def State.chargedDue (s : State) (c : Nat) : Bool :=
  decide (16 ≤ (s.cell c).charged) && (s.cell c).st == .linked && decide (s.cellRole c < 2)

/-- CELL_CHARGED (R60): CHARGED, or SPARE where its role is spare. -/
def execCellCharged (cell : Nat) (s : State) : Answer :=
  running s (s.chargedDue cell) fun s =>
    (s.modCell cell fun q => { q with st := if s.cellRole cell = 1 then .spare else .charged }).judgeCells

/-- CELL_ABSENT (R60, R62, R257): three consecutive beats without a valid report. -/
def execCellAbsent (cell : Nat) (s : State) : Answer :=
  running s ((s.cell cell).known && decide (3 ≤ (s.cell cell).run)) fun s => s.cellGone cell

/-- REPORT_CUTOFF (R22): the management window opens. -/
def execReportCutoff (s : State) : Answer := running s s.ang.beats State.reportCutoff

/-- The present join step of a cell has drawn no valid reply within 16 beats, and the management window stands open (R135, R141). -/
def State.joinStale (s : State) (c : Nat) : Bool :=
  s.windowOpen && s.ringEn (s.cellRing c) && s.cellUsed c && (s.cell c).join != .done && (s.cell c).join != .align && decide (16 ≤ (s.cell c).joinAge)

/-- JOIN_STEP_REPEAT (R141). -/
def execJoinStepRepeat (cell : Nat) (s : State) : Answer := running s (s.joinStale cell) fun s => s.joinRequest cell

/-- PIPELINE_START (R91): the measurements, the angle unit, ride-through and the grid unit, the loop slots, the
allocator and the modulator, for the next beat. -/
def execPipelineStart (s : State) : Answer := running s s.pipelineDue State.pipeline

/-- STANDBY_COPY_HANDOVER (R295). -/
def execStandbyCopyHandover (s : State) : Answer := running s s.ang.beats State.shadowCopies

/-- COMPUTE_DEADLINE (R21). -/
def execComputeDeadline (lateA lateB : Bool) (s : State) : Answer :=
  running s s.ang.beats fun s => s.computeDeadline lateA lateB

/-- CELL_TABLE_WRITE (R145): judged on the whole entry. -/
def execCellTableWrite (h cell byte : Nat) (v : Word) (s : State) : Answer :=
  running s (decide (h < 4) && decide (cell < 384) && decide (byte < 0x100)) fun s => s.hostPut h (A.CELL cell byte) v

end Sys2Proof.Machine
end

