-- ==== Sys2Proof/Machine/BptCmds.lean ====
section
/-! DEFINITION. Commands of the burst power unit: trackers, sweeps, history, dispatch, substitution. -/

namespace Sys2Proof.Machine

/-- TRACKER_PERIOD_END (R239, R240, R248). -/
def execTrackerPeriodEnd (cell : Nat) (s : State) : Answer := running s (s.periodDue cell) fun s => s.periodEnd cell

/-- SWEEP_START (R242, R243). -/
def execSweepStart (cell : Nat) (s : State) : Answer := running s (s.sweepDue cell) fun s => s.beginSweep cell

/-- SWEEP_POINT_END (R242). -/
def execSweepPointEnd (cell : Nat) (s : State) : Answer := running s (s.pointDue cell) fun s => s.pointEnd cell

/-- GLOBAL_SWEEP_DUE (R245). -/
def execGlobalSweepDue (s : State) : Answer := running s s.globalDue State.globalTurn

/-- GLOBAL_SWEEP_REQUEST (R245). -/
def execGlobalSweepRequest (h : Nat) (v : Word) (s : State) : Answer := hostWord s h A.BPT_SWEEP v

/-- HISTORY_WRITE (R244). -/
def execHistoryWrite (s : State) : Answer := running s s.historyDue State.writeHistory

/-- STORE_DISPATCH_WRITE (R251). -/
def execStoreDispatchWrite (h : Nat) (v : Word) (s : State) : Answer := hostPair s h A.BPT_STORE_P v

/-- A spare that waits for its bypass to open, and until when. -/
def State.waitingSpare (s : State) (c : Nat) : Option Subst := s.bpt.waiting.find? fun w => w.spare == c

/-- The wait for a spare's bypass runs out. -/
def State.subEnds (s : State) (c : Nat) : State :=
  match s.waitingSpare c with
  | some w => (s.advance w.due).subFailed w
  | none => s

/-- SUB_FAIL (R255): the bypass of the spare `cell` has not opened within TOUT. -/
def execSubFail (cell : Nat) (s : State) : Answer := running s (s.waitingSpare cell).isSome fun s => s.subEnds cell

/-- A failed cell that has not reported its bypass closed, and until when it may. -/
def State.closingUntil (s : State) (c : Nat) : Option Nat := (s.bpt.closing.find? fun p => p.1 == c).map Prod.snd

/-- The wait for a failed cell's bypass runs out. -/
def State.bypassEnds (s : State) (c : Nat) : State :=
  match s.closingUntil c with
  | some t =>
    ((s.advance t).modBpt fun b => { b with closing := b.closing.filter fun p => p.1 != c }).event 0x90 6 c
  | none => s

/-- BYPASS_FAIL (R255). -/
def execBypassFail (cell : Nat) (s : State) : Answer := running s (s.closingUntil cell).isSome fun s => s.bypassEnds cell

/-- MANUAL_SUBSTITUTION (R256). -/
def execManualSubstitution (h : Nat) (v : Word) (s : State) : Answer := hostPair s h A.BPT_SUBST v

end Sys2Proof.Machine
end

