-- ==== Sys2Proof/Machine/EngineCmds.lean ====
section
/-! DEFINITION. Commands of the engines, the Gaffer and the pontil. -/

namespace Sys2Proof.Machine

/-- HEARTBEAT (R290, R291, R294): `seq` is the ANG_SEQ it carries. -/
def execHeartbeat (eng : Nat) (seq : BitVec 32) (s : State) : Answer :=
  running s (decide (eng < 2)) fun s => s.heartbeat eng seq

/-- HEARTBEAT_MISSING (R294, R296). -/
def execHeartbeatMissing (eng : Nat) (s : State) : Answer := running s (decide (eng < 2)) fun s => s.heartbeatMissing eng

/-- LEASE_EXPIRY (R291, R296). -/
def execLeaseExpiry (s : State) : Answer := running s s.gaf.holder.isSome State.leaseExpiry

/-- GUARD_END (R291, R294). -/
def execGuardEnd (s : State) : Answer := running s s.gaf.guard.isSome State.guardEnd

/-- ENGINE_FAULT (R293): `cause` is ENGx_FAULT.CAUSE. -/
def execEngineFault (eng cause : Nat) (s : State) : Answer :=
  running s (decide (eng < 2) && decide (cause < 16)) fun s => s.engineFault eng cause

/-- GAFFER_FROZEN (R296). -/
def execGafferFrozen (s : State) : Answer := running s true State.gafferFrozen

/-- FORCED_SWITCHOVER (R301). -/
def execForcedSwitchover (h : Nat) (s : State) : Answer := hostPair s h A.GAF_FORCE 0x1#32

/-- SWITCHOVER_JUDGEMENT_END (R302). -/
def execSwitchoverJudgementEnd (s : State) : Answer := running s s.judgeDue State.judgeEnd

/-- TEST_DUE (R303): repeated once an hour while a test is due. -/
def execTestDue (s : State) : Answer := running s s.testDue State.testRaise

/-- A completed ENGx_CTRL. -/
def engCmd (s : State) (h eng : Nat) (v : Word) : Answer :=
  running s (decide (h < 4) && decide (eng < 2)) fun s => s.hostComplete h (0xB0000 + 0x1000 * eng + A.ENG_CTRL) v

/-- ENGINE_JOIN (R304, R311). -/
def execEngineJoin (h eng slot : Nat) (s : State) : Answer := engCmd s h eng (wd (0x1 + 0x100 * (slot % 2)))

/-- ENGINE_RELOAD (R311). -/
def execEngineReload (h eng slot : Nat) (s : State) : Answer := engCmd s h eng (wd (0x2 + 0x100 * (slot % 2)))

/-- ENGINE_HALT (R306). -/
def execEngineHalt (h eng : Nat) (s : State) : Answer := engCmd s h eng 0x3#32

/-- ENGINE_OFF (R311). -/
def execEngineOff (h eng : Nat) (s : State) : Answer := engCmd s h eng 0x4#32

/-- REJOIN_STAGE_END (R304, R305). -/
def execRejoinStageEnd (eng : Nat) (pass : Bool) (s : State) : Answer :=
  running s (decide (eng < 2)) fun s => s.rejoinStage eng pass

/-- REJOIN_TIMEOUT (R305). -/
def execRejoinTimeout (eng : Nat) (s : State) : Answer := running s (decide (eng < 2)) fun s => s.rejoinTimeout eng

/-- AUTOJOIN (R305). -/
def execAutojoin (eng : Nat) (s : State) : Answer := running s (decide (eng < 2)) fun s => s.autojoin eng

/-- ENGINE_BOOT (R297, R309): whether each engine passes its self-test and loads. -/
def execEngineBoot (passA passB : Bool) (s : State) : Answer := running s (!s.gaf.booted) fun s => s.engineBoot passA passB

/-- IMAGE_COMMAND_COMPLETE (R307, R359): whether the signature verifies, and the header's Format, MINSREV, Version and HSTV. -/
def execImageCommandComplete (signed : Bool) (format minsrev : BitVec 8) (version : Word) (hstv : BitVec 16) (s : State) :
    Answer :=
  running s true fun s => s.imageDone signed format minsrev version hstv

end Sys2Proof.Machine
end

