-- ==== Sys2Proof/Machine/GridCmds.lean ====
section
/-! DEFINITION. Commands of the grid unit: the close sequence, the stop, the transfers, the neutral current. -/

namespace Sys2Proof.Machine

/-- CLOSE_START (R227). -/
def execCloseStart (h : Nat) (s : State) : Answer := hostPair s h A.GRD_CLOSE 0x1#32

/-- CLOSE_ABORT (R228). -/
def execCloseAbort (h : Nat) (s : State) : Answer := hostPair s h A.GRD_CLOSE 0x2#32

/-- CLOSE_STEP_ADVANCE (R227): the sequence goes as far as its conditions allow. -/
def execCloseStepAdvance (s : State) : Answer := running s s.closing State.closeRun

/-- A step of the close sequence that the wait limits. -/
def State.closeWaits (s : State) : Bool := s.grd.step == 1 || s.grd.step == 2 || s.grd.step == 4

/-- GRD_SC_WAIT runs out. -/
def State.closeTimeout (s : State) : State :=
  (s.advance (s.grd.closeFrom + ms (fld (s.ureg A.GRD_SC_WAIT) 0 16))).closeOpens 2

/-- CLOSE_WAIT_TIMEOUT (R228). -/
def execCloseWaitTimeout (s : State) : Answer := running s s.closeWaits State.closeTimeout

/-- GRD_OPEN (R230). -/
def execGrdOpen (h : Nat) (v : Word) (s : State) : Answer := hostWord s h A.GRD_OPEN v

/-- STOP_ZERO_CURRENT (R229): the next groups of a stop open as its conditions allow. -/
def execStopZeroCurrent (s : State) : Answer := running s (s.grd.stop != .none) State.stopRun

/-- TRANSFER_TO_FORM_COMPLETE (R221). -/
def execTransferToFormComplete (s : State) : Answer := running s s.toFormDue State.toFormDone

/-- TRANSFER_TO_FOLLOW_COMPLETE (R222). -/
def execTransferToFollowComplete (s : State) : Answer := running s s.toFollowDue State.toFollowDone

/-- NEUTRAL_CURRENT (R217). -/
def execNeutralCurrent (s : State) : Answer := running s s.neutralDue State.neutralOn

/-- The neutral current has stayed below half the limit; the second runs out. -/
def State.neutralEnds (s : State) : State :=
  match s.grd.neutLow with
  | some t => (s.advance (t + ms 1000)).neutralOff
  | none => s

/-- NEUTRAL_CLEAR (R217). -/
def execNeutralClear (s : State) : Answer := running s s.grd.neut State.neutralEnds

end Sys2Proof.Machine
end

