-- ==== Sys2Proof/Machine/HostCmds.lean ====
section
/-! DEFINITION. Commands of the hosts to registers, claims, keys, modes and HOLD. -/

namespace Sys2Proof.Machine

/-- REGISTER_WRITE (R13): a write of a register or table word, judged under its access class, in the way the host's port
transfers a word (R344, R345; log entry 214). -/
def execRegisterWrite (h : Nat) (way : BitVec 8) (off : Nat) (v : Word) (s : State) : Answer :=
  byHost s h fun s => s.transfer h way off v

/-- RWC_VALUE_WRITE (R14): the value half of an RW-C pair goes to the pending holder of the claiming host. -/
def execRwcValueWrite (h off : Nat) (v : Word) (s : State) : Answer := hostWord s h off v

/-- A write of a word of a page's header. -/
def header (s : State) (h page off : Nat) (v : Word) : Answer :=
  running s (decide (h < 4) && decide (page < 0x1000)) fun s => s.hostPut h (page * 0x1000 + off) v

/-- ERRCODE_WRITE (R17): any write sets the host's ERRCODE of the page to OK. -/
def execErrcodeWrite (h page : Nat) (v : Word) (s : State) : Answer := header s h page 0x28 v

/-- IRQ_STAT_CLEAR (R350): ones clear the host's own pending flags. -/
def execIrqStatClear (h page : Nat) (v : Word) (s : State) : Answer := header s h page 0x20 v

/-- CLAIM (R348). -/
def execClaim (h page : Nat) (arg : BitVec 24) (s : State) : Answer := header s h page 0x24 (lockWord 0xC1 arg)

/-- RELEASE (R348). -/
def execRelease (h page : Nat) (arg : BitVec 24) (s : State) : Answer := header s h page 0x24 (lockWord 0xC2 arg)

/-- BREAK (R348). -/
def execBreakClaim (h page : Nat) (arg : BitVec 24) (s : State) : Answer := header s h page 0x24 (lockWord 0xC3 arg)

/-- KEY (R349). -/
def execKey (h page : Nat) (arg : BitVec 24) (s : State) : Answer := header s h page 0x24 (lockWord 0xC4 arg)

/-- The instant at which an armed key of a host on a page expires. -/
def State.keyUntil (s : State) (h page : Nat) : Option Nat :=
  (s.hosts.keys.find? fun p => p.1 == h * 0x1000 + page).map Prod.snd

/-- The key of a host on a page expires, if one is armed. -/
def State.keyExpires (s : State) (h page : Nat) : State :=
  match s.keyUntil h page with
  | some t => (s.advance t).disarm h page
  | none => s

/-- KEY_EXPIRY (R349): 10 ms after its KEY write an armed key is disarmed. -/
def execKeyExpiry (h page : Nat) (s : State) : Answer :=
  running s (decide (h < 4) && decide (page < 0x1000)) fun s => s.keyExpires h page

/-- MODE_REQUEST_WATCH (R52). -/
def execModeRequestWatch (h : Nat) (s : State) : Answer := hostPair s h A.DEV_MODE_REQ 0x2#32

/-- MODE_REQUEST_ENERGIZE (R52). -/
def execModeRequestEnergize (h : Nat) (s : State) : Answer := hostPair s h A.DEV_MODE_REQ 0x3#32

/-- MODE_REQUEST_FOLLOW (R52, R222). -/
def execModeRequestFollow (h : Nat) (s : State) : Answer := hostPair s h A.DEV_MODE_REQ 0x4#32

/-- MODE_REQUEST_FORM (R52, R221). -/
def execModeRequestForm (h : Nat) (s : State) : Answer := hostPair s h A.DEV_MODE_REQ 0x5#32

/-- MODE_REQUEST_SERVICE (R52). -/
def execModeRequestService (h : Nat) (s : State) : Answer := hostPair s h A.DEV_MODE_REQ 0x8#32

/-- HOLD_REQUEST (R48, R55): 0x0000_F807 from any host latches cause HOST. -/
def execHoldRequest (h : Nat) (v : Word) (s : State) : Answer := hostWord s h A.DEV_HOLD_REQ v

/-- HOLD_LATCH_CLEAR (R56). -/
def execHoldLatchClear (h : Nat) (v : Word) (s : State) : Answer := hostWord s h A.DEV_HOLD_LATCH v

end Sys2Proof.Machine
end

