-- ==== Sys2Proof/Machine/LinkCmds.lean ====
section
/-! DEFINITION. Commands of the ring links. -/

namespace Sys2Proof.Machine

/-- A probe can be on its way round a ring: the ring is present and enabled. -/
def State.probing (s : State) (k : Nat) : Bool := decide (k < 16) && s.present k && s.ringEn k

/-- PROBE_RETURN (R137, R140, R146): `delay` in 0.1 ns. -/
def execProbeReturn (ring : Nat) (counterClockwise : Bool) (delay : Nat) (s : State) : Answer :=
  running s (s.probing ring) fun s => s.probeBack ring counterClockwise delay

/-- PORT_DOWN (R146): by loss of signal (cause 0), loss of sync (1) or a fault of its transmitter (2). -/
def execPortDown (port cause : Nat) (s : State) : Answer :=
  running s (decide (port < 34) && decide (cause < 3)) fun s => s.portDown port cause

/-- PORT_SUBSTITUTE (R147). -/
def execPortSubstitute (h : Nat) (v : Word) (s : State) : Answer := hostPair s h A.LNKC_SUB v

/-- LNK_CTRL_WRITE (R149). -/
def execLnkCtrlWrite (h ring : Nat) (v : Word) (s : State) : Answer :=
  running s (decide (h < 4) && decide (ring < 16)) fun s => s.hostPut h (A.LNK ring A.LNK_CTRL) v

/-- RING_PORT_SYNC (R140): the delay-locked line of the port is locked and its receiver has gained sync. -/
def execRingPortSync (port : Nat) (s : State) : Answer :=
  running s (decide (port < 34) && !(s.port port).sync) fun s => s.portUp port

end Sys2Proof.Machine
end

