-- ==== Sys2Proof/Machine/LoopCmds.lean ====
section
/-! DEFINITION. Commands of the loop engine. -/

namespace Sys2Proof.Machine

/-- A host writes a word of a loop slot entry. -/
def slotPut (s : State) (h slot byte : Nat) (v : Word) : Answer :=
  running s (decide (h < 4) && decide (slot < 1024) && decide (byte < 0x80)) fun s => s.hostPut h (A.SLOT slot byte) v

/-- SLOT_STAGING_WRITE (R199). -/
def execSlotStagingWrite (h slot byte : Nat) (v : Word) (s : State) : Answer := slotPut s h slot byte v

/-- SLOT_COMMIT (R199, R200): word 0x00 with what the host has staged. -/
def execSlotCommit (h slot : Nat) (v : Word) (s : State) : Answer := slotPut s h slot 0 v

/-- SETPOINT_WRITE (R191, R192): SP_N completes the pair that SP began. -/
def execSetpointWrite (h slot : Nat) (v : Word) (s : State) : Answer :=
  running s (decide (h < 4) && decide (slot < 1024)) fun s => s.hostComplete h (A.SLOT slot 0x40) v

/-- LOOP_RELEASE (R196). -/
def execLoopRelease (h : Nat) (v : Word) (s : State) : Answer := hostWord s h A.LPE_RELEASE v

/-- SNAPSHOT_CAPTURE (R202). -/
def execSnapshotCapture (h : Nat) (s : State) : Answer := hostWord s h A.LPE_SNAP 0x1#32

/-- SNAPSHOT_RELEASE (R202). -/
def execSnapshotRelease (h : Nat) (s : State) : Answer := hostWord s h A.LPE_SNAP 0x2#32

end Sys2Proof.Machine
end

