-- ==== Sys2Proof/Machine/MeasureCmds.lean ====
section
/-! DEFINITION. Commands of the converters, the gathers, background calibration, the calibration set and the
comparators. -/

namespace Sys2Proof.Machine

/-- ADC_SWTRIG (R94): each sequence named whose trigger is the host's. -/
def execAdcSwtrig (h : Nat) (v : Word) (s : State) : Answer := hostWord s h A.ADC_SWTRIG v

/-- SEQUENCE_DELAY_EXPIRY (R96 to R98). -/
def execSequenceDelayExpiry (seq : Nat) (s : State) : Answer :=
  running s (decide (seq < 16) && (s.seq seq).phase == .delay) fun s => s.delayEnds seq

/-- The slot that acquires an entry of a sequence, with the entry and the instant its acquisition time has elapsed. -/
def State.acquiring (s : State) (q : Nat) : Option (Nat × Nat × Nat) :=
  let k := seqSlot (s.seq q).cfg
  match (s.svc k).acq with
  | some (p, e, t) => if p = q ∧ (s.svc k).conv.isNone then some (k, e, t) else none
  | none => none

/-- The entry a sequence is acquiring is held. -/
def State.holdNext (s : State) (q : Nat) : State :=
  match s.acquiring q with
  | some (k, e, t) => s.holdEntry k q e t
  | none => s

/-- ENTRY_HOLD (R96, R100): once its acquisition time has elapsed and the slice has ended its previous conversion. -/
def execEntryHold (seq : Nat) (s : State) : Answer :=
  running s (decide (seq < 16) && (s.acquiring seq).isSome) fun s => s.holdNext seq

/-- The conversion under way on a service slot ends. -/
def State.convDone (s : State) (k : Nat) (raw : BitVec 16) (over_ : Bool) : State :=
  match (s.svc k).conv with
  | some c => s.convEnds k c raw over_
  | none => s

/-- CONVERSION_END (R96, R99): the slice has converted `raw`; `overload` is its own flag. -/
def execConversionEnd (bank slot : Nat) (raw : BitVec 16) (overload : Bool) (s : State) : Answer :=
  running s (decide (bank < 2) && decide (slot < 10)) fun s => s.convDone (10 * bank + slot) raw overload

/-- The oldest result on its way is delivered. -/
def State.deliverNext (s : State) : State :=
  match s.adc.flight with
  | d :: _ => s.deliver d
  | [] => s

/-- RESULT_DELIVERY (R96, R99, R101). -/
def execResultDelivery (s : State) : Answer := running s true State.deliverNext

/-- CALIBRATION_STEP (R102). -/
def execCalibrationStep (s : State) : Answer := running s (s.ready 6 && s.adc.rot == .idle) State.calStep

/-- SPARE_CALIBRATION_END (R102, R104): the offset correction in LSB, the gain correction in units of 2⁻²⁰, and whether the
correction has converged. -/
def execSpareCalibrationEnd (offset gain : Int) (converged : Bool) (s : State) : Answer :=
  running s (s.adc.rot == .spareCal) fun s => s.spareCalEnds (calPasses offset gain converged)

/-- SLOT_HANDOVER (R103): in either direction, at an edge at which the slot is free. -/
def execSlotHandover (s : State) : Answer := running s (s.slotFree s.adc.rotSlot) State.handover

/-- CAL_STARVED (R103): no handover has been possible for WAIT. -/
def execCalStarved (s : State) : Answer :=
  running s ((s.adc.rot == .takeOver || s.adc.rot == .takeBack) && !s.slotFree s.adc.rotSlot) State.calStarves

/-- SLICE_CALIBRATION_END (R104): see SPARE_CALIBRATION_END. -/
def execSliceCalibrationEnd (offset gain : Int) (converged : Bool) (s : State) : Answer :=
  running s (s.adc.rot == .sliceCal) fun s => s.sliceCalEnds (calPasses offset gain converged)

/-- CALSET_LOAD (R106). -/
def execCalsetLoad (h : Nat) (s : State) : Answer := hostPair s h A.ADC_CALSET_CMD 0x1#32

/-- CALSET_DATA_WRITE (R106). -/
def execCalsetDataWrite (h : Nat) (v : Word) (s : State) : Answer := hostWord s h A.ADC_CALSET_DATA v

/-- CALSET_WRITE (R106). -/
def execCalsetWrite (h : Nat) (s : State) : Answer := hostPair s h A.ADC_CALSET_CMD 0x2#32

/-- CALSET_WRITTEN (R106). -/
def execCalsetWritten (s : State) : Answer := running s s.adc.calsetBusy State.calsetDone

/-- COMPARATOR_ASSERT (R108): the input of a comparator has crossed its threshold and stands at a level, µV. -/
def execComparatorAssert (cmp : Nat) (uv : Int) (s : State) : Answer :=
  running s (s.ready 7 && decide (cmp < 16)) fun s => s.cmpInput cmp uv

/-- COMPARATOR_RELEASE (R108): the input has returned past the threshold less the hysteresis, to a level, µV. The circuits
that watch the input judge its level as at an assertion. -/
def execComparatorRelease (cmp : Nat) (uv : Int) (s : State) : Answer :=
  running s (s.ready 7 && decide (cmp < 16)) fun s => s.cmpInput cmp uv

/-- SAMPLED_WINDOW (R110): the live part of a window begins, or ends. -/
def execSampledWindow (live : Bool) (s : State) : Answer :=
  running s (s.ready 7 && s.sampled && s.adc.cmpLive != live) fun s => if live then s.windowLive else s.windowEnds

/-- COMPARATOR_SUBSTITUTE (R111). -/
def execComparatorSubstitute (h circuit : Nat) (v : Word) (s : State) : Answer :=
  running s (decide (h < 4) && (circuit == 16 || circuit == 17)) fun s =>
    s.hostComplete h (if circuit = 16 then A.CMP_SUB16 else A.CMP_SUB17) v

end Sys2Proof.Machine
end

