-- ==== Sys2Proof/Machine/MemoryCmds.lean ====
section
/-! DEFINITION. Commands of the recorder, the memories, configuration images, the lifecycle and failing dies. -/

namespace Sys2Proof.Machine

/-! ## Recorder -/

/-- RECORDER_MANUAL_TRIGGER (R395). -/
def execRecorderManualTrigger (h : Nat) (v : Word) (s : State) : Answer := hostWord s h A.REC_TRIG v

/-- RECORD_END (R395, R396). -/
def execRecordEnd (s : State) : Answer := running s s.reco.opened.isSome State.recordEnd

/-- RECORD_DELIVERY (R397). -/
def execRecordDelivery (s : State) : Answer := running s true State.recordDelivery

/-- RECORDER_VERSION_NEGOTIATE (R398). -/
def execRecorderVersionNegotiate (h : Nat) (v : Word) (s : State) : Answer := hostWord s h (A.REC_HVER h) v

/-! ## Memories (R399, R400) -/

/-- SRAM_SCRUB (R391, R399): errors corrected in a row of a bank. -/
def execSramScrub (bank row corrected : Nat) (s : State) : Answer := running s true fun s => s.sramScrub bank row corrected

/-- DRAM_SCRUB (R399). -/
def execDramScrub (corrected : Nat) (s : State) : Answer := running s true fun s => s.dramScrub corrected

/-- UNCORRECTABLE_ERROR (R399): the item that is lost, and the address of the error in its memory. -/
def execUncorrectableError (location item : Nat) (addr : Word) (s : State) : Answer :=
  running s (decide (location < 8)) fun s => s.uncorrectable location item addr

/-- COMPLEMENT_SCAN (R400). -/
def execComplementScan (location off : Nat) (x xn : Word) (s : State) : Answer :=
  running s (decide (location < 5)) fun s => s.complementScan location off x xn

/-! ## Configuration images (R401, R402) -/

/-- A completed MEM_CI_CMD that names a slot. -/
def ciStart (s : State) (h cmd slot : Nat) : Answer :=
  running s (decide (h < 4) && decide (slot < 8)) fun s => s.hostComplete h A.MEM_CI_CMD (wd (cmd + 0x10 * slot))

/-- CI_WRITE (R401). -/
def execCiWrite (h slot : Nat) (s : State) : Answer := ciStart s h 1 slot

/-- CI_APPLY (R402). -/
def execCiApply (h slot : Nat) (s : State) : Answer := ciStart s h 2 slot

/-- CI_ERASE (R401). -/
def execCiErase (h slot : Nat) (s : State) : Answer := ciStart s h 3 slot

/-- Perform a parameter image's writes in order from the write with an index, stopping at the first refusal: the state,
the status, and the index of the refused write. -/
def State.applyFrom (s : State) (h : Nat) : Nat → List (Nat × Word) → State × Status × Nat
  | _, [] => (s, .ok, 0)
  | i, (o, v) :: rest =>
    let a := s.hostWrite h o v
    if a.2 = .ok then a.1.applyFrom h (i + 1) rest else (a.1, a.2, i)

/-- The writes of a parameter image's body: OFFSET and VALUE, 4 bytes each. -/
def ciRecords (image : List Byte) : List (Nat × Word) :=
  let body := image.drop 128
  (List.range (body.length / 8)).map fun i => (byteFld body (8 * i) 4, wd (byteFld body (8 * i + 4) 4))

/-- A configuration slot. -/
def State.ciSlot (s : State) (n : Nat) : CiSlot := s.mem.ci.getD n { valid := false, type := 0, bytes := [] }

/-- Apply the image of a slot as a host. -/
def State.applyImage (s : State) (h slot : Nat) : State × Status × Nat :=
  let c := s.ciSlot slot
  if !c.valid then (s, .badArg, 0)
  else if c.type = 2 then (s.modNet fun n => { n with stringsNext := some (Config.imageStrings c.bytes).toNat }, .ok, 0)
  else s.applyFrom h 0 (ciRecords c.bytes)

/-- The slot a WRITE leaves: the verified image, or empty. -/
def State.ciVerified (s : State) (slot : Nat) (image : List Byte) (verified signed : Bool) : State × Status :=
  let st : Status := if !verified then .badArg
    else if s.lcy.state == .field && !signed then .lifecycle else .ok
  if st = .ok then
    (s.modMem fun m => { m with
      ci := setAt { valid := true, type := if Config.imageIsNetwork image then 2 else 1, bytes := image } slot m.ci }, .ok)
  else (s, st)

/-- What the operation under way has come to: `verified` and `signed` are the checks of a WRITE's image. A failed flash die
neither takes nor gives an image (R42; the status INTERNAL is the model's: DESIGN CHOICE, log entry 98). -/
def State.ciResult (s : State) (verified signed : Bool) : State × Status × Nat :=
  match s.mem.ciOp with
  | none => (s, .ok, 0)
  | some (cmd, slot, h, image) =>
    if s.mem.flashFail then (s, .internal, 0)
    else if cmd = 1 then ((s.ciVerified slot image verified signed).1, (s.ciVerified slot image verified signed).2, 0)
    else if cmd = 2 then s.applyImage h slot
    else (s, .ok, 0)

/-- The operation ends. -/
def State.ciEnds (s : State) (verified signed : Bool) : State :=
  let r := s.ciResult verified signed
  (r.1.modMem fun m => { m with ciOp := none, ciLast := r.2.1, ciFail := r.2.2 }).event 0xF8 2 0xFFFF [r.2.1.code]

/-- CI_OPERATION_END (R401, R402): whether the image of a WRITE verifies, and whether its signature does. -/
def execCiOperationEnd (verified signed : Bool) (s : State) : Answer :=
  running s s.mem.ciOp.isSome fun s => s.ciEnds verified signed

/-- Claims of every block, held for the apply at boot. -/
def allClaims : List (Nat × Nat) :=
  (mapPages ++ (List.range 16).map fun k => 0x40 + k).map fun p => (p, 0)

/-- The apply at boot: with every claim, and nothing pending left behind. A slot written or erased since MEM_CI_BOOT named it
leaves it empty (R409). -/
def State.bootApply (s : State) : State :=
  let q := s.hosts
  let slot := fld (s.reg A.MEM_CI_BOOT) 0 4
  let r := if s.mem.flashFail then (s, .internal, 0)
    else if (s.ciSlot slot).valid && !s.mem.bootVoid then (s.modHosts fun h => { h with claims := allClaims }).applyImage 0 slot else (s, .ok, 0)
  (r.1.modHosts fun h => { h with
      claims := q.claims, holder := q.holder, upper := q.upper, staging := q.staging, win := q.win }).modMem fun m =>
    { m with bootPend := false, ciLast := r.2.1, ciFail := r.2.2 }

/-- BOOT_APPLY (R402, R455). -/
def execBootApply (s : State) : Answer := running s s.bootApplying State.bootApply

/-! ## Lifecycle and dies -/

/-- LIFECYCLE_CHANGE (R404). -/
def execLifecycleChange (h target : Nat) (s : State) : Answer :=
  running s (decide (h < 4) && decide (target < 4)) fun s => s.hostComplete h A.LCY_CMD (wd target)

/-- LIFECYCLE_WIPE_END (R404): also while the device is held in reset, where the wipe resumes. -/
def execLifecycleWipeEnd (s : State) : Answer := answer s s.lcy.target.isSome State.lcyEnd

/-- ANALOG_DIE_FAULT (R43). -/
def execAnalogDieFault (s : State) : Answer := running s true State.analogDies

/-- FLASH_DIE_FAULT (R42). -/
def execFlashDieFault (s : State) : Answer := answer s (!s.pwr.dark) State.flashDies

end Sys2Proof.Machine
end

