-- ==== Sys2Proof/Machine/ModulatorCmds.lean ====
section
/-! DEFINITION. Commands of the modulator, the local outputs and the trip lines. -/

namespace Sys2Proof.Machine

/-- A trip line's raw level, after the comparators and the host's lines. -/
def State.lineRaw (s : State) (line : Nat) : Bool := decide (line < 8) && s.rawLines.testBit line

/-- A trip line's filtered level. -/
def State.lineOn (s : State) (line : Nat) : Bool := s.modu.lines.testBit line

/-- TRIP_ASSERT (R169 to R172): the raw line has been seen asserted for FILT + 1 cycles. -/
def execTripAssert (line : Nat) (s : State) : Answer :=
  running s (s.lineRaw line && !s.lineOn line) fun s => (s.advance (s.now + fabricPeriod * (s.tripFilt line + 1))).tripOn line

/-- TRIP_CLEAR (R169, R173): the raw line has been seen clear for FILT + 1 cycles. -/
def execTripClear (line : Nat) (s : State) : Answer :=
  running s (decide (line < 8) && !s.lineRaw line && s.lineOn line) fun s =>
    (s.advance (s.now + fabricPeriod * (s.tripFilt line + 1))).tripOff line

/-- TRIP_SW (R174). -/
def execTripSw (h : Nat) (v : Word) (s : State) : Answer := hostPair s h A.MOD_TRIP_SW v

/-- LHB_PERIOD_BOUNDARY (R164 to R167, R171). -/
def execLhbPeriodBoundary (out : Nat) (s : State) : Answer :=
  running s (decide (out < 12)) fun s => s.lhbBoundary out

/-- LHB_COMMIT (R165). -/
def execLhbCommit (h : Nat) (v : Word) (s : State) : Answer := hostWord s h A.MOD_LHB_COMMIT v

/-- The instant at which a modulator event is due. -/
def State.mevAt (s : State) (n : Nat) : Option Nat :=
  (s.modu.mev.find? fun p => p.1 == n && s.mevStands n p.2).map (·.2)

/-- A modulator event fires: it triggers the gathers that name it (R94, R168). -/
def State.mevFires (s : State) (n : Nat) : State :=
  match s.mevAt n with
  | some t =>
    let s1 := s.advance t
    { s1 with modu := { s1.modu with mev := s1.modu.mev.erase (n, t) } }.trigAll 1 n
  | none => s

/-- MODULATOR_EVENT (R168): of an event whose period start, pulse end or beat offset has come. -/
def execModulatorEvent (ev : Nat) (s : State) : Answer :=
  running s (decide (ev < 16) && s.ready 9 && (s.mevAt ev).isSome) fun s => s.mevFires ev

/-- STREAM_STOPPED (R167): the stream that drives the local outputs has stopped. -/
def execStreamStopped (s : State) : Answer := running s (s.modu.src != 0 && s.streamGone) State.streamStops

/-- The fabric clock stops: every local output is low (R167). -/
def State.clockStops (s : State) : State :=
  { s with modu := { s.modu with lhb := s.modu.lhb.map Lhb.low, fabStop := true } }

/-- FABRIC_CLOCK_STOP (R167). -/
def execFabricClockStop (s : State) : Answer := running s true State.clockStops

/-- COUNTER_CLEAR (R174). -/
def execCounterClear (h : Nat) (v : Word) (s : State) : Answer := hostWord s h A.MOD_CNT_CLR v

/-- FORCE_LHB (R163). -/
def execForceLhb (h : Nat) (v : Word) (s : State) : Answer := hostPair s h A.MOD_FORCE_LHB v

/-- FORCE_CELL (R163). -/
def execForceCell (h : Nat) (v : Word) (s : State) : Answer := hostPair s h A.MOD_FORCE_CELL v

end Sys2Proof.Machine
end

