-- ==== Sys2Proof/Machine/NetCmds.lean ====
section
/-! DEFINITION. Commands of the station and protection networks. -/

namespace Sys2Proof.Machine

/-- PDELAY_REQ_SEND (R374). -/
def execPdelayReqSend (port : Nat) (s : State) : Answer := running s true fun s => s.pdelayAsk port

/-- PDELAY_REQ_ANSWER (R374). -/
def execPdelayReqAnswer (port domain : Nat) (s : State) : Answer := running s true fun s => s.pdelayAnswer port domain

/-- PTP_ANNOUNCE_TIMEOUT (R375). -/
def execPtpAnnounceTimeout (port : Nat) (s : State) : Answer := running s true fun s => s.announceTimeout port

/-- PRP_FRAME_RECEIVE (R373): a frame of the station pair other than GOOSE. -/
def execPrpFrameReceive (port source seq : Nat) (trailer : Bool) (s : State) : Answer :=
  running s (decide (port < 2)) fun s => s.prpFrame port source seq trailer

/-- PRP_SUPERVISION_SEND (R373). -/
def execPrpSupervisionSend (s : State) : Answer := running s true State.prpSupervision

/-- PRP_PATH (R373). -/
def execPrpPath (lan : Nat) (lost : Bool) (s : State) : Answer := running s (decide (lan < 2)) fun s => s.prpPath lan lost

/-- NETWORK_LINK_CHANGE (R387). -/
def execNetworkLinkChange (port : Nat) (up : Bool) (s : State) : Answer :=
  running s (decide (port < 4)) fun s => s.linkChange port up

/-- GOOSE_RECEIVE (R378 to R380, R385, R386). -/
def execGooseReceive (frame : GooseFrame) (s : State) : Answer := running s (decide (frame.port < 4)) fun s => s.goose frame

/-- SUB_TIMEOUT (R379). -/
def execSubTimeout (entry : Nat) (s : State) : Answer := running s true fun s => s.subTimeout entry

/-- GOOSE_RETRANSMIT (R381). -/
def execGooseRetransmit (pub : Nat) (s : State) : Answer := running s (decide (pub < 16)) fun s => s.pubAgain pub

/-- SV_SAMPLE (R383). -/
def execSvSample (stream : Nat) (s : State) : Answer := running s (decide (stream < 2)) fun s => s.svSample stream

/-- PTP_ANNOUNCE_RECEIVE (R375): `rank` stands for the rest of the comparison of masters, lower is better. -/
def execPtpAnnounceReceive (port domain : Nat) (gm : BitVec 64) (cls : BitVec 8) (utcOfs : BitVec 16) (rank : Nat) (s : State) :
    Answer :=
  running s (decide (port < 4)) fun s => s.announce port domain gm.toNat cls.toNat utcOfs.toNat rank

/-- PDELAY_RESP_RECEIVE (R375). -/
def execPdelayRespReceive (port domain delay : Nat) (s : State) : Answer :=
  running s (decide (port < 4)) fun s => s.pdelayResp port domain delay

end Sys2Proof.Machine
end

