-- ==== Sys2Proof/Machine/QueueCmds.lean ====
section
/-! DEFINITION. Commands of the rings, of the command set, of events and of the host ports. -/

namespace Sys2Proof.Machine

/-- RING_ENABLE (R354). -/
def execRingEnable (h ring : Nat) (v : Word) (s : State) : Answer :=
  running s (decide (h < 4) && decide (ring < 64)) fun s => s.hostPut h (A.QUE_RING_CFG ring) (v ||| 0x40#32)

/-- RING_DISABLE (R354). -/
def execRingDisable (h ring : Nat) (v : Word) (s : State) : Answer :=
  running s (decide (h < 4) && decide (ring < 64)) fun s => s.hostPut h (A.QUE_RING_CFG ring) (v &&& ~~~ 0x40#32)

/-- CMD_DOORBELL (R355): the TAIL of a CMD ring. -/
def execCmdDoorbell (h ring : Nat) (v : Word) (s : State) : Answer :=
  running s (decide (h < 4) && decide (ring < 64)) fun s => s.hostPut h (A.QUE_RING_TAIL ring) v

/-- RING_HEAD_WRITE (R355): the HEAD of a CPL, EVT or REC ring. -/
def execRingHeadWrite (h ring : Nat) (v : Word) (s : State) : Answer :=
  running s (decide (h < 4) && decide (ring < 64)) fun s => s.hostPut h (A.QUE_RING_HEAD ring) v

/-! ## The command set (R359) -/

/-- NOP. A command whose OPCODE the command set does not have is taken here, and refused. -/
def execNop (ring : Nat) (s : State) : Answer := running s (decide (ring < 64)) fun s => s.runNop ring

/-- Words read upward from an offset. -/
def State.readWords (s : State) (h o : Nat) : Nat → State × List Word × Status
  | 0 => (s, [], .ok)
  | n + 1 =>
    let a := s.hostRead h o
    let r := a.1.readWords h (o + 4) n
    (r.1, a.2.1 :: r.2.1, if a.2.2 = .ok then r.2.2 else a.2.2)

/-- The effect of READ. -/
def State.cmdRead (s : State) (h : Nat) (b : List Byte) : State × Option (Status × List Byte) :=
  let o := byteFld b 8 4
  let n := byteFld b 12 1
  if n = 0 ∨ 8 < n ∨ o % 4 ≠ 0 ∨ 0x2000000 < o + 4 * n then (s, some (.badArg, []))
  else
    let r := s.readWords h o n
    (r.1, some (r.2.2, if r.2.2 = .ok then r.2.1.flatMap fun w => leBytes 4 w.toNat else []))

/-- READ. -/
def execRead (ring : Nat) (s : State) : Answer := running s (decide (ring < 64)) fun s => s.runCmd ring 2 State.cmdRead

/-- An offset a WRITE may name. -/
def windowOffset (o : Nat) : Bool := o % 4 == 0 && decide (o < 0x2000000)

/-- The effect of WRITE. -/
def State.cmdWrite (s : State) (h : Nat) (b : List Byte) : State × Option (Status × List Byte) :=
  let o := byteFld b 8 4
  if !windowOffset o then (s, some (.badArg, []))
  else
    let a := s.hostWrite h o (wd (byteFld b 12 4))
    (a.1, some (a.2, []))

/-- WRITE. -/
def execWrite (ring : Nat) (s : State) : Answer := running s (decide (ring < 64)) fun s => s.runCmd ring 3 State.cmdWrite

/-- The effect of WRITE_PAIR: both halves of the pair, with nothing between them. -/
def State.cmdWritePair (s : State) (h : Nat) (b : List Byte) : State × Option (Status × List Byte) :=
  let o := byteFld b 8 4
  if !windowOffset o || !waitsForPair o then (s, some (.badArg, []))
  else
    let a := s.hostWrite h o (wd (byteFld b 12 4))
    if a.2 ≠ .ok then (a.1, some (a.2, []))
    else
      let c := a.1.hostWrite h (o + 4) (wd (byteFld b 16 4))
      (c.1, some (c.2, []))

/-- WRITE_PAIR. -/
def execWritePair (ring : Nat) (s : State) : Answer :=
  running s (decide (ring < 64)) fun s => s.runCmd ring 4 State.cmdWritePair

/-- IMAGE_OPEN. -/
def execImageOpen (ring : Nat) (s : State) : Answer :=
  running s (decide (ring < 64)) fun s => s.runCmd ring 0x10 State.imageOpens

/-- IMAGE_DATA. -/
def execImageData (ring : Nat) (s : State) : Answer :=
  running s (decide (ring < 64)) fun s => s.runCmd ring 0x11 State.imageData

/-- IMAGE_CLOSE. -/
def execImageClose (ring : Nat) (s : State) : Answer :=
  running s (decide (ring < 64)) fun s => s.runCmd ring 0x12 fun s h _ => s.imageClose h

/-- LOG_READ. -/
def execLogRead (ring : Nat) (s : State) : Answer := running s (decide (ring < 64)) fun s => s.runCmd ring 0x20 (State.logRead ring)

/-! ## Interrupts, events, versions, host ports -/

/-- MSIX_DEFERRED (R350): the advances held back for 20 µs are sent. -/
def execMsixDeferred (h : Nat) (s : State) : Answer := running s (decide (h < 4)) fun s => s.msixDue h

/-- EVENT_WINDOW_CLOSE (R364): of a host, or of the log as receiver 4. -/
def execEventWindowClose (h code subject : Nat) (s : State) : Answer :=
  running s (decide (h < 5)) fun s => s.windowClose h code subject

/-- VERSION_NEGOTIATE (R360). -/
def execVersionNegotiate (h : Nat) (v : Word) (s : State) : Answer := hostWord s h (A.HST h A.HST_VER) v

/-- HOST_RESET_REQUEST (R369, R370). -/
def execHostResetRequest (h : Nat) (s : State) : Answer := hostWord s h (A.HST h A.HST_CTRL) 0x1#32

/-- RELEASE_ALL (R370). -/
def execReleaseAll (h : Nat) (s : State) : Answer := hostWord s h (A.HST h A.HST_CTRL) 0x2#32

/-- HOST_PORT_RESET (R369): a loss of the link, a hot reset, a function-level reset or PERST_N of a PCIe port. -/
def execHostPortReset (h : Nat) (what : PortReset) (s : State) : Answer :=
  answer s (!s.pwr.dark && decide (h < 2)) fun s => s.portLost h what

/-- LOG_QUEUE_DRAIN (R367). -/
def execLogQueueDrain (s : State) : Answer := running s true State.logDrain

end Sys2Proof.Machine
end

