-- ==== Sys2Proof/Machine/RailCmds.lean ====
section
/-! DEFINITION. Commands of the auxiliary input, the rails and the clock references. The rail controller and the clock
unit work while the device is in reset. -/

namespace Sys2Proof.Machine

/-- A step of one rail channel. -/
def onChannel (s : State) (ch : Nat) (f : State → State) : Answer := answer s (decide (ch < 4)) f

/-- AUX_RISE (R411): RC3_SEL is read as it passes 8.6 V. -/
def execAuxRise (rc3sel : Bool) (s : State) : Answer := answer s (!s.rail.aux) fun s => s.auxRise rc3sel

/-- AUX_FALL (R411). -/
def execAuxFall (s : State) : Answer := answer s s.rail.aux State.auxFall

/-- RAIL_POWER_GOOD (R411). -/
def execRailPowerGood (ch : Nat) (s : State) : Answer := onChannel s ch fun s => s.railGood ch

/-- SOFT_START_END (R417): `preb` says that the output was pre-biased. -/
def execSoftStartEnd (ch : Nat) (preb : Bool) (s : State) : Answer := onChannel s ch fun s => s.softEnd ch preb

/-- CORE_RAIL_PG_LOSS (R411, R450). -/
def execCoreRailPgLoss (ch : Nat) (s : State) : Answer := onChannel s ch fun s => s.corePgLoss ch

/-- PG_LOST (R411). -/
def execPgLost (s : State) : Answer := answer s s.railOn State.pgLost

/-- RAIL_SYNC_VALID (R412). -/
def execRailSyncValid (kHz : Nat) (s : State) : Answer := answer s s.railOn fun s => s.syncValid kHz

/-- RAIL_SYNC_LOST (R412, R422). -/
def execRailSyncLost (s : State) : Answer := answer s s.railOn State.syncLost

/-- CURRENT_LIMIT (R415, R418). -/
def execCurrentLimit (ch : Nat) (s : State) : Answer := onChannel s ch fun s => s.limitActs ch

/-- BSTUV (R416). -/
def execBstuv (ch : Nat) (s : State) : Answer := onChannel s ch fun s => s.bootLow ch

/-- BOOTSTRAP_RECOVER (R416). -/
def execBootstrapRecover (ch : Nat) (s : State) : Answer := onChannel s ch fun s => s.bootBack ch

/-- OUTPUT_OVERVOLTAGE (R415). -/
def execOutputOvervoltage (ch : Nat) (above : Bool) (s : State) : Answer := onChannel s ch fun s => s.overVolt ch above

/-- DRIVER_SUPPLY_UV (R415). -/
def execDriverSupplyUv (ch : Nat) (low : Bool) (s : State) : Answer := onChannel s ch fun s => s.driverUv ch low

/-- RAIL_LATCH (R418): `cause` as RAIL_LASTOFF shows it. -/
def execRailLatch (ch cause : Nat) (s : State) : Answer := onChannel s ch fun s => s.railLatch ch cause

/-- RAIL_EN_RESTART (R419). -/
def execRailEnRestart (s : State) : Answer := answer s s.rail.latch.isSome State.railRestart

/-- VOLTAGE_COMMAND (R420). -/
def execVoltageCommand (h ch : Nat) (v : Word) (s : State) : Answer :=
  running s (decide (h < 4) && decide (ch < 4)) fun s => s.hostComplete h (A.RAIL_VSET ch) v

/-- BURST_ENTRY (R421). -/
def execBurstEntry (ch : Nat) (s : State) : Answer := onChannel s ch fun s => s.burstEntry ch

/-- BURST_EXIT (R421). -/
def execBurstExit (ch : Nat) (s : State) : Answer := onChannel s ch fun s => s.burstExit ch

/-- SWITCHING_CYCLE (R413 to R416, R424, R425): the controller's pulse and enable signals in a cycle that starts, or as they
change within one. -/
def execSwitchingCycle (ch : Nat) (start pulse enable : Bool) (s : State) : Answer :=
  onChannel s ch fun s => (if start then s.switchCycle ch else s).drive ch pulse enable

/-- REVERSE_CURRENT_LIMIT (R415). -/
def execReverseCurrentLimit (ch : Nat) (s : State) : Answer := onChannel s ch fun s => s.reverseActs ch

/-- A step of the clock unit. -/
def onClocks (s : State) (f : State → State) : Answer := answer s s.clkOn f

/-- REFERENCE_GOOD (R426, R430). -/
def execReferenceGood (ref : Nat) (s : State) : Answer := onClocks s fun s => s.refGood ref

/-- REFERENCE_LOST (R430). -/
def execReferenceLost (ref : Nat) (s : State) : Answer := onClocks s fun s => s.refLost ref

/-- HOLDOVER_TIMEOUT (R430). -/
def execHoldoverTimeout (s : State) : Answer := onClocks s State.holdoverEnds

/-- REFERENCE_REVERT (R430). -/
def execReferenceRevert (s : State) : Answer := onClocks s State.refRevert

/-- LOOP_LOCK (R428): 0 and 1 the engine loops, 2 and 3 the fabric loops. -/
def execLoopLock (loop count : Nat) (s : State) : Answer := onClocks s fun s => s.loopLocks loop count

/-- LOOP_LOCK_LOSS (R428, R429): the count of the last window, and whether the fast monitor saw the loss. -/
def execLoopLockLoss (loop count : Nat) (fast : Bool) (s : State) : Answer := onClocks s fun s => s.loopLost loop count fast

/-- FABRIC_RETRY_END (R429). -/
def execFabricRetryEnd (locked : Bool) (s : State) : Answer := onClocks s fun s => s.retryEnds locked

/-- DLL_LOST (R431). -/
def execDllLost (port : Nat) (s : State) : Answer := running s (decide (port < 34)) fun s => s.dllLost port

/-- REF_DISAGREE (R426): the measured difference in 0.1 ppm. -/
def execRefDisagree (tenthPpm : Int) (s : State) : Answer := onClocks s fun s => s.refDiffers tenthPpm

end Sys2Proof.Machine
end

