-- ==== Sys2Proof/Machine/ResetCmds.lean ====
section
/-! DEFINITION. Commands of reset, readiness and the boundary-scan port. -/

namespace Sys2Proof.Machine

/-- RESET_PIN (R450): RESET_N low for at least 10 µs, or high again. -/
def execResetPin (low : Bool) (s : State) : Answer := answer s (!s.pwr.dark) fun s => s.resetPin low

/-- SOFTWARE_RESET (R466). -/
def execSoftwareReset (h : Nat) (s : State) : Answer := hostPair s h A.DBG_SWRST 0x1#32

/-- RESET_RELEASE (R451). -/
def execResetRelease (failed : List Nat) (s : State) : Answer := answer s s.releaseDue fun s => s.resetRelease failed

/-- BLOCK_READY (R455): a bit of DEV_READY_MAP. -/
def execBlockReady (block : Nat) (s : State) : Answer := running s (decide (block < 26)) fun s => s.blockReady block

/-- READINESS_TIMEOUT (R455). -/
def execReadinessTimeout (block : Nat) (s : State) : Answer := running s (decide (block < 26)) fun s => s.readyLate block

/-- HOST_LINK_UP (R452). -/
def execHostLinkUp (h : Nat) (s : State) : Answer := running s (decide (h < 2)) fun s => s.hostLinkUp h

/-- TAP_RESET (R456). -/
def execTapReset (s : State) : Answer := answer s s.tapOn State.tapReset

/-- IDCODE (R456, R457): selected, and shifted out. -/
def execIdcode (s : State) : Answer :=
  answer s s.tapOn fun s => (s.tapPassive 0x01 false).send (.tdo (wordBits s.idcode))

/-- SAMPLE_PRELOAD (R457): the pins are sampled and shifted out, the boundary cells are loaded, and no pin is driven. -/
def execSamplePreload (cells : List Bool) (s : State) : Answer :=
  answer s s.tapOn fun s => (s.tapPassive 0x02 false).capture.modPwr fun p => { p with cells := cells }

/-- EXTEST (R458, R459): `cells` are shifted in under it. -/
def execExtest (cells : List Bool) (s : State) : Answer :=
  answer s s.tapOn fun s => (s.tapDrives 0x03).shiftCells cells

/-- EXTEST_PULSE (R458, R459). -/
def execExtestPulse (cells : List Bool) (s : State) : Answer :=
  answer s s.tapOn fun s => (s.tapDrives 0x04).shiftCells cells

/-- EXTEST_TRAIN (R458, R459). -/
def execExtestTrain (cells : List Bool) (s : State) : Answer :=
  answer s s.tapOn fun s => (s.tapDrives 0x05).shiftCells cells

/-- HIGHZ (R458). -/
def execHighz (s : State) : Answer := answer s s.tapOn fun s => s.tapDrives 0x06

/-- CLAMP (R458). -/
def execClamp (s : State) : Answer := answer s s.tapOn fun s => s.tapDrives 0x07

/-- BYPASS (R457): 0xFF and every code no other instruction has. -/
def execBypass (code : BitVec 8) (s : State) : Answer :=
  answer s (s.tapOn && !(decide (1 ≤ code.toNat) && decide (code.toNat ≤ 7))) fun s => s.tapPassive code.toNat true

end Sys2Proof.Machine
end

