-- ==== Sys2Proof/Machine/RtiCmds.lean ====
section
/-! DEFINITION. Commands of ride-through, the profiles and islanding. -/

namespace Sys2Proof.Machine

/-- In RIDE, inside the return band, with no slew: only time is missing to the return. -/
def State.returning (s : State) : Bool := s.modes.cur == .ride && s.rti.bandFrom.isSome && !s.ang.slew && s.modes.next.isNone

/-- The instant at which RET_T and PJ_T have passed (R274). -/
def State.returnAt (s : State) : Nat :=
  max (s.rti.bandFrom.getD 0 + ms (fld (s.pw 0x10) 16 16))
    (match s.rti.pjFrom with | some a => a + ms (fld (s.pw 0x2C) 0 16) | none => 0)

/-- RIDE_RETURN (R274). -/
def execRideReturn (s : State) : Answer :=
  running s s.returning fun s => (s.advance s.returnAt).decideReturn

/-- The row of R273 that is met now. -/
def State.rowMet (s : State) : Option Nat :=
  if s.modes.cur == .follow || s.modes.cur == .form || s.modes.cur == .ride then s.tripRow (s.modes.cur == .ride) else none

/-- PROFILE_TRIP (R273): `row` is the first row met. -/
def execProfileTrip (row : Nat) (s : State) : Answer := running s (s.rowMet == some row) fun s => s.profileTrip row

/-- A completed RTI_PEDIT that names a profile. -/
def editCmd (s : State) (h cmd profile : Nat) : Answer :=
  running s (decide (h < 4) && decide (profile < 8)) fun s => s.hostComplete h A.RTI_PEDIT (wd (cmd + 0x100 * profile))

/-- PROFILE_LOAD (R268). -/
def execProfileLoad (h profile : Nat) (s : State) : Answer := editCmd s h 1 profile

/-- PROFILE_STAGING_WRITE (R268). -/
def execProfileStagingWrite (h profile byte : Nat) (v : Word) (s : State) : Answer :=
  running s (decide (h < 4) && decide (profile < 8) && decide (byte < 0x400)) fun s => s.hostPut h (A.PROFILE profile byte) v

/-- PROFILE_COMMIT (R268). -/
def execProfileCommit (h profile : Nat) (s : State) : Answer := editCmd s h 2 profile

/-- PROFILE_ABANDON (R268). -/
def execProfileAbandon (h profile : Nat) (s : State) : Answer := editCmd s h 3 profile

/-- A profile written anew leaves no corrupt pair of its old contents (R400). -/
def State.profileMended (s : State) (p : Nat) : State :=
  s.modMem fun m => { m with
    corrupt := m.corrupt.filter fun e => !(decide (A.PROFILE p 0 ≤ e.1) && decide (e.1 < A.PROFILE p 0x400)) }

/-- PROFILE_WRITTEN (R268). -/
def execProfileWritten (s : State) : Answer :=
  running s s.rti.busy.isSome fun s => (s.profileMended (s.rti.busy.getD 0)).profileDone

/-- CHIP_END (R279 to R281, R283). -/
def execChipEnd (s : State) : Answer := running s s.rti.chipDue State.chipEnd

/-- The detection that waits to be acted on in FOLLOW or FORM. -/
def State.toAct (s : State) : Option Nat := if s.modes.cur == .follow || s.modes.cur == .form then s.detected else none

/-- ISLAND_ACTION (R282). -/
def execIslandAction (s : State) : Answer := running s s.toAct.isSome fun s => s.islandAct (s.toAct.getD 0)

/-- PASSIVE_ISLAND_DETECT (R277): 2 frequency, 3 ROCOF, 4 vector shift. -/
def execPassiveIslandDetect (why : Nat) (s : State) : Answer :=
  running s (s.passiveFires why && s.rti.detect.isNone) fun s => s.modRti fun r => { r with detect := some why }

/-- |Z| has stayed below ZTHR / 2 for a whole window in FORM. -/
def State.gridBackDue (s : State) : Bool := s.modes.cur == .form && s.rti.isl && decide (63 ≤ s.rti.zUnder)

/-- GRID_BACK (R283). -/
def execGridBack (s : State) : Answer :=
  running s s.gridBackDue fun s => (s.modRti fun r => { r with isl := false }).event 0xA0 7

/-- The reconnection conditions hold, and there is a condition for them to end. -/
def State.reconRuns (s : State) : Bool :=
  (s.modes.cond.testBit cProfile || s.modes.cond.testBit cIsland) && !s.rti.reconDone && s.rti.reconFrom.isSome

/-- RECON_T has passed. -/
def State.reconAt (s : State) : Nat := s.rti.reconFrom.getD 0 + ms (1000 * fld (s.pw 0x68) 0 16)

/-- RECON_OK (R284). -/
def execReconOk (s : State) : Answer := running s s.reconRuns fun s => (s.advance s.reconAt).reconEnds

end Sys2Proof.Machine
end

