-- ==== Sys2Proof/Machine/SafetyCmds.lean ====
section
/-! DEFINITION. Commands of the safety channels. -/

namespace Sys2Proof.Machine

/-- A step of the safety channels that have not stopped, and what the grid unit does at once on it: the close sequence and the stop follow
permission and confirmations (R227 to R229). -/
def channels (s : State) (c : Bool) (f : State → State) : Answer := running s (s.sampling && c) fun s => (f s).closeRun.stopRun

/-- SAFETY_TICK (R314, R318, R319, R322 to R325): the levels of the 16 safe inputs, of the mirror contacts, bits 2g and
2g + 1 the mirrors A and B of group g, 1 closed, and of the outputs read back, bits g and 4 + g SDO_H and SDO_L of group g. -/
def execSafetyTick (si : BitVec 16) (mirrors readback : BitVec 8) (s : State) : Answer :=
  channels s true fun s => s.safetyTick si mirrors readback

/-- The channels of a pair in use disagree, and the counter has not reached D. -/
def State.disagreeing (s : State) (p : Nat) : Bool :=
  let q := s.sip p
  decide (p < 8) && fld (s.sipCfg p) 0 2 != 0 && q.a != q.b && decide (q.cnt < fld (s.sipCfg p) 16 11)

/-- The counter of a pair reaches D: the ticks that were missing pass. -/
def State.discReached (s : State) (p : Nat) : State :=
  let d := fld (s.sipCfg p) 16 11
  ((s.advance (s.saf.tickAt + ms (d - (s.sip p).cnt))).modSip p fun q => { q with cnt := d }).discFault p

/-- DISCREPANCY_FAULT (R324). -/
def execDiscrepancyFault (pair : Nat) (s : State) : Answer := channels s (s.disagreeing pair) fun s => s.discReached pair

/-- Each channel switches its own outputs from its own verdict on a group: a group that either holds off is de-energised,
and the other channel's switch stays as that channel has it (R314, R317). In its own dark pulse a channel has its switch off, not
its verdict: an off verdict then is a demand, which wins (R320). -/
def State.verdicts (s : State) (x y : BitVec 4) : State :=
  (List.range 4).foldl (fun s g =>
    let q := s.group g
    let pulsed := fun (high : Bool) => match q.pulse with | some p => p.1 == high | none => false
    let off := ((q.h || pulsed true) && !x.getLsbD g) || ((q.l || pulsed false) && !y.getLsbD g)
    if off then (s.groupOff g).modGroup g fun r => { r with h := q.h && x.getLsbD g, l := q.l && y.getLsbD g } else s) s

/-- One exchange over the cross-link: a missing or corrupt frame, or the verdicts of the channels on the groups, and whether
those on an input pair, a seal switch or an envelope differ. The fault it may be is one of both channels (R315; DEDUCED, log
entry 160). -/
def State.exchange (s : State) (good differ : Bool) (x y : BitVec 4) : State :=
  let missing := if good then 0 else min (s.saf.missing + 1) 4
  let differs := if !good then s.saf.differ else if differ || x != y then min (s.saf.differ + 1) 8 else 0
  let s1 := { s with saf := { s.saf with missing := missing, differ := differs, link := s.saf.link && decide (missing < 4) } }
  let s2 := if good then s1.verdicts x y else s1
  if missing = 4 ∨ differs = 8 then (s2.channelStops 0).channelStops 1 else s2

/-- CROSS_LINK_EXCHANGE (R314, R315): bit g of `x` and `y` set while channel X and Y let group g be on. -/
def execCrossLinkExchange (good differ : Bool) (x y : BitVec 4) (s : State) : Answer :=
  channels s true fun s => s.exchange good differ x y

/-- CHANNEL_FAULT (R315). -/
def execChannelFault (channel : Nat) (s : State) : Answer := channels s (decide (channel < 2)) fun s => s.channelStops channel

/-- GROUP_COMMAND (R317). -/
def execGroupCommand (h : Nat) (v : Word) (s : State) : Answer := hostPair s h A.SAF_GRP_CMD v

/-- The mirrors of a group follow its command and have not confirmed it yet. -/
def State.confirming (s : State) (g : Nat) : Bool :=
  let q := s.group g
  decide (g < 4) && q.follows && (q.conf == 0 || q.conf == 3)

/-- FEEDBACK_CONFIRM (R318): the mirrors have been steady for 10 ms. -/
def execFeedbackConfirm (group : Nat) (s : State) : Answer :=
  channels s (s.confirming group) fun s =>
    (s.advance (s.saf.tickAt + ms (10 - (s.group group).good))).fbConfirm group

/-- A change of a group is not confirmed, and its mirrors do not follow. -/
def State.unconfirmed (s : State) (g : Nat) : Bool :=
  let q := s.group g
  decide (g < 4) && q.conf == 3 && !q.follows

/-- FEEDBACK_TIMEOUT (R318): FB_T has passed. -/
def execFeedbackTimeout (group : Nat) (s : State) : Answer :=
  channels s (s.unconfirmed group) fun s => (s.advance ((s.group group).cmdAt + ms s.fbT)).fbLate group

/-- In steady state the mirrors of a group disagree with each other or with its command. -/
def State.mirrorsWrong (s : State) (g : Nat) : Bool :=
  let q := s.group g
  decide (g < 4) && q.conf != 3 && !q.follows

/-- Mirrors that disagree do so for longer than FB_T. -/
def State.mirrorFault (s : State) (g : Nat) : State :=
  let q := s.group g
  let s1 := if q.fba != q.fbb then s.advance (s.saf.tickAt + ms (s.fbT + 1 - q.disagree)) else s
  s1.safLatch lFbdis

/-- MIRROR_DISAGREE (R318). -/
def execMirrorDisagree (group : Nat) (s : State) : Answer := channels s (s.mirrorsWrong group) fun s => s.mirrorFault group

/-- The group of a switch: 0 to 3 SDO_H, 4 to 7 SDO_L. -/
def switchGroup (n : Nat) : Nat := n % 4

/-- The next instant at which a dark pulse falls due on a switch, within the second of the channels' timers, which run with
the monotone time (R319). -/
def State.darkAt (s : State) (n : Nat) : Nat :=
  let pos := ms (if n < 4 then 125 * n else 500 + 125 * (n - 4))
  s.now + (pos + ms 1000 - s.now % ms 1000) % ms 1000

/-- A dark pulse falls due on a switch: it begins, or is skipped within FB_T of a command to the group (R320). -/
def State.darkPulse (s : State) (n : Nat) : State :=
  let g := switchGroup n
  let s := s.advance (s.darkAt n)
  if !(s.group g).cmd && decide ((s.group g).cmdAt + ms s.fbT ≤ s.now) then s
  else if s.now < (s.group g).cmdAt + ms s.fbT then (s.modGroup g fun q => { q with skip := satInc 16 q.skip 1 }).event 0xC0 5 g
  else s.modGroup g fun q => { q with
    pulse := some (decide (n < 4), s.now), h := q.h && decide (4 ≤ n), l := q.l && decide (n < 4) }

/-- DARK_PULSE (R319, R320). -/
def execDarkPulse (switch : Nat) (s : State) : Answer :=
  channels s (decide (switch < 8) && ((s.group (switchGroup switch)).cmd || decide (0 < (s.group (switchGroup switch)).cmdAt)) &&
      s.saf.groups.all (·.pulse.isNone)) fun s => s.darkPulse switch

/-- A dark pulse is under way on a switch. -/
def State.pulsing (s : State) (n : Nat) : Bool :=
  decide (n < 8) && (match (s.group (switchGroup n)).pulse with | some p => p.1 == decide (n < 4) | none => false)

/-- The end of a dark pulse: what the channel has read back is judged (R319). -/
def State.darkEnds (s : State) (n : Nat) (readOff readOn : Bool) : State :=
  let g := switchGroup n
  let began := match (s.group g).pulse with | some p => p.2 | none => s.now
  let s1 := (s.advance (began + us (fld (s.sreg A.SAF_TEST_CFG) 0 10))).modGroup g fun q => { q with
    pulse := none, h := q.h || decide (n < 4), l := q.l || decide (4 ≤ n),
    rdH := if n < 4 then readOn else q.rdH, rdL := if n < 4 then q.rdL else readOn, tFail := q.tFail || !(readOff && readOn) }
  let s2 := if readOff && readOn then s1 else s1.safLatch lTest
  if readOn then s2 else s2.groupOff g

/-- DARK_PULSE_END (R319): whether the output read off within the pulse, and on again after it. -/
def execDarkPulseEnd (switch : Nat) (readOff readOn : Bool) (s : State) : Answer :=
  channels s (s.pulsing switch) fun s => s.darkEnds switch readOff readOn

/-- SWITCH_STUCK_ON (R319): a switch reads on for more than 5 ms while it is commanded off. -/
def execSwitchStuckOn (switch : Nat) (s : State) : Answer :=
  channels s (decide (switch < 8) && !(s.group (switchGroup switch)).cmd) fun s =>
    (s.modGroup (switchGroup switch) fun q => { q with
      onH := if switch < 4 then 6 else q.onH, onL := if switch < 4 then q.onL else 6,
      rdH := q.rdH || decide (switch < 4), rdL := q.rdL || decide (4 ≤ switch) }).safLatch lTest

/-- The next instant at which the pulse of a line falls due: k × PER / 4 into a period, and periods run with the channels'
timers from the monotone time 0 (R323; DEDUCED, log entry 213). -/
def State.testAt (s : State) (line : Nat) : Nat :=
  let per := ms (fld (s.sreg A.SAF_TP_CFG) 0 10)
  let pos := line * per / 4
  let from_ := max s.now (s.saf.tpUntil.getD line 0)
  from_ + (pos + per - from_ % per) % per

/-- A test-pulse line goes low for 400 µs; its inputs are not sampled up to 100 µs after. -/
def State.testPulse (s : State) (line : Nat) : State :=
  let s1 := s.advance (s.testAt line)
  { s1 with saf := { s1.saf with tpUntil := setAt (s1.now + us 500) line s1.saf.tpUntil } }

/-- TEST_PULSE (R323): TP_0 and TP_1 are X's, TP_2 and TP_3 Y's (R314). -/
def execTestPulse (line : Nat) (s : State) : Answer := channels s (decide (line < 4) && (if line < 2 then s.saf.xOk else s.saf.yOk)) fun s => s.testPulse line

/-- Inputs fed by a line read low 300 µs into its pulse; one that reads high is a crossfault of its pair (R323). -/
def State.crossCheck (s : State) (line : Nat) (si : BitVec 16) : State :=
  let at_ := s.saf.tpUntil.getD line 0 - us 200
  (List.range 8).foldl (fun s p =>
    let c := s.sipCfg p
    let bad := (fld c 4 2 == line && si.getLsbD (2 * p)) || (fld c 6 2 == line && si.getLsbD (2 * p + 1))
    if fld c 0 2 != 0 && bad then s.crossFault p else s) (s.advance at_)

/-- CROSSFAULT_CHECK (R323). -/
def execCrossfaultCheck (line : Nat) (si : BitVec 16) (s : State) : Answer :=
  channels s (decide (line < 4) && decide (s.now < s.saf.tpUntil.getD line 0)) fun s => s.crossCheck line si

/-- One sample of the eight seal switches by both channels. -/
def State.sealSample (s : State) (noX ncX noY ncY : BitVec 8) : State :=
  let s1 := { s with saf := { s.saf with sealNo := noX.toNat, sealNc := ncX.toNat } }
  (List.range 8).foldl (fun s k => s.sealStep noX ncX noY ncY k) s1

/-- SEAL_SAMPLE (R326 to R328): bit k of each is switch k; X and Y are the channels. -/
def execSealSample (noX ncX noY ncY : BitVec 8) (s : State) : Answer :=
  channels s true fun s => s.sealSample noX ncX noY ncY

/-- A value that a switch has shown at its last sample, and has not yet taken. -/
def State.sealPending (s : State) (k : Nat) : Bool :=
  let q := s.seal k
  decide (k < 8) && (match q.cand with | some v => !q.known || v != q.val || q.bad | none => false)

/-- The second sample repeats it: the reading changes. -/
def State.sealTakes (s : State) (k : Nat) : State :=
  let q := s.seal k
  s.sealMoved k q { q with val := q.cand.getD q.val, known := true, bad := false, good := 2, equal := 0, differ := 0 }

/-- SEAL_CHANGE (R326, R328). -/
def execSealChange (sealIx : Nat) (s : State) : Answer := channels s (s.sealPending sealIx) fun s => s.sealTakes sealIx

/-- A switch whose pins have read equal, or which the channels have read differently, at its last samples. -/
def State.sealFailing (s : State) (k : Nat) : Bool :=
  let q := s.seal k
  decide (k < 8) && (decide (1 ≤ q.equal) || decide (1 ≤ q.differ)) && !q.bad

/-- The third sample in a row: the switch is invalid. -/
def State.sealFails (s : State) (k : Nat) : State :=
  let q := s.seal k
  s.sealMoved k q { q with
    bad := true, good := 0, cand := none, equal := if 1 ≤ q.equal then 3 else q.equal, differ := if 1 ≤ q.differ then 3 else q.differ }

/-- SEAL_FAULT (R326). -/
def execSealFault (sealIx : Nat) (s : State) : Answer := channels s (s.sealFailing sealIx) fun s => s.sealFails sealIx

/-- ENVELOPE_COPY (R330, R331): a copy handed to the channels, from PRO_A (0) or PRO_B (1), its bytes and its receive
timestamp in ns. -/
def execEnvelopeCopy (net : Nat) (bytes : List Byte) (rx : Nat) (s : State) : Answer :=
  channels s (decide (net < 2) && s.net.handed.any (handedIs net bytes rx)) fun s => s.envelopeIn net bytes rx

/-- The oldest copy held of a source from a network. -/
def State.heldCopy (s : State) (net src : Nat) : Option Copy := s.saf.copies.find? fun c => c.net == net && c.src == src

/-- 4 ms have passed over a held copy. -/
def State.copyEnds (s : State) (net src : Nat) : State :=
  match s.heldCopy net src with
  | some c => (s.advance (c.at_ + ms 4 + 1)).dropUnpaired net src
  | none => s

/-- ENVELOPE_UNPAIRED (R331). -/
def execEnvelopeUnpaired (net source : Nat) (s : State) : Answer :=
  channels s (s.heldCopy net source).isSome fun s => s.copyEnds net source

/-- 50 ms without a valid copy have passed on a network. -/
def State.fallsSilent (s : State) (net : Nat) : State :=
  let s1 := s.advance (s.saf.lastOk.getD net 0 + ms 50 + 1)
  { s1 with saf := { s1.saf with silent := setAt true net s1.saf.silent } }

/-- NETWORK_SILENT (R331). -/
def execNetworkSilent (net : Nat) (s : State) : Answer :=
  channels s (decide (net < 2) && !s.saf.silent.getD net false) fun s => s.fallsSilent net

/-- The permission window of a source ends. -/
def State.permitEnds (s : State) (i : Nat) : State :=
  match (s.source i).window with
  | some t => (s.advance t).modSource i fun q => { q with window := none }
  | none => s

/-- PERMIT_WINDOW_END (R331). -/
def execPermitWindowEnd (source : Nat) (s : State) : Answer :=
  channels s (decide (source < 8) && (s.source source).window.isSome) fun s => s.permitEnds source

/-- ITSUP_LATCH (R334): with SEAL_5 closed both networks have been silent for SUP. -/
def execItsupLatch (s : State) : Answer :=
  channels s (s.sealClosed 5) fun s => (s.advance s.itsupAt).itsupOn

/-- SAFETY_ACK (R335). -/
def execSafetyAck (h : Nat) (s : State) : Answer := hostPair s h A.SAF_ACK 0x1#32

end Sys2Proof.Machine
end

