-- ==== Sys2Proof/Machine/SentinelCmds.lean ====
section
/-! DEFINITION. Commands of the sentinel domain, which lives by its own cell. -/

namespace Sys2Proof.Machine

/-- A step of the domain while it lives. -/
def inDomain (s : State) (f : State → State) : Answer := answer s s.sen.alive f

/-- SENTINEL_SAMPLE (R438, R449): the contacts of the eight switches and the two tamper inputs. -/
def execSentinelSample (no nc : BitVec 8) (tamp : BitVec 2) (s : State) : Answer := inDomain s fun s => s.senSample no nc tamp

/-- A reading at the last sample that differs from the baseline. -/
def State.senPending (s : State) (i : Nat) : Bool :=
  let c := s.sen.cand.getD i (0, 0)
  decide (i < 10) && s.senWatches i && decide (0 < c.2) && c.1 != s.sen.base i

/-- The second sample repeats it. -/
def State.senConfirm (s : State) (i : Nat) : State :=
  (s.modSen fun q => { q with cand := modAt (fun c => (c.1, 2)) i q.cand }).senChange i

/-- SENTINEL_READING_CHANGE (R438): switches 0 to 7, tamper inputs 8 and 9. -/
def execSentinelReadingChange (input : Nat) (s : State) : Answer :=
  answer s (s.sen.alive && s.senPending input) fun s => s.senConfirm input

/-- ALERT_FRAME_START (R442). -/
def execAlertFrameStart (s : State) : Answer := inDomain s State.alertStart

/-- ALERT_FRAME_ABORT (R442): the loaded cell has sampled below 3.10 V; on the auxiliary supply a frame completes (R446). -/
def execAlertFrameAbort (s : State) : Answer := answer s (s.sen.alive && !s.rail.aux) State.alertAbort

/-- ALERT_FRAME_COMPLETE (R442). -/
def execAlertFrameComplete (s : State) : Answer := inDomain s State.alertComplete

/-- ALERT_RETRY (R442). -/
def execAlertRetry (s : State) : Answer := inDomain s State.alertRetry

/-- ALIVE_STAMP (R443). -/
def execAliveStamp (s : State) : Answer := inDomain s State.aliveStamp

/-- BAND_CHANGE (R437): the cell voltage in mV. -/
def execBandChange (mV : Nat) (s : State) : Answer := inDomain s fun s => s.bandChange mV

/-- CELL_CUTOFF (R436, R446): `midWrite` says that the cut falls into the write of the newest entry. -/
def execCellCutoff (midWrite : Bool) (s : State) : Answer := inDomain s fun s => s.cellCutoff midWrite

/-- CELL_PROTECTION (R436): 0 over-voltage, 1 over-current, 2 charge temperature, 3 discharge temperature. -/
def execCellProtection (kind : Nat) (s : State) : Answer :=
  answer s (s.sen.alive && decide (kind < 4) && (kind != 0 || decide (4200 ≤ s.sen.vcell))) fun s => s.cellProtects kind

/-- CELL_PROTECTION_RELEASE (R436). -/
def execCellProtectionRelease (kind : Nat) (s : State) : Answer :=
  answer s (s.sen.alive && decide (kind < 4) && s.sen.prot.testBit kind && (kind != 0 || decide (s.sen.vcell < 4100)))
    fun s => s.cellReleases kind

/-- SENTINEL_COLD_START (R443): the auxiliary input has returned to a dead domain. -/
def execSentinelColdStart (s : State) : Answer := answer s (!s.sen.alive && s.rail.aux) State.coldStart

/-- SENTINEL_HANDOVER (R445). -/
def execSentinelHandover (s : State) : Answer := running s s.sen.alive State.senHandover

/-- TAMPER_CONFIG_WRITE (R449). -/
def execTamperConfigWrite (h : Nat) (v : Word) (s : State) : Answer := hostWord s h A.SEN_TAMP_CFG v

/-- SEN_STAT_READ (R448): the read clears CELLFLT. -/
def execSenStatRead (h : Nat) (s : State) : Answer := byHost s h fun s => (s.hostRead h A.SEN_STAT).1

end Sys2Proof.Machine
end

