-- ==== Sys2Proof/Machine/Dispatch.lean ====
section
/-! DEFINITION. The meaning of each command: one arm a constructor. -/

namespace Sys2Proof.Machine

/-- The effect of a command on everything but the queue of waiting commands. -/
def exec (i : Instr) (s : State) : Host.Outcome State Fault Refusal :=
  match i with
  | .registerWrite h way off v => Sys2Proof.Machine.execRegisterWrite h way off v s
  | .rwcValueWrite h off v => Sys2Proof.Machine.execRwcValueWrite h off v s
  | .errcodeWrite h page v => Sys2Proof.Machine.execErrcodeWrite h page v s
  | .irqStatClear h page v => Sys2Proof.Machine.execIrqStatClear h page v s
  | .claim h page arg => Sys2Proof.Machine.execClaim h page arg s
  | .release h page arg => Sys2Proof.Machine.execRelease h page arg s
  | .breakClaim h page arg => Sys2Proof.Machine.execBreakClaim h page arg s
  | .key h page arg => Sys2Proof.Machine.execKey h page arg s
  | .keyExpiry h page => Sys2Proof.Machine.execKeyExpiry h page s
  | .modeRequestWatch h => Sys2Proof.Machine.execModeRequestWatch h s
  | .modeRequestEnergize h => Sys2Proof.Machine.execModeRequestEnergize h s
  | .modeRequestFollow h => Sys2Proof.Machine.execModeRequestFollow h s
  | .modeRequestForm h => Sys2Proof.Machine.execModeRequestForm h s
  | .modeRequestService h => Sys2Proof.Machine.execModeRequestService h s
  | .holdRequest h v => Sys2Proof.Machine.execHoldRequest h v s
  | .holdLatchClear h v => Sys2Proof.Machine.execHoldLatchClear h v s
  | .beatStart => Sys2Proof.Machine.execBeatStart s
  | .scheduleEntryFire entry => Sys2Proof.Machine.execScheduleEntryFire entry s
  | .blankWindowEnd cmp => Sys2Proof.Machine.execBlankWindowEnd cmp s
  | .scheduleEntryWrite h entry word v => Sys2Proof.Machine.execScheduleEntryWrite h entry word v s
  | .cellReport port bytes errs => Sys2Proof.Machine.execCellReport port bytes errs s
  | .cellCharged cell => Sys2Proof.Machine.execCellCharged cell s
  | .cellAbsent cell => Sys2Proof.Machine.execCellAbsent cell s
  | .reportCutoff => Sys2Proof.Machine.execReportCutoff s
  | .joinStepRepeat cell => Sys2Proof.Machine.execJoinStepRepeat cell s
  | .pipelineStart => Sys2Proof.Machine.execPipelineStart s
  | .standbyCopyHandover => Sys2Proof.Machine.execStandbyCopyHandover s
  | .computeDeadline lateA lateB => Sys2Proof.Machine.execComputeDeadline lateA lateB s
  | .devtimeSet h v => Sys2Proof.Machine.execDevtimeSet h v s
  | .ptpSyncReceive port domain offset => Sys2Proof.Machine.execPtpSyncReceive port domain offset s
  | .ptpHoldover => Sys2Proof.Machine.execPtpHoldover s
  | .lockDeclared => Sys2Proof.Machine.execLockDeclared s
  | .lockLost => Sys2Proof.Machine.execLockLost s
  | .flywheelEntry => Sys2Proof.Machine.execFlywheelEntry s
  | .flywheelEnd => Sys2Proof.Machine.execFlywheelEnd s
  | .slewEnd => Sys2Proof.Machine.execSlewEnd s
  | .angDivWrite h v => Sys2Proof.Machine.execAngDivWrite h v s
  | .divTakeEffect => Sys2Proof.Machine.execDivTakeEffect s
  | .angCfgWrite h v => Sys2Proof.Machine.execAngCfgWrite h v s
  | .adcSwtrig h v => Sys2Proof.Machine.execAdcSwtrig h v s
  | .sequenceDelayExpiry seq => Sys2Proof.Machine.execSequenceDelayExpiry seq s
  | .entryHold seq => Sys2Proof.Machine.execEntryHold seq s
  | .conversionEnd bank slot raw overload => Sys2Proof.Machine.execConversionEnd bank slot raw overload s
  | .resultDelivery => Sys2Proof.Machine.execResultDelivery s
  | .calibrationStep => Sys2Proof.Machine.execCalibrationStep s
  | .spareCalibrationEnd offset gain converged => Sys2Proof.Machine.execSpareCalibrationEnd offset gain converged s
  | .slotHandover => Sys2Proof.Machine.execSlotHandover s
  | .calStarved => Sys2Proof.Machine.execCalStarved s
  | .sliceCalibrationEnd offset gain converged => Sys2Proof.Machine.execSliceCalibrationEnd offset gain converged s
  | .calsetLoad h => Sys2Proof.Machine.execCalsetLoad h s
  | .calsetDataWrite h v => Sys2Proof.Machine.execCalsetDataWrite h v s
  | .calsetWrite h => Sys2Proof.Machine.execCalsetWrite h s
  | .calsetWritten => Sys2Proof.Machine.execCalsetWritten s
  | .comparatorAssert cmp uv => Sys2Proof.Machine.execComparatorAssert cmp uv s
  | .comparatorRelease cmp uv => Sys2Proof.Machine.execComparatorRelease cmp uv s
  | .sampledWindow live => Sys2Proof.Machine.execSampledWindow live s
  | .comparatorSubstitute h circuit v => Sys2Proof.Machine.execComparatorSubstitute h circuit v s
  | .probeReturn ring counterClockwise delay => Sys2Proof.Machine.execProbeReturn ring counterClockwise delay s
  | .portDown port cause => Sys2Proof.Machine.execPortDown port cause s
  | .portSubstitute h v => Sys2Proof.Machine.execPortSubstitute h v s
  | .lnkCtrlWrite h ring v => Sys2Proof.Machine.execLnkCtrlWrite h ring v s
  | .cellTableWrite h cell byte v => Sys2Proof.Machine.execCellTableWrite h cell byte v s
  | .tripAssert line => Sys2Proof.Machine.execTripAssert line s
  | .tripClear line => Sys2Proof.Machine.execTripClear line s
  | .tripSw h v => Sys2Proof.Machine.execTripSw h v s
  | .lhbPeriodBoundary out => Sys2Proof.Machine.execLhbPeriodBoundary out s
  | .lhbCommit h v => Sys2Proof.Machine.execLhbCommit h v s
  | .modulatorEvent ev => Sys2Proof.Machine.execModulatorEvent ev s
  | .streamStopped => Sys2Proof.Machine.execStreamStopped s
  | .fabricClockStop => Sys2Proof.Machine.execFabricClockStop s
  | .counterClear h v => Sys2Proof.Machine.execCounterClear h v s
  | .forceLhb h v => Sys2Proof.Machine.execForceLhb h v s
  | .forceCell h v => Sys2Proof.Machine.execForceCell h v s
  | .slotStagingWrite h slot byte v => Sys2Proof.Machine.execSlotStagingWrite h slot byte v s
  | .slotCommit h slot v => Sys2Proof.Machine.execSlotCommit h slot v s
  | .setpointWrite h slot v => Sys2Proof.Machine.execSetpointWrite h slot v s
  | .loopRelease h v => Sys2Proof.Machine.execLoopRelease h v s
  | .snapshotCapture h => Sys2Proof.Machine.execSnapshotCapture h s
  | .snapshotRelease h => Sys2Proof.Machine.execSnapshotRelease h s
  | .closeStart h => Sys2Proof.Machine.execCloseStart h s
  | .closeAbort h => Sys2Proof.Machine.execCloseAbort h s
  | .closeStepAdvance => Sys2Proof.Machine.execCloseStepAdvance s
  | .closeWaitTimeout => Sys2Proof.Machine.execCloseWaitTimeout s
  | .grdOpen h v => Sys2Proof.Machine.execGrdOpen h v s
  | .stopZeroCurrent => Sys2Proof.Machine.execStopZeroCurrent s
  | .transferToFormComplete => Sys2Proof.Machine.execTransferToFormComplete s
  | .transferToFollowComplete => Sys2Proof.Machine.execTransferToFollowComplete s
  | .neutralCurrent => Sys2Proof.Machine.execNeutralCurrent s
  | .neutralClear => Sys2Proof.Machine.execNeutralClear s
  | .trackerPeriodEnd cell => Sys2Proof.Machine.execTrackerPeriodEnd cell s
  | .sweepStart cell => Sys2Proof.Machine.execSweepStart cell s
  | .sweepPointEnd cell => Sys2Proof.Machine.execSweepPointEnd cell s
  | .globalSweepDue => Sys2Proof.Machine.execGlobalSweepDue s
  | .globalSweepRequest h v => Sys2Proof.Machine.execGlobalSweepRequest h v s
  | .historyWrite => Sys2Proof.Machine.execHistoryWrite s
  | .storeDispatchWrite h v => Sys2Proof.Machine.execStoreDispatchWrite h v s
  | .subFail cell => Sys2Proof.Machine.execSubFail cell s
  | .bypassFail cell => Sys2Proof.Machine.execBypassFail cell s
  | .manualSubstitution h v => Sys2Proof.Machine.execManualSubstitution h v s
  | .rideReturn => Sys2Proof.Machine.execRideReturn s
  | .profileTrip row => Sys2Proof.Machine.execProfileTrip row s
  | .profileLoad h profile => Sys2Proof.Machine.execProfileLoad h profile s
  | .profileStagingWrite h profile byte v => Sys2Proof.Machine.execProfileStagingWrite h profile byte v s
  | .profileCommit h profile => Sys2Proof.Machine.execProfileCommit h profile s
  | .profileAbandon h profile => Sys2Proof.Machine.execProfileAbandon h profile s
  | .profileWritten => Sys2Proof.Machine.execProfileWritten s
  | .chipEnd => Sys2Proof.Machine.execChipEnd s
  | .islandAction => Sys2Proof.Machine.execIslandAction s
  | .passiveIslandDetect why => Sys2Proof.Machine.execPassiveIslandDetect why s
  | .gridBack => Sys2Proof.Machine.execGridBack s
  | .reconOk => Sys2Proof.Machine.execReconOk s
  | .heartbeat eng seq => Sys2Proof.Machine.execHeartbeat eng seq s
  | .heartbeatMissing eng => Sys2Proof.Machine.execHeartbeatMissing eng s
  | .leaseExpiry => Sys2Proof.Machine.execLeaseExpiry s
  | .guardEnd => Sys2Proof.Machine.execGuardEnd s
  | .engineFault eng cause => Sys2Proof.Machine.execEngineFault eng cause s
  | .gafferFrozen => Sys2Proof.Machine.execGafferFrozen s
  | .forcedSwitchover h => Sys2Proof.Machine.execForcedSwitchover h s
  | .switchoverJudgementEnd => Sys2Proof.Machine.execSwitchoverJudgementEnd s
  | .testDue => Sys2Proof.Machine.execTestDue s
  | .engineJoin h eng slot => Sys2Proof.Machine.execEngineJoin h eng slot s
  | .engineReload h eng slot => Sys2Proof.Machine.execEngineReload h eng slot s
  | .engineHalt h eng => Sys2Proof.Machine.execEngineHalt h eng s
  | .engineOff h eng => Sys2Proof.Machine.execEngineOff h eng s
  | .rejoinStageEnd eng pass => Sys2Proof.Machine.execRejoinStageEnd eng pass s
  | .rejoinTimeout eng => Sys2Proof.Machine.execRejoinTimeout eng s
  | .autojoin eng => Sys2Proof.Machine.execAutojoin eng s
  | .safetyTick si mirrors readback => Sys2Proof.Machine.execSafetyTick si mirrors readback s
  | .discrepancyFault pair => Sys2Proof.Machine.execDiscrepancyFault pair s
  | .crossLinkExchange good differ x y => Sys2Proof.Machine.execCrossLinkExchange good differ x y s
  | .channelFault channel => Sys2Proof.Machine.execChannelFault channel s
  | .groupCommand h v => Sys2Proof.Machine.execGroupCommand h v s
  | .feedbackConfirm group => Sys2Proof.Machine.execFeedbackConfirm group s
  | .feedbackTimeout group => Sys2Proof.Machine.execFeedbackTimeout group s
  | .mirrorDisagree group => Sys2Proof.Machine.execMirrorDisagree group s
  | .darkPulse switch => Sys2Proof.Machine.execDarkPulse switch s
  | .darkPulseEnd switch readOff readOn => Sys2Proof.Machine.execDarkPulseEnd switch readOff readOn s
  | .switchStuckOn switch => Sys2Proof.Machine.execSwitchStuckOn switch s
  | .testPulse line => Sys2Proof.Machine.execTestPulse line s
  | .crossfaultCheck line si => Sys2Proof.Machine.execCrossfaultCheck line si s
  | .sealSample noX ncX noY ncY => Sys2Proof.Machine.execSealSample noX ncX noY ncY s
  | .sealChange sealIx => Sys2Proof.Machine.execSealChange sealIx s
  | .sealFault sealIx => Sys2Proof.Machine.execSealFault sealIx s
  | .envelopeCopy net bytes rx => Sys2Proof.Machine.execEnvelopeCopy net bytes rx s
  | .envelopeUnpaired net source => Sys2Proof.Machine.execEnvelopeUnpaired net source s
  | .networkSilent net => Sys2Proof.Machine.execNetworkSilent net s
  | .permitWindowEnd source => Sys2Proof.Machine.execPermitWindowEnd source s
  | .itsupLatch => Sys2Proof.Machine.execItsupLatch s
  | .safetyAck h => Sys2Proof.Machine.execSafetyAck h s
  | .ringEnable h ring v => Sys2Proof.Machine.execRingEnable h ring v s
  | .ringDisable h ring v => Sys2Proof.Machine.execRingDisable h ring v s
  | .cmdDoorbell h ring v => Sys2Proof.Machine.execCmdDoorbell h ring v s
  | .ringHeadWrite h ring v => Sys2Proof.Machine.execRingHeadWrite h ring v s
  | .nop ring => Sys2Proof.Machine.execNop ring s
  | .read ring => Sys2Proof.Machine.execRead ring s
  | .write ring => Sys2Proof.Machine.execWrite ring s
  | .writePair ring => Sys2Proof.Machine.execWritePair ring s
  | .imageOpen ring => Sys2Proof.Machine.execImageOpen ring s
  | .imageData ring => Sys2Proof.Machine.execImageData ring s
  | .imageClose ring => Sys2Proof.Machine.execImageClose ring s
  | .logRead ring => Sys2Proof.Machine.execLogRead ring s
  | .msixDeferred h => Sys2Proof.Machine.execMsixDeferred h s
  | .eventWindowClose h code subject => Sys2Proof.Machine.execEventWindowClose h code subject s
  | .versionNegotiate h v => Sys2Proof.Machine.execVersionNegotiate h v s
  | .hostResetRequest h => Sys2Proof.Machine.execHostResetRequest h s
  | .releaseAll h => Sys2Proof.Machine.execReleaseAll h s
  | .hostPortReset h what => Sys2Proof.Machine.execHostPortReset h what s
  | .logQueueDrain => Sys2Proof.Machine.execLogQueueDrain s
  | .pdelayReqSend port => Sys2Proof.Machine.execPdelayReqSend port s
  | .pdelayReqAnswer port domain => Sys2Proof.Machine.execPdelayReqAnswer port domain s
  | .ptpAnnounceTimeout port => Sys2Proof.Machine.execPtpAnnounceTimeout port s
  | .prpFrameReceive port source seq trailer => Sys2Proof.Machine.execPrpFrameReceive port source seq trailer s
  | .prpSupervisionSend => Sys2Proof.Machine.execPrpSupervisionSend s
  | .prpPath lan lost => Sys2Proof.Machine.execPrpPath lan lost s
  | .networkLinkChange port up => Sys2Proof.Machine.execNetworkLinkChange port up s
  | .gooseReceive frame => Sys2Proof.Machine.execGooseReceive frame s
  | .subTimeout entry => Sys2Proof.Machine.execSubTimeout entry s
  | .gooseRetransmit pub => Sys2Proof.Machine.execGooseRetransmit pub s
  | .svSample stream => Sys2Proof.Machine.execSvSample stream s
  | .recorderManualTrigger h v => Sys2Proof.Machine.execRecorderManualTrigger h v s
  | .recordEnd => Sys2Proof.Machine.execRecordEnd s
  | .recordDelivery => Sys2Proof.Machine.execRecordDelivery s
  | .recorderVersionNegotiate h v => Sys2Proof.Machine.execRecorderVersionNegotiate h v s
  | .sramScrub bank row corrected => Sys2Proof.Machine.execSramScrub bank row corrected s
  | .dramScrub corrected => Sys2Proof.Machine.execDramScrub corrected s
  | .uncorrectableError location item addr => Sys2Proof.Machine.execUncorrectableError location item addr s
  | .complementScan location off x xn => Sys2Proof.Machine.execComplementScan location off x xn s
  | .ciWrite h slot => Sys2Proof.Machine.execCiWrite h slot s
  | .ciApply h slot => Sys2Proof.Machine.execCiApply h slot s
  | .ciErase h slot => Sys2Proof.Machine.execCiErase h slot s
  | .ciOperationEnd verified signed => Sys2Proof.Machine.execCiOperationEnd verified signed s
  | .bootApply => Sys2Proof.Machine.execBootApply s
  | .lifecycleChange h target => Sys2Proof.Machine.execLifecycleChange h target s
  | .lifecycleWipeEnd => Sys2Proof.Machine.execLifecycleWipeEnd s
  | .auxRise rc3sel => Sys2Proof.Machine.execAuxRise rc3sel s
  | .auxFall => Sys2Proof.Machine.execAuxFall s
  | .railPowerGood ch => Sys2Proof.Machine.execRailPowerGood ch s
  | .softStartEnd ch preb => Sys2Proof.Machine.execSoftStartEnd ch preb s
  | .coreRailPgLoss ch => Sys2Proof.Machine.execCoreRailPgLoss ch s
  | .pgLost => Sys2Proof.Machine.execPgLost s
  | .railSyncValid kHz => Sys2Proof.Machine.execRailSyncValid kHz s
  | .railSyncLost => Sys2Proof.Machine.execRailSyncLost s
  | .currentLimit ch => Sys2Proof.Machine.execCurrentLimit ch s
  | .bstuv ch => Sys2Proof.Machine.execBstuv ch s
  | .bootstrapRecover ch => Sys2Proof.Machine.execBootstrapRecover ch s
  | .outputOvervoltage ch above => Sys2Proof.Machine.execOutputOvervoltage ch above s
  | .driverSupplyUv ch low => Sys2Proof.Machine.execDriverSupplyUv ch low s
  | .railLatch ch cause => Sys2Proof.Machine.execRailLatch ch cause s
  | .railEnRestart => Sys2Proof.Machine.execRailEnRestart s
  | .voltageCommand h ch v => Sys2Proof.Machine.execVoltageCommand h ch v s
  | .burstEntry ch => Sys2Proof.Machine.execBurstEntry ch s
  | .burstExit ch => Sys2Proof.Machine.execBurstExit ch s
  | .referenceGood ref => Sys2Proof.Machine.execReferenceGood ref s
  | .referenceLost ref => Sys2Proof.Machine.execReferenceLost ref s
  | .holdoverTimeout => Sys2Proof.Machine.execHoldoverTimeout s
  | .referenceRevert => Sys2Proof.Machine.execReferenceRevert s
  | .loopLock loop count => Sys2Proof.Machine.execLoopLock loop count s
  | .loopLockLoss loop count fast => Sys2Proof.Machine.execLoopLockLoss loop count fast s
  | .fabricRetryEnd locked => Sys2Proof.Machine.execFabricRetryEnd locked s
  | .dllLost port => Sys2Proof.Machine.execDllLost port s
  | .sentinelSample no nc tamp => Sys2Proof.Machine.execSentinelSample no nc tamp s
  | .sentinelReadingChange input => Sys2Proof.Machine.execSentinelReadingChange input s
  | .alertFrameStart => Sys2Proof.Machine.execAlertFrameStart s
  | .alertFrameAbort => Sys2Proof.Machine.execAlertFrameAbort s
  | .alertFrameComplete => Sys2Proof.Machine.execAlertFrameComplete s
  | .alertRetry => Sys2Proof.Machine.execAlertRetry s
  | .aliveStamp => Sys2Proof.Machine.execAliveStamp s
  | .bandChange mV => Sys2Proof.Machine.execBandChange mV s
  | .cellCutoff midWrite => Sys2Proof.Machine.execCellCutoff midWrite s
  | .cellProtection kind => Sys2Proof.Machine.execCellProtection kind s
  | .sentinelColdStart => Sys2Proof.Machine.execSentinelColdStart s
  | .sentinelHandover => Sys2Proof.Machine.execSentinelHandover s
  | .tamperConfigWrite h v => Sys2Proof.Machine.execTamperConfigWrite h v s
  | .senStatRead h => Sys2Proof.Machine.execSenStatRead h s
  | .resetPin low => Sys2Proof.Machine.execResetPin low s
  | .softwareReset h => Sys2Proof.Machine.execSoftwareReset h s
  | .resetRelease failed => Sys2Proof.Machine.execResetRelease failed s
  | .blockReady block => Sys2Proof.Machine.execBlockReady block s
  | .readinessTimeout block => Sys2Proof.Machine.execReadinessTimeout block s
  | .hostLinkUp h => Sys2Proof.Machine.execHostLinkUp h s
  | .tapReset => Sys2Proof.Machine.execTapReset s
  | .idcode => Sys2Proof.Machine.execIdcode s
  | .samplePreload cells => Sys2Proof.Machine.execSamplePreload cells s
  | .extest cells => Sys2Proof.Machine.execExtest cells s
  | .extestPulse cells => Sys2Proof.Machine.execExtestPulse cells s
  | .extestTrain cells => Sys2Proof.Machine.execExtestTrain cells s
  | .highz => Sys2Proof.Machine.execHighz s
  | .clamp => Sys2Proof.Machine.execClamp s
  | .bypass code => Sys2Proof.Machine.execBypass code s
  | .switchingCycle ch start pulse enable => Sys2Proof.Machine.execSwitchingCycle ch start pulse enable s
  | .reverseCurrentLimit ch => Sys2Proof.Machine.execReverseCurrentLimit ch s
  | .refDisagree tenthPpm => Sys2Proof.Machine.execRefDisagree tenthPpm s
  | .ringPortSync port => Sys2Proof.Machine.execRingPortSync port s
  | .ptpAnnounceReceive port domain gm cls utcOfs rank => Sys2Proof.Machine.execPtpAnnounceReceive port domain gm cls utcOfs rank s
  | .pdelayRespReceive port domain delay => Sys2Proof.Machine.execPdelayRespReceive port domain delay s
  | .engineBoot passA passB => Sys2Proof.Machine.execEngineBoot passA passB s
  | .imageCommandComplete signed format minsrev version hstv => Sys2Proof.Machine.execImageCommandComplete signed format minsrev version hstv s
  | .cellProtectionRelease kind => Sys2Proof.Machine.execCellProtectionRelease kind s
  | .analogDieFault => Sys2Proof.Machine.execAnalogDieFault s
  | .flashDieFault => Sys2Proof.Machine.execFlashDieFault s

end Sys2Proof.Machine
end

