-- ==== Sys2Proof/Safety.lean ====
section
/-! DEFINITION. The terms claims are made in: how a command is answered, what a host must have for its write to be
accepted, the forms in which one part of the state changes and the rest stays, and the invariants that every step keeps. -/

namespace Sys2Proof.Machine

/-! ## Answers -/

/-- A command is answered by a next state: what the command itself leaves, of which `p` speaks, and then what follows
every command (`State.settle`). -/
def Gives (a : Answer) (p : State → Prop) : Prop := ∃ t : State, a = .next t.settle ∧ p t

/-- A host's write to the block of a page passes every check common to such writes (R13, R19, R51). -/
def State.admits (s : State) (h page modes : Nat) : Bool :=
  s.live && decide (h < 4) && s.owns h page && s.modes.cur.within modes && s.usable page && !s.wiping

/-- A transfer by which a host writes one whole word: with all four byte enables on a PCIe port, by the command 0x38 on a
quad-SPI port (R344, R345). -/
def wholeWord (h : Nat) (way : BitVec 8) : Bool := if onPcie h then way.extractLsb' 0 4 == 0xF#4 else way == 0x38#8

/-- The value a host has placed in the pending holder of an RW-C register is `v`, and the host's write passes the checks
of the block (R14). -/
def State.pends (s : State) (h o modes : Nat) (v : Word) : Bool := s.admits h (pageOf o) modes && s.pendingOf h o == some v

/-- A host's DEV_MODE_REQ for a mode stands in its pending holder, its row of R52 is met, and nothing is still to be completed
or decided: the complement completes a request that is accepted (R14, R47, R52). -/
def State.asksFor (s : State) (h : Nat) (m : Mode) : Bool :=
  s.live && decide (h < 4) && s.pendingOf h A.DEV_MODE_REQ == some (wd m.code) && s.owns h 0 && s.modes.cur != m &&
  !s.modeBusy && s.modes.next.isNone && (!s.modes.returning || m == .watch) &&
  ((s.modeConds m).map fun cs => cs.all fun x => !x.1) == some true

/-- A transition to a mode has begun: TGT names it, TRANS stands, CUR and the causes of HOLD are what they were (R46). -/
abbrev Begun (s t : State) (m : Mode) : Prop :=
  t.modes.trans = true ∧ t.modes.tgt = m ∧ t.modes.asked = true ∧ t.modes.cur = s.modes.cur ∧
  t.modes.latch = s.modes.latch ∧ t.modes.cond = s.modes.cond

/-- It has begun and waits for nothing: the change is decided for the next beat start (R53), and nothing of the machine but
the mode fields and what a completed RW-C pair leaves has changed. -/
abbrev BegunAlone (s t : State) (m : Mode) : Prop :=
  Begun s t m ∧ t.modes.next = some m ∧ t = { s with regs := t.regs, hosts := t.hosts, modes := t.modes, mem := t.mem }

/-- How far a level, µV, lies past a comparator's threshold in the direction that asserts (R108). -/
def State.pastThreshold (s : State) (n : Nat) (uv : Int) : Int :=
  if bitAt (s.cmpCfg n) 6 then s.cmpLevel n n - uv else uv - s.cmpLevel n n

/-- A comparator's input has come to a level: powered all the time, enabled, and served by its own circuit, it asserts with
5 mV of overdrive and releases 5 mV past the threshold less the hysteresis; an output that so becomes asserted, blanking apart,
raises its flag; and nothing else of the machine changes (R108, R109). -/
abbrev InputFollowed (s t : State) (n : Nat) (uv : Int) : Prop :=
  Map.get (fun _ => (0 : Int)) (fld (s.cmpCfg n) 0 6) t.adc.ain = uv ∧
  (s.sampled = false → bitAt (s.cmpCfg n) 31 = true → s.cmpCircuit n = n →
    (5000 ≤ s.pastThreshold n uv → t.adc.cmpRaw.testBit n = true) ∧
    (s.pastThreshold n uv ≤ -cmpHyst (s.cmpCfg n) - 5000 → t.adc.cmpRaw.testBit n = false)) ∧
  (s.cmpOut n = false → t.cmpOut n = true → ∀ h, h < 4 → bitAt (t.ev.flags h 0x32) n = true) ∧
  t = { s with adc := { s.adc with cmpRaw := t.adc.cmpRaw, ain := t.adc.ain, cmpLive := t.adc.cmpLive },
               ev := t.ev, reco := t.reco, free := t.free }

/-- The command at the head of a CMD ring has an opcode of the set its host's version serves, is well formed, and is the
only one under way while an engine holds the pontil: it is carried out, and its completion is posted at once (R356,
R358). -/
def State.canRun (s : State) (n op from_ : Nat) : Bool :=
  s.takeable n && s.opcodeAt n == op && s.cmdOk n && decide (from_ ≤ s.hosts.sel.getD (s.ringOwner n) 0) &&
  !s.ev.holding && s.hosts.taken.isEmpty

/-- The command has left its ring. -/
abbrev TakenFrom (s t : State) (n : Nat) : Prop := (t.hw n).head = ((s.hw n).head + 1) % (s.hw n).entries

/-- The place in ring space where the completion of the command at the head of a CMD ring goes (R354, R358). -/
def State.answerAt (s : State) (n : Nat) : Nat := (s.hw (s.hw n).pair).base + 64 * (s.hw (s.hw n).pair).tail

/-- The command has left its ring, and its completion stands in the ring of its pair, whose index has advanced: it
carries the command's OPCODE and TAG, the status, the time it is posted, and the result (R355, R357). -/
abbrev AnsweredWith (s t : State) (n : Nat) (st : Status) (result : List Byte) : Prop :=
  let r := s.hw (s.hw n).pair
  let a := s.answerAt n
  TakenFrom s t n ∧ (t.hw (s.hw n).pair).tail = (r.tail + 1) % r.entries ∧ t.hosts.taken = [] ∧
  t.ev.read a 4 = (s.cmdBytes n).take 4 ∧ t.ev.byte (a + 4) = BitVec.ofNat 8 st.code ∧
  t.ev.read (a + 6) 2 = leBytes 2 result.length ∧ t.ev.read (a + 8) 8 = leBytes 8 t.devNs ∧
  t.ev.read (a + 20) result.length = result

/-- Nothing of ring space changes but the entry of that completion, and no ring but the two. -/
abbrev OnlyAnswered (s t : State) (n : Nat) : Prop :=
  (∀ m, m ≠ n → m ≠ (s.hw n).pair → t.hw m = s.hw m) ∧
  ∀ x, x < s.answerAt n ∨ s.answerAt n + 64 ≤ x → t.ev.byte x = s.ev.byte x

/-- Every enabled station port has sent a frame with the next trailer sequence and the identifier of its LAN (R372, R373). The
size its trailer names is open (log entry 215). -/
abbrev State.SendsOn (s : State) (dst appid : Nat) (pdu : Pdu) (t : State) : Prop :=
  let on := [1, 0].filter s.portOn
  t.net.prpSeq = (if on = [] then s.net.prpSeq else (s.net.prpSeq + 1) % 65536) ∧
  ∃ size : Nat, size < 4096 ∧
    t.ev.out = (on.map fun p => s.netFrame p dst appid (some (s.net.prpSeq, 0xA + p, size)) pdu) ++ s.ev.out

/-! ## What stays -/

/-- Nothing but the entries of interrupts, rings, log and recorder that an event writes. -/
abbrev OnlyEvents (s t : State) : Prop := t = { s with ev := t.ev, reco := t.reco }

/-- What any accepted write may change besides its own effect: the key it disarms, and a corruption of the pair it
writes anew (R349, R400). -/
def State.keep (s t : State) : State :=
  { t with hosts := { t.hosts with keys := s.hosts.keys }, mem := { t.mem with corrupt := s.mem.corrupt } }

/-! ## Words that are only stored (R13, R14) -/

/-- RW words whose write waits for another word, or does more than store its own: each has statements of its own. -/
def actsBeside (o : Nat) : Bool :=
  (decide (A.LCY_KEYHASH 0 ≤ o) && decide (o < A.LCY_KEYHASH 12)) || o == A.SEN_TAMP_CFG ||
  (decide (A.RAIL_CH_CFG 0 ≤ o) && decide (o < 0x11180)) || o == A.ANG_CFG || o == A.ANG_DIV ||
  o == A.DEVTIME_SET_LO || o == A.DEVTIME_SET_HI || o == A.ADC_CALSET_DATA ||
  (decide (A.ADC_GATHER 0 0 ≤ o) && decide (o < 0x31000)) || (decide (0x31200 ≤ o) && decide (o < 0x31300)) ||
  (decide (0x32000 ≤ o) && decide (o < 0x50000)) ||
  (decide (0xD0000 ≤ o) && decide (o < 0xD4000) && o % 0x1000 == A.HST_VER) ||
  (decide (A.QUE_RING_CFG 0 ≤ o) && decide (o < A.QUE_RING_CFG 64)) || o == A.NET_MAC_LO || o == A.NET_MAC_HI ||
  (decide (0xE0000 ≤ o) && decide (o < 0xE1000) && (dstHigh o || dstHigh (o + 4))) ||
  (decide (A.NET_SUB 0 0 ≤ o) && decide (o < 0xE1000)) || (decide (A.REC_HVER 0 ≤ o) && decide (o < A.REC_HVER 4)) ||
  o == A.MEM_CI_BOOT

/-- What the rule of an RW word asks of a value beside its codes and ranges: how it stands to other words, to a seal, or to the
lifecycle. -/
def State.fits (s : State) (o : Nat) (v : Word) : Bool :=
  let inUse := s.lcy.state.inUse
  let w := mergeWord ((rowAt o).elim 0#32 (·.mask)) (s.reg o) v
  if o = A.DBG_ATB_0 ∨ o = A.DBG_ATB_1 then !(fld v 0 8 == 8 && inUse)
  else if 0x2060 ≤ o ∧ o < 0x2070 then !(fld v 0 8 == 0x0D && inUse)
  else if o = A.ANG_FBAND then
    bandOk (if bitAt (s.reg A.ANG_CFG) 0 then 60 else 50) (fld v 0 16) (fld v 16 16) &&
      s.bandFits (fld (s.reg A.ANG_DIV) 0 11) (fld v 0 16) (fld v 16 16)
  else if o = A.DEVTIME_CFG then s.clock.step.isNone
  else if A.ADC_SEQ_CFG 0 ≤ o ∧ o < A.ADC_SEQ_CFG 16 then
    let q := (o - A.ADC_SEQ_CFG 0) / 4
    seqCfgOk v && (List.range 32).all fun e =>
      (s.reg (A.ADC_GATHER q e) == 0#32 && !s.adc.written.contains (32 * q + e)) || entryOk (fld v 4 1) (s.reg (A.ADC_GATHER q e))
  else if o = A.MOD_CFG then decide (4 * fld v 0 6 ≤ fld (s.reg A.ANG_DIV) 0 11)
  else if o = A.MOD_FORCE_CSEL then fld v 0 9 == 0x1FF || bitAt (s.reg (A.CELL (fld v 0 9) 0)) 31
  else if A.MOD_MEV 0 ≤ o ∧ o < A.MOD_MEV 16 then s.mevOk v
  else if 0xC1000 ≤ o ∧ o < 0xC2000 then !s.sealClosed 3 && s.srcUnique o v
  else if A.QUE_OWNER 0 ≤ o ∧ o < A.QUE_OWNER 4 then
    (List.range 16).all fun k =>
      !(s.hw (16 * ((o - A.QUE_OWNER 0) / 4) + k)).en || fld v (2 * k) 2 == fld (s.reg o) (2 * k) 2
  else if A.NET_PUB 0 0 ≤ o ∧ o < A.NET_SUB 0 0 then
    let n := (o - A.NET_PUB 0 0) / 64
    let word := fun (b : Nat) => if b = (o - A.NET_PUB 0 0) % 64 then w else s.pubw n b
    v &&& ~~~ ((rowAt o).elim 0#32 (·.mask)) == 0#32 &&
    (!bitAt (word 0) 0 || decide (1 ≤ fld (word 0) 1 4) && decide (fld (word 0) 1 4 ≤ 8) &&
      ((List.range (fld (word 0) 1 4)).all fun m => pubMemberOk (word (0x14 + 4 * m))) && s.net.strings.testBit (fld (word 0) 8 4))
  else if o = A.REC_PRE ∨ o = A.REC_POST ∨ o = A.REC_MAXLEN then s.recTimesOk o v
  else true

/-- RW-C registers whose completed pair only stores its value. -/
def storesPair (o : Nat) : Bool :=
  (decide (0x40000 ≤ o) && decide (o < 0x50000)) || o == A.MOD_TRIP_SW || o == A.RTI_SIG_SHIFT || o == A.GAF_BOOT ||
  (decide (0xC1000 ≤ o) && decide (o < 0xC2000))

/-- RW-C registers whose completed pair stores a set-point. -/
def storesSet (o : Nat) : Bool :=
  o == A.GRD_PLIM || o == A.GRD_FORM_P || o == A.GRD_FORM_V || o == A.GRD_FORM_Q || o == A.BPT_PREQ

/-- What the rule of such a register asks of a value beside its row. -/
def State.pairFits (s : State) (o : Nat) (v : Word) : Bool :=
  if o = A.RTI_SIG_SHIFT ∨ 0xC1000 ≤ o ∧ o < 0xC2000 then !s.sealClosed 3
  else if o = A.GAF_BOOT then s.slotValid (fld v 0 1) else true

/-! ## Invariants -/

/-- The tables of the machine are held in their one canonical form: the words a host has written and the words the engines
use, ring space, pending flags, host windows, the cells on the rings and their trackers; and armed keys by rising place. -/
abbrev State.Canon (s : State) : Prop :=
  Map.wf resetWord s.regs = true ∧ Map.wf resetWord s.used = true ∧ Memory.wf s.ev.mem = true ∧
  Map.wf (fun _ => 0#32) s.ev.irq = true ∧ Map.wf (fun _ => 0#32) s.hosts.win = true ∧
  Map.rising s.hosts.keys = true ∧ Map.wf (fun _ => cellLinkReset) s.rings.cells = true ∧
  Map.wf (fun _ => trackerReset) s.bpt.cells = true

/-- Every claim is of one block, has one holder, and the holder is one of the four hosts (R346, R348). -/
abbrev State.Claimed (s : State) : Prop :=
  Map.rising s.hosts.claims = true ∧ ∀ p ∈ s.hosts.claims, p.2 < 4

/-- A host's writes are performed one after the other and each is accepted: the second state is what the last leaves. -/
def State.Performed (h : Nat) (s : State) : List (Nat × Word) → State → Prop
  | [], t => t = s
  | (o, v) :: rest, t => (s.hostWrite h o v).2 = .ok ∧ (s.hostWrite h o v).1.Performed h rest t

end Sys2Proof.Machine
end

