-- ==== Sys2Proof/Certificates/Slice0/Obligations.lean ====
section
/-! DEFINITION. The statements made about the model. A command's completion says which next state it answers
(`Gives`), what of the state it changes and, by an equation of records, that nothing else changes. Values the manual leaves
open occur in no conclusion. Where a statement rests on a choice of the model its docstring names the log entry. -/

open Sys2Proof Sys2Proof.Machine

/-- The words of a page header and the claims (R17, R346 to R350): each of CLAIM, RELEASE, BREAK, KEY, the end of a key and
the writes of ERRCODE and IRQ_STAT has its effect where its conditions hold, and changes nothing but the host windows, the
pending flags, and what the end of a claim discards. That a fenced engine's page takes a write of LOCK, as any page does, is
the model's choice (log entry 99). -/
def Obligations.HeaderAndClaimsComplete : Prop :=
  (∀ (s : State) (h page : Nat) (v : Word), s.Canon → s.live = true → h < 4 → listed page = true → s.wiping = false →
    s.fencedPage page = false →
    Gives (exec (.errcodeWrite h page v) s) fun t =>
      t.win h (page * 0x1000 + 0x28) = 0#32 ∧ t = { s with hosts := t.hosts, mem := t.mem }) ∧
  (∀ (s : State) (h page : Nat) (v : Word), s.Canon → s.live = true → h < 4 → listed page = true → s.wiping = false →
    s.fencedPage page = false →
    Gives (exec (.irqStatClear h page v) s) fun t =>
      t.ev.flags h page = s.ev.flags h page &&& ~~~ v ∧ (∀ k, k ≠ h * 0x1000 + page →
        Map.get (fun _ => 0#32) k t.ev.irq = Map.get (fun _ => 0#32) k s.ev.irq) ∧
      t = { s with hosts := t.hosts, mem := t.mem, ev := t.ev }) ∧
  (∀ (s : State) (h page : Nat), s.live = true → h < 4 → listed page = true → s.fusedPage page = false →
    s.holderOf page = none → s.bootApplying = false → s.wiping = false →
    Gives (exec (.claim h page 0) s) fun t =>
      t.holderOf page = some h ∧ (∀ p, blockOf p ≠ blockOf page → t.holderOf p = s.holderOf p) ∧
      t = { s with hosts := t.hosts, mem := t.mem }) ∧
  (∀ (s : State) (h page : Nat), s.live = true → h < 4 → listed page = true → s.Claimed → s.owns h page = true →
    ¬ (0xD0 ≤ page ∧ page < 0xD4) → s.wiping = false →
    Gives (exec (.release h page 0) s) fun t =>
      t.holderOf page = none ∧ (∀ p, blockOf p ≠ blockOf page → t.holderOf p = s.holderOf p) ∧
      t = { s with hosts := t.hosts, rti := t.rti, mem := t.mem }) ∧
  (∀ (s : State) (x page : Nat), s.live = true → listed page = true → s.Claimed → s.holderOf page = some x →
    ¬ (0xD0 ≤ page ∧ page < 0xD4) → s.modes.cur = .service → s.wiping = false →
    Gives (exec (.breakClaim 0 page 0) s) fun t =>
      t.holderOf page = none ∧ (∀ p, blockOf p ≠ blockOf page → t.holderOf p = s.holderOf p) ∧
      t = { s with hosts := t.hosts, rti := t.rti, mem := t.mem, ev := t.ev, reco := t.reco }) ∧
  (∀ (s : State) (h page : Nat), s.live = true → h < 4 → listed page = true → s.owns h page = true → s.wiping = false →
    Gives (exec (.key h page (BitVec.ofNat 24 (0xFFFF - blockOf page))) s) fun t =>
      t.keyUntil h page = some (s.now + ms 10) ∧ t = { s with hosts := t.hosts, mem := t.mem }) ∧
  (∀ (s : State) (h page u : Nat), s.live = true → h < 4 → page < 0x1000 → Map.rising s.hosts.keys = true →
    s.keyUntil h page = some u →
    Gives (exec (.keyExpiry h page) s) fun t =>
      t.keyUntil h page = none ∧ t = { s.advance u with hosts := t.hosts })

/-- REGISTER_WRITE and RWC_VALUE_WRITE (R7, R8, R13, R14), over every listed page. An accepted write of an RW register that
is only stored leaves the written bits of its mask, its other bits as they were, and every other word and the rest of the
machine unchanged. The same holds of the words the comparators, the gather sequencers, the window monitors, the rail
channels and the subscriptions use, beside what their units note of the write, and of MEM_CI_BOOT; the upper words of an
address, of LCY_KEYHASH or of a cell's serial number wait, and the lowest applies all of them. An accepted value half of an
RW-C pair goes to the pending holder of the claiming host, and no register changes; its complement stores the value and
empties the holder, a set-point's in RIDE being noted for the return; any other second half empties the holder and stores
nothing. What an upper word reads as when none waits is the model's choice (log entry 80). -/
def Obligations.RegisterWriteStoresOneWord : Prop :=
  (∀ (s : State) (h o : Nat) (way : BitVec 8) (v : Word) (r : Row), wholeWord h way = true → s.Canon → o < 0x1000000 → o % 4 = 0 →
    0x40 ≤ o % 0x1000 → rowAt o = some r → r.cls = .rw → actsBeside o = false → r.ok v = true → s.fits o v = true →
    s.admits h (o / 0x1000) r.modes = true →
    Gives (exec (.registerWrite h way o v) s) fun t =>
      t.reg o = (s.reg o &&& ~~~ r.mask) ||| (v &&& r.mask) ∧ (∀ o', o' ≠ o → t.reg o' = s.reg o') ∧
      s.keep t = { s with regs := t.regs }) ∧
  (∀ (s : State) (h o : Nat) (way : BitVec 8) (v : Word) (r : Row), wholeWord h way = true → s.Canon → o < 0x1000000 → o % 4 = 0 →
    rowAt o = some r → r.cls = .rw → 0x32000 ≤ o → o < 0x33000 → r.ok v = true → s.admits h (o / 0x1000) r.modes = true →
    Gives (exec (.registerWrite h way o v) s) fun t =>
      t.reg o = (s.reg o &&& ~~~ r.mask) ||| (v &&& r.mask) ∧ (∀ o', o' ≠ o → t.reg o' = s.reg o') ∧
      (s.ang.beats = true → s.keep t = { s with regs := t.regs }) ∧
      (s.ang.beats = false → t.ureg o = t.reg o ∧ (∀ o', o' ≠ o → t.ureg o' = s.ureg o'))) ∧
  (∀ (s : State) (h q e : Nat) (way : BitVec 8) (v : Word), wholeWord h way = true → s.Canon → q < 16 → e < 32 →
    v &&& 0xFF000000#32 = 0#32 → entryOk (fld (s.reg (A.ADC_SEQ_CFG q)) 4 1) v = true → s.admits h 0x30 mStop = true →
    Gives (exec (.registerWrite h way (A.ADC_GATHER q e) v) s) fun t =>
      t.reg (A.ADC_GATHER q e) = v ∧ (∀ o', o' ≠ A.ADC_GATHER q e → t.reg o' = s.reg o') ∧
      t.adc.dirty = (32 * q + e) :: s.adc.dirty ∧ (32 * q + e) ∈ t.adc.written ∧
      s.keep t = { s with regs := t.regs, adc := { s.adc with dirty := t.adc.dirty, written := t.adc.written } }) ∧
  (∀ (s : State) (h c : Nat) (way : BitVec 8) (v : Word) (r : Row), wholeWord h way = true → s.Canon → c < 4 →
    rowAt (A.RAIL_CH_CFG c) = some r → r.ok v = true →
    (c = 1 → fld v 0 2 = s.phaseOf 1 ∧ fld v 8 8 = fld (s.chCfg 0) 8 8) → s.admits h 0x11 r.modes = true →
    Gives (exec (.registerWrite h way (A.RAIL_CH_CFG c) v) s) fun t =>
      t.reg (A.RAIL_CH_CFG c) = mergeWord r.mask (s.reg (A.RAIL_CH_CFG c)) v ∧
      (∀ o', o' ≠ A.RAIL_CH_CFG c → t.reg o' = s.reg o') ∧ s.keep t = { s with regs := t.regs, rail := t.rail } ∧
      (fld (s.reg (A.RAIL_CH_CFG c)) 8 8 = fld v 8 8 → t.rail = s.rail)) ∧
  (∀ (s : State) (h : Nat) (way : BitVec 8) (v : Word) (r : Row), wholeWord h way = true → s.Canon →
    rowAt A.MEM_CI_BOOT = some r → r.ok v = true → s.admits h 0xF8 r.modes = true →
    Gives (exec (.registerWrite h way A.MEM_CI_BOOT v) s) fun t =>
      t.reg A.MEM_CI_BOOT = mergeWord r.mask (s.reg A.MEM_CI_BOOT) v ∧ (∀ o', o' ≠ A.MEM_CI_BOOT → t.reg o' = s.reg o') ∧
      s.keep t = { s with regs := t.regs, mem := { s.mem with bootVoid := false } }) ∧
  (∀ (s : State) (h n b : Nat) (way : BitVec 8) (v : Word) (r : Row), wholeWord h way = true → s.Canon → n < 64 →
    b = 0 ∨ b = 4 ∨ b = 16 → rowAt (A.NET_SUB n b) = some r → s.admits h 0xE0 r.modes = true →
    firstOf (s.subChecks n b v r.mask) = .ok →
    Gives (exec (.registerWrite h way (A.NET_SUB n b) v) s) fun t =>
      t.reg (A.NET_SUB n b) = mergeWord r.mask (s.reg (A.NET_SUB n b)) v ∧ (∀ o', o' ≠ A.NET_SUB n b → t.reg o' = s.reg o') ∧
      (t.sub n).valid = false ∧ (∀ m, m ≠ n → t.sub m = s.sub m) ∧
      s.keep t = { s with regs := t.regs, net := { s.net with subs := t.net.subs } }) ∧
  (∀ (s : State) (h n : Nat) (way : BitVec 8) (v : Word) (r : Row), wholeWord h way = true → s.Canon → n < 64 →
    rowAt (A.ADC_WMON_CFG 0 + 4 * n) = some r → r.ok v = true →
    (n % 2 = 0 → fld v 4 5 ≤ lastEntry (fld (s.reg (A.ADC_SEQ_CFG (fld v 0 4))) 4 1)
      ((List.range 32).map fun e => s.reg (A.ADC_GATHER (fld v 0 4) e))) → s.admits h 0x31 r.modes = true →
    Gives (exec (.registerWrite h way (A.ADC_WMON_CFG 0 + 4 * n) v) s) fun t =>
      t.reg (A.ADC_WMON_CFG 0 + 4 * n) = mergeWord r.mask (s.reg (A.ADC_WMON_CFG 0 + 4 * n)) v ∧
      (∀ o', o' ≠ A.ADC_WMON_CFG 0 + 4 * n → t.reg o' = s.reg o') ∧ t.adc.wmon.testBit (n / 2) = false ∧
      (∀ m, m ≠ n / 2 → t.adc.wmon.testBit m = s.adc.wmon.testBit m) ∧
      s.keep t = { s with regs := t.regs, adc := { s.adc with wmon := t.adc.wmon } }) ∧
  (∀ (s : State) (h i : Nat) (way : BitVec 8) (v d : Word) (r : Row), wholeWord h way = true → s.Canon → 1 ≤ i → i < 12 →
    rowAt (A.LCY_KEYHASH i) = some r → s.lcy.state = .blank → s.admits h 1 r.modes = true →
    Gives (exec (.registerWrite h way (A.LCY_KEYHASH i) v) s) fun t =>
      t.upperOf h (A.LCY_KEYHASH i) d = v ∧ s.keep t = { s with hosts := { s.hosts with upper := t.hosts.upper } }) ∧
  (∀ (s : State) (h : Nat) (way : BitVec 8) (v : Word) (r : Row), wholeWord h way = true → s.Canon →
    rowAt (A.LCY_KEYHASH 0) = some r → s.lcy.state = .blank → s.admits h 1 r.modes = true →
    Gives (exec (.registerWrite h way (A.LCY_KEYHASH 0) v) s) fun t =>
      t.reg (A.LCY_KEYHASH 0) = v ∧
      (∀ i, 1 ≤ i → i < 12 → t.reg (A.LCY_KEYHASH i) = s.upperOf h (A.LCY_KEYHASH i) (s.reg (A.LCY_KEYHASH i))) ∧
      (∀ o', o' < A.LCY_KEYHASH 0 ∨ A.LCY_KEYHASH 12 ≤ o' → t.reg o' = s.reg o') ∧
      s.keep t = { s with regs := t.regs, hosts := { s.hosts with upper := t.hosts.upper } }) ∧
  (∀ (s : State) (h o : Nat) (way : BitVec 8) (v d : Word) (r : Row), wholeWord h way = true → s.Canon → 0xE0000 ≤ o →
    o < A.NET_SUB 0 0 → dstHigh o = true → rowAt o = some r → r.ok v = true → s.fits o v = true → s.admits h 0xE0 r.modes = true →
    Gives (exec (.registerWrite h way o v) s) fun t =>
      t.upperOf h o d = v &&& r.mask ∧ t.reg o = mergeWord (r.mask &&& 0xFFFF0000#32) (s.reg o) v ∧
      (∀ o', o' ≠ o → t.reg o' = s.reg o') ∧
      s.keep t = { s with regs := t.regs, hosts := { s.hosts with upper := t.hosts.upper } }) ∧
  (∀ (s : State) (h o : Nat) (way : BitVec 8) (v : Word) (r : Row), wholeWord h way = true → s.Canon → 0xE0000 ≤ o →
    o < A.NET_SUB 0 0 → dstHigh (o + 4) = true → rowAt o = some r → r.ok v = true → s.fits o v = true →
    s.admits h 0xE0 r.modes = true →
    Gives (exec (.registerWrite h way o v) s) fun t =>
      t.reg o = v ∧ t.reg (o + 4) = mergeWord 0xFFFF#32 (s.reg (o + 4)) (s.upperOf h (o + 4) (s.reg (o + 4))) ∧
      (∀ o', o' ≠ o → o' ≠ o + 4 → t.reg o' = s.reg o') ∧
      s.keep t = { s with regs := t.regs, hosts := { s.hosts with upper := t.hosts.upper } }) ∧
  (∀ (s : State) (h : Nat) (way : BitVec 8) (v d : Word), wholeWord h way = true → s.Canon → s.admits h 0xE0 mStop = true →
    Gives (exec (.registerWrite h way A.NET_MAC_HI v) s) fun t =>
      t.upperOf h A.NET_MAC_HI d = v ∧ s.keep t = { s with hosts := { s.hosts with upper := t.hosts.upper } }) ∧
  (∀ (s : State) (h : Nat) (way : BitVec 8) (v : Word), wholeWord h way = true → s.Canon → s.admits h 0xE0 mStop = true →
    Gives (exec (.registerWrite h way A.NET_MAC_LO v) s) fun t =>
      t.reg A.NET_MAC_LO = v ∧
      t.reg A.NET_MAC_HI = mergeWord 0xFFFF#32 (s.reg A.NET_MAC_HI) (s.upperOf h A.NET_MAC_HI (s.reg A.NET_MAC_HI)) ∧
      (∀ o', o' ≠ A.NET_MAC_LO → o' ≠ A.NET_MAC_HI → t.reg o' = s.reg o') ∧
      s.keep t = { s with regs := t.regs, hosts := { s.hosts with upper := t.hosts.upper } }) ∧
  (∀ (s : State) (h o : Nat) (v : Word) (r : Row), o < 0x1000000 → o % 4 = 0 → 0x40 ≤ o % 0x1000 →
    rowAt o = some r → r.cls = .rwc → r.ok v = true → v &&& ~~~ r.mask = 0#32 → s.fusedPage (o / 0x1000) = false →
    s.live = true → h < 4 → s.owns h (o / 0x1000) = true → s.wiping = false →
    Gives (exec (.rwcValueWrite h o v) s) fun t =>
      t.pendingOf h o = some v ∧
      s.keep t = { s with hosts := { s.hosts with holder := t.hosts.holder } }) ∧
  (∀ (s : State) (h o : Nat) (way : BitVec 8) (v : Word) (r : Row), wholeWord h way = true → s.Canon → rowAt o = some r → r.cls = .rwc →
    storesPair o = true → s.admits h (o / 0x1000) r.modes = true → s.pendingOf h o = some v → s.pairFits o v = true →
    Gives (exec (.registerWrite h way (o + 4) (~~~ v)) s) fun t =>
      t.reg o = v ∧ (∀ o', o' ≠ o → t.reg o' = s.reg o') ∧ t.pendingOf h o = none ∧
      s.keep t = { s with regs := t.regs, hosts := { s.hosts with holder := t.hosts.holder } }) ∧
  (∀ (s : State) (h o : Nat) (way : BitVec 8) (v : Word) (r : Row), wholeWord h way = true → s.Canon → rowAt o = some r → r.cls = .rwc →
    storesSet o = true → s.admits h (o / 0x1000) r.modes = true → s.pendingOf h o = some v →
    Gives (exec (.registerWrite h way (o + 4) (~~~ v)) s) fun t =>
      t.reg o = v ∧ (∀ o', o' ≠ o → t.reg o' = s.reg o') ∧ t.pendingOf h o = none ∧ (s.modes.cur = .ride → o ∈ t.rideWait) ∧
      s.keep t = { s with regs := t.regs, hosts := { s.hosts with holder := t.hosts.holder }, rideWait := t.rideWait,
                          grd := { s.grd with chaseNext := t.grd.chaseNext } }) ∧
  (∀ (s : State) (h o : Nat) (way : BitVec 8) (v vn : Word) (r : Row), wholeWord h way = true → s.live = true → h < 4 →
    rowAt o = some r → r.cls = .rwc → s.pendingOf h o = some v → vn ≠ ~~~ v → s.fusedPage (o / 0x1000) = false →
    Gives (exec (.registerWrite h way (o + 4) vn) s) fun t =>
      t.pendingOf h o = none ∧ t.win h (pageOf o * 0x1000 + 0x28) = wd Status.complementMismatch.code ∧
      t = { s with hosts := t.hosts, ev := t.ev, reco := t.reco }) ∧
  (∀ (s : State) (h c : Nat) (v : Word), s.Canon → c < s.part.cells → c < 384 → s.admits h 0x50 mStop = true →
    s.cellEntryOk c 12 v = true →
    Gives (exec (.cellTableWrite h c 12 v) s) fun t =>
      (∀ d, t.upperOf h (A.CELL c 12) d = v) ∧ t = { s with hosts := t.hosts, mem := t.mem }) ∧
  (∀ (s : State) (h c : Nat) (v : Word), s.Canon → c < 384 → s.admits h 0x50 mStop = true → s.cellEntryOk c 8 v = true →
    Gives (exec (.cellTableWrite h c 8 v) s) fun t =>
      (∀ o, t.reg o = if o = A.CELL c 8 then v
        else if o = A.CELL c 12 then s.upperOf h (A.CELL c 12) (s.reg (A.CELL c 12)) else s.reg o) ∧
      t.rings.acts = s.rings.acts ++ [(c, 8, s.reg (A.CELL c 8), v)] ∧
      t = { s with regs := t.regs, rings := { s.rings with acts := t.rings.acts }, hosts := t.hosts, mem := t.mem })

/-- A completed DEV_MODE_REQ that its row of R52 admits (R47, R52): TGT is the mode asked for, TRANS stands, CUR and the
causes stay. Where the row names no work to be done first, the change is decided for the next beat start, and nothing but
the pending holder, the register and the mode fields changes; a WATCH request from FOLLOW or FORM starts the stop (R229),
one from ENERGIZE abandons the close sequence (R228), and a request between FOLLOW and FORM starts the transfer (R221,
R222). HOLD_REQUEST and HOLD_LATCH_CLEAR (R48, R49, R55, R56): the request of any host latches cause HOST, every group is
commanded off and HOLD is decided; a clear takes out exactly the bits named whose conditions are absent. -/
def Obligations.ModesAndHoldFollowRequests : Prop :=
  (∀ (s : State) (h : Nat), s.asksFor h .watch = true →
    s.modes.cur ≠ .energize → s.modes.cur ≠ .follow → s.modes.cur ≠ .form →
    Gives (exec (.modeRequestWatch h) s) fun t => BegunAlone s t .watch) ∧
  (∀ (s : State) (h : Nat), s.asksFor h .watch = true → s.modes.cur = .energize →
    Gives (exec (.modeRequestWatch h) s) fun t =>
      Begun s t .watch ∧ t.closing = false ∧ (s.closing = true → t.grd.result = 3)) ∧
  (∀ (s : State) (h : Nat), s.asksFor h .watch = true → (s.modes.cur = .follow ∨ s.modes.cur = .form) →
    s.grd.stop ≠ .main → s.grd.stop ≠ .series →
    Gives (exec (.modeRequestWatch h) s) fun t =>
      Begun s t .watch ∧ t.grd = { s.grd with stop := .ramp s.stopRate } ∧
      t = { s with regs := t.regs, hosts := t.hosts, modes := t.modes, mem := t.mem, grd := t.grd }) ∧
  (∀ (s : State) (h : Nat), s.asksFor h .energize = true →
    Gives (exec (.modeRequestEnergize h) s) fun t => BegunAlone s t .energize) ∧
  (∀ (s : State) (h : Nat), s.asksFor h .follow = true → s.modes.cur ≠ .form →
    Gives (exec (.modeRequestFollow h) s) fun t => BegunAlone s t .follow) ∧
  (∀ (s : State) (h : Nat), s.asksFor h .follow = true → s.modes.cur = .form →
    Gives (exec (.modeRequestFollow h) s) fun t =>
      Begun s t .follow ∧ t.modes.next = none ∧ t.grd = { s.grd with xfer := .toFollow, xferAt := 0 } ∧
      t = { s with regs := t.regs, hosts := t.hosts, modes := t.modes, mem := t.mem, grd := t.grd }) ∧
  (∀ (s : State) (h : Nat), s.asksFor h .form = true → s.modes.cur ≠ .follow →
    Gives (exec (.modeRequestForm h) s) fun t => BegunAlone s t .form) ∧
  (∀ (s : State) (h : Nat), s.asksFor h .form = true → s.modes.cur = .follow →
    Gives (exec (.modeRequestForm h) s) fun t =>
      Begun s t .form ∧ t.modes.next = none ∧ t.grd = { s.grd with xfer := .toForm false, xferAt := 0 } ∧
      t = { s with regs := t.regs, hosts := t.hosts, modes := t.modes, mem := t.mem, grd := t.grd }) ∧
  (∀ (s : State) (h : Nat), s.asksFor h .service = true →
    Gives (exec (.modeRequestService h) s) fun t => BegunAlone s t .service) ∧
  (∀ (s : State) (h : Nat), s.live = true → h < 4 → s.wiping = false → s.modes.cur ≠ .hold →
    s.modes.cond.testBit cHost = false → s.modes.latch.testBit cHost = false →
    Gives (exec (.holdRequest h 0xF807#32) s) fun t =>
      t.modes.latch.testBit cHost = true ∧ t.modes.cond.testBit cHost = false ∧ t.modes.next = some .hold ∧
      t.modes.tgt = .hold ∧ t.modes.trans = false ∧ (∀ g, g < 4 → (t.group g).cmd = false)) ∧
  (∀ (s : State) (h : Nat) (v : Word), s.live = true → h < 4 → s.owns h 0 = true → s.wiping = false →
    Gives (exec (.holdLatchClear h v) s) fun t =>
      (∀ b, b < 13 → t.modes.latch.testBit b = (s.modes.latch.testBit b && !(v.getLsbD b && !s.modes.cond.testBit b))) ∧
      t = { s with hosts := t.hosts, modes := { s.modes with latch := t.modes.latch }, mem := t.mem })

/-- BEAT_START and DIV_TAKE_EFFECT (R77, R79): the next beat begins. Its index counts on or returns to 0, its count advances
modulo 2^32, it starts at the instant fixed for it; and at the crossing of 0 a pending division takes effect. -/
def Obligations.BeatStartAdvancesTheBeat : Prop :=
  (∀ s : State, s.live = true → s.ang.beats = true →
    Gives (exec .beatStart s) fun t =>
      t.ang.seq = (s.ang.seq + 1) % 0x100000000 ∧
      t.ang.idx = (if s.ang.div ≤ s.ang.idx + 1 then 0 else s.ang.idx + 1) ∧
      (s.clock.step = none → t.ang.bstart = wholeNs s.ang.next) ∧ t.ang.fired = [] ∧
      t.rings.cutoff = false ∧ t.rings.acts = [] ∧ t.loop.commits = [] ∧ t.loop.done = false ∧ t.loop.copied = false) ∧
  (∀ s : State, s.live = true → s.ang.beats = true → s.ang.divPend = true → s.ang.div ≤ s.ang.idx + 1 →
    A.ANG_DIV ∉ s.rideWait →
    Gives (exec .divTakeEffect s) fun t =>
      t.ang.div = fld (s.reg A.ANG_DIV) 0 11 ∧ t.ang.divPend = false ∧ t.ang.idx = 0 ∧
      t.ang.seq = (s.ang.seq + 1) % 0x100000000)

/-- SCHEDULE_ENTRY_FIRE and BLANK_WINDOW_END (R81, R82, R85, R95, R109, R393): an entry that fires does so once in the beat,
at its offset into it. NONE does nothing more; CMP_BLANK opens the comparator's window, or lengthens one that is open;
REC_FRAME adds a frame of the class it names; MARK raises its event for the hosts it names; and GATHER goes together with
the others of that instant, in ascending sequence number: every idle sequence named that is enabled for the schedule and has
entries comes under way, after the delay of its configuration. The end of a blanking window takes it away, at its instant,
and raises the comparator's event where its output then stands high. SCHEDULE_ENTRY_WRITE (R84): an accepted write stores
the word, and nothing else of the machine changes but what any accepted write may change. -/
def Obligations.ScheduleEntriesAct : Prop :=
  (∀ (s : State) (n : Nat), s.live = true → s.fires n = true → n ∉ s.ang.fired →
    schedAction (s.ureg (A.SCHED n 4)) ≠ 1 →
    let act := schedAction (s.ureg (A.SCHED n 4))
    let target := schedTarget (s.ureg (A.SCHED n 4))
    let width := fld (s.ureg (A.SCHED n 8)) 16 16
    let at0 := s.advance (s.beatMono + s.span (fld (s.ureg (A.SCHED n 0)) 16 16 * s.ang.blen / 65536))
    let u := { at0 with ang := { at0.ang with fired := n :: s.ang.fired } }
    Gives (exec (.scheduleEntryFire n) s) fun t =>
      (act = 0 → t = u) ∧
      (act = 2 → t = { u with adc := { u.adc with blank := t.adc.blank } } ∧
        t.adc.blank.find? (fun p => p.1 == target) =
          some (target, max (((u.adc.blank.find? fun p => p.1 == target).map fun p => p.2).getD 0) (u.now + width * ns)) ∧
        (∀ m, m ≠ target → t.adc.blank.find? (fun p => p.1 == m) = u.adc.blank.find? (fun p => p.1 == m))) ∧
      (act = 3 → s.ready 24 = true → s.mem.dramFail = false →
        t = { u with reco := u.addFrame (mkFrame target s.ang.seq (s.ang.bstart / ns) (u.framePayload target)) }) ∧
      (act = 3 → s.ready 24 = false ∨ s.mem.dramFail = true → t = u) ∧
      (act = 4 → t = u.eventTo (2 ^ target) 0x20 36 ∧ OnlyEvents u t)) ∧
  (∀ (s : State) (n : Nat), s.live = true → s.fires n = true → n ∉ s.ang.fired →
    schedAction (s.ureg (A.SCHED n 4)) = 1 → s.adc.seqs.length = 16 →
    let u := s.advance (s.beatMono + s.span (fld (s.ureg (A.SCHED n 0)) 16 16 * s.ang.blen / 65536))
    Gives (exec (.scheduleEntryFire n) s) fun t =>
      n ∈ s.gathersWith n ∧ t.ang.fired = (s.gathersWith n).reverse ++ s.ang.fired ∧
      (∀ q, q < 16 → (s.seq q).phase = .idle → bitAt (s.ureg (A.ADC_SEQ_CFG q)) 15 = true →
        fld (s.ureg (A.ADC_SEQ_CFG q)) 8 2 = 0 → runEntries (fld (s.ureg (A.ADC_SEQ_CFG q)) 4 1) (s.seqEntries q) ≠ [] →
        (∃ k ∈ s.gathersWith n, schedTarget (s.ureg (A.SCHED k 4)) = q) →
        (t.seq q).phase = .delay ∧ (t.seq q).cfg = s.ureg (A.ADC_SEQ_CFG q) ∧ (t.seq q).entries = s.seqEntries q ∧
        (t.seq q).next = 0 ∧ (t.seq q).due = edge5 (u.now + fld (s.ureg (A.ADC_SEQ_CFG q)) 16 16 * ns)) ∧
      (∀ q, q < 16 → (∀ k ∈ s.gathersWith n, schedTarget (s.ureg (A.SCHED k 4)) ≠ q) → t.seq q = s.seq q) ∧
      t = { u with ang := { u.ang with fired := t.ang.fired },
                   adc := { u.adc with seqs := t.adc.seqs, ovr := t.adc.ovr }, ev := t.ev, reco := t.reco }) ∧
  (∀ (s : State) (n : Nat) (p : Nat × Nat), s.live = true → Map.rising s.adc.blank = true →
    s.adc.blank.find? (fun p => p.1 == n) = some p →
    Gives (exec (.blankWindowEnd n) s) fun t =>
      t.adc.blank.find? (fun p => p.1 == n) = none ∧
      (∀ m, m ≠ n → t.adc.blank.find? (fun p => p.1 == m) = s.adc.blank.find? (fun p => p.1 == m)) ∧
      t.clock = (s.advance p.2).clock ∧
      (t.cmpOut n = true → n < 32 → ∀ h, h < 4 → bitAt (t.ev.flags h 0x32) n = true) ∧
      (t.cmpOut n = false → t.ev = s.ev ∧ t.reco = s.reco) ∧
      t = { s.advance p.2 with adc := { s.adc with blank := t.adc.blank }, ev := t.ev, reco := t.reco }) ∧
  (∀ (s : State) (h n w : Nat) (v : Word), s.Canon → n < 1024 → w < 4 → s.admits h 0x20 mStop = true →
    s.schedOk n (4 * w) v = true →
    Gives (exec (.scheduleEntryWrite h n w v) s) fun t =>
      (∀ o, t.reg o = if o = A.SCHED n (4 * w) then v else s.reg o) ∧
      t = { s with regs := t.regs, hosts := t.hosts, mem := t.mem })

/-- The rest of the beat (R21, R22, R91, R92, R180, R202, R214, R271, R293, R295): the cutoff at 25 % of the beat; the
pipeline once, which steps every pair, executes the due slots once in their order ahead of the allocator and the modulator,
latches a snapshot asked for and decides RIDE in FOLLOW and FORM alone (what its stages do is stated in
PipelineStagesCompute); the shadow copies once, each the record of its engine and none from an engine with the leading time;
and the compute deadline at 70 %, a second overrun in a row stopping the engine. That EXEC is counted at every execution is
the model's reading (log entry 224). -/
def Obligations.BeatRunsItsCourse : Prop :=
  (∀ s : State, s.live = true → s.ang.beats = true → s.rings.cutoff = false →
    Gives (exec .reportCutoff s) fun t =>
      let u := s.advance (s.beatMono + s.span (s.ang.blen / 4))
      t.rings.cutoff = true ∧
      t = { u with rings := t.rings, loop := { s.loop with handed := t.loop.handed }, ev := t.ev, reco := t.reco,
                   free := t.free, clock := { u.clock with stepProbes := u.clock.stepProbes - 1 } } ∧
      (s.loop.done = false → t.loop = s.loop) ∧ (s.loop.done = true → t.loop.handed = true)) ∧
  (∀ s : State, s.live = true → s.ang.beats = true → s.computing = true → s.loop.done = false → s.reportsIn = true →
    Gives (exec .pipelineStart s) fun t =>
      let u := s.measure.anglePipe.afterLock.rtiPipe.gridPipe
      let w := u.runLoop.loopEnds
      t.loop.done = true ∧ t.ang.seq = s.ang.seq ∧ t.ang.idx = s.ang.idx ∧ t.regs = s.regs ∧
      (∀ q, q < 13 → Map.get (fun _ => pairReset) q t.adc.pairs = Map.get (fun _ => pairReset) q (s.formPair q).adc.pairs) ∧
      t.loop.slots = u.runLoop.loop.slots ∧
      (∀ i, (t.slot i).exec =
        if i ∈ u.runSlots ∧ u.slotDue i = true ∧ i ∉ u.loop.fresh then ((u.slot i).exec + 1) % 2 ^ 32 else (u.slot i).exec) ∧
      (∀ c, (t.cmod c).weight = (w.gridAlloc.cmod c).weight) ∧
      t.modu.cells = w.gridAlloc.modulate.modu.cells ∧ t.grd.v0 = w.gridAlloc.grd.v0 ∧ t.grd.curt = w.gridAlloc.grd.curt ∧
      (s.loop.snapArm = true → t.loop.snapArm = false ∧ t.loop.snap = some (s.ang.seq, t.loop.slots, u.rideWait)) ∧
      (t.modes.next = some .ride → s.modes.next = some .ride ∨ s.modes.cur = .follow ∨ s.modes.cur = .form)) ∧
  (∀ s : State, s.live = true → s.ang.beats = true → s.loop.handed = true → s.loop.copied = false →
    Gives (exec .standbyCopyHandover s) fun t =>
      t.loop = { s.loop with copied := true } ∧
      t = { s with loop := t.loop, rings := { s.rings with rings := t.rings.rings }, ev := { s.ev with out := t.ev.out } } ∧
      (s.modes.cur = .wake ∨ (s.engine 0).lead = true ∧ (s.engine 1).lead = true → t.ev.out = s.ev.out) ∧
      (∀ e, e < 2 → s.modes.cur ≠ .wake → (s.engine e).tx = true → (s.engine e).lead = false → (s.engine (1 - e)).lead = true →
        t.ev.out = (s.sentCells.map fun c =>
          .frame (s.cellRing c) (s.edgesRecord (0xA + e) (decide (s.gaf.holder = some e)) c)).reverse ++ s.ev.out)) ∧
  (∀ (s : State) (a b : Bool), s.live = true → s.ang.beats = true → (s.engine 0).consec = 0 → (s.engine 1).consec = 0 →
    Gives (exec (.computeDeadline a b) s) fun t =>
      let u := s.advance (s.beatMono + s.span (s.ang.blen * 7 / 10))
      (∀ e, e < 2 → (s.engine e).inStep = true → (s.engine e).flag = false → (s.engine e).mute = false →
        (t.engine e).consec = b2n (if e = 0 then a else b) ∧
        (t.engine e).ovr = satInc 16 (s.engine e).ovr (b2n (if e = 0 then a else b))) ∧
      t = { u with gaf := { u.gaf with engines := t.gaf.engines }, ev := t.ev, reco := t.reco }) ∧
  (∀ (s : State) (e : Nat) (a b : Bool), s.live = true → s.ang.beats = true → e < 2 → s.gaf.engines.length = 2 →
    (s.engine e).inStep = true → (s.engine e).flag = false → (s.engine e).mute = false → (s.engine e).cut = false →
    1 ≤ (s.engine e).consec → (if e = 0 then a else b) = true → (if e = 0 then b else a) = false →
    Gives (exec (.computeDeadline a b) s) fun t =>
      (t.engine e).flag = true ∧ (t.engine e).tx = false ∧ (t.engine e).cause = 3 ∧
      (t.engine e).ovr = satInc 16 (s.engine e).ovr 1 ∧ (s.gaf.holder = some e → t.gaf.nextWhy = 1 ∨ t.gaf.holder = none))

/-- CELL_REPORT, CELL_CHARGED, CELL_ABSENT, JOIN_STEP_REPEAT (R22, R60, R61, R62, R123, R141, R142): a first good copy in
time is taken as the cell's report, one with a bad CRC or after the cutoff is counted and not taken; a cell that has stood
in its window is CHARGED, or SPARE; a cell unseen for three beats leaves, but one that is STALE stays so; and a join step
without a reply is sent again. The CFGVER byte of a NEGOTIATE record is the model's choice (log entry 90). -/
def Obligations.CellsReportAndJoin : Prop :=
  (∀ (s : State) (p c n : Nat) (b : List Byte), s.live = true → p < 34 → s.serves p < 32 → s.Canon →
    s.ringEn (s.serves p / 2) = true →
    ((s.ringCells (s.serves p / 2)).find? fun d => s.cellPos d == byteFld b 1 1) = some c →
    Gives (exec (.cellReport p b n) s) fun t =>
      (t.port p).lcerr = satInc 16 (s.port p).lcerr n ∧
      (reportOk b = false → (t.cell c).crcErr = satInc 16 (s.cell c).crcErr 1 ∧ t = { s with rings := t.rings, ev := t.ev, reco := t.reco }) ∧
      (reportOk b = true → s.rings.cutoff = true → t.rings.cells = s.rings.cells ∧ t = { s with rings := t.rings }) ∧
      (reportOk b = true → s.rings.cutoff = false → (s.cell c).atW = false → (s.cell c).atE = false →
        (s.cell c).got = false →
        (t.cell c).got = true ∧ (t.cell c).last = b ∧ (t.cell c).known = true ∧ (t.cell c).run = 0 ∧
        (t.cell c).atW = (s.serves p % 2 == 1) ∧ (t.cell c).atE = (s.serves p % 2 == 0))) ∧
  (∀ (s : State) (c : Nat), s.live = true → s.Canon → s.chargedDue c = true →
    Gives (exec (.cellCharged c) s) fun t =>
      (t.cell c).st = (if s.cellRole c = 1 then .spare else .charged) ∧ ∀ d, d ≠ c → t.cell d = s.cell d) ∧
  (∀ (s : State) (c : Nat), s.live = true → s.Canon → (s.cell c).known = true → 3 ≤ (s.cell c).run →
    Gives (exec (.cellAbsent c) s) fun t =>
      (t.cell c).known = false ∧
      ((s.cell c).st = .linked ∨ (s.cell c).st = .spare →
        (t.cell c).st = .absent ∧ (t.cell c).join = .align ∧ t = { s with rings := t.rings }) ∧
      ((s.cell c).st = .stale →
        (t.cell c).st = .stale ∧ (t.cell c).join = (s.cell c).join ∧ t = { s with rings := t.rings }) ∧
      ((s.cell c).st = .active ∨ (s.cell c).st = .charged →
        (t.cell c).st = if s.modes.cur.within substModes then .bypassed else .absent)) ∧
  (∀ (s : State) (c : Nat), s.live = true → s.Canon → s.joinStale c = true →
    let k := s.cellRing c
    let tag := ((s.cell c).joinTag + 1) % 256
    let asks := fun (op arg : Nat) => s.cellRecord c 5 0 (leBytes 1 op ++ leBytes 1 arg ++ leBytes 1 tag)
    Gives (exec (.joinStepRepeat c) s) fun t =>
      ((s.cell c).join = .offer → t.ev.out = .frame k (asks 1 (s.cellMaskVer c)) :: s.ev.out) ∧
      ((s.cell c).join = .select → t.ev.out = .frame k (asks 2 (s.cell c).ver) :: s.ev.out) ∧
      ((s.cell c).join = .identify → t.ev.out = .frame k (asks 3 0) :: s.ev.out) ∧
      ((s.cell c).join = .config → t.ev.out = .frame k (s.cellRecord c 2 (s.cell c).proto (s.termWords c)) :: s.ev.out) ∧
      (t.cell c).joinTag = tag ∧
      (t.cell c).joinAge = 1 ∧ (∀ d, d ≠ c → t.cell d = s.cell d) ∧
      t = { s with rings := t.rings, ev := { s.ev with out := t.ev.out } })

/-- R3 with CELL_TABLE_WRITE (R143, R145): a write of an entry whose index is at or above DEV_ID.CELLS, and one that would
leave an entry in use on a fused ring, are refused with BAD_ARG, whoever writes and in every mode, and every word stays. A
write that the whole entry it leaves admits stores the word and no other; what the words 0x00 and 0x04 do beyond their value
waits for the next beat start, and any other word changes nothing else; a write of state words is ignored. -/
def Obligations.TableWritesStore : Prop :=
  (∀ (s : State) (h c b : Nat) (v : Word), s.Canon → c < 384 → b < 0x100 → b % 4 = 0 → cellRo b = false →
    b ≠ 8 → b ≠ 12 → s.admits h 0x50 mStop = true → s.cellEntryOk c b v = true →
    (s.returns c b v = true → s.unseen c = false ∧ s.strange c = false ∧ s.cellFailed c = false) →
    Gives (exec (.cellTableWrite h c b v) s) fun t =>
      (∀ o, t.reg o = if o = A.CELL c b then v else s.reg o) ∧
      t.rings.acts = s.rings.acts ++ (if b = 0 ∨ b = 4 then [(c, b, s.reg (A.CELL c b), v)] else []) ∧
      t = { s with regs := t.regs, rings := { s.rings with acts := t.rings.acts }, hosts := t.hosts, mem := t.mem }) ∧
  (∀ (s : State) (h c b : Nat) (v : Word), s.live = true → h < 4 → c < 384 → s.part.cells ≤ c → b < 0x100 → b % 4 = 0 →
    Gives (exec (.cellTableWrite h c b v) s) fun t =>
      t.win h 0x50028 = wd Status.badArg.code ∧ (∀ o, t.reg o = s.reg o) ∧ t = { s with hosts := t.hosts }) ∧
  (∀ (s : State) (h c b : Nat) (v : Word), s.live = true → h < 4 → c < 384 → b < 0x100 → b % 4 = 0 → cellRo b = false →
    bitAt (s.entryWith c b v 0) 31 = true → s.present (fld (s.entryWith c b v 0) 16 4) = false →
    Gives (exec (.cellTableWrite h c b v) s) fun t =>
      t.win h 0x50028 = wd Status.badArg.code ∧ (∀ o, t.reg o = s.reg o) ∧ t = { s with hosts := t.hosts }) ∧
  (∀ (s : State) (h c b : Nat) (v : Word), s.live = true → h < 4 → c < 384 → b < 0x100 → b % 4 = 0 → cellRo b = true →
    Gives (exec (.cellTableWrite h c b v) s) fun t => t = { s with hosts := t.hosts, mem := t.mem })

/-- DEVTIME_SET, PTP_SYNC_RECEIVE and PTP_HOLDOVER (R65 to R67, R376): a host's set is a step that applies at the second
beat start, or at once before beats run; an offset of the PTP slave within STEP_LIM corrects the rate within RATE_MAX, a
larger one is a step, or the full rate with STEP_PEND while the stages switch; and a loss of Sync is held over. That the
upper word of DEVTIME_SET is 0 where none waits, that a set is BUSY once a switching mode is decided and is taken at once
before beats run, and that HOLDOVER is entered from PTP alone are the model's choices (log entries 80, 88, 105, 201). -/
def Obligations.DevtimeIsDisciplined : Prop :=
  (∀ (s : State) (h : Nat) (v : Word), s.admits h 0x20 mStop = true → bitAt (s.reg A.DEVTIME_CFG) 0 = false →
    s.clock.step = none → s.switchingSoon = false →
    let want := v.toNat + 4294967296 * (s.upperOf h A.DEVTIME_SET_HI 0#32).toNat
    Gives (exec (.devtimeSet h v) s) fun t =>
      (s.ang.beats = true → t.clock = { s.clock with step := some ((want : Int) - (s.devNs : Int), .host, 2) } ∧
        t = { s with clock := t.clock, hosts := t.hosts, mem := t.mem }) ∧
      (s.ang.beats = false → t.devNs = want ∧ t.clock.sync = .host ∧ t.clock.step = none ∧ t.clock.mono = s.clock.mono)) ∧
  (∀ (s : State) (p d : Nat) (ofs : Int), s.live = true → p < 4 → s.ptpBest = some p → s.ptpTakes p d = true → bitAt (s.ureg A.DEVTIME_CFG) 0 = true →
    s.clock.step = none →
    Gives (exec (.ptpSyncReceive p d ofs) s) fun t =>
      t.clock.dev = s.clock.dev ∧ t.net.syncAt = some s.now ∧
      (absI ofs ≤ s.stepLim → t.clock.sync = .ptp ∧ absI t.clock.rate ≤ s.rateMax ∧ t.clock.step = none ∧
        t.clock.stepPend = false) ∧
      (s.stepLim < absI ofs → s.switchingSoon = true →
        t.clock.sync = .ptp ∧ t.clock.stepPend = true ∧ t.clock.step = none ∧
        t.clock.rate = if ofs < 0 then -s.rateMax else s.rateMax) ∧
      (s.stepLim < absI ofs → s.switchingSoon = false →
        t.clock.step = some (ofs, .ptp, 2) ∧ t.clock.sync = s.clock.sync ∧ t.clock.rate = s.clock.rate)) ∧
  (∀ (s : State) (a : Nat), s.live = true → s.net.syncAt = some a → bitAt (s.ureg A.DEVTIME_CFG) 0 = true →
    Gives (exec .ptpHoldover s) fun t =>
      t.net.syncAt = none ∧ t.clock.rate = s.clock.rate ∧
      t.clock.sync = (if s.clock.sync = .ptp then .holdover else s.clock.sync)) ∧
  (∀ s : State, s.live = true → bitAt (s.ureg A.DEVTIME_CFG) 0 = false → Gives (exec .ptpHoldover s) fun t => t = s)

/-- LOCK_DECLARED, LOCK_LOST, FLYWHEEL_ENTRY, FLYWHEEL_END and SLEW_END (R69 to R76): where its condition holds each changes
the bits of the angle unit it names and nothing else of the machine, but for the event it raises. That flywheel ends a slew
and its quiet count, that the DIV in force, written again, ends the wait of another, and that a write acts at once while no
beats run are the model's choices (log entries 85, 204, 105). ANG_DIV_WRITE and ANG_CFG_WRITE (R78 to R80, R87): an accepted
division waits for the crossing of 0 while beats run, and a change of FNOM takes the band to its default for that frequency.
-/
def Obligations.AngleUnitFollowsItsInputs : Prop :=
  (∀ s : State, s.live = true → s.lockDue = true →
    Gives (exec .lockDeclared s) fun t =>
      t = { s with ang := { s.ang with lock := true, ever := true, src := if s.ang.src = 0 then 1 else s.ang.src } }) ∧
  (∀ s : State, s.live = true → s.lossDue = true →
    Gives (exec .lockLost s) fun t =>
      OnlyEvents { s with ang := { s.ang with lock := false, lockRun := 0, lossRun := 0, bandRun := 0 } } t ∧
      (s.ang.beats = true → s.modes.cur = .energize → s.modes.next = none → s.modes.returning = false →
        t.settle.modes.cur = .energize ∧ t.settle.modes.tgt = .watch ∧ t.settle.modes.trans = false ∧
        (s.modes.trans = true → t.settle.modes.lastStat = .lost) ∧
        (t.settle.grd.stop ≠ .none ∨ t.settle.modes.next = some .watch)) ∧
      (s.ang.beats = true → s.modes.cur = .form → s.grd.xfer = .toFollow → t.settle.grd.xfer = .none)) ∧
  (∀ s : State, s.live = true → s.flyDue = true →
    Gives (exec .flywheelEntry s) fun t =>
      t = { s with ang := { s.ang with
        fly := true, flyFrom := s.now, flyOk := 0, freq := s.ang.fmean, slew := false, quiet := false } }) ∧
  (∀ s : State, s.live = true → s.flyEndDue = true →
    Gives (exec .flywheelEnd s) fun t =>
      t.ang.fly = false ∧ t.ang.flyOk = 0 ∧
      (absI s.ang.d ≤ s.jmpThr → t = { s with ang := { s.ang with fly := false, flyOk := 0 } }) ∧
      (s.jmpThr < absI s.ang.d → t.ang.jmpLast = s.ang.d ∧ t.rti.jump = some s.ang.d ∧
        t.ang.slew = (s.ang.slew || s.ang.src != 2) ∧
        t = { s with ang := t.ang, rti := { s.rti with jump := some s.ang.d }, ev := t.ev, reco := t.reco })) ∧
  (∀ s : State, s.live = true → s.slewEndDue = true →
    Gives (exec .slewEnd s) fun t => t = { s with ang := { s.ang with slew := false, quiet := false } }) ∧
  (∀ (s : State) (h : Nat) (v : Word) (r : Row), s.Canon → rowAt A.ANG_DIV = some r → r.ok v = true →
    s.admits h 0x20 r.modes = true →
    s.bandFits (fld v 0 11) (fld (s.reg A.ANG_FBAND) 0 16) (fld (s.reg A.ANG_FBAND) 16 16) = true →
    4 * fld (s.reg A.MOD_CFG) 0 6 ≤ fld v 0 11 →
    Gives (exec (.angDivWrite h v) s) fun t =>
      (∀ o, t.reg o = if o = A.ANG_DIV then mergeWord r.mask (s.reg A.ANG_DIV) v else s.reg o) ∧
      (s.ang.beats = true → t.ang = { s.ang with divPend := fld v 0 11 != s.ang.div }) ∧
      (s.ang.beats = false → t.ang = { s.ang with div := fld v 0 11, divPend := false }) ∧
      t = { s with regs := t.regs, ang := t.ang, hosts := t.hosts, mem := t.mem }) ∧
  (∀ (s : State) (h : Nat) (v : Word) (r : Row), s.Canon → rowAt A.ANG_CFG = some r → r.ok v = true →
    s.admits h 0x20 r.modes = true →
    (bitAt v 0 = bitAt (s.reg A.ANG_CFG) 0 ∨
      s.bandFits (fld (s.reg A.ANG_DIV) 0 11) (if bitAt v 0 then 5400 else 4500) (if bitAt v 0 then 6600 else 5500) = true) →
    Gives (exec (.angCfgWrite h v) s) fun t =>
      t.reg A.ANG_CFG = mergeWord r.mask (s.reg A.ANG_CFG) v ∧
      (bitAt v 0 ≠ bitAt (s.reg A.ANG_CFG) 0 → t.reg A.ANG_FBAND = if bitAt v 0 then 0x19C81518#32 else 0x157C1194#32) ∧
      (bitAt v 0 = bitAt (s.reg A.ANG_CFG) 0 → t.reg A.ANG_FBAND = s.reg A.ANG_FBAND) ∧
      (∀ o, o ≠ A.ANG_CFG → o ≠ A.ANG_FBAND → t.reg o = s.reg o) ∧
      t = { s with regs := t.regs, hosts := t.hosts, mem := t.mem })

/-- ADC_SWTRIG, SEQUENCE_DELAY_EXPIRY and ENTRY_HOLD (R94 to R98, R100): a trigger begins the sequence's delay or, for one
under way, sets its overrun; a sequence whose delay has expired takes its slot, pre-empts one of lower INJ, or waits; an
entry held starts its conversion and the next entry, or the next sequence, takes the slot. CONVERSION_END and
RESULT_DELIVERY (R96, R99): a conversion frees its slot's converter and sends its result word on its way for 200 ns; the
oldest word on its way becomes the entry's result. -/
def Obligations.GatherSequencesDeliver : Prop :=
  (∀ (s : State) (h q : Nat) (r : Row), q < 16 → s.adc.seqs.length = 16 → rowAt A.ADC_SWTRIG = some r →
    s.admits h 0x30 r.modes = true → bitAt (s.ureg (A.ADC_SEQ_CFG q)) 15 = true →
    fld (s.ureg (A.ADC_SEQ_CFG q)) 8 2 = 2 →
    runEntries (fld (s.ureg (A.ADC_SEQ_CFG q)) 4 1) (s.seqEntries q) ≠ [] →
    Gives (exec (.adcSwtrig h (wd (2 ^ q))) s) fun t =>
      (∀ p, p ≠ q → t.seq p = s.seq p) ∧
      ((s.seq q).phase = .idle → (t.seq q).phase = .delay ∧ (t.seq q).next = 0 ∧
        (t.seq q).due = edge5 (s.now + fld (s.ureg (A.ADC_SEQ_CFG q)) 16 16 * ns) ∧
        t = { s with adc := { s.adc with seqs := t.adc.seqs }, hosts := t.hosts, mem := t.mem }) ∧
      ((s.seq q).phase ≠ .idle → t.seq q = s.seq q ∧ t.adc.ovr.testBit q = true)) ∧
  (∀ (s : State) (q : Nat), s.live = true → q < 16 → s.adc.seqs.length = 16 → s.adc.slots.length = 20 →
    (s.seq q).phase = .delay → seqSlot (s.seq q).cfg < 20 →
    Gives (exec (.sequenceDelayExpiry q) s) fun t =>
      let u := s.advance (s.seq q).due
      t = { u with adc := t.adc } ∧
      (s.runningOn (seqSlot (s.seq q).cfg) = none → (t.seq q).phase = .running ∧
        (t.svc (seqSlot (s.seq q).cfg)).acq =
          some (q, (s.seq q).next, u.now + acqNs (s.seq q).acq3 ((s.seq q).entries.getD (s.seq q).next 0#32) * ns)) ∧
      (∀ r, s.runningOn (seqSlot (s.seq q).cfg) = some r →
        (seqInj (s.seq r).cfg < seqInj (s.seq q).cfg → (t.seq q).phase = .running ∧ (t.seq r).phase = .preempted) ∧
        (seqInj (s.seq q).cfg ≤ seqInj (s.seq r).cfg → (t.seq q).phase = .waiting ∧ t.seq r = s.seq r))) ∧
  (∀ (s : State) (q k e d : Nat), s.live = true → q < 16 → s.adc.seqs.length = 16 → s.adc.slots.length = 20 →
    s.acquiring q = some (k, e, d) → (s.seq q).phase = .running → seqSlot (s.seq q).cfg = k →
    Gives (exec (.entryHold q) s) fun t =>
      t = { s.advance d with adc := t.adc } ∧
      (∃ c : Conv, (t.svc k).conv = some c ∧ c.seq = q ∧ c.entry = e ∧ c.word = (s.seq q).entries.getD e 0#32 ∧
        c.ends = (s.advance d).now + 250 * ns) ∧
      (e < lastEntry (fld (s.seq q).cfg 4 1) (s.seq q).entries → (t.seq q).next = e + 1 ∧ (t.seq q).phase = .running) ∧
      (lastEntry (fld (s.seq q).cfg 4 1) (s.seq q).entries ≤ e → (t.seq q).phase = .idle ∧ (t.seq q).next = 0)) ∧
  (∀ (s : State) (b k : Nat) (raw : BitVec 16) (ov : Bool) (c : Conv), s.live = true → b < 2 → k < 10 →
    s.adc.slots.length = 20 → (s.svc (10 * b + k)).conv = some c →
    Gives (exec (.conversionEnd b k raw ov) s) fun t =>
      let u := s.advance c.ends
      (t.svc (10 * b + k)).conv = none ∧
      (∃ d : Delivery, t.adc.flight = s.adc.flight ++ [d] ∧ d.seq = c.seq ∧ d.entry = c.entry ∧
        d.due = u.now + 200 * ns ∧ d.last = c.last ∧ d.gain = entGain c.word) ∧
      t = { u with adc := t.adc, free := s.free + 2 }) ∧
  (∀ (s : State) (d : Delivery) (l : List Delivery), s.live = true → s.adc.flight = d :: l →
    Map.rising s.adc.results = true →
    Gives (exec .resultDelivery s) fun t =>
      t.adc.flight = l ∧ Map.get (fun _ => 0x100000#32) (32 * d.seq + d.entry) t.adc.results = d.word ∧
      t.clock = (s.advance d.due).clock)

/-- The rotation of the background calibration (R102 to R104): a step takes an idle spare or suspends the bank; the spare
calibrates itself, takes the slot over, and gives it back once its slice has calibrated, or stays in its place. That a step
is counted as it begins, that a slice that cannot be taken back waits anew, that the index goes from 1,023 to 0, and what a
failed flash die answers are the model's choices (log entries 118, 119, 208, 98). That a rotation spare which fails its own
calibration raises CAL_FAIL too is the model's choice (log entry 236). The calibration set (R106): LOAD copies the set in
force into the staging buffer, the data port fills it word by word, WRITE puts a set that passes its checks into flash, and
the end of that write makes it the set of the next beat. -/
def Obligations.CalibrationRuns : Prop :=
  (∀ s : State, s.live = true → s.ready 6 = true → s.adc.rot = .idle → s.adc.slices.length = 24 → s.adc.nocal.length = 2 →
    s.adc.rotSlot < 20 →
    Gives (exec .calibrationStep s) fun t =>
      let u := s.advance s.adc.rotDue
      t.adc.rotSteps = (s.adc.rotSteps + 1) % 65536 ∧ t.adc.rotFrom = u.now ∧
      (∀ n, s.idleSpare (s.adc.rotSlot / 10) = some n → t.adc.rot = .spareCal ∧ t.adc.rotSpare = n ∧
        t.adc.slices.getD n .idle = .rotation ∧ t.adc.rotDue = u.now + us 1600 ∧
        t.adc.rotOwn = (s.svc s.adc.rotSlot).slice + 12 * (s.adc.rotSlot / 10)) ∧
      (s.idleSpare (s.adc.rotSlot / 10) = none → t.adc.rot = .idle ∧ t.adc.rotSlot = (s.adc.rotSlot + 1) % 20 ∧
        t.adc.nocal.getD (s.adc.rotSlot / 10) false = true)) ∧
  (∀ (s : State) (offset gain : Int), s.live = true → s.adc.rot = .spareCal →
    absI offset ≤ 64 → 200 * absI gain ≤ 1048576 →
    Gives (exec (.spareCalibrationEnd offset gain true) s) fun t =>
      let u := s.advance s.adc.rotDue
      t = { u with adc := { s.adc with rot := .takeOver, rotDue := u.now + s.calWait } }) ∧
  (∀ (s : State) (offset gain : Int) (converged : Bool), s.live = true → s.adc.rot = .spareCal →
    s.adc.slices.length = 24 → s.adc.rotSpare < 24 → (64 < absI offset ∨ 1048576 < 200 * absI gain ∨ converged = false) →
    Gives (exec (.spareCalibrationEnd offset gain converged) s) fun t =>
      t.adc.slices.getD s.adc.rotSpare .idle = .exhausted ∧ t.adc.slots = s.adc.slots) ∧
  (∀ s : State, s.live = true → s.adc.rot = .takeOver → s.slotFree s.adc.rotSlot = true → s.adc.slots.length = 20 →
    s.adc.rotSlot < 20 →
    Gives (exec .slotHandover s) fun t =>
      let u := s.advance (edge5 s.now)
      (t.svc s.adc.rotSlot).slice = s.adc.rotSpare - 12 * (s.adc.rotSlot / 10) ∧
      t = { u with adc := { s.adc with slots := t.adc.slots, rot := .sliceCal, rotDue := u.now + us 1600 },
                   modes := { u.modes with hist := t.modes.hist } }) ∧
  (∀ s : State, s.live = true → s.adc.rot = .takeBack → s.slotFree s.adc.rotSlot = true → s.adc.slots.length = 20 →
    s.adc.rotSlot < 20 → s.adc.slices.length = 24 → s.adc.rotSpare < 24 →
    Gives (exec .slotHandover s) fun t =>
      t.adc.rot = .idle ∧ t.adc.rotSlot = (s.adc.rotSlot + 1) % 20 ∧
      (t.svc s.adc.rotSlot).slice = s.adc.rotOwn - 12 * (s.adc.rotSlot / 10) ∧
      t.adc.slices.getD s.adc.rotSpare .exhausted = .idle ∧
      t = { s.advance (edge5 s.now) with adc := t.adc }) ∧
  (∀ s : State, s.live = true → s.adc.rot = .takeOver → s.slotFree s.adc.rotSlot = false →
    s.adc.slices.length = 24 → s.adc.rotSpare < 24 →
    Gives (exec .calStarved s) fun t =>
      t.adc.rot = .idle ∧ t.adc.rotSlot = (s.adc.rotSlot + 1) % 20 ∧ t.adc.slots = s.adc.slots ∧
      t.adc.slices.getD s.adc.rotSpare .exhausted = .idle) ∧
  (∀ s : State, s.live = true → s.adc.rot = .takeBack → s.slotFree s.adc.rotSlot = false →
    Gives (exec .calStarved s) fun t =>
      t.adc = { s.adc with rotDue := (s.advance s.adc.rotDue).now + s.calWait }) ∧
  (∀ (s : State) (offset gain : Int), s.live = true → s.adc.rot = .sliceCal →
    absI offset ≤ 64 → 200 * absI gain ≤ 1048576 →
    Gives (exec (.sliceCalibrationEnd offset gain true) s) fun t =>
      let u := s.advance s.adc.rotDue
      t = { u with adc := { s.adc with rot := .takeBack, rotDue := u.now + s.calWait } }) ∧
  (∀ (s : State) (offset gain : Int) (converged : Bool), s.live = true → s.adc.rot = .sliceCal →
    s.adc.slices.length = 24 → s.adc.rotSpare < 24 → s.adc.rotOwn < 24 → s.adc.rotSpare ≠ s.adc.rotOwn →
    (64 < absI offset ∨ 1048576 < 200 * absI gain ∨ converged = false) →
    Gives (exec (.sliceCalibrationEnd offset gain converged) s) fun t => t.adc.rot = .idle ∧
      t.adc.slices.getD s.adc.rotSpare .idle = .substituted ∧ t.adc.slices.getD s.adc.rotOwn .idle = .exhausted) ∧
  (∀ (s : State) (h : Nat), s.Canon → s.pends h A.ADC_CALSET_CMD mService 1#32 = true → s.adc.calsetBusy = false →
    Gives (exec (.calsetLoad h) s) fun t =>
      t.adc = { s.adc with staging := s.adc.calset } ∧ t.reg A.ADC_CALSET_CMD = 1#32 ∧
      t = { s with adc := t.adc, regs := t.regs, hosts := t.hosts, mem := t.mem }) ∧
  (∀ (s : State) (h : Nat) (v : Word), s.Canon → Map.rising s.adc.staging = true → s.admits h 0x31 mService = true →
    Gives (exec (.calsetDataWrite h v) s) fun t =>
      Map.get (fun _ => 0#32) (fld (s.reg A.ADC_CALSET_IDX) 0 10) t.adc.staging = v ∧
      t.reg A.ADC_CALSET_IDX = wd ((fld (s.reg A.ADC_CALSET_IDX) 0 10 + 1) % 1024) ∧
      t = { s with adc := { s.adc with staging := t.adc.staging }, regs := t.regs, hosts := t.hosts, mem := t.mem }) ∧
  (∀ (s : State) (h : Nat), s.Canon → s.pends h A.ADC_CALSET_CMD mService 2#32 = true → s.adc.calsetBusy = false →
    s.mem.flashFail = false → calsetOk s.adc.staging = true →
    Gives (exec (.calsetWrite h) s) fun t =>
      t.adc = { s.adc with calsetBusy := true, calsetFlash := s.adc.staging, calsetOk := false } ∧
      t = { s with adc := t.adc, regs := t.regs, hosts := t.hosts, mem := t.mem }) ∧
  (∀ s : State, s.live = true → s.adc.calsetBusy = true →
    Gives (exec .calsetWritten s) fun t =>
      (s.mem.flashFail = false →
        OnlyEvents { s with adc := { s.adc with calsetBusy := false, calsetOk := true, calsetNext := true } } t) ∧
      (s.mem.flashFail = true → t = { s with adc := { s.adc with calsetBusy := false } }))

/-- The comparators (R108 to R111): an enabled comparator's output follows its crossings, in sampled operation what the live
window shows; an output that so becomes asserted ahead of no blanking raises its flag; and a spare circuit is given the
channel it stands in for. That a substitution takes effect at once while no beats run, and that a trim adds to the threshold
are the model's choices (log entries 105, 116). -/
def Obligations.ComparatorsFollow : Prop :=
  (∀ (s : State) (n : Nat) (uv : Int), s.live = true → s.ready 7 = true → n < 16 →
    Gives (exec (.comparatorAssert n uv) s) fun t => InputFollowed s t n uv) ∧
  (∀ (s : State) (n : Nat) (uv : Int), s.live = true → s.ready 7 = true → n < 16 →
    Gives (exec (.comparatorRelease n uv) s) fun t => InputFollowed s t n uv) ∧
  (∀ (s : State) (live : Bool), s.live = true → s.ready 7 = true → s.sampled = true → s.adc.cmpLive = !live →
    Gives (exec (.sampledWindow live) s) fun t =>
      t.adc.cmpLive = live ∧ (live = false → ∀ n, n < 16 → t.cmpOut n = false) ∧
      t.clock = (s.advance (if live then (if s.adc.cmpAt = 0 then s.now else s.adc.cmpAt + us 20) else s.adc.cmpAt + us 1)).clock ∧
      (live = true → t.adc.cmpAt = t.now) ∧ (live = false → t.adc.cmpAt = s.adc.cmpAt)) ∧
  (∀ (s : State) (h : Nat) (v : Word) (k o o' : Nat),
    (k = 16 ∧ o = A.CMP_SUB16 ∧ o' = A.CMP_SUB17) ∨ (k = 17 ∧ o = A.CMP_SUB17 ∧ o' = A.CMP_SUB16) →
    s.Canon → s.pends h o mService v = true → fld v 0 5 = 0x1F ∨ fld (s.reg o') 0 5 ≠ fld v 0 5 →
    Gives (exec (.comparatorSubstitute h k v) s) fun t =>
      (∀ x, t.reg x = if x = o then v else s.reg x) ∧ (s.ang.beats = false → t.ureg o = v) ∧
      (s.ang.beats = true → t.used = s.used))

/-- PROBE_RETURN, PORT_DOWN and RING_PORT_SYNC (R137, R140, R146): a probe that comes round gives the delay of its
direction, a port that goes down opens its ring and raises PORT_FAULT of its end, a port in sync receives again. That a line
is taken to lock at its port's enable is the model's choice (log entry 227). PORT_SUBSTITUTE and LNK_CTRL_WRITE (R147, R149,
R431): the selected spare serves the role named, or is idle; an accepted control word is stored, the delay-locked lines of
the ring's ends lock with the enable and are off without it (at once: the model's choice, log entry 227), and the ring's
readiness is judged anew. -/
def Obligations.RingPortsServeRings : Prop :=
  (∀ (s : State) (k d : Nat), s.live = true → s.probing k = true → s.rings.rings.length = 16 →
    Gives (exec (.probeReturn k false d) s) (fun t => (t.ringSt k).tew = d ∧ (t.ringSt k).gotEw = true ∧
      (t.ringSt k).twe = (s.ringSt k).twe ∧ (∀ j, j ≠ k → t.ringSt j = s.ringSt j) ∧
      t = { s with rings := { s.rings with rings := t.rings.rings }, ev := t.ev, reco := t.reco }) ∧
    Gives (exec (.probeReturn k true d) s) (fun t => (t.ringSt k).twe = d ∧ (t.ringSt k).gotWe = true ∧
      (t.ringSt k).tew = (s.ringSt k).tew ∧ (∀ j, j ≠ k → t.ringSt j = s.ringSt j) ∧
      t = { s with rings := { s.rings with rings := t.rings.rings }, ev := t.ev, reco := t.reco })) ∧
  (∀ (s : State) (p x : Nat), s.live = true → s.Canon → p < 34 → x < 3 → s.rings.ports.length = 34 →
    s.rings.rings.length = 16 →
    Gives (exec (.portDown p x) s) fun t =>
      (t.port p).sync = false ∧ (t.port p).down = true ∧ (t.port p).los = ((s.port p).los || x == 0) ∧
      (t.port p).txFault = ((s.port p).txFault || x == 2) ∧ (∀ q, q ≠ p → t.port q = s.port q) ∧
      (s.serves p < 32 → (t.ringSt (s.serves p / 2)).closed = false ∧ (t.ringSt (s.serves p / 2)).broke = true ∧
        ∀ h, h < 4 → bitAt (t.ev.flags h (0x40 + s.serves p / 2)) (2 + s.serves p % 2) = true) ∧
      t = { s with rings := t.rings, ev := t.ev, reco := t.reco }) ∧
  (∀ (s : State) (p : Nat), s.live = true → p < 34 → s.rings.ports.length = 34 → (s.port p).sync = false →
    Gives (exec (.ringPortSync p) s) fun t =>
      (t.port p).sync = true ∧ (t.port p).los = false ∧ (t.port p).txFault = false ∧ (t.port p).down = false ∧
      (t.port (s.lineOf p)).dll = true ∧ (∀ q, q ≠ p → q ≠ s.lineOf p → t.port q = s.port q) ∧
      t = { s with rings := t.rings, ev := t.ev, reco := t.reco }) ∧
  (∀ (s : State) (h : Nat) (v : Word), s.pends h A.LNKC_SUB mService v = true → s.rings.ports.length = 34 →
    let p := fld (s.reg A.LNKC_SUB_SEL) 0 6
    let r := fld v 0 6
    s.sparePort p = true → p < 34 → (r = 0x3F ∨ (r < 0x20 ∧ s.sparePort r = false ∧ ∀ q, q < 34 → q ≠ p → q ≠ r → s.serves q ≠ r)) →
    Gives (exec (.portSubstitute h v) s) fun t =>
      t.serves p = r ∧ (r ≠ 0x3F → t.serves r = 0x3F) ∧
      (∀ o, t.reg o = s.reg o)) ∧
  (∀ (s : State) (h k : Nat) (v : Word) (r : Row), s.Canon → k < 16 → rowAt (A.LNK k A.LNK_CTRL) = some r → r.ok v = true →
    s.admits h (0x40 + k) r.modes = true →
    (bitAt v 0 = true ∨ (s.ringCells k).all (fun c => (s.cell c).st != .active) = true) →
    s.rings.ports.length = 34 →
    Gives (exec (.lnkCtrlWrite h k v) s) fun t =>
      (∀ o, t.reg o = if o = A.LNK k A.LNK_CTRL then mergeWord r.mask (s.reg o) v else s.reg o) ∧
      (∀ p, p < 34 → t.port p = if p / 2 = k then
        { s.port p with dll := if bitAt v 0 = bitAt (s.reg (A.LNK k A.LNK_CTRL)) 0 ∧ bitAt v 0 = true then (s.port p).dll else bitAt v 0 }
        else s.port p) ∧
      t = { s with regs := t.regs, rings := { s.rings with rings := t.rings.rings, ports := t.rings.ports }, ev := t.ev, reco := t.reco,
                   hosts := t.hosts, mem := t.mem })

/-- The trip lines (R169 to R174): a filtered line that asserts latches, raises TRIP and cuts every enabled ring that names
it; one that clears only clears; a host's lines are stored as written. -/
def Obligations.TripLinesCut : Prop :=
  (∀ (s : State) (l : Nat), s.live = true → s.Canon → s.rings.rings.length = 16 → s.modu.lhb.length = 12 → s.lineRaw l = true → s.lineOn l = false →
    Gives (exec (.tripAssert l) s) fun t =>
      (∀ k, t.modu.lines.testBit k = (s.modu.lines.testBit k || k == l)) ∧
      (∀ k, t.modu.latch.testBit k = (s.modu.latch.testBit k || k == l)) ∧
      (∀ k, k < 12 → (fld (s.lhb k).cfg 16 8).testBit l = true → (t.lhb k).cut = true) ∧
      (∀ k, k < 12 → (fld (s.lhb k).cfg 16 8).testBit l = false → t.lhb k = s.lhb k) ∧
      (∀ h, h < 4 → bitAt (t.ev.flags h 0x60) 0 = true) ∧
      (∀ k, k < 16 → s.ringEn k = true → (s.tripSel k).testBit l = true → (t.ringSt k).cut = true) ∧
      (∀ o, t.reg o = s.reg o)) ∧
  (∀ (s : State) (l : Nat), s.live = true → l < 8 → s.lineRaw l = false → s.lineOn l = true →
    Gives (exec (.tripClear l) s) fun t =>
      (∀ k, t.modu.lines.testBit k = (s.modu.lines.testBit k && k != l)) ∧
      t = { s.advance (s.now + fabricPeriod * (s.tripFilt l + 1)) with modu := { s.modu with lines := t.modu.lines } }) ∧
  (∀ (s : State) (h : Nat) (v : Word), s.Canon → s.pends h A.MOD_TRIP_SW mService v = true →
    Gives (exec (.tripSw h v) s) fun t =>
      (∀ o, t.reg o = if o = A.MOD_TRIP_SW then v else s.reg o) ∧
      t = { s with regs := t.regs, hosts := t.hosts, mem := t.mem })

/-- The local outputs (R164 to R168, R171): a period boundary takes the committed period and compare value, a commit makes
the shadow pairs of the outputs named pending, a lost stream or fabric clock drives every output low, and a modulator event
starts the sequences that name it. That a released output is low until its next boundary, what a fabric clock stop does, and
that a release is taken for a cell that is ABSENT or STALE are the model's choices (log entries 93, 134, 184).
COUNTER_CLEAR, FORCE_LHB and FORCE_CELL (R155, R163, R174): an accepted clear leaves every counter of the cells and outputs
0 and their legs as they were; accepted forced states are stored, an output whose state they change begins with no
accumulated error, and one released is low. -/
def Obligations.LocalOutputsAndModulatorAct : Prop :=
  (∀ (s : State) (k : Nat), s.live = true → k < 12 → s.modu.lhb.length = 12 →
    Gives (exec (.lhbPeriodBoundary k) s) fun t =>
      let u := s.advance ((s.lhb k).start + half25 (s.lhb k).aper * halfNs)
      (t.lhb k).pend = none ∧ (t.lhb k).start = u.now ∧ (t.lhb k).cfg = s.reg (A.LHB k 0) ∧ (t.lhb k).dt = s.reg (A.LHB k 4) ∧
      (t.lhb k).aper = (match (s.lhb k).pend with | some p => p.1 | none => (s.lhb k).aper) ∧
      (t.lhb k).acmp ≤ (t.lhb k).aper ∧ (s.nextSrc = 0 → (t.lhb k).on = false ∧ (t.lhb k).safe = true) ∧
      (t.lhb k).cut = s.lhbTripped (t.lhb k) ∧
      t.modu.src = s.nextSrc ∧ t.modu.take = none ∧ (∀ j, j ≠ k → t.lhb j = s.lhb j) ∧
      t = { u with modu := t.modu, ev := t.ev, reco := t.reco }) ∧
  (∀ (s : State) (h : Nat) (v : Word), s.admits h 0x60 0x1FE = true → s.modu.lhb.length = 12 →
    (∀ k, k < 12 → bitAt v k = true → 2000 ≤ fld (s.reg (A.LHB k 8)) 0 22 ∧ fld (s.reg (A.LHB k 8)) 0 22 ≤ 4000000 ∧
      2 * (fld (s.reg (A.LHB k 4)) 0 16 + fld (s.reg (A.LHB k 4)) 16 16) ≤ fld (s.reg (A.LHB k 8)) 0 22) →
    Gives (exec (.lhbCommit h v) s) fun t =>
      (∀ k, k < 12 → t.lhb k = if bitAt v k then
        { s.lhb k with pend := some (fld (s.reg (A.LHB k 8)) 0 22, fld (s.reg (A.LHB k 0xC)) 0 22) } else s.lhb k) ∧
      t = { s with modu := { s.modu with lhb := t.modu.lhb }, hosts := t.hosts, mem := t.mem }) ∧
  (∀ s : State, s.live = true → s.modu.src ≠ 0 → s.streamGone = true →
    Gives (exec .streamStopped s) fun t =>
      (∀ l ∈ t.modu.lhb, l.on = false ∧ l.safe = true) ∧ t.modu.src = 0 ∧
      t = { s with modu := { s.modu with lhb := t.modu.lhb, src := 0 }, ev := t.ev, reco := t.reco }) ∧
  (∀ s : State, s.live = true →
    Gives (exec .fabricClockStop s) fun t =>
      (∀ l ∈ t.modu.lhb, l.on = false) ∧ t = { s with modu := { s.modu with lhb := t.modu.lhb, fabStop := true } }) ∧
  (∀ (s : State) (n a : Nat), s.live = true → n < 16 → s.ready 9 = true → s.mevAt n = some a →
    s.adc.seqs.length = 16 →
    Gives (exec (.modulatorEvent n) s) fun t =>
      let u := s.advance a
      (∀ q, q < 16 → bitAt (s.ureg (A.ADC_SEQ_CFG q)) 15 = true → fld (s.ureg (A.ADC_SEQ_CFG q)) 8 2 = 1 →
        fld (s.ureg (A.ADC_SEQ_CFG q)) 10 5 = n → (s.seq q).phase = .idle →
        runEntries (fld (s.ureg (A.ADC_SEQ_CFG q)) 4 1) (s.seqEntries q) ≠ [] → (t.seq q).phase = .delay) ∧
      t = { u with modu := { s.modu with mev := s.modu.mev.erase (n, a) }, adc := t.adc, ev := t.ev, reco := t.reco }) ∧
  (∀ (s : State) (h : Nat) (r : Row), rowAt A.MOD_CNT_CLR = some r → s.admits h 0x60 r.modes = true →
    Gives (exec (.counterClear h 1#32) s) fun t =>
      (∀ c, (t.cmod c).cutb = 0 ∧ (t.cmod c).leg0.drop = 0 ∧ (t.cmod c).leg0.str = 0 ∧ (t.cmod c).leg1.drop = 0 ∧
        (t.cmod c).leg1.str = 0 ∧ (t.cmod c).leg0.accClr = 0 ∧ (t.cmod c).leg1.accClr = 0) ∧
      (∀ l ∈ t.modu.lhb, l.cutp = 0 ∧ l.leg.drop = 0 ∧ l.leg.str = 0 ∧ l.leg.accClr = 0) ∧
      t = { s with modu := { s.modu with cells := t.modu.cells, lhb := t.modu.lhb }, hosts := t.hosts, mem := t.mem }) ∧
  (∀ (s : State) (h : Nat) (v : Word), s.Canon → s.pends h A.MOD_FORCE_LHB mService v = true → noThree 12 v.toNat = true →
    s.modu.lhb.length = 12 →
    Gives (exec (.forceLhb h v) s) fun t =>
      (∀ o, t.reg o = if o = A.MOD_FORCE_LHB then v else s.reg o) ∧
      (∀ k, k < 12 → fld v (2 * k) 2 = fld (s.reg A.MOD_FORCE_LHB) (2 * k) 2 → t.lhb k = s.lhb k) ∧
      (∀ k, k < 12 → fld v (2 * k) 2 ≠ fld (s.reg A.MOD_FORCE_LHB) (2 * k) 2 → fld v (2 * k) 2 = 0 → (t.lhb k).on = false) ∧
      (∀ k, k < 12 → fld v (2 * k) 2 ≠ fld (s.reg A.MOD_FORCE_LHB) (2 * k) 2 → (t.lhb k).leg.acc = 0) ∧
      t = { s with regs := t.regs, modu := { s.modu with lhb := t.modu.lhb }, hosts := t.hosts, mem := t.mem }) ∧
  (∀ (s : State) (h : Nat) (v : Word), s.Canon → s.pends h A.MOD_FORCE_CELL mService v = true → noThree 2 v.toNat = true →
    (v = 0#32 ∨ ((s.cell (fld (s.reg A.MOD_FORCE_CSEL) 0 9)).st ≠ .absent ∧
      (s.cell (fld (s.reg A.MOD_FORCE_CSEL) 0 9)).st ≠ .stale)) →
    Gives (exec (.forceCell h v) s) fun t =>
      (∀ o, t.reg o = if o = A.MOD_FORCE_CELL then v else s.reg o) ∧
      t = { s with regs := t.regs, hosts := t.hosts, mem := t.mem })

/-- The loop slots (R191, R192, R196, R199, R200, R202): staging writes only stage, a commit that is accepted installs the
staged words, drops the set and lets the slot's state follow at the next beat start, a set-point is stored and in RIDE
waits, a held slot is released, a snapshot is asked for and let go. That staging writes are legal in every mode is the
model's choice (log entry 138). -/
def Obligations.LoopSlotsCommit : Prop :=
  (∀ (s : State) (h i b : Nat) (v : Word), s.admits h 0x70 0x1FE = true → i < 1024 → 4 ≤ b → b < 0x40 → b % 4 = 0 →
    Gives (exec (.slotStagingWrite h i b v) s) fun t =>
      (t.hosts.staging.find? fun p => p.1 == h * 0x8000 + i * 0x20 + b / 4) = some (h * 0x8000 + i * 0x20 + b / 4, v) ∧
      t = { s with hosts := t.hosts, mem := t.mem }) ∧
  (∀ (s : State) (h i : Nat) (v : Word), s.admits h 0x70 mStop = true → i < 1024 →
    s.slotEntryOk (s.slotRegs h i v) i = true →
    Gives (exec (.slotCommit h i v) s) fun t =>
      t.regs = s.slotRegs h i v ∧ (∀ p ∈ t.hosts.staging, p.1 / 0x20 ≠ h * 0x400 + i) ∧
      t.loop = { s.loop with commits := s.loop.commits ++ [(i, commitClears s.regs (s.slotRegs h i v) i)] } ∧
      t = { s with regs := t.regs, loop := t.loop, hosts := t.hosts, mem := t.mem }) ∧
  (∀ (s : State) (h i : Nat) (v : Word), s.Canon → i < 1024 → s.pends h (A.SLOT i 0x40) mSet v = true →
    Gives (exec (.setpointWrite h i v) s) fun t =>
      (∀ o, t.reg o = if o = A.SLOT i 0x40 then v else s.reg o) ∧ t.used = s.used ∧
      (s.modes.cur = .ride → A.SLOT i 0x40 ∈ t.rideWait) ∧ (s.modes.cur ≠ .ride → t.rideWait = s.rideWait) ∧
      t = { s with regs := t.regs, rideWait := t.rideWait, hosts := t.hosts, mem := t.mem }) ∧
  (∀ (s : State) (h : Nat) (v : Word) (r : Row), rowAt A.LPE_RELEASE = some r → r.ok v = true → s.admits h 0x70 0x1FE = true →
    Map.rising s.loop.slots = true → (s.slot (fld v 0 10)).st = .outHold →
    ((s.slot (fld v 0 10)).hcause = 1 → s.inputsOk (fld v 0 10) = true) →
    Gives (exec (.loopRelease h v) s) fun t =>
      (t.slot (fld v 0 10)).st = (if s.modes.cur.inMask (slotModes (s.sw (fld v 0 10) 0)) then .run else .idle) ∧
      (t.slot (fld v 0 10)).hcause = 0 ∧ (t.slot (fld v 0 10)).out = (s.slot (fld v 0 10)).out ∧
      (∀ j, j ≠ fld v 0 10 → t.slot j = s.slot j)) ∧
  (∀ (s : State) (h : Nat) (v : Word) (r : Row), rowAt A.LPE_RELEASE = some r → r.ok v = true → s.admits h 0x70 0x1FE = true →
    (s.slot (fld v 0 10)).st ≠ .outHold →
    Gives (exec (.loopRelease h v) s) fun t => t = { s with hosts := t.hosts, mem := t.mem }) ∧
  (∀ (s : State) (h : Nat), s.admits h 0x70 0x1FE = true → (s.engine 0).inStep = true → (s.engine 1).inStep = true →
    s.loop.snap = none → s.loop.snapReq = false → s.loop.snapArm = false →
    Gives (exec (.snapshotCapture h) s) fun t =>
      t = { s with loop := { s.loop with snapReq := true }, hosts := t.hosts, mem := t.mem }) ∧
  (∀ (s : State) (h : Nat), s.admits h 0x70 0x1FE = true →
    Gives (exec (.snapshotRelease h) s) fun t =>
      t = { s with loop := { s.loop with snapReq := false, snapArm := false, snap := none }, hosts := t.hosts, mem := t.mem })

/-- The close sequence and the opening of the groups (R226 to R230): START begins at step 1 and stays there without the
permission, an abort leaves STEP 0 and RESULT 3, a permission withdrawn ends it with RESULT 5, a wait that runs out with
RESULT 2, and a confirmed main group completes it; an opening a host asks for begins at the rate that takes every reference
to 0 within GRD_STOP.FAST; the opening commands the main group off, then the series group, and ends at WATCH where that is
the target. That a sequence energises nothing while the groups are being opened or once HOLD is decided is the model's
choice (log entry 94), and that START and an opening a host asks for are in force for the engines from the next beat start
(log entry 228). -/
def Obligations.CloseSequenceAndOpening : Prop :=
  (∀ (s : State) (h : Nat), s.Canon → s.pends h A.GRD_CLOSE 0x008 1#32 = true → s.closing = false → s.confirmed 0 2 = false →
    s.permit = false ∨ s.ang.beats = true →
    Gives (exec (.closeStart h) s) fun t =>
      t.reg A.GRD_CLOSE = 1#32 ∧
      t.grd = { s.grd with step := 1, result := 0, closeFrom := s.now, scFrom := none, startHeld := s.ang.beats } ∧
      t = { s with regs := t.regs, grd := t.grd, hosts := t.hosts, mem := t.mem }) ∧
  (∀ (s : State) (h : Nat), s.Canon → s.pends h A.GRD_CLOSE 0x008 1#32 = true → s.closing = false → s.confirmed 0 2 = false →
    s.permit = true → s.ang.beats = false → s.modes.next ≠ some .hold → s.grd.stop = .none →
    Gives (exec (.closeStart h) s) fun t => t.reg A.GRD_CLOSE = 1#32 ∧ 2 ≤ t.grd.step) ∧
  (∀ (s : State) (h : Nat), s.pends h A.GRD_CLOSE 0x008 2#32 = true → s.closing = true → s.grd.stop = .none →
    Gives (exec (.closeAbort h) s) fun t => t.grd.step = 0 ∧ t.grd.result = 3 ∧ t.grd.stop = .ramp 0 ∧
      (s.ang.beats = true → t.stopNow = s.stopNow)) ∧
  (∀ s : State, s.live = true → s.closing = true → s.modes.cur = .energize → s.grd.startHeld = false → s.grd.step = 1 → s.permit = true →
    s.modes.next ≠ some .hold → s.grd.stop = .none →
    Gives (exec .closeStepAdvance s) fun t => 2 ≤ t.grd.step) ∧
  (∀ s : State, s.live = true → s.modes.cur = .energize → s.grd.startHeld = false → (s.grd.step = 2 ∨ s.grd.step = 3 ∨ s.grd.step = 4) →
    s.permit = false →
    Gives (exec .closeStepAdvance s) fun t => t.grd.step = 0 ∧ t.grd.result = 5 ∧ (t.group (s.groupOf 0)).cmd = false) ∧
  (∀ (s : State) (a : Nat), s.live = true → s.modes.cur = .energize → s.grd.startHeld = false → s.grd.step = 2 → s.permit = true →
    s.modes.next ≠ some .hold → s.grd.stop = .none → s.grd.scFrom = some a → a + s.scTime ≤ s.now →
    Gives (exec .closeStepAdvance s) fun t => 3 ≤ t.grd.step) ∧
  (∀ s : State, s.live = true → s.modes.cur = .energize → s.grd.startHeld = false → s.grd.step = 3 → s.permit = true →
    s.modes.next ≠ some .hold → s.grd.stop = .none → s.confirmed 1 2 = true →
    Gives (exec .closeStepAdvance s) fun t => 4 ≤ t.grd.step) ∧
  (∀ s : State, s.live = true → s.modes.cur = .energize → s.grd.startHeld = false → s.grd.step = 4 → s.permit = true →
    s.modes.next ≠ some .hold → s.grd.stop = .none → s.confirmed 0 2 = true →
    Gives (exec .closeStepAdvance s) fun t =>
      OnlyEvents { s with grd := { s.grd with step := 5, result := 1, scFrom := none } } t) ∧
  (∀ s : State, s.live = true → s.closeWaits = true →
    Gives (exec .closeWaitTimeout s) fun t =>
      t.grd.step = 0 ∧ t.grd.result = 2 ∧ (t.group (s.groupOf 0)).cmd = false ∧
      t.clock = (s.advance (s.grd.closeFrom + ms (fld (s.ureg A.GRD_SC_WAIT) 0 16))).clock) ∧
  (∀ (s : State) (h : Nat), s.admits h 0x80 0x1FE = true → s.modes.cur = .energize →
    Gives (exec (.grdOpen h 0xFE01#32) s) fun t => t.closing = false ∧ (s.closing = true → t.grd.result = 3)) ∧
  (∀ (s : State) (h : Nat), s.admits h 0x80 0x1FE = true → s.modes.cur = .ride → s.modes.cond.testBit cHost = false →
    Gives (exec (.grdOpen h 0xFE01#32) s) fun t => t.modes.latch.testBit cHost = true) ∧
  (∀ (s : State) (h : Nat), s.admits h 0x80 0x1FE = true → (s.modes.cur = .follow ∨ s.modes.cur = .form) →
    s.modes.next = none → s.grd.stop ≠ .main → s.grd.stop ≠ .series →
    Gives (exec (.grdOpen h 0xFE01#32) s) fun t =>
      t.modes.trans = true ∧ t.modes.tgt = .watch ∧ t.modes.asked = true ∧ t.grd.xfer = .none ∧
      t.grd.stop = .ramp s.fastRate ∧ (0 < fld (s.ureg A.GRD_STOP) 16 16 →
        ∀ x ∈ [s.grd.idRef, s.grd.iqRef, s.grd.inD, s.grd.inQ], absI x * 1000 ≤ s.fastRate * (fld (s.ureg A.GRD_STOP) 16 16 : Nat)) ∧
      (s.ang.beats = true → t.stopNow = s.stopNow)) ∧
  (∀ (s : State) (h : Nat), s.admits h 0x80 0x1FE = true → s.modes.cur.within mStop = true →
    Gives (exec (.grdOpen h 0xFE01#32) s) fun t => t = { s with hosts := t.hosts, mem := t.mem }) ∧
  (∀ (s : State) (a : Int), s.live = true → s.grd.stop = .ramp a → 2 * s.ang.div ≤ s.grd.lowBeats →
    Gives (exec .stopZeroCurrent s) fun t => (t.group (s.groupOf 0)).cmd = false ∧ ∀ r, t.grd.stop ≠ .ramp r) ∧
  (∀ s : State, s.live = true → s.grd.stop = .main → s.confirmed 0 1 = true →
    Gives (exec .stopZeroCurrent s) fun t => (t.group (s.groupOf 1)).cmd = false ∧ t.grd.stop ≠ .main) ∧
  (∀ s : State, s.live = true → s.grd.stop = .series → s.confirmed 1 1 = true →
    Gives (exec .stopZeroCurrent s) fun t =>
      t = { s with grd := { s.grd with stop := .none }, modes := { s.modes with
        next := if s.modes.tgt = .watch ∧ s.modes.next = none then some .watch else s.modes.next } })

/-- The transfers between FOLLOW and FORM and the neutral current (R217, R221, R222): a transfer that is complete decides
the mode of the next beat, and NEUT follows its limit. -/
def Obligations.TransfersAndNeutral : Prop :=
  (∀ s : State, s.live = true → s.toFormDue = true →
    Gives (exec .transferToFormComplete s) fun t => OnlyEvents { s with modes := { s.modes with next := some .form } } t) ∧
  (∀ s : State, s.live = true → s.toFollowDue = true →
    Gives (exec .transferToFollowComplete s) fun t => OnlyEvents { s with modes := { s.modes with next := some .follow } } t) ∧
  (∀ s : State, s.live = true → s.Canon → s.neutralDue = true →
    Gives (exec .neutralCurrent s) fun t =>
      OnlyEvents { s with grd := { s.grd with neut := true, neutLow := none } } t ∧
      ∀ h, h < 4 → bitAt (t.ev.flags h 0x80) 1 = true) ∧
  (∀ (s : State) (a : Nat), s.live = true → s.grd.neut = true → s.grd.neutLow = some a →
    Gives (exec .neutralClear s) fun t =>
      t = { s.advance (a + ms 1000) with grd := { s.grd with neut := false, neutLow := none, neutRun := 0 } })

/-- The trackers (R239 to R242, R245, R248): a period or a sweep point with a void window is only counted again; a valid one
takes PMEAS and moves the target, a sweep ends in TRACK after its 32 points; no other tracker changes. Global sweeps, the
history and the storage dispatch (R244, R245, R251): a sweep falls due and starts unless one is under way, a request starts
one, the history takes every tracked cell, and a dispatch within the budgets is stored, in RIDE to be used after it. -/
def Obligations.TrackersSweepAndDispatch : Prop :=
  (∀ (s : State) (c : Nat), s.live = true → s.Canon → s.periodDue c = true →
    Gives (exec (.trackerPeriodEnd c) s) fun t =>
      (s.windowVoid (s.trk c).last = true → t.trk c = { s.trk c with void := true, cycles := 0 }) ∧
      (s.windowVoid (s.trk c).last = false → (t.trk c).pmeas = (s.trk c).last.mean ∧ (t.trk c).cycles = 0 ∧
        (t.trk c).void = false ∧ (t.trk c).prev = some ((s.trk c).last.mean, (s.trk c).vtgt) ∧
        ((s.trk c).st = .track → s.vMin c ≤ (t.trk c).vtgt ∧ (t.trk c).steps = ((s.trk c).steps + 1) % 2 ^ 32) ∧
        ((s.trk c).st ≠ .track → (s.trk c).st ≠ .curtailed → (t.trk c).vtgt = (s.trk c).vtgt)) ∧
      (∀ d, d ≠ c → t.trk d = s.trk d) ∧ t = { s with bpt := { s.bpt with cells := t.bpt.cells } }) ∧
  (∀ (s : State) (c : Nat), s.live = true → s.Canon → s.sweepDue c = true →
    Gives (exec (.sweepStart c) s) fun t =>
      (t.trk c).st = (if (s.trk c).st = .queued then .start else .global) ∧ (t.trk c).swpt = 0 ∧ (t.trk c).best = none ∧
      (t.trk c).vtgt = sweepPoint (t.trk c).lo (t.trk c).hi 0 ∧
      ((s.trk c).st ≠ .queued → (t.trk c).lo = s.vMin c ∧ (t.trk c).hi = s.vMax c) ∧ c ∉ t.bpt.gswLeft ∧
      (∀ d, d ≠ c → t.trk d = s.trk d) ∧
      t = { s with bpt := { s.bpt with cells := t.bpt.cells, gswLeft := t.bpt.gswLeft } }) ∧
  (∀ (s : State) (c : Nat), s.live = true → s.Canon → s.pointDue c = true →
    Gives (exec (.sweepPointEnd c) s) fun t =>
      (s.windowVoid (s.trk c).last = true → t.trk c = { s.trk c with void := true, cycles := 0 }) ∧
      (s.windowVoid (s.trk c).last = false → (s.trk c).swpt = 31 →
        (t.trk c).st = .track ∧ (t.trk c).sweeps = satInc 16 (s.trk c).sweeps 1 ∧ (t.trk c).step = s.sInit c ∧
        (t.trk c).vtgt = (t.trk c).vbest ∧ (s.trk c).last.mean ≤ (t.trk c).pbest) ∧
      (s.windowVoid (s.trk c).last = false → (s.trk c).swpt ≠ 31 →
        (t.trk c).st = (s.trk c).st ∧ (t.trk c).swpt = (s.trk c).swpt + 1 ∧
        (t.trk c).vtgt = sweepPoint (s.trk c).lo (s.trk c).hi ((s.trk c).swpt + 1)) ∧
      (∀ d, d ≠ c → t.trk d = s.trk d) ∧ t = { s with bpt := t.bpt, ev := t.ev, reco := t.reco }) ∧
  (∀ s : State, s.live = true → s.globalDue = true →
    Gives (exec .globalSweepDue s) fun t =>
      t.bpt.sweepRun = 0 ∧ t.bpt.cells = s.bpt.cells ∧
      (s.sweepsOn = true → t = { s with bpt := { s.bpt with sweepRun := 0 } }) ∧
      (s.sweepsOn = false → (∃ c ∈ s.activeCells, s.tracked c = true ∧ (s.trk c).st = .track) → t.bpt.gsw = true) ∧
      t = { s with bpt := t.bpt, ev := t.ev, reco := t.reco }) ∧
  (∀ (s : State) (h : Nat), s.admits h 0x90 0x030 = true → s.sweepsOn = false →
    Gives (exec (.globalSweepRequest h 1#32) s) fun t =>
      t = { s with bpt := { s.bpt with gsw := true, gswLeft := s.activeCells.filter s.tracked },
                   hosts := t.hosts, mem := t.mem }) ∧
  (∀ s : State, s.live = true → s.historyDue = true → s.mem.flashFail = false →
    Gives (exec .historyWrite s) fun t =>
      t.bpt.histT = s.devNs ∧ t.bpt.histSync = s.clock.sync ∧ t.bpt.histRun = 0 ∧
      (∀ c seen v p, (c, seen, v, p) ∈ t.bpt.hist ↔ c ∈ s.usedCells ∧ s.tracked c = true ∧
        seen = (s.cell c).seen ∧ v = (s.trk c).vbest ∧ p = (s.trk c).pbest) ∧
      t = { s with bpt := { s.bpt with histT := t.bpt.histT, histSync := t.bpt.histSync, histRun := 0, hist := t.bpt.hist } }) ∧
  (∀ (s : State) (h : Nat) (v : Word), s.Canon → s.pends h A.BPT_STORE_P mSet v = true →
    v.toInt ≤ s.plantPu (s.sumAff : Nat) 0x2805 → -v.toInt ≤ s.plantPu (s.sumAffC : Nat) 0x2806 →
    Gives (exec (.storeDispatchWrite h v) s) fun t =>
      (∀ o, t.reg o = if o = A.BPT_STORE_P then v else s.reg o) ∧
      (s.modes.cur = .ride → A.BPT_STORE_P ∈ t.rideWait) ∧
      t = { s with regs := t.regs, rideWait := t.rideWait, hosts := t.hosts, mem := t.mem })

/-- Substitution (R255, R256): a spare whose bypass did not open is BYPASSED and spent, a failed cell's bypass that was not
confirmed is reported, and a host's substitution takes a cell that still serves out with REASON 8 and its bypass to be
latched, and puts the spare in the failed cell's place with role active. -/
def Obligations.SubstitutionsSettle : Prop :=
  (∀ (s : State) (c : Nat) (w : Subst), s.live = true → s.Canon → s.waitingSpare c = some w →
    Gives (exec (.subFail c) s) fun t =>
      (t.cell c).st = .bypassed ∧ c ∈ t.bpt.spent ∧ t.bpt.subFail = satInc 16 s.bpt.subFail 1 ∧
      (∀ x ∈ t.bpt.waiting, x.spare ≠ c) ∧ ∀ h, h < 4 → bitAt (t.ev.flags h 0x90) 5 = true) ∧
  (∀ (s : State) (c a : Nat), s.live = true → s.Canon → s.closingUntil c = some a →
    Gives (exec (.bypassFail c) s) fun t =>
      (∀ p ∈ t.bpt.closing, p.1 ≠ c) ∧ (∀ h, h < 4 → bitAt (t.ev.flags h 0x90) 6 = true) ∧
      t = { s.advance a with bpt := { s.bpt with closing := t.bpt.closing }, ev := t.ev, reco := t.reco }) ∧
  (∀ (s : State) (h f p : Nat) (v : Word), s.Canon → s.pends h A.BPT_SUBST mService v = true → f = fld v 0 9 → p = fld v 16 9 →
    (s.cell p).st = .spare → s.cellPhase p = s.cellPhase f →
    ((s.cell f).st = .active ∨ (s.cell f).st = .charged ∨ (s.cell f).st = .bypassed) →
    (∀ w ∈ s.bpt.waiting, w.phase ≠ s.cellPhase f) →
    Gives (exec (.manualSubstitution h v) s) fun t =>
      (t.cell f).st = .bypassed ∧ (t.cell p).st = (if (s.cell f).st = .active then .active else .charged) ∧
      fld (t.reg (A.CELL p 0)) 0 2 = 0 ∧ t.bpt.subs = satInc 16 s.bpt.subs 1 ∧ (p, f) ∈ t.bpt.standIn ∧
      ((s.cell f).st = .active ∨ (s.cell f).st = .charged →
        (t.cell f).reason = 8 ∧ (t.cell f).latchReq = some true ∧ (s.closingUntil f = none → (t.closingUntil f).isSome = true)) ∧
      ((s.cell f).st = .bypassed → (t.cell f).reason = (s.cell f).reason) ∧
      (∀ x, x ≠ f → x ≠ p → (t.cell x).st = (s.cell x).st) ∧
      t.reg A.BPT_SUBST = v)

/-- RIDE_RETURN and PROFILE_TRIP (R273, R274): a return decides the mode RIDE came from; the first row met latches cause
PROFILE, and HOLD is decided. Islanding (R277, R279 to R284): a chip ends, a detection is acted on by ISL_ACT (as TRIP while
a stop to WATCH is in progress, R54), the grid comes back, the conditions of reconnection end the causes. That a passive
detector that has fired begins its time anew is the model's choice (log entry 210). -/
def Obligations.RideAndIslandingAct : Prop :=
  (∀ s : State, s.live = true → s.returning = true →
    Gives (exec .rideReturn s) fun t =>
      t = { s.advance s.returnAt with modes := { s.modes with next := some s.modes.rideFrom, tgt := s.modes.rideFrom } }) ∧
  (∀ (s : State) (row : Nat), s.live = true → s.rowMet = some row → s.modes.cond.testBit cProfile = false →
    Gives (exec (.profileTrip row) s) fun t =>
      t.rti.tripWhy = row ∧ t.rti.latches = satInc 16 s.rti.latches 1 ∧ t.modes.cond.testBit cProfile = true ∧
      t.modes.latch.testBit cProfile = true ∧ t.rti.reconFrom = none ∧ t.rti.reconDone = false ∧
      (s.modes.latch.testBit cProfile = false → t.modes.next = some .hold ∧ t.modes.tgt = .hold ∧
        ∀ g, g < 4 → (t.group g).cmd = false)) ∧
  (∀ s : State, s.live = true → s.rti.chipDue = true → s.rti.validN ≤ 63 →
    Gives (exec .chipEnd s) fun t =>
      t.rti.chipDue = false ∧ t.rti.chipPos = (s.rti.chipPos + 1) % 63 ∧ t.rti.vnBeats = 0 ∧ t.rti.validN ≤ 63 ∧
      (s.rti.armed = true → t.rti.armed = true) ∧ t = { s with rti := t.rti, ev := t.ev, reco := t.reco }) ∧
  (∀ (s : State) (w : Nat), s.live = true → s.toAct = some w →
    (s.rti.islact = 0 ∨ s.modes.cur = .follow ∧ s.rti.islact = 1 ∧ s.modes.next ≠ some .form ∧
      (s.grd.stop ≠ .none ∨ s.modes.next = some .watch)) →
    s.modes.cond.testBit cIsland = false →
    Gives (exec .islandAction s) fun t =>
      t.rti.isl = true ∧ t.rti.islWhy = w ∧ t.rti.detect = none ∧ t.modes.cond.testBit cIsland = true ∧
      t.modes.latch.testBit cIsland = true) ∧
  (∀ (s : State) (w : Nat), s.live = true → s.toAct = some w → s.modes.cur = .follow → s.rti.islact = 1 →
    s.modes.next ≠ some .hold → s.modes.next ≠ some .watch → s.modes.next ≠ some .form → s.grd.stop = .none → s.formRoles = true →
    Gives (exec .islandAction s) fun t =>
      t.rti.isl = true ∧ t.rti.islWhy = w ∧ t.rti.detect = none ∧ t.grd.xfer = .toForm true ∧
      t = { s with rti := t.rti, grd := t.grd, modes := t.modes, ev := t.ev, reco := t.reco }) ∧
  (∀ (s : State) (w : Nat), s.live = true → s.toAct = some w →
    (s.rti.islact = 2 ∨ s.modes.cur = .form ∧ s.rti.islact ≠ 0) →
    Gives (exec .islandAction s) fun t =>
      t = { s with
        rti := { s.rti with
          isl := true, islWhy := w, detect := none, reconFrom := none, reconDone := false, timers := s.firedTimers w },
        ev := t.ev, reco := t.reco }) ∧
  (∀ (s : State) (w : Nat), s.live = true → s.passiveFires w = true → s.rti.detect = none →
    Gives (exec (.passiveIslandDetect w) s) fun t => t = { s with rti := { s.rti with detect := some w } }) ∧
  (∀ s : State, s.live = true → s.Canon → s.gridBackDue = true →
    Gives (exec .gridBack s) fun t =>
      OnlyEvents { s with rti := { s.rti with isl := false } } t ∧ ∀ h, h < 4 → bitAt (t.ev.flags h 0xA0) 7 = true) ∧
  (∀ s : State, s.live = true → s.reconRuns = true →
    Gives (exec .reconOk s) fun t =>
      t.rti.reconDone = true ∧ t.rti.reconFrom = none ∧ t.modes.cond.testBit cProfile = false ∧
      t.modes.cond.testBit cIsland = false ∧ t.modes.latch = s.modes.latch ∧ t.clock = (s.advance s.reconAt).clock)

/-- The profile edit (R268): LOAD opens an edit on the profile's contents, the words written are staged, COMMIT of an edit
that is accepted begins its flash write, ABANDON drops it, and the end of the write makes exactly the staged words the
profile's contents. -/
def Obligations.ProfilesAreEdited : Prop :=
  (∀ (s : State) (h p : Nat), p < 8 → s.pends h A.RTI_PEDIT mEdit (wd (1 + 0x100 * p)) = true → s.sealClosed 3 = false →
    s.rti.edit = none → s.rti.busy = none →
    Gives (exec (.profileLoad h p) s) fun t =>
      t = { s with rti := { s.rti with edit := some p, staging := profWords s.rti.store p },
                   regs := t.regs, hosts := t.hosts, mem := t.mem }) ∧
  (∀ (s : State) (h p b : Nat) (v : Word), p < 8 → b < 0x400 → b % 4 = 0 → s.admits h 0xA0 mEdit = true →
    s.rti.edit = some p → Map.rising s.rti.staging = true →
    Gives (exec (.profileStagingWrite h p b v) s) fun t =>
      Map.get (fun _ => 0#32) (b / 4) t.rti.staging = v ∧
      (∀ k, k ≠ b / 4 → Map.get (fun _ => 0#32) k t.rti.staging = Map.get (fun _ => 0#32) k s.rti.staging) ∧
      t = { s with rti := { s.rti with staging := t.rti.staging }, hosts := t.hosts, mem := t.mem }) ∧
  (∀ (s : State) (h p : Nat), p < 8 → s.pends h A.RTI_PEDIT mEdit (wd (2 + 0x100 * p)) = true → s.sealClosed 3 = false →
    s.rti.busy = none → s.commitStatus p = .ok →
    Gives (exec (.profileCommit h p) s) fun t =>
      t = { s with rti := { s.rti with busy := some p, edit := none }, regs := t.regs, hosts := t.hosts, mem := t.mem }) ∧
  (∀ (s : State) (h p : Nat), p < 8 → s.pends h A.RTI_PEDIT mEdit (wd (3 + 0x100 * p)) = true → s.rti.busy = none →
    s.rti.edit = some p →
    Gives (exec (.profileAbandon h p) s) fun t =>
      t = { s with rti := { s.rti with edit := none, staging := [] }, regs := t.regs, hosts := t.hosts, mem := t.mem }) ∧
  (∀ (s : State) (p : Nat), s.live = true → s.rti.busy = some p → Map.rising s.rti.store = true →
    Map.wf (fun _ => 0#32) s.rti.staging = true → (∀ e ∈ s.rti.staging, e.1 < 256) →
    Gives (exec .profileWritten s) fun t =>
      t.rti.busy = none ∧ t.rti.lastStat = .ok ∧ t.rti.staging = [] ∧
      (∀ b, b < 256 → Map.get (fun _ => 0#32) (256 * p + b) t.rti.store = Map.get (fun _ => 0#32) b s.rti.staging) ∧
      (∀ q b, q ≠ p → b < 256 →
        Map.get (fun _ => 0#32) (256 * q + b) t.rti.store = Map.get (fun _ => 0#32) (256 * q + b) s.rti.store) ∧
      t = { s with rti := t.rti, mem := t.mem, ev := t.ev, reco := t.reco })

/-- Heartbeats, the lease and the guard (R290, R291, R294, R296): the holder's heartbeat renews the lease, one that carries
another beat count than the other engine's of the same instant fences the engine that does not hold the pontil, an engine
not heard for 2.0 ms is fenced unless it holds the pontil or has just lost it, a holder not heard while the Gaffer is frozen
raises the cause ENGINE, an expired lease leaves no holder and holds events back, and the end of the guard grants the other
engine where it is fit. That the Gaffer's times are exact and count on monotone time is the model's choice (log entry 150).
-/
def Obligations.PontilIsLeased : Prop :=
  (∀ (s : State) (e : Nat) (q : BitVec 32), s.live = true → e < 2 → s.gaf.engines.length = 2 → (s.engine e).inStep = true →
    (s.engine e).mute = false → (s.engine e).flag = false → s.gaf.frozen = false →
    Gives (exec (.heartbeat e q) s) fun t =>
      (t.engine e).hb = ((s.engine e).hb + 1) % 2 ^ 32 ∧ (t.engine e).hbAt = some t.now ∧
      (t.engine e).hbSent = some t.now ∧ (t.engine e).hbSeq = q ∧
      (s.gaf.holder = some e → s.gaf.released = false → t.gaf.lease = t.now + ms 2) ∧
      (s.gaf.holder = none ∨ (s.engine (1 - e)).hbSent ≠ some t.now ∨ (s.engine (1 - e)).hbSeq = q →
        (t.engine 0).st = (s.engine 0).st ∧ (t.engine 1).st = (s.engine 1).st) ∧
      (∀ x, x < 2 → s.gaf.holder = some x → (s.engine (1 - x)).inStep = true → (s.engine (1 - x)).cut = false →
        (s.engine (1 - e)).hbSent = some t.now → (s.engine (1 - e)).hbSeq ≠ q →
        (t.engine (1 - x)).st = .fenced ∧ (t.engine (1 - x)).cut = true ∧ (t.engine (1 - x)).cause = 6)) ∧
  (∀ (s : State) (e a : Nat), s.live = true → e < 2 → s.gaf.engines.length = 2 → (s.engine e).inStep = true →
    (s.engine e).hbAt = some a →
    Gives (exec (.heartbeatMissing e) s) fun t =>
      t.clock = (s.advance (a + ms 2)).clock ∧
      (s.gaf.frozen = false → s.gaf.holder = some e ∨ s.gaf.guard.isSome = true ∧ s.gaf.former = e → t = s.advance (a + ms 2)) ∧
      (s.gaf.frozen = false → s.gaf.holder ≠ some e → s.gaf.guard = none ∨ s.gaf.former ≠ e →
        (t.engine e).st = .fenced ∧ (t.engine e).cut = true ∧ (t.engine e).cause = 5) ∧
      (s.gaf.frozen = true → s.gaf.holder = some e → t.modes.cond.testBit cEngine = true) ∧
      (s.gaf.frozen = true → s.gaf.holder ≠ some e → t = s.advance (a + ms 2))) ∧
  (∀ (s : State) (e : Nat), s.live = true → s.gaf.holder = some e → s.gaf.frozen = false →
    Gives (exec .leaseExpiry s) fun t =>
      t.gaf.holder = none ∧ t.gaf.former = e ∧ t.gaf.guard = some (s.gaf.lease + us 200) ∧ t.ev.holding = true ∧
      t.clock = (s.advance s.gaf.lease).clock) ∧
  (∀ (s : State) (g : Nat), s.live = true → s.gaf.guard = some g → s.gaf.frozen = false → s.gaf.former < 2 →
    s.gaf.engines.length = 2 →
    Gives (exec .guardEnd s) fun t =>
      t.gaf.guard = none ∧
      ((s.engine (1 - s.gaf.former)).fit = false →
        t.gaf.released = false ∧ t.gaf.forcing = false ∧ t.gaf.holder = s.gaf.holder ∧
        (s.gaf.judging = false →
          t = { s.advance g with gaf := { s.gaf with guard := none, released := false, forcing := false } })) ∧
      ((s.engine (1 - s.gaf.former)).fit = true → t.gaf.holder = some (1 - s.gaf.former) ∧
        (t.engine (1 - s.gaf.former)).st = .active ∧ t.gaf.lease = (s.advance g).now + ms 2 ∧ t.ev.holding = false ∧
        t.gaf.released = false ∧ t.gaf.leadNext = true ∧ t.gaf.why = s.gaf.nextWhy))

/-- ENGINE_FAULT, GAFFER_FROZEN and TEST_DUE (R293, R296, R303): a faulty engine stops handing over at once and, if it does
not hold the pontil, is fenced; events are held back while it does; a frozen Gaffer is reported, and a due test when it
comes due and an hour after each report. -/
def Obligations.EngineFaultsStop : Prop :=
  (∀ (s : State) (e c : Nat), s.live = true → e < 2 → c < 16 → s.gaf.engines.length = 2 → (s.engine e).inStep = true →
    (s.engine e).flag = false → (s.engine e).mute = false → (s.engine e).cut = false →
    Gives (exec (.engineFault e c) s) fun t =>
      (t.engine e).flag = true ∧ (t.engine e).tx = false ∧ (t.engine e).cause = c ∧
      (t.engine e).faultSeq = s.ang.seq % 65536 ∧
      (s.gaf.holder = some e → t.ev.holding = true ∧ (t.engine e).st = (s.engine e).st) ∧
      (s.gaf.holder ≠ some e → s.gaf.frozen = false → (t.engine e).st = .fenced ∧ (t.engine e).cut = true)) ∧
  (∀ s : State, s.live = true → s.Canon → s.gaf.frozen = false →
    Gives (exec .gafferFrozen s) fun t =>
      t.gaf.frozen = true ∧ t.gaf.holder = s.gaf.holder ∧ (∀ h, h < 4 → bitAt (t.ev.flags h 0xB8) 8 = true) ∧
      (s.gaf.holder = none → s.gaf.guard = none → OnlyEvents { s with gaf := { s.gaf with frozen := true } } t) ∧
      (∀ e, s.gaf.holder = some e → (s.engine e).flag = false → (s.engine e).mute = false →
        OnlyEvents { s with gaf := { s.gaf with frozen := true } } t) ∧
      (∀ e, s.gaf.holder = some e → (s.engine e).flag = true → t.modes.cond.testBit cEngine = true)) ∧
  (∀ s : State, s.live = true → s.Canon → s.testDue = true →
    let u := match s.gaf.dueAt with | some d => s.advance (d + ms 3600000) | none => s
    Gives (exec .testDue s) fun t => OnlyEvents { u with gaf := { s.gaf with dueAt := some u.now } } t ∧ ∀ h, h < 4 → bitAt (t.ev.flags h 0xB8) 6 = true)

/-- The forced switchover and its judgement (R301, R302): an accepted request releases the pontil and opens the judgement,
whose window's end writes its result: FAIL, with the first condition that was not met in REASON, else PASS, its SCOPE full
in FOLLOW and FORM and partial in another mode. That a judgement that was aborted has its result already, while FORCING
stays to the end of the window, is the model's reading (log entry 155). -/
def Obligations.SwitchoversAreJudged : Prop :=
  (∀ (s : State) (h : Nat), s.pends h A.GAF_FORCE 0x1B4 1#32 = true → (s.engine 0).inStep = true →
    (s.engine 1).inStep = true → s.gaf.frozen = false → s.forcingNow = false →
    Gives (exec (.forcedSwitchover h) s) fun t =>
      t = { s with gaf := { s.gaf with forcing := true, judging := true, released := true, releaseAt := s.now, nextWhy := 3, judged := (0, 0),
                                       granted := false, failed := 0 },
                   regs := t.regs, hosts := t.hosts, mem := t.mem }) ∧
  (∀ s : State, s.live = true → s.judgeDue = true → s.newHolder < 2 →
    Gives (exec .switchoverJudgementEnd s) fun t =>
      t.gaf.forcing = false ∧ t.gaf.judging = false ∧
      (s.gaf.judging = false → t = { s with gaf := { s.gaf with forcing := false } }) ∧
      (s.gaf.judging = true → fld t.gaf.test 4 2 = s.newHolder + 1 ∧
        (s.gaf.failed ≠ 0 → fld t.gaf.test 0 2 = 2 ∧ bitAt t.gaf.test 2 = false ∧
          (∀ k, k < 4 → s.gaf.failed.testBit k = true → (∀ j, j < k → s.gaf.failed.testBit j = false) → fld t.gaf.test 8 4 = k + 1) ∧
          t.gaf.testA = s.gaf.testA ∧ t.gaf.testB = s.gaf.testB) ∧
        (s.gaf.failed = 0 → fld t.gaf.test 0 2 = 1 ∧ fld t.gaf.test 8 4 = 0 ∧
          bitAt t.gaf.test 2 = (s.modes.cur == .follow || s.modes.cur == .form) ∧
          ((s.modes.cur = .follow ∨ s.modes.cur = .form) →
            (if s.newHolder = 0 then t.gaf.testA else t.gaf.testB) = s.gaf.winEnd) ∧
          (s.modes.cur ≠ .follow → s.modes.cur ≠ .form → t.gaf.testA = s.gaf.testA ∧ t.gaf.testB = s.gaf.testB))) ∧
      t = { s with gaf := { s.gaf with forcing := false, judging := false, test := t.gaf.test, testA := t.gaf.testA,
                                       testB := t.gaf.testB, dueAt := t.gaf.dueAt },
                   ev := t.ev, reco := t.reco })

/-- ENGx_CTRL (R304, R306, R311): JOIN and RELOAD of a slot that fits begin a rejoin at TEST with the engine's paths cut,
HALT waits for the next beat, OFF takes the engine out. That a JOIN of a holder halted waits for the fence at the grant, and
which slot an automatic JOIN takes are the model's choices (log entries 152, 154). The rejoin, the boot and the end of an
image command (R297, R304, R305, R309, R359): a stage that passes leads to the next, SYNC to the beat start at which ANG32
crosses 0, one that fails fences the engine with its cause, and so does a SYNC of over 400 ms; an automatic JOIN takes the
last slot; both engines that boot are in step and the preferred one is granted; a valid image makes its slot valid. -/
def Obligations.EnginesAreCommandedAndRejoin : Prop :=
  (∀ (s : State) (h e k : Nat), e < 2 → k < 2 → s.gaf.engines.length = 2 →
    s.pends h (0xB0000 + 0x1000 * e + A.ENG_CTRL) 0x1FE (wd (1 + 0x100 * k)) = true → s.slotFits k = true →
    s.forcingNow = false → ((s.engine e).st = .off ∨ (s.engine e).st = .fenced ∨ (s.engine e).st = .halted) →
    ((s.engine e).st = .halted → (s.engine e).cut = true ∨
      (s.gaf.holder ≠ some e ∧ (s.gaf.guard = none ∨ s.gaf.former ≠ e))) →
    Gives (exec (.engineJoin h e k) s) fun t =>
      (t.engine e).st = .test ∧ (t.engine e).slot = k ∧ (t.engine e).cut = true ∧ (t.engine e).tx = false ∧
      (t.engine e).flag = false ∧ t.engine (1 - e) = s.engine (1 - e) ∧ t.gaf.holder = s.gaf.holder) ∧
  (∀ (s : State) (h e k : Nat), e < 2 → k < 2 → s.gaf.engines.length = 2 →
    s.pends h (0xB0000 + 0x1000 * e + A.ENG_CTRL) 0x1FE (wd (1 + 0x100 * k)) = true → s.slotFits k = true →
    s.forcingNow = false → (s.engine e).st = .halted → (s.engine e).cut = false →
    (s.gaf.holder = some e ∨ (s.gaf.guard.isSome = true ∧ s.gaf.former = e)) →
    Gives (exec (.engineJoin h e k) s) fun t =>
      t.engine e = { s.engine e with joinLater := some k } ∧
      t = { s with gaf := { s.gaf with engines := t.gaf.engines }, regs := t.regs, hosts := t.hosts, mem := t.mem }) ∧
  (∀ (s : State) (h e k : Nat), e < 2 → k < 2 → s.gaf.engines.length = 2 →
    s.pends h (0xB0000 + 0x1000 * e + A.ENG_CTRL) 0x1FE (wd (2 + 0x100 * k)) = true → s.slotFits k = true →
    s.modes.cur.within 0x1B4 = true → s.forcingNow = false → s.gaf.holder ≠ some e →
    ((s.engine e).st = .off ∨ (s.engine e).st = .fenced ∨ (s.engine e).st = .halted ∨ (s.engine e).st = .standby) →
    ((s.engine e).st = .halted → (s.engine e).cut = true ∨ s.gaf.guard = none ∨ s.gaf.former ≠ e) →
    Gives (exec (.engineReload h e k) s) fun t =>
      (t.engine e).st = .test ∧ (t.engine e).slot = k ∧ (t.engine e).cut = true ∧ t.engine (1 - e) = s.engine (1 - e)) ∧
  (∀ (s : State) (h e : Nat), e < 2 → s.gaf.engines.length = 2 →
    s.pends h (0xB0000 + 0x1000 * e + A.ENG_CTRL) 0x1FE 3#32 = true → s.modes.cur = .service →
    (s.engine e).inStep = true → (s.engine (1 - e)).inStep = true → s.forcingNow = false →
    Gives (exec (.engineHalt h e) s) fun t =>
      t.engine e = { s.engine e with haltReq := true } ∧ t.engine (1 - e) = s.engine (1 - e) ∧
      t = { s with gaf := { s.gaf with engines := t.gaf.engines }, regs := t.regs, hosts := t.hosts, mem := t.mem }) ∧
  (∀ (s : State) (h e : Nat), e < 2 → s.gaf.engines.length = 2 →
    s.pends h (0xB0000 + 0x1000 * e + A.ENG_CTRL) 0x1FE 4#32 = true → s.forcingNow = false → s.gaf.holder ≠ some e →
    ((s.engine e).st = .standby ∨ (s.engine e).st = .fenced ∨ (s.engine e).st = .halted) →
    Gives (exec (.engineOff h e) s) fun t =>
      (t.engine e).st = .off ∧ (t.engine e).cut = true ∧ (t.engine e).tx = false ∧ t.engine (1 - e) = s.engine (1 - e)) ∧
  (∀ (s : State) (e : Nat), s.live = true → e < 2 → s.gaf.engines.length = 2 → (s.engine e).st = .test →
    Gives (exec (.rejoinStageEnd e true) s) fun t =>
      t.engine e = { s.engine e with st := .load, joinAt := ((s.engine e).joinAt.1, s.now) } ∧
      t = { s with gaf := { s.gaf with engines := t.gaf.engines } }) ∧
  (∀ (s : State) (e : Nat), s.live = true → e < 2 → s.gaf.engines.length = 2 → (s.engine e).st = .load →
    s.slotFits (s.engine e).slot = true →
    Gives (exec (.rejoinStageEnd e true) s) fun t =>
      t.engine e = { s.engine e with st := .sync, joinAt := ((s.engine e).joinAt.1, s.now) } ∧
      t = { s with gaf := { s.gaf with engines := t.gaf.engines } }) ∧
  (∀ (s : State) (e : Nat), s.live = true → e < 2 → s.gaf.engines.length = 2 → (s.engine e).st = .sync →
    s.gaf.holder.isSome = true → s.mem.dramFail = false → s.ang.beats = true →
    Gives (exec (.rejoinStageEnd e true) s) fun t =>
      t.engine e = { s.engine e with synced := true } ∧ t = { s with gaf := { s.gaf with engines := t.gaf.engines } }) ∧
  (∀ (s : State) (e : Nat), s.live = true → e < 2 → s.gaf.engines.length = 2 → (s.engine e).st = .sync →
    s.gaf.holder.isSome = true → s.mem.dramFail = false → s.ang.beats = false →
    Gives (exec (.rejoinStageEnd e true) s) fun t =>
      (t.engine e).st = .standby ∧ (t.engine e).cut = false ∧ (t.engine e).ver = (s.imgSlot (s.engine e).slot).version ∧
      (t.engine e).rejoins = satInc 16 (s.engine e).rejoins 1) ∧
  (∀ (s : State) (e : Nat), s.live = true → e < 2 → s.gaf.engines.length = 2 → (s.engine e).joins = true →
    Gives (exec (.rejoinStageEnd e false) s) fun t =>
      (t.engine e).st = .fenced ∧ (t.engine e).cut = true ∧
      (t.engine e).cause = if (s.engine e).st = .load then 9 else 8) ∧
  (∀ (s : State) (e : Nat), s.live = true → e < 2 → s.gaf.engines.length = 2 → (s.engine e).st = .sync →
    Gives (exec (.rejoinTimeout e) s) fun t => (t.engine e).st = .fenced ∧ (t.engine e).cause = 8) ∧
  (∀ (s : State) (e a : Nat), s.live = true → e < 2 → s.gaf.engines.length = 2 → (s.engine e).st = .fenced →
    (s.engine e).autoAt = some a → (s.engine e).autoLast = none → bitAt (s.reg A.GAF_CFG) 1 = true →
    s.slotFits (s.engine e).slot = true → s.forcingNow = false →
    Gives (exec (.autojoin e) s) fun t =>
      (t.engine e).st = .test ∧ (t.engine e).slot = (s.engine e).slot ∧ (t.engine e).autoLast = some (s.advance a).now) ∧
  (∀ s : State, s.live = true → s.gaf.booted = false → s.gaf.engines.length = 2 → s.noImage = false →
    s.gaf.frozen = false →
    Gives (exec (.engineBoot true true) s) fun t =>
      let k := fld (s.reg A.GAF_BOOT) 0 1
      t.gaf.booted = true ∧ (∀ e, e < 2 → (t.engine e).slot = if s.slotValid k = true then k else 1 - k) ∧ (t.engine 0).inStep = true ∧ (t.engine 1).inStep = true ∧
      t.gaf.holder = some (fld (s.reg A.GAF_CFG) 0 1) ∧ t.ev.holding = false) ∧
  (∀ (s : State) (x : Taken) (q : ImageSession) (m : BitVec 8) (v : Word) (hv : BitVec 16), s.live = true → s.mem.flashFail = false →
    (s.hosts.taken.find? fun t => decide (0x10 ≤ t.opcode) && decide (t.opcode ≤ 0x12) && t.done.isNone) = some x →
    x.opcode = 0x12 → s.hosts.session = some q → q.slot < s.gaf.slots.length → m.toNat ≤ s.part.srev →
    Gives (exec (.imageCommandComplete true 1#8 m v hv) s) fun t =>
      t.imgSlot q.slot = { s.imgSlot q.slot with
        signed := true, format := 1, minsrev := m.toNat, version := v, hstv := (hv.toNat % 256, hv.toNat / 256) } ∧
      t.slotValid q.slot = true ∧ t.hosts.session = none)

/-- The tick of the channels and their inputs (R314, R322 to R324): a tick passes 1 ms, takes what hosts have written and
reads the mirrors; a pair whose channels disagree for D latches DISC, one that reads high in a pulse latches CROSS; a test
pulse is 500 µs of unsampled inputs. That both channels stop on a lost link or at the eighth difference, and that the
periods of test pulses run from the monotone time 0 are the model's choices (log entries 160, 213). The cross-link and the
channels (R315): a good exchange that agrees starts both counts anew, the fourth missing frame and the eighth difference
latch CHANNEL; a channel that stops withdraws its verdict and every group is off. -/
def Obligations.ChannelsSampleAndFault : Prop :=
  (∀ (s : State) (si : BitVec 16) (m rb : BitVec 8), s.safOn = true → s.saf.xOk = true → s.saf.yOk = true →
    s.saf.groups.length = 4 →
    Gives (exec (.safetyTick si m rb) s) fun t =>
      t.saf.tickAt = (s.advance (s.saf.tickAt + ms 1)).now ∧ t.saf.used = s.regs ∧ t.saf.si = si.toNat ∧
      (∀ g, g < 4 → (t.group g).fba = m.getLsbD (2 * g) ∧ (t.group g).fbb = m.getLsbD (2 * g + 1)) ∧
      (∀ p, fld (s.reg (A.SAF_SIP_CFG p)) 0 2 = 0 → t.sip p = s.sip p) ∧ t.regs = s.regs) ∧
  (∀ (s : State) (p : Nat), s.sampling = true → s.saf.sips.length = 8 → s.disagreeing p = true →
    Gives (exec (.discrepancyFault p) s) fun t =>
      (t.sip p).disc = true ∧ (t.sip p).arm = false ∧ (t.sip p).cnt = fld (s.sipCfg p) 16 11 ∧
      t.saf.latch.testBit lDisc = true ∧ (∀ q, q ≠ p → t.sip q = s.sip q)) ∧
  (∀ (s : State) (l : Nat) (si : BitVec 16), s.sampling = true → s.saf.sips.length = 8 → l < 4 →
    s.now < s.saf.tpUntil.getD l 0 →
    Gives (exec (.crossfaultCheck l si) s) fun t =>
      ∀ p, p < 8 →
        let c := s.sipCfg p
        let bad := (fld c 4 2 == l && si.getLsbD (2 * p)) || (fld c 6 2 == l && si.getLsbD (2 * p + 1))
        (fld c 0 2 ≠ 0 → bad = true → (t.sip p).cross = true ∧ t.saf.latch.testBit lCross = true) ∧
        (fld c 0 2 = 0 ∨ bad = false → t.sip p = s.sip p)) ∧
  (∀ (s : State) (l : Nat), s.safOn = true → (if l < 2 then s.saf.xOk = true else s.saf.yOk = true) → l < 4 →
    s.saf.tpUntil.length = 4 →
    Gives (exec (.testPulse l) s) fun t =>
      let per := ms (fld (s.sreg A.SAF_TP_CFG) 0 10)
      t.saf.tpUntil.getD l 0 = t.now + us 500 ∧ t.now = s.testAt l ∧ (0 < per → t.now % per = l * per / 4) ∧ s.now ≤ t.now ∧ (∀ k, k ≠ l → t.saf.tpUntil.getD k 0 = s.saf.tpUntil.getD k 0) ∧
      t.saf.latch = s.saf.latch) ∧
  (∀ (s : State) (x : BitVec 4), s.sampling = true → s.saf.groups.length = 4 →
    Gives (exec (.crossLinkExchange true false x x) s) fun t =>
      t.saf.missing = 0 ∧ t.saf.differ = 0 ∧ t.saf.link = s.saf.link ∧ t.saf.latch = s.saf.latch ∧
      ∀ g, g < 4 → x.getLsbD g = false → (t.group g).h = false ∧ (t.group g).l = false) ∧
  (∀ (s : State) (x y : BitVec 4), s.sampling = true → s.saf.groups.length = 4 → s.saf.latch.testBit lChannel = false →
    Gives (exec (.crossLinkExchange true true x y) s) fun t =>
      t.saf.missing = 0 ∧ t.saf.differ = min (s.saf.differ + 1) 8 ∧
      (s.saf.differ < 7 → ∀ g, g < 4 → (x.getLsbD g = false → (t.group g).h = false) ∧ (y.getLsbD g = false → (t.group g).l = false)) ∧
      (7 ≤ s.saf.differ → t.saf.latch.testBit lChannel = true ∧ t.saf.xOk = false ∧ t.saf.yOk = false ∧
        ∀ g, g < 4 → (t.group g).cmd = false)) ∧
  (∀ (s : State) (d : Bool) (x y : BitVec 4), s.sampling = true →
    Gives (exec (.crossLinkExchange false d x y) s) fun t =>
      t.saf.missing = min (s.saf.missing + 1) 4 ∧
      (3 ≤ s.saf.missing → t.saf.link = false ∧ t.saf.xOk = false ∧ t.saf.yOk = false ∧ t.saf.latch.testBit lChannel = true ∧ ∀ g, g < 4 → (t.group g).cmd = false)) ∧
  (∀ (s : State) (c : Nat), s.sampling = true → c < 2 →
    Gives (exec (.channelFault c) s) fun t =>
      t.saf.xOk = (s.saf.xOk && c != 0) ∧ t.saf.yOk = (s.saf.yOk && c != 1) ∧ t.saf.latch.testBit lChannel = true ∧
      t.permit = false ∧ ∀ g, g < 4 → (t.group g).cmd = false)

/-- The disconnect groups (R317 to R320): the command bits energise and open their groups, feedback that follows confirms,
feedback that does not opens the group and raises cause CONTACTOR, and a dark pulse is tried or skipped and judged. While no
close sequence or stop runs, these change only the groups. That a bit written 1 energises its group also where it was 1, and
that the seconds of dark pulses are those of monotone time are the model's choices (log entries 187, 195). -/
def Obligations.GroupsFollowCommands : Prop :=
  (∀ (s : State) (h : Nat) (v : Word), s.Canon →
    s.pends h A.SAF_GRP_CMD (if v &&& ~~~ s.reg A.SAF_GRP_CMD = 0#32 then 0x1FE else 0x13C) v = true →
    s.saf.groups.length = 4 → s.groupOf 2 ≠ s.groupOf 3 →
    Gives (exec (.groupCommand h v) s) fun t =>
      t.reg A.SAF_GRP_CMD = v ∧
      (s.modes.cur.within 0x13C = true → bitAt v 0 = true → s.mayEnergize = true → (t.group (s.groupOf 2)).cmd = true) ∧
      (bitAt (s.reg A.SAF_GRP_CMD) 0 = true → bitAt v 0 = false → (t.group (s.groupOf 2)).cmd = false) ∧
      (s.modes.cur.within 0x13C = true → bitAt v 1 = true → s.mayEnergize = true → (t.group (s.groupOf 3)).cmd = true) ∧
      (bitAt (s.reg A.SAF_GRP_CMD) 1 = true → bitAt v 1 = false → (t.group (s.groupOf 3)).cmd = false)) ∧
  (∀ (s : State) (g : Nat), s.sampling = true → s.saf.groups.length = 4 → s.closing = false → s.grd.stop = .none →
    s.confirming g = true →
    Gives (exec (.feedbackConfirm g) s) fun t =>
      t.group g = { s.group g with conf := if (s.group g).cmd then 2 else 1, good := 10 } ∧
      (∀ k, k ≠ g → t.group k = s.group k) ∧
      t = { s.advance (s.saf.tickAt + ms (10 - (s.group g).good)) with saf := { s.saf with groups := t.saf.groups } }) ∧
  (∀ (s : State) (g : Nat), s.sampling = true → s.saf.groups.length = 4 → s.closing = false → s.unconfirmed g = true →
    Gives (exec (.feedbackTimeout g) s) fun t =>
      (t.group g).fbFail = true ∧ (t.group g).cmd = false ∧ t.modes.cond.testBit cContactor = true) ∧
  (∀ (s : State) (g : Nat), s.sampling = true → s.mirrorsWrong g = true →
    Gives (exec (.mirrorDisagree g) s) fun t => t.saf.latch.testBit lFbdis = true) ∧
  (∀ (s : State) (n : Nat), s.sampling = true → s.saf.groups.length = 4 → s.closing = false → s.grd.stop = .none → n < 8 →
    (s.group (switchGroup n)).cmd = true → (s.saf.groups.all fun q => q.pulse.isNone) = true →
    Gives (exec (.darkPulse n) s) fun t =>
      let u := s.advance (s.darkAt n)
      u.now % ms 1000 = ms (if n < 4 then 125 * n else 500 + 125 * (n - 4)) ∧
      (u.now < (s.group (switchGroup n)).cmdAt + ms s.fbT →
        t.group (switchGroup n) = { s.group (switchGroup n) with skip := satInc 16 (s.group (switchGroup n)).skip 1 }) ∧
      ((s.group (switchGroup n)).cmdAt + ms s.fbT ≤ u.now →
        (t.group (switchGroup n)).pulse = some (decide (n < 4), u.now) ∧ (t.group (switchGroup n)).cmd = true ∧
        (n < 4 → (t.group (switchGroup n)).h = false) ∧ (4 ≤ n → (t.group (switchGroup n)).l = false)) ∧
      (∀ k, k ≠ switchGroup n → t.group k = s.group k) ∧
      t = { u with saf := { u.saf with groups := t.saf.groups }, ev := t.ev, reco := t.reco }) ∧
  (∀ (s : State) (n : Nat) (off on : Bool), s.sampling = true → s.saf.groups.length = 4 → s.closing = false → s.grd.stop = .none →
    s.pulsing n = true →
    Gives (exec (.darkPulseEnd n off on) s) fun t =>
      (t.group (switchGroup n)).pulse = none ∧
      (t.group (switchGroup n)).tFail = ((s.group (switchGroup n)).tFail || !(off && on)) ∧
      ((off && on) = true → t.saf.latch = s.saf.latch ∧ (t.group (switchGroup n)).cmd = (s.group (switchGroup n)).cmd) ∧
      ((off && on) = false → t.saf.latch.testBit lTest = true) ∧ (on = false → (t.group (switchGroup n)).cmd = false)) ∧
  (∀ (s : State) (n : Nat), s.sampling = true → s.saf.groups.length = 4 → n < 8 → (s.group (switchGroup n)).cmd = false →
    Gives (exec (.switchStuckOn n) s) fun t =>
      t.saf.latch.testBit lTest = true ∧ (t.group (switchGroup n)).cmd = false ∧
      (n < 4 → bitAt (t.group (switchGroup n)).word 1 = true) ∧ (4 ≤ n → bitAt (t.group (switchGroup n)).word 2 = true))

/-- The seal switches (R326 to R328): a value both channels read twice is taken, a third equal or differing reading makes
the switch invalid, and so do the two commands that name their outcomes. Intertrip (R330, R331, R334, R335): a copy that
fails a check is counted as rejected and moves nothing else of its source, the first copy of a source from a network is
counted and marks the network alive, a copy unpaired for 4 ms is dropped, a network goes silent, a window ends, supervision
latches, and an acknowledgement clears what can be cleared. -/
def Obligations.SealsAndIntertripSupervise : Prop :=
  (∀ (s : State) (a b c d : BitVec 8) (k : Nat) (v : Bool), s.sampling = true → s.saf.seals.length = 8 → k < 8 →
    sealRead (a.getLsbD k) (b.getLsbD k) = some v → sealRead (c.getLsbD k) (d.getLsbD k) = some v → (s.seal k).cand = some v →
    Gives (exec (.sealSample a b c d) s) fun t =>
      (t.seal k).val = v ∧ (t.seal k).known = true ∧ (t.seal k).equal = 0 ∧ (t.seal k).differ = 0 ∧
      t.saf.sealNo = a.toNat ∧ t.saf.sealNc = b.toNat) ∧
  (∀ (s : State) (a b c d : BitVec 8) (k : Nat), s.sampling = true → s.saf.seals.length = 8 → k < 8 →
    sealRead (a.getLsbD k) (b.getLsbD k) = none → s.saf.xOk = true → 2 ≤ (s.seal k).equal →
    Gives (exec (.sealSample a b c d) s) fun t => (t.seal k).bad = true ∧ (t.seal k).valid = false ∧ (t.seal k).cand = none) ∧
  (∀ (s : State) (k : Nat) (v : Bool), s.sampling = true → s.saf.seals.length = 8 → s.sealPending k = true →
    (s.seal k).cand = some v →
    Gives (exec (.sealChange k) s) fun t =>
      (t.seal k).val = v ∧ (t.seal k).valid = true ∧ (∀ j, j ≠ k → t.seal j = s.seal j)) ∧
  (∀ (s : State) (k : Nat), s.sampling = true → s.saf.seals.length = 8 → s.sealFailing k = true →
    Gives (exec (.sealFault k) s) fun t =>
      (t.seal k).valid = false ∧ (t.seal k).bad = true ∧ (∀ j, j ≠ k → t.seal j = s.seal j)) ∧
  (∀ (s : State) (n rx : Nat) (b : List Byte), s.sampling = true → n < 2 → s.saf.itCnt.length = 2 → s.net.handed.any (handedIs n b rx) = true →
    s.copyOk b rx = none →
    Gives (exec (.envelopeCopy n b rx) s) fun t =>
      t.saf.itCnt.getD n (0, 0) = ((s.saf.itCnt.getD n (0, 0)).1, satInc 16 (s.saf.itCnt.getD n (0, 0)).2 1) ∧
      t.saf.sources = s.saf.sources ∧ t.saf.latch = s.saf.latch ∧ t.saf.lastOk = s.saf.lastOk) ∧
  (∀ (s : State) (n rx i : Nat) (b : List Byte), s.sampling = true → n < 2 → s.saf.itCnt.length = 2 → s.saf.lastOk.length = 2 →
    s.saf.silent.length = 2 → s.saf.sources.length = 8 → s.net.handed.any (handedIs n b rx) = true → s.copyOk b rx = some i →
    (if n = 0 then (s.source i).seqA else (s.source i).seqB) = none →
    Gives (exec (.envelopeCopy n b rx) s) fun t =>
      t.saf.itCnt.getD n (0, 0) = (satInc 16 (s.saf.itCnt.getD n (0, 0)).1 1, (s.saf.itCnt.getD n (0, 0)).2) ∧
      (if n = 0 then (t.source i).seqA else (t.source i).seqB) = some (byteFld (padTo 48 b) 8 4) ∧
      t.saf.lastOk.getD n 0 = s.now ∧ t.saf.silent.getD n true = false) ∧
  (∀ (s : State) (n i : Nat) (c : Copy), s.sampling = true → s.heldCopy n i = some c →
    Gives (exec (.envelopeUnpaired n i) s) fun t =>
      ∀ d ∈ t.saf.copies, ¬ (d.net = n ∧ d.src = i ∧ d.at_ ≤ c.at_)) ∧
  (∀ (s : State) (n : Nat), s.sampling = true → n < 2 → s.saf.silent.length = 2 → s.saf.silent.getD n false = false →
    Gives (exec (.networkSilent n) s) fun t => t.saf.silent.getD n false = true ∧ t.netSilent n = true) ∧
  (∀ (s : State) (i a : Nat), s.sampling = true → i < 8 → s.saf.sources.length = 8 → (s.source i).window = some a →
    Gives (exec (.permitWindowEnd i) s) fun t => t.windowRuns i = false ∧ t.source i = { s.source i with window := none }) ∧
  (∀ s : State, s.sampling = true → s.sealClosed 5 = true →
    Gives (exec .itsupLatch s) fun t => t.saf.latch.testBit lItsup = true) ∧
  (∀ (s : State) (h : Nat), s.pends h A.SAF_ACK 0x1FE 1#32 = true →
    Gives (exec (.safetyAck h) s) fun t =>
      (s.testCond = false → t.saf.latch.testBit lTest = false) ∧ (s.fbdisCond = false → t.saf.latch.testBit lFbdis = false) ∧
      (s.saf.itCond = false → t.saf.latch.testBit lItsup = false) ∧
      (∀ b, b = lDisc ∨ b = lCross ∨ b = lChannel → t.saf.latch.testBit b = s.saf.latch.testBit b) ∧
      t = { s with regs := t.regs, saf := { s.saf with latch := t.saf.latch, groups := t.saf.groups },
                   modes := { s.modes with cond := t.modes.cond }, hosts := t.hosts, mem := t.mem })

/-- The hardware rings (R352 to R355): an enable that passes its checks starts the ring at index 0, a disable stops it, and
the indices a host owns take an accepted value. -/
def Obligations.RingsAreDriven : Prop :=
  (∀ (s : State) (h n : Nat) (v : Word), s.live = true → h < 4 → n < 64 → s.ev.rings.length = 64 → s.ringOwner n = h →
    s.ready 22 = true → s.wiping = false → (s.hw n).en = false → fld v 0 4 ≤ 10 →
    (∀ p ∈ s.enableChecks n ((s.hw n).withCfg (v ||| 0x40#32)), p.1 = false) →
    Gives (exec (.ringEnable h n v) s) fun t =>
      (t.hw n).en = true ∧ (t.hw n).size = fld v 0 4 ∧ (t.hw n).type = fld v 4 2 ∧ (t.hw n).ien = bitAt v 7 ∧
      (t.hw n).pair = fld v 8 6 ∧ (t.hw n).base = (s.hw n).base ∧ (t.hw n).head = 0 ∧
      (fld v 4 2 = 0 → (t.hw n).tail = 0)) ∧
  (∀ (s : State) (h n : Nat) (v : Word), s.live = true → h < 4 → n < 64 → s.ev.rings.length = 64 → s.ringOwner n = h →
    s.ready 22 = true → s.wiping = false → (s.hw n).en = true → (s.hw n).size = fld v 0 4 → (s.hw n).size ≤ 10 →
    (s.hw n).type = fld v 4 2 → (s.hw n).pair = fld v 8 6 → ((s.hw n).type = 1 → s.ringPaired n = false) →
    Gives (exec (.ringDisable h n v) s) fun t =>
      (t.hw n).en = false ∧ (t.hw n).base = (s.hw n).base ∧
      ((s.hw n).type ≠ 3 → (∀ m, m ≠ n → t.hw m = s.hw m) ∧
        t = { s with ev := { s.ev with rings := t.ev.rings }, hosts := t.hosts, mem := t.mem })) ∧
  (∀ (s : State) (h n : Nat) (v : Word), s.live = true → h < 4 → n < 64 → s.ev.rings.length = 64 → s.ringOwner n = h →
    s.ready 22 = true → s.wiping = false → (s.hw n).en = true → (s.hw n).type = 0 → fld v 0 16 < (s.hw n).entries →
    (fld v 0 16 + 2 * (s.hw n).entries - (s.hw n).tail) % (s.hw n).entries ≤
      ((s.hw n).head + (s.hw n).entries - 1 + 2 * (s.hw n).entries - (s.hw n).tail) % (s.hw n).entries →
    Gives (exec (.cmdDoorbell h n v) s) fun t =>
      t.hw n = { s.hw n with tail := fld v 0 16 } ∧ (∀ m, m ≠ n → t.hw m = s.hw m) ∧
      t = { s with ev := { s.ev with rings := t.ev.rings }, hosts := t.hosts, mem := t.mem }) ∧
  (∀ (s : State) (h n : Nat) (v : Word), s.live = true → h < 4 → n < 64 → s.ev.rings.length = 64 → s.ringOwner n = h →
    s.ready 22 = true → s.wiping = false → (s.hw n).en = true → (s.hw n).type ≠ 0 → fld v 0 16 < (s.hw n).entries →
    (fld v 0 16 + 2 * (s.hw n).entries - (s.hw n).head) % (s.hw n).entries ≤
      ((s.hw n).tail + 2 * (s.hw n).entries - (s.hw n).head) % (s.hw n).entries →
    Gives (exec (.ringHeadWrite h n v) s) fun t =>
      (t.hw n).head = fld v 0 16 ∧
      ((s.hw n).type = 3 → t.hw n = { s.hw n with head := fld v 0 16 } ∧ ∀ m, m ≠ n → t.hw m = s.hw m))

/-- The command set (R356 to R359, R368): a well-formed command that its host's version serves leaves its ring, has its
effect, and is answered in the ring of its pair. NOP is answered with OK, an opcode the set does not have with BAD_OPCODE,
and either changes nothing else. READ is answered with the words that reads by its host one after another give, and their
status, and has the effect of those reads. WRITE is answered with the status of the write of its word, and has the effect of
that write, and WRITE_PAIR that of the writes of its two words in turn, where these leave the two rings and the other
commands alone; an accepted WRITE of an RW register stores its masked word, and an accepted WRITE_PAIR of GRD_PLIM or a
forming set point its value. LOG_READ is answered with OK, the number of entries copied and the sequence of the next, and
the entries stand in the buffer. The next log SEQ of LOG_READ is the model's choice (log entry 166). -/
def Obligations.CommandsAreAnswered : Prop :=
  (∀ (s : State) (n : Nat), s.Canon → s.ev.rings.length = 64 → s.canRun n 1 1 = true →
    Gives (exec (.nop n) s) fun t => AnsweredWith s t n .ok [] ∧ OnlyAnswered s t n ∧ t = { s with ev := t.ev }) ∧
  (∀ (s : State) (n op : Nat), s.Canon → s.ev.rings.length = 64 → s.canRun n op 0 = true → opcodeFrom op = none →
    Gives (exec (.nop n) s) fun t => AnsweredWith s t n .badOpcode [] ∧ OnlyAnswered s t n ∧ t = { s with ev := t.ev }) ∧
  (∀ (s : State) (n : Nat), s.Canon → s.ev.rings.length = 64 → s.canRun n 2 1 = true →
    let o := byteFld (s.cmdBytes n) 8 4
    let k := byteFld (s.cmdBytes n) 12 1
    let a := (s.takeCmd n).readWords (s.ringOwner n) o k
    1 ≤ k → k ≤ 8 → o % 4 = 0 → o + 4 * k ≤ 0x2000000 →
    Gives (exec (.read n) s) fun t =>
      AnsweredWith s t n a.2.2 (if a.2.2 = .ok then a.2.1.flatMap fun w => leBytes 4 w.toNat else []) ∧
      (a.2.2 = .ok → OnlyAnswered s t n) ∧ t.regs = s.regs ∧
      t = { a.1 with ev := t.ev, hosts := { a.1.hosts with taken := [] } }) ∧
  (∀ (s : State) (n : Nat), s.Canon → s.ev.rings.length = 64 → s.canRun n 3 1 = true →
    let o := byteFld (s.cmdBytes n) 8 4
    let u := s.takeCmd n
    let a := u.hostWrite (s.ringOwner n) o (wd (byteFld (s.cmdBytes n) 12 4))
    windowOffset o = true → a.1.ev.holding = false → a.1.hosts.taken = u.hosts.taken → a.1.ev.rings.length = 64 →
    (a.1.hw n).head = (u.hw n).head → a.1.hw (s.hw n).pair = u.hw (s.hw n).pair → Memory.wf a.1.ev.mem = true →
    Gives (exec (.write n) s) fun t =>
      AnsweredWith s t n a.2 [] ∧ t = { a.1 with ev := t.ev, hosts := { a.1.hosts with taken := [] } }) ∧
  (∀ (s : State) (n : Nat) (r : Row), s.Canon → s.ev.rings.length = 64 → s.canRun n 3 1 = true →
    let o := byteFld (s.cmdBytes n) 8 4
    let v := wd (byteFld (s.cmdBytes n) 12 4)
    o % 4 = 0 → 0x70000 ≤ o → o < 0xC1000 → rowAt o = some r → r.cls = .rw → r.ok v = true →
    s.admits (s.ringOwner n) (o / 0x1000) r.modes = true →
    Gives (exec (.write n) s) fun t =>
      AnsweredWith s t n .ok [] ∧ OnlyAnswered s t n ∧ t.reg o = mergeWord r.mask (s.reg o) v ∧
      (∀ o', o' ≠ o → t.reg o' = s.reg o') ∧
      t = { s with regs := t.regs, hosts := t.hosts, ev := t.ev, mem := t.mem }) ∧
  (∀ (s : State) (n : Nat), s.Canon → s.ev.rings.length = 64 → s.canRun n 4 1 = true →
    let o := byteFld (s.cmdBytes n) 8 4
    let u := s.takeCmd n
    let a := u.hostWrite (s.ringOwner n) o (wd (byteFld (s.cmdBytes n) 12 4))
    let c := a.1.hostWrite (s.ringOwner n) (o + 4) (wd (byteFld (s.cmdBytes n) 16 4))
    windowOffset o = true → waitsForPair o = true → a.2 = .ok → c.1.ev.holding = false →
    c.1.hosts.taken = u.hosts.taken → c.1.ev.rings.length = 64 → (c.1.hw n).head = (u.hw n).head →
    c.1.hw (s.hw n).pair = u.hw (s.hw n).pair → Memory.wf c.1.ev.mem = true →
    Gives (exec (.writePair n) s) fun t =>
      AnsweredWith s t n c.2 [] ∧ t = { c.1 with ev := t.ev, hosts := { c.1.hosts with taken := [] } }) ∧
  (∀ (s : State) (n : Nat), s.Canon → s.ev.rings.length = 64 → s.canRun n 4 1 = true →
    let o := byteFld (s.cmdBytes n) 8 4
    let v := wd (byteFld (s.cmdBytes n) 12 4)
    (o = A.GRD_PLIM ∨ o = A.GRD_FORM_P ∨ o = A.GRD_FORM_Q) →
    (∀ r, rowAt o = some r → r.ok v = true ∧ s.admits (s.ringOwner n) 0x80 r.modes = true) →
    wd (byteFld (s.cmdBytes n) 16 4) = ~~~ v →
    Gives (exec (.writePair n) s) fun t =>
      AnsweredWith s t n .ok [] ∧ t.reg o = v ∧ ∀ o', o' ≠ o → t.reg o' = s.reg o') ∧
  (∀ (s : State) (n : Nat), s.canRun n 0x20 2 = true → s.Canon → s.ev.rings.length = 64 →
    let b := s.cmdBytes n
    let p := s.ev.log.span (byteFld b 8 4) (byteFld b 12 2)
    1 ≤ byteFld b 12 2 → byteFld b 12 2 ≤ 1024 → byteFld b 16 4 % 4 = 0 →
    Gives (exec (.logRead n) s) fun t =>
      AnsweredWith s t n .ok (leBytes 2 p.2 ++ leBytes 2 0 ++ leBytes 4 ((p.1 + p.2) % 0x100000000)) ∧
      ((∀ i, i < 8 * p.2 → s.spaceBarred (s.ringOwner n) (byteFld b 16 4 + 4 * i) = false) →
        (∀ i j, i < p.2 → j < 32 →
          let x := byteFld b 16 4 + 32 * i + j
          x < s.answerAt n ∨ s.answerAt n + 64 ≤ x →
          t.ev.byte x = (padTo 32 (s.ev.log.bySeq ((p.1 + i) % 0x100000000))).getD j 0#8) ∧
        t = { s with ev := t.ev }) ∧
      t = { s with ev := t.ev, reco := t.reco })

/-- The image commands (R307, R359): OPEN of a slot that no engine runs empties it and opens the session, DATA in order puts
its bytes behind those of the slot and counts them, CLOSE waits for the verification; each leaves its ring and is answered
when it ends. -/
def Obligations.ImageCommandsAreTaken : Prop :=
  (∀ (s : State) (n : Nat), s.ev.rings.length = 64 → s.canRun n 0x10 1 = true →
    let b := s.cmdBytes n
    byteFld b 8 1 ≤ 1 → byteFld b 9 1 = 255 - byteFld b 8 1 → (∀ p ∈ s.imgCommon (s.ringOwner n), p.1 = false) →
    s.hosts.session = none → s.slotRunning (byteFld b 8 1) = false → s.gaf.slots.length = 2 →
    Gives (exec (.imageOpen n) s) fun t =>
      TakenFrom s t n ∧ t.hosts.session = some { host := s.ringOwner n, slot := byteFld b 8 1, written := 0 } ∧
      t.slotValid (byteFld b 8 1) = false ∧ (t.imgSlot (byteFld b 8 1)).body = [] ∧ (t.hosts.taken.map fun x => x.opcode) = [0x10]) ∧
  (∀ (s : State) (n : Nat) (q : ImageSession), s.ev.rings.length = 64 → s.canRun n 0x11 1 = true →
    let b := s.cmdBytes n
    let len := byteFld b 12 4
    (∀ p ∈ s.imgCommon (s.ringOwner n), p.1 = false) → s.hosts.session = some q → 256 ≤ len → len ≤ 0x10000 → len % 256 = 0 →
    byteFld b 8 4 = q.written → q.written + len ≤ 0x800000 → byteFld b 16 4 % 64 = 0 → byteFld b 16 4 + len ≤ 0x2000000 →
    (∀ m, m < 64 → (s.hw m).en = true → overlap (byteFld b 16 4) len (s.hw m).base (s.hw m).bytes = false) →
    Gives (exec (.imageData n) s) fun t =>
      TakenFrom s t n ∧ t.hosts.session = some { q with written := q.written + len } ∧
      (q.slot < s.gaf.slots.length →
        (t.imgSlot q.slot).body = (s.imgSlot q.slot).body ++ s.ev.read (byteFld b 16 4) len) ∧
      (t.hosts.taken.map fun x => x.opcode) = [0x11]) ∧
  (∀ (s : State) (n : Nat), s.ev.rings.length = 64 → s.canRun n 0x12 1 = true → s.hosts.session.isSome = true →
    (∀ p ∈ s.imgCommon (s.ringOwner n), p.1 = false) →
    Gives (exec (.imageClose n) s) fun t =>
      TakenFrom s t n ∧ t.hosts.session = s.hosts.session ∧ (t.hosts.taken.map fun x => x.opcode) = [0x12])

/-- Host ports, versions, messages and the log (R350, R360, R364, R367, R369, R370): a negotiated version is SEL, a port
reset ends what the host has under way and keeps its claims, a release of all ends them, messages held back go out, a
coalescing window closes, queued log entries are written as places free. That a port reset clears LINK only where the link
is lost, and that the log coalesces as a receiver of its own are the model's choices (log entries 167, 21). -/
def Obligations.HostPortsAndLog : Prop :=
  (∀ (s : State) (h x : Nat) (v : Word) (r : Row), s.Canon → h < 4 → s.hosts.sel.length = 4 → rowAt (A.HST h A.HST_VER) = some r →
    r.ok v = true → s.admits h (0xD0 + h) r.modes = true → s.common_ (fld v 0 8) (fld v 8 8) = some x → s.cmdRings h = false →
    Gives (exec (.versionNegotiate h v) s) fun t =>
      t.hosts.sel.getD h 0 = x ∧ (∀ k, k ≠ h → t.hosts.sel.getD k 0 = s.hosts.sel.getD k 0) ∧
      (∀ o, o ≠ A.HST h A.HST_VER → t.reg o = s.reg o)) ∧
  (∀ (s : State) (h : Nat), h < 4 → s.hosts.sel.length = 4 → s.admits h (0xD0 + h) 0x1FE = true →
    Gives (exec (.hostResetRequest h) s) fun t =>
      (∀ n, n < 64 → s.ringOwner n = h → (t.hw n).en = false) ∧ t.hosts.sel.getD h 9 = 0 ∧ (∀ x ∈ t.hosts.taken, x.host ≠ h) ∧
      (∀ p ∈ t.hosts.holder, p.1 / 0x2000000 ≠ h) ∧ t.hosts.claims = s.hosts.claims ∧ t.regs = s.regs) ∧
  (∀ (s : State) (h : Nat), h < 4 → s.Claimed → (∀ p ∈ s.hosts.claims, blockOf p.1 = p.1) → s.admits h (0xD0 + h) 0x1FE = true →
    Gives (exec (.releaseAll h) s) fun t =>
      (∀ p ∈ t.hosts.claims, p.2 ≠ h) ∧ (∀ p, p.2 ≠ h → (p ∈ t.hosts.claims ↔ p ∈ s.hosts.claims)) ∧ t.regs = s.regs) ∧
  (∀ (s : State) (h : Nat) (what : PortReset), s.live = true → h < 2 → s.hosts.sel.length = 4 → s.hosts.link.length = 4 →
    s.hosts.perst.length = 2 → s.hosts.train.length = 2 → what ≠ .perst false →
    (what = .perst true → s.hosts.perst.getD h true = false) →
    Gives (exec (.hostPortReset h what) s) fun t =>
      (∀ n, n < 64 → s.ringOwner n = h → (t.hw n).en = false) ∧ t.hosts.sel.getD h 9 = 0 ∧ (∀ x ∈ t.hosts.taken, x.host ≠ h) ∧
      (∀ p ∈ t.hosts.holder, p.1 / 0x2000000 ≠ h) ∧ t.hosts.claims = s.hosts.claims ∧ t.regs = s.regs ∧
      (what = .hotReset ∨ what = .functionReset → t.hosts.link = s.hosts.link ∧ t.hosts.train = s.hosts.train ∧
        t.hosts.perst = s.hosts.perst) ∧
      (what = .linkLoss → t.hosts.link = setAt false h s.hosts.link ∧ t.hosts.perst = s.hosts.perst ∧
        t.hosts.train = setAt (if s.hosts.perst.getD h false then none else some s.now) h s.hosts.train) ∧
      (what = .perst true → t.hosts.link = setAt false h s.hosts.link ∧ t.hosts.perst = setAt true h s.hosts.perst ∧
        t.training h = false)) ∧
  (∀ (s : State) (h : Nat), s.live = true → h < 2 → s.hosts.train.length = 2 → s.hosts.perst.getD h false = true →
    Gives (exec (.hostPortReset h (.perst false)) s) fun t =>
      t.training h = true ∧
      t = { s with hosts := { s.hosts with perst := setAt false h s.hosts.perst, train := setAt (some s.now) h s.hosts.train } }) ∧
  (∀ (s : State) (h : Nat) (low : Bool), s.pwr.dark = false → s.pwr.held = true → h < 2 → s.hosts.perst.length = 2 →
    Gives (exec (.hostPortReset h (.perst low)) s) fun t =>
      t = { s with hosts := { s.hosts with perst := setAt low h s.hosts.perst } }) ∧
  (∀ (s : State) (h k : Nat), s.live = true → h < 2 → s.ev.msixHeld = [k] → k / 128 = h →
    Gives (exec (.msixDeferred h) s) fun t =>
      t.ev.out = .msix h (k % 128) :: s.ev.out ∧ t.ev.msixHeld = [] ∧
      t.clock = (s.advance (Map.get (fun _ => 0) k s.ev.msixSent + us 20)).clock) ∧
  (∀ (s : State) (h c x : Nat) (w : EvWindow), s.live = true → h < 5 → s.ev.window h c x = some w →
    Gives (exec (.eventWindowClose h c x) s) fun t =>
      (∀ y ∈ t.ev.windows, ¬ (y.code = c ∧ y.subject = x ∧ y.opened ≤ w.opened)) ∧
      t = { s.advance (w.opened + ms 1) with ev := t.ev }) ∧
  (∀ s : State, s.live = true → s.ev.log.queue ≠ [] → s.mem.flashFail = false → s.ev.log.gapLost = 0 →
    s.ev.log.places s.now ≠ 0 → s.senOn = false →
    Gives (exec .logQueueDrain s) fun t =>
      t.ev.log.queue.length < s.ev.log.queue.length ∧ t.ev.log.seq ≠ s.ev.log.seq ∧ t = { s with ev := t.ev })

/-- Frames the networks send (R372 to R374, R377, R381 to R384): a peer delay request or the two parts of its answer on a
port that runs PTP, with the time at which the port sent it; and on every enabled station port, with the trailer of its LAN,
a supervision frame, a retransmission with the next sqNum and twice the interval up to T0, and a sample whose instant the
pipeline's two beats enclose, each with the addresses and names its entry gives; nothing but the sender's own counters
changes. That a stamp is DEVTIME exactly is the model's choice (log entry 216). The two LANs and the links (R373, R387): the
first copy of a frame is kept and counts its LAN as present, the second within FORGET is counted and taken no more; a LAN
judged lost or present, and a link that changes, are recorded and raised. -/
def Obligations.NetworksSendAndFollowLinks : Prop :=
  (∀ (s : State) (p : Nat), s.ptpPort p = true → s.net.pdelayAt.length = 2 → s.net.txStamp.length = 2 →
    Gives (exec (.pdelayReqSend p) s) fun t =>
      let u := s.every (s.net.pdelayAt.getD p none) (ms 1000)
      t.net.pdelayAt.getD p none = some u.now ∧ (∀ k, k ≠ p → t.net.pdelayAt.getD k none = s.net.pdelayAt.getD k none) ∧
      (∀ a, s.net.pdelayAt.getD p none = some a → a + ms 1000 ≤ u.now) ∧ t.net.txStamp.getD p 0 = u.devNs ∧
      t = { u with
        net := { s.net with pdelayAt := t.net.pdelayAt, txStamp := t.net.txStamp },
        ev := { s.ev with out := s.netFrame p 0 0 none (.pdelay 0 (fld (s.reg A.NET_PTP_CFG) 0 8)) :: s.ev.out } }) ∧
  (∀ (s : State) (p d : Nat), s.ptpTakes p d = true → s.net.txStamp.length = 2 →
    Gives (exec (.pdelayReqAnswer p d) s) fun t =>
      t.net.txStamp.getD p 0 = s.devNs ∧
      t = { s with
        net := { s.net with rxStamp := t.net.rxStamp, txStamp := t.net.txStamp },
        ev := { s.ev with
          out := s.netFrame p 0 0 none (.pdelay 2 d) :: s.netFrame p 0 0 none (.pdelay 1 d) :: s.ev.out } }) ∧
  (∀ s : State, s.netOn = true →
    Gives (exec .prpSupervisionSend s) fun t =>
      let u := s.every s.net.prpAt (ms (fld (s.reg A.NET_PRP_CFG) 0 16))
      (∀ a, s.net.prpAt = some a → a + ms (fld (s.reg A.NET_PRP_CFG) 0 16) ≤ u.now) ∧ s.SendsOn 0 0 .supervision t ∧
      t = { u with net := { s.net with prpSeq := t.net.prpSeq, prpAt := some u.now }, ev := { s.ev with out := t.ev.out },
                   free := t.free }) ∧
  (∀ (s : State) (n : Nat), s.netOn = true → n < 16 → (s.pub n).sent = true → bitAt (s.pubw n 0) 0 = true →
    Map.rising s.net.pubs = true →
    Gives (exec (.gooseRetransmit n) s) fun t =>
      let k := min (2 * (s.pub n).ms) (s.pubT0 n)
      t.clock = (s.advance (s.pub n).due).clock ∧
      t.pub n = { s.pub n with sqNum := ((s.pub n).sqNum + 1) % 2 ^ 32, ms := k, due := t.now + ms k } ∧
      (∀ m, m ≠ n → t.pub m = s.pub m) ∧
      s.SendsOn (s.addressAt (A.NET_PUB n 8)) (fld (s.pubw n 4) 0 16) (.goose n (fld (s.pubw n 0) 8 4) (s.pubw n 0x10)
        (wd (s.pub n).stNum) (wd (((s.pub n).sqNum + 1) % 2 ^ 32)) (2 * s.pubT0 n) (s.pub n).vals) t ∧
      t = { s.advance (s.pub n).due with
            net := { s.net with pubs := t.net.pubs, prpSeq := t.net.prpSeq }, ev := { s.ev with out := t.ev.out },
            free := t.free }) ∧
  (∀ (s : State) (m t0 a1 : Nat) (sum0 sum1 : Int) (old new : List (Validity × Int)), s.netOn = true → m < 2 →
    s.net.smpLast.length = 2 → bitAt (s.reg (A.NET_SV m 0)) 0 = true →
    s.net.smpVals = [(a1, sum1, new), (t0, sum0, old)] →
    let t1 := ((a1 : Int) - (sum1 - sum0)).toNat
    t0 ≤ t1 → (svNext s.svRate (max (t0 - 1) (s.net.smpLast.getD m 0))).1 ≤ t1 →
    Gives (exec (.svSample m) s) fun t =>
      let x := svNext s.svRate (max (t0 - 1) (s.net.smpLast.getD m 0))
      t.net.smpLast.getD m 0 = x.1 ∧ (∀ k, k ≠ m → t.net.smpLast.getD k 0 = s.net.smpLast.getD k 0) ∧
      s.SendsOn (s.addressAt (A.NET_SV m 8)) (fld (s.reg (A.NET_SV m 4)) 0 16) (.sv m (fld (s.reg (A.NET_SV m 0)) 8 4)
        (fld (s.reg (A.NET_SV m 12)) 16 16) x.2 s.clock.sync.smp
        (s.svWords (fld (s.reg (A.NET_SV m 0)) 1 1) x.1 t0 t1 old new)) t ∧
      t = { s with net := { s.net with smpLast := t.net.smpLast, prpSeq := t.net.prpSeq },
                   ev := { s.ev with out := t.ev.out }, free := t.free }) ∧
  (∀ (s : State) (p src seq : Nat), s.portOn p = true → p < 2 → s.net.prpOk.length = 2 →
    Gives (exec (.prpFrameReceive p src seq true) s) fun t =>
      let forget := ms (fld (s.reg A.NET_PRP_CFG) 16 16)
      ((∃ a, (src, seq, a) ∈ s.net.seen ∧ s.now < a + forget) →
        t.net.dup = (s.net.dup + 1) % 65536 ∧ ∀ x ∈ t.net.seen, x ∈ s.net.seen) ∧
      ((∀ a, (src, seq, a) ∈ s.net.seen → a + forget ≤ s.now) → t.net.dup = s.net.dup ∧ (src, seq, s.now) ∈ t.net.seen) ∧
      t.net.prpOk.getD p false = true ∧ (∀ k, k ≠ p → t.net.prpOk.getD k false = s.net.prpOk.getD k false) ∧
      t = { s with
        net := { s.net with
          seen := t.net.seen, dup := t.net.dup, prpOk := t.net.prpOk, lanAt := t.net.lanAt, rxStamp := t.net.rxStamp },
        ev := t.ev, reco := t.reco }) ∧
  (∀ (s : State) (lan : Nat) (lost : Bool), s.Canon → s.netOn = true → lan < 2 → s.net.prpOk.length = 2 →
    s.net.prpOk.getD lan false = lost →
    Gives (exec (.prpPath lan lost) s) fun t =>
      t.net.prpOk.getD lan lost = !lost ∧ (∀ k, k ≠ lan → t.net.prpOk.getD k false = s.net.prpOk.getD k false) ∧
      (∀ h, h < 4 → bitAt (t.ev.flags h 0xE0) 4 = true) ∧
      (lost = true → s.net.lanAt.getD lan 0 + 3 * ms (fld (s.reg A.NET_PRP_CFG) 0 16) ≤ t.now) ∧
      t = { s with net := { s.net with prpOk := t.net.prpOk, lanAt := t.net.lanAt }, ev := t.ev, reco := t.reco,
                   clock := t.clock, sen := t.sen }) ∧
  (∀ (s : State) (p : Nat) (up : Bool), s.Canon → s.netOn = true → p < 4 → s.net.link.testBit p ≠ up →
    Gives (exec (.networkLinkChange p up) s) fun t =>
      t.net.link.testBit p = up ∧ (∀ k, k ≠ p → t.net.link.testBit k = s.net.link.testBit k) ∧
      (p < 2 → up = false → t.masterOf p = none) ∧ (up = true → t.net.masters = s.net.masters) ∧
      (∀ h, h < 4 → bitAt (t.ev.flags h 0xE0) 0 = true) ∧
      t = { s with net := { s.net with link := t.net.link, masters := t.net.masters }, ev := t.ev, reco := t.reco })

/-- The masters of the station ports (R374, R375, R377): an Announce of the domain on a port that runs PTP puts its master
in place where it is the one kept or ranks before it, and leaves a better one; three intervals without one take it away, and
the port followed and the state follow the masters; a measured peer delay is stored. What STATE says, and that a stamp is
DEVTIME exactly are the model's choices (log entries 50, 216). -/
def Obligations.MastersAreFollowed : Prop :=
  (∀ (s : State) (p d : Nat) (gm : BitVec 64) (cls : BitVec 8) (utc : BitVec 16) (rank : Nat), s.ptpTakes p d = true →
    s.net.masters.length = 2 →
    Gives (exec (.ptpAnnounceReceive p d gm cls utc rank) s) fun t =>
      ((∀ m, s.masterOf p = some m → m.gm = gm.toNat ∨ rank < m.rank) →
        t.masterOf p = some { gm := gm.toNat, cls := cls.toNat, utc := utc.toNat, rank := rank, heard := s.now } ∧
        t.net.port = t.ptpBest.getD s.net.port ∧ t.net.ptp = t.ptpState) ∧
      (∀ m, s.masterOf p = some m → m.gm ≠ gm.toNat → m.rank ≤ rank →
        t = { s with net := { s.net with rxStamp := t.net.rxStamp } }) ∧
      (∀ k, k ≠ p → t.masterOf k = s.masterOf k) ∧ t.net.syncAt = s.net.syncAt ∧
      (t.net.port ≠ s.net.port → t.net.calibrated = false) ∧ t = { s with net := t.net, ev := t.ev, reco := t.reco }) ∧
  (∀ (s : State) (p : Nat) (m : Master), s.masterOf p = some m →
    Gives (exec (.ptpAnnounceTimeout p) s) fun t =>
      t.masterOf p = none ∧ (∀ k, k ≠ p → t.masterOf k = s.masterOf k) ∧ t.clock = (s.advance (m.heard + ms 3000)).clock ∧
      t.net.port = t.ptpBest.getD s.net.port ∧ t.net.ptp = t.ptpState ∧
      t = { s.advance (m.heard + ms 3000) with net := t.net, ev := t.ev, reco := t.reco }) ∧
  (∀ (s : State) (p d v : Nat), s.ptpTakes p d = true → s.net.delay.length = 2 → s.net.rxStamp.length = 4 → v < 2 ^ 32 →
    Gives (exec (.pdelayRespReceive p d v) s) fun t =>
      t.net.delay.getD p 0 = v ∧ (∀ k, k ≠ p → t.net.delay.getD k 0 = s.net.delay.getD k 0) ∧
      t.net.rxStamp.getD p 0 = s.devNs ∧
      t = { s with net := { s.net with delay := t.net.delay, rxStamp := t.net.rxStamp } })

/-- Subscriptions (R373, R378 to R380, R385, R386): the second copy of a frame of the station pair is dropped; a newer frame
that an enabled station entry accepts gives it its numbers, its deadline and, unless it is a test, its value; a frame
nothing accepts is counted as discarded; the envelope of every entry that accepts a frame of the protection pair is handed
to the channels as received; and an entry's deadline takes its validity. -/
def Obligations.SubscriptionsFollow : Prop :=
  (∀ (s : State) (f : GooseFrame), s.portOn f.port = true → f.port < 2 → Map.rising s.net.subs = true → s.net.cnt.length = 4 →
    Gives (exec (.gooseReceive f) s) fun t =>
      ((∃ q, f.trailer = some q ∧ s.prpDup f.source q = true) →
        t.net.dup = (s.net.dup + 1) % 65536 ∧ t.net.subs = s.net.subs ∧ t.net.cnt = s.net.cnt) ∧
      ((∀ q, f.trailer = some q → s.prpDup f.source q = false) →
        (∀ n ∈ s.subsOf 0, s.subAccepts n f = true → (s.sub n).judge f = 0 →
          (t.sub n).num = some (f.stNum.toNat, f.sqNum.toNat) ∧ (t.sub n).due = some (s.now + ms f.tal) ∧
          (t.sub n).test = f.test ∧ (t.sub n).talExp = false ∧ (t.sub n).last = wd s.devNs ∧
          (f.test = true → (t.sub n).value = (s.sub n).value ∧ (t.sub n).valid = (s.sub n).valid) ∧
          (f.test = false → (t.sub n).valid = true ∧ ∀ m, s.subMember n f = some m → (t.sub n).value = memberValue m) ∧
          (t.net.cnt.getD f.port (0, 0)).1 = satInc 16 (s.net.cnt.getD f.port (0, 0)).1 1) ∧
        ((∀ n ∈ s.subsOf 0, s.subAccepts n f = false) →
          (t.net.cnt.getD f.port (0, 0)).2 = satInc 16 (s.net.cnt.getD f.port (0, 0)).2 1) ∧
        t.net.dup = s.net.dup) ∧
      (∀ n, (n ∉ s.subsOf 0 ∨ s.subAccepts n f = false ∨ (s.sub n).judge f ≠ 0) → t.sub n = s.sub n) ∧
      t = { s with
        net := { s.net with subs := t.net.subs, cnt := t.net.cnt, rxStamp := t.net.rxStamp, seen := t.net.seen,
                            dup := t.net.dup, prpOk := t.net.prpOk, lanAt := t.net.lanAt },
        ev := t.ev, reco := t.reco }) ∧
  (∀ (s : State) (f : GooseFrame), s.Canon → s.portOn f.port = true → 2 ≤ f.port → s.net.cnt.length = 4 →
    Map.rising s.net.subs = true →
    Gives (exec (.gooseReceive f) s) fun t =>
      (s.proNamed f = [] → t.net.other = satInc 16 s.net.other 1 ∧ t.net.malf = s.net.malf ∧ t.net.handed = s.net.handed) ∧
      (s.proNamed f ≠ [] → s.proTakers f = [] →
        t.net.malf = satInc 16 s.net.malf 1 ∧ t.net.other = s.net.other ∧ t.net.handed = s.net.handed ∧
        ∀ h, h < 4 → bitAt (t.ev.flags h 0xE0) 5 = true) ∧
      (s.proTakers f = [] →
        (t.net.cnt.getD f.port (0, 0)).2 = satInc 16 (s.net.cnt.getD f.port (0, 0)).2 1 ∧ t.net.subs = s.net.subs) ∧
      (s.proTakers f ≠ [] →
        t.net.handed = s.net.handed ++ (s.proTakers f).map (fun n => s.envelopeOf n f) ∧
        (t.net.cnt.getD f.port (0, 0)).1 = satInc 16 (s.net.cnt.getD f.port (0, 0)).1 1 ∧ t.net.malf = s.net.malf ∧
        t.net.other = s.net.other) ∧
      (∀ n ∈ s.proTakers f, (t.sub n).valid = true ∧ (t.sub n).num = some (f.stNum.toNat, f.sqNum.toNat) ∧
        (t.sub n).last = wd s.devNs) ∧
      (∀ n, n ∉ s.proTakers f → t.sub n = s.sub n) ∧ t = { s with net := t.net, ev := t.ev, reco := t.reco }) ∧
  (∀ (s : State) (n a : Nat), s.Canon → s.live = true → Map.rising s.net.subs = true → (s.sub n).due = some a →
    Gives (exec (.subTimeout n) s) fun t =>
      t.sub n = { s.sub n with valid := false, talExp := true, due := none } ∧ (∀ m, m ≠ n → t.sub m = s.sub m) ∧
      (∀ h, h < 4 → bitAt (t.ev.flags h 0xE0) 3 = true) ∧ t.clock = (s.advance a).clock)

/-- The recorder (R395 to R398): a manual trigger opens a record or extends the open one, or is missed where the held
records leave no room; a record that ends is held for the hosts eligible then, or released. A record is delivered to each of
its hosts as HEAD, TRIG, DATA and TAIL entries in their order, as far as the host's ring has room, and the TAIL releases it
for that host; with several records and hosts each ring ends full or its host awaits nothing, and no other ring moves. A
host whose SEL is 0 receives nothing, what it awaits standing (log entry 225). A negotiated version is 1, a failed one 0. -/
def Obligations.RecordsAreTaken : Prop :=
  (∀ (s : State) (h : Nat), s.admits h 0xF0 0x1FE = true → s.ready 24 = true → s.mem.dramFail = false → (s.reg A.REC_TRIGMASK).getLsbD 0 = true →
    Gives (exec (.recorderManualTrigger h 1#32) s) fun t =>
      (∀ c, s.reco.opened = some c → ∃ d, t.reco.opened = some d ∧ d.no = c.no ∧ d.start = c.start ∧ d.count = c.count + 1 ∧
        d.stop = min (max c.stop (s.devNs + s.recMs A.REC_POST)) (c.start + s.recMs A.REC_MAXLEN) ∧
        (c.trigs.length < 8 → d.trigs = c.trigs ++ [(s.devNs, 0)])) ∧
      (s.reco.opened = none → nsum (s.reco.held.map fun c => s.reco.size c) +
          s.reco.rate * (s.recMs A.REC_PRE + s.recMs A.REC_POST) / 1000000000 ≤ 100663296 →
        t.reco.next = s.reco.next + 1 ∧ ∃ d, t.reco.opened = some d ∧ d.no = s.reco.next ∧ d.count = 1 ∧
          d.trigs = [(s.devNs, 0)] ∧ d.stop = s.devNs + s.recMs A.REC_POST ∧ s.devNs - s.recMs A.REC_PRE ≤ d.start) ∧
      (s.reco.opened = none → 100663296 < nsum (s.reco.held.map fun c => s.reco.size c) +
          s.reco.rate * (s.recMs A.REC_PRE + s.recMs A.REC_POST) / 1000000000 →
        t.reco.opened = none ∧ t.reco.next = s.reco.next ∧ t.reco.missed = satInc 16 s.reco.missed 1 ∧
        ∀ k, k < 4 → bitAt (t.ev.flags k 0xF0) 1 = true) ∧
      t.reco.held = s.reco.held ∧ t = { s with reco := t.reco, ev := t.ev, hosts := t.hosts, mem := t.mem }) ∧
  (∀ (s : State) (c : Rec), s.live = true → s.Canon → s.reco.opened = some c →
    Gives (exec .recordEnd s) fun t =>
      let u := s.advance (s.whenDev c.stop)
      t.clock = u.clock ∧ t.reco.opened = none ∧ (∀ h, h < 4 → bitAt (t.ev.flags h 0xF0) 0 = true) ∧
      (u.eligible = [] → t.reco.held = s.reco.held ∧ t.reco.unsent = satInc 16 s.reco.unsent 1) ∧
      (u.eligible ≠ [] → t.reco.held = s.reco.held ++ [{ c with hosts := u.eligible.map fun h => { host := h, next := 0, sent := [] } }] ∧
        t.reco.unsent = s.reco.unsent) ∧
      t = { u with ev := t.ev, reco := t.reco }) ∧
  (∀ (s : State) (c : Rec) (d : RecHost) (n : Nat) (e : List Byte), s.live = true → s.Canon → d.host < 4 → s.reco.held = [c] →
    c.hosts = [d] → s.reco.entryAt c d = (e, none) → s.ringOf s.ev d.host 3 = some n → s.ev.rings.length = 64 → (s.hw n).full = false →
    s.ev.holding = false → s.reco.sel.getD d.host 0 ≠ 0 →
    Gives (exec .recordDelivery s) fun t =>
      (t.hw n).tail = ((s.hw n).tail + 1) % (s.hw n).entries ∧ (∀ m, m ≠ n → t.hw m = s.hw m) ∧
      t.ev.read ((s.hw n).base + 64 * (s.hw n).tail) 64 = padTo 64 e ∧
      t = { s with ev := t.ev, reco := { s.reco with held := [] } }) ∧
  (∀ (s : State) (c : Rec) (d d' : RecHost) (n : Nat) (e : List Byte), s.live = true → s.Canon → d.host < 4 → s.reco.held = [c] →
    c.hosts = [d] → s.reco.entryAt c d = (e, some d') → s.ringOf s.ev d.host 3 = some n → s.ev.rings.length = 64 →
    (s.hw n).full = false → ((s.hw n).tail + 2) % (s.hw n).entries = (s.hw n).head → s.ev.holding = false →
    s.reco.sel.getD d.host 0 ≠ 0 →
    Gives (exec .recordDelivery s) fun t =>
      (t.hw n).tail = ((s.hw n).tail + 1) % (s.hw n).entries ∧ (∀ m, m ≠ n → t.hw m = s.hw m) ∧
      t.ev.read ((s.hw n).base + 64 * (s.hw n).tail) 64 = padTo 64 e ∧
      t = { s with ev := t.ev, reco := { s.reco with held := [{ c with hosts := [d'] }] } }) ∧
  (∀ (r : Recorder) (c : Rec) (d : RecHost),
    let e := r.entryAt c d
    let more := c.trigs.length - 1
    let bytes := r.bytesOf c
    let pos := d.next - 1 - more
    let head := fun (kind : Nat) (st : Status) (len : Nat) =>
      e.1.take 8 = leBytes 2 kind ++ leBytes 2 c.no ++ leBytes 1 st.code ++ leBytes 1 d.host ++ leBytes 2 len
    (d.next = 0 → head 1 .ok 56 ∧ e.2 = some { d with next := 1 } ∧
      e.1.drop 8 = leBytes 1 1 ++ leBytes 1 (b2n c.short + 2 * b2n c.cap) ++ leBytes 1 c.trigs.length ++ leBytes 1 0 ++
        leBytes 4 c.count ++ leBytes 8 c.start ++ leBytes 8 c.stop ++ leBytes 8 (c.trigs.headD (0, 0)).1 ++
        leBytes 2 (c.trigs.headD (0, 0)).2 ++ leBytes 2 0 ++ leBytes 4 bytes.length ++ leBytes 4 (r.framesOf c).length) ∧
    (0 < d.next → d.next ≤ more → head 3 .ok 10 ∧ e.2 = some { d with next := d.next + 1 } ∧
      e.1.drop 8 = leBytes 8 (c.trigs.getD d.next (0, 0)).1 ++ leBytes 2 (c.trigs.getD d.next (0, 0)).2) ∧
    (more < d.next → pos < bytes.length →
      let part := (bytes.drop pos).take 52
      head 2 .ok part.length ∧ e.1.drop 8 = leBytes 4 d.sent.length ++ part ∧
      e.2 = some { d with next := d.next + part.length, sent := d.sent ++ part }) ∧
    (more < d.next → bytes.length ≤ pos → head 4 (if c.omitted = 0 then .ok else .internal) 12 ∧ e.2 = none ∧
      e.1.drop 8 = leBytes 4 d.sent.length ++ leBytes 4 (crc32 d.sent) ++ leBytes 4 c.omitted)) ∧
  (∀ s : State, s.live = true → s.Canon → s.ev.rings.length = 64 → (s.reco.held.map (·.no)).Nodup →
    (∀ c ∈ s.reco.held, (c.hosts.map (·.host)).Nodup) →
    Gives (exec .recordDelivery s) fun t =>
      (∀ c ∈ t.reco.held, ∃ c0 ∈ s.reco.held, c.no = c0.no ∧ c.trigs = c0.trigs ∧ c.start = c0.start ∧ c.stop = c0.stop ∧
        ∀ d ∈ c.hosts, ∃ d0 ∈ c0.hosts, d.host = d0.host ∧ d0.next ≤ d.next) ∧
      (∀ h n, h < 4 → s.ringOf s.ev h 3 = some n → s.ev.holding = false → s.reco.sel.getD h 0 ≠ 0 → (s.hw n).size ≤ 10 →
        (s.hw n).head < (s.hw n).entries → (t.hw n).full = true ∨ ∀ c ∈ t.reco.held, ∀ d ∈ c.hosts, d.host ≠ h) ∧
      (∀ m, (∀ h, h < 4 → s.ringOf s.ev h 3 ≠ some m) → t.hw m = s.hw m) ∧
      t = { s with ev := t.ev, reco := { s.reco with held := t.reco.held } }) ∧
  (∀ s : State, s.live = true →
    (s.ev.holding = true ∨ s.reco.held = [] ∨
      ∀ h n, h < 4 → s.ringOf s.ev h 3 = some n → (s.hw n).full = true ∨ s.reco.sel.getD h 0 = 0) →
    Gives (exec .recordDelivery s) fun t => t = s) ∧
  (∀ (s : State) (h : Nat) (v : Word), s.Canon → s.reco.sel.length = 4 → s.admits h 0xF0 0x1FE = true →
    Gives (exec (.recorderVersionNegotiate h v) s) fun t =>
      (fld v 0 8 ≤ 1 ∧ 1 ≤ fld v 8 8 →
        t.reco.sel.getD h 0 = 1 ∧ t.reg (A.REC_HVER h) = mergeWord 0xFFFF#32 (s.reg (A.REC_HVER h)) v ∧
        (∀ o, o ≠ A.REC_HVER h → t.reg o = s.reg o)) ∧
      (¬ (fld v 0 8 ≤ 1 ∧ 1 ≤ fld v 8 8) → t.reco.sel.getD h 9 = 0 ∧ t.regs = s.regs) ∧
      (∀ k, k ≠ h → t.reco.sel.getD k 0 = s.reco.sel.getD k 0))

/-- Errors of the memories (R391, R399, R400): corrections are counted, a row that is corrected three times in an hour takes
a spare; an uncorrectable error is counted, its address kept (in ring space that of the word or of the command entry), and
it acts by where it lies; a pair found corrupt is reported, and one in fabric storage reads as it was found. That a lost
item of fabric storage reads its reset value is the model's choice (log entry 196). -/
def Obligations.MemoryErrorsAreHandled : Prop :=
  (∀ (s : State) (bank row n : Nat), s.Canon → s.live = true → bank < 24 → s.mem.rows.length = 24 →
    Gives (exec (.sramScrub bank row n) s) fun t =>
      let old := (Map.get (fun _ => []) (bank * 4096 + row) s.mem.rowErrs).filter fun a => decide (s.now < a + ms 3600000)
      t.mem.sramC = satInc 16 s.mem.sramC n ∧
      (min n 3 + old.length < 3 ∨ 32 ≤ s.mem.rows.getD bank 0 →
        t = { s with mem := { s.mem with sramC := t.mem.sramC, rowErrs := t.mem.rowErrs } }) ∧
      (3 ≤ min n 3 + old.length → s.mem.rows.getD bank 0 < 32 →
        t.mem.rows.getD bank 0 = s.mem.rows.getD bank 0 + 1 ∧ (∀ b, b ≠ bank → t.mem.rows.getD b 0 = s.mem.rows.getD b 0) ∧
        (∀ h, h < 4 → bitAt (t.ev.flags h 0xF8) 1 = true) ∧
        t = { s with mem := t.mem, modes := { s.modes with hist := t.modes.hist }, ev := t.ev, reco := t.reco })) ∧
  (∀ (s : State) (n : Nat), s.live = true →
    Gives (exec (.dramScrub n) s) fun t => t = { s with mem := { s.mem with dramC := satInc 16 s.mem.dramC n } }) ∧
  (∀ (s : State) (loc a : Nat) (addr : Word), s.Canon → s.live = true → loc < 8 →
    Gives (exec (.uncorrectableError loc a addr) s) fun t =>
      t.mem.ue = (if loc = 4 then wd (0x8000000 + a / 4 * 4)
        else if loc = 5 then wd (0x8000000 + (s.hw a).base + 64 * (s.hw a).head) else addr) ∧ t.mem.sramU = (if loc < 3 then satInc 16 s.mem.sramU 1 else s.mem.sramU) ∧
      t.mem.dramU = (if loc < 3 then s.mem.dramU else satInc 16 s.mem.dramU 1) ∧
      (loc = 2 ∨ loc = 4 → ∀ h, h < 4 → bitAt (t.ev.flags h 0xF8) 0 = true) ∧
      (loc = 2 → a < 0x8000000 →
        t.win (a / 0x2000000) (pageOf (a % 0x2000000 / 4 * 4) * 0x1000 + 0x28) = wd Status.internal.code ∧
        t = { s with mem := t.mem, ev := t.ev, reco := t.reco, regs := t.regs, hosts := t.hosts } ∧
        t.reg (a % 0x2000000 / 4 * 4) = resetWord (a % 0x2000000 / 4 * 4) ∧
        ∀ o, o ≠ a % 0x2000000 / 4 * 4 → t.reg o = s.reg o) ∧
      (loc = 4 → OnlyEvents { s with mem := t.mem } t ∧
        (a < 0x2000000 → t.spaceRead (a / 4 * 4) = 0xFFFFFFFF#32)) ∧
      (loc = 3 → a < s.reco.frames.length → t.reco.frames = s.reco.frames.eraseIdx a ∧ t.ev = s.ev) ∧
      (loc = 5 → s.canRun a (s.opcodeAt a) 0 = true → s.ev.rings.length = 64 → AnsweredWith s t a .internal []) ∧
      (loc = 7 → t.mem.dramFail = true ∧ (s.mem.dramFail = false → (∀ n, (t.hw n).en = false) ∧ t.reco.held = [] ∧ t.reco.opened = none))) ∧
  (∀ (s : State) (loc off : Nat) (x xn : Word), s.Canon → s.live = true → loc < 5 →
    Gives (exec (.complementScan loc off x xn) s) fun t =>
      (xn = ~~~ x → t = s) ∧
      (xn ≠ ~~~ x → loc < 2 → s.gaf.engines.length = 2 → (s.engine loc).inStep = true → (s.engine loc).flag = false →
        (s.engine loc).mute = false → (s.engine loc).cut = false → (t.engine loc).flag = true ∧ (t.engine loc).cause = 1) ∧
      (xn ≠ ~~~ x → loc = 2 → t.saf.latch.testBit lChannel = true) ∧
      (xn ≠ ~~~ x → loc = 3 → (off, (x, xn)) ∈ t.mem.corrupt ∧
        t = { s with mem := { s.mem with corrupt := t.mem.corrupt }, ev := t.ev, reco := t.reco }) ∧
      (xn ≠ ~~~ x → loc = 4 → OnlyEvents s t))

/-- Configuration images (R401, R402): a command that is accepted starts its operation, WRITE and ERASE emptying the slot;
its end stores the verified image, leaves an erased slot empty, performs the writes of a parameter image in order up to the
first refusal (each accepted write on the state the one before it leaves; the index and status of the refused one are
recorded, and the writes before it stand), or selects a network image's string sets, and records the status. The apply at
boot does the same with every claim, and leaves claims and pending words as they were. The status INTERNAL of a failed flash
die is the model's choice (log entry 98), and so is what the apply at boot leaves of claims and pending words (log entry
174). -/
def Obligations.ConfigurationImagesRun : Prop :=
  (∀ (s : State) (h k : Nat), s.Canon → k < 8 → s.mem.ci.length = 8 → s.mem.ciOp = none →
    s.pends h A.MEM_CI_CMD mStop (wd (1 + 0x10 * k)) = true →
    Gives (exec (.ciWrite h k) s) fun t =>
      t.mem.ciOp = some (1, k, h, s.ev.read (s.reg A.MEM_CI_BUF).toNat (s.reg A.MEM_CI_LEN).toNat) ∧
      (t.ciSlot k).valid = false ∧ (∀ j, j ≠ k → t.ciSlot j = s.ciSlot j) ∧
      t = { s with regs := t.regs, mem := t.mem, hosts := t.hosts }) ∧
  (∀ (s : State) (h k : Nat), s.Canon → k < 8 → s.mem.ci.length = 8 → s.mem.ciOp = none →
    s.pends h A.MEM_CI_CMD mBase (wd (2 + 0x10 * k)) = true →
    Gives (exec (.ciApply h k) s) fun t =>
      t.mem.ciOp = some (2, k, h, []) ∧ t.mem.ci = s.mem.ci ∧ t = { s with regs := t.regs, mem := t.mem, hosts := t.hosts }) ∧
  (∀ (s : State) (h k : Nat), s.Canon → k < 8 → s.mem.ci.length = 8 → s.mem.ciOp = none →
    s.pends h A.MEM_CI_CMD mStop (wd (3 + 0x10 * k)) = true →
    Gives (exec (.ciErase h k) s) fun t =>
      t.mem.ciOp = some (3, k, h, []) ∧ (t.ciSlot k).valid = false ∧ (∀ j, j ≠ k → t.ciSlot j = s.ciSlot j) ∧
      t = { s with regs := t.regs, mem := t.mem, hosts := t.hosts }) ∧
  (∀ (s : State) (v g : Bool) (k h : Nat) (b : List Byte), s.Canon → s.live = true → k < 8 → s.mem.ci.length = 8 →
    s.mem.ciOp = some (1, k, h, b) →
    Gives (exec (.ciOperationEnd v g) s) fun t =>
      t.mem.ciOp = none ∧ (∀ i, i < 4 → bitAt (t.ev.flags i 0xF8) 2 = true) ∧ (∀ j, j ≠ k → t.ciSlot j = s.ciSlot j) ∧
      (s.mem.flashFail = false → v = true → (s.lcy.state = .field → g = true) →
        t.mem.ciLast = .ok ∧ (t.ciSlot k).valid = true ∧ (t.ciSlot k).bytes = b ∧
        (t.ciSlot k).type = if Config.imageIsNetwork b then 2 else 1) ∧
      (s.mem.flashFail = false → v = false → t.mem.ciLast = .badArg ∧ t.ciSlot k = s.ciSlot k) ∧
      (s.mem.flashFail = false → v = true → s.lcy.state = .field → g = false →
        t.mem.ciLast = .lifecycle ∧ t.ciSlot k = s.ciSlot k)) ∧
  (∀ (s : State) (v g : Bool) (k h : Nat) (b : List Byte), s.live = true → s.mem.ciOp = some (2, k, h, b) →
    Gives (exec (.ciOperationEnd v g) s) fun t =>
      (s.mem.flashFail = true → t.mem.ciLast = .internal ∧ t.regs = s.regs) ∧
      (s.mem.flashFail = false → (s.ciSlot k).valid = false → t.mem.ciLast = .badArg ∧ t.regs = s.regs) ∧
      (s.mem.flashFail = false → (s.ciSlot k).valid = true → (s.ciSlot k).type = 2 → t.mem.ciLast = .ok ∧ t.regs = s.regs ∧ t.net.stringsNext.isSome = true) ∧
      (s.mem.flashFail = false → (s.ciSlot k).valid = true → (s.ciSlot k).type ≠ 2 →
        (∀ u, s.Performed h (ciRecords (s.ciSlot k).bytes) u →
          t = (u.modMem fun m => { m with ciOp := none, ciLast := .ok, ciFail := 0 }).event 0xF8 2 0xFFFF [0]) ∧
        (∀ done o w rest u, ciRecords (s.ciSlot k).bytes = done ++ (o, w) :: rest → s.Performed h done u →
          (u.hostWrite h o w).2 ≠ .ok →
          t = ((u.hostWrite h o w).1.modMem fun m =>
              { m with ciOp := none, ciLast := (u.hostWrite h o w).2, ciFail := done.length }).event 0xF8 2 0xFFFF
                [(u.hostWrite h o w).2.code]))) ∧
  (∀ (s : State) (v g : Bool) (k h : Nat) (b : List Byte), s.live = true → s.mem.ciOp = some (3, k, h, b) →
    s.mem.flashFail = false →
    Gives (exec (.ciOperationEnd v g) s) fun t =>
      t = (s.modMem fun m => { m with ciOp := none, ciLast := .ok, ciFail := 0 }).event 0xF8 2 0xFFFF [0]) ∧
  (∀ s : State, s.live = true → s.mem.bootPend = true → s.allReady = true →
    Gives (exec .bootApply s) fun t =>
      t.mem.bootPend = false ∧ t.hosts.claims = s.hosts.claims ∧ t.hosts.holder = s.hosts.holder ∧
      (s.mem.flashFail = true → t.mem.ciLast = .internal ∧ t.regs = s.regs) ∧
      (s.mem.flashFail = false → (s.ciSlot (fld (s.reg A.MEM_CI_BOOT) 0 4)).valid = false ∨ s.mem.bootVoid = true →
        t.mem.ciLast = .ok ∧ t.regs = s.regs) ∧
      (s.mem.flashFail = false → s.mem.bootVoid = false → (s.ciSlot (fld (s.reg A.MEM_CI_BOOT) 0 4)).valid = true → (s.ciSlot (fld (s.reg A.MEM_CI_BOOT) 0 4)).type = 2 →
        t.mem.ciLast = .ok ∧ t.regs = s.regs ∧ t.net.stringsNext.isSome = true) ∧
      (s.mem.flashFail = false → s.mem.bootVoid = false → (s.ciSlot (fld (s.reg A.MEM_CI_BOOT) 0 4)).valid = true →
        (s.ciSlot (fld (s.reg A.MEM_CI_BOOT) 0 4)).type ≠ 2 →
        let b := { s with hosts := { s.hosts with claims := allClaims } }
        let image := ciRecords (s.ciSlot (fld (s.reg A.MEM_CI_BOOT) 0 4)).bytes
        let left := fun (u : State) (st : Status) (n : Nat) =>
          { u with hosts := { u.hosts with claims := s.hosts.claims, holder := s.hosts.holder, upper := s.hosts.upper,
                                           staging := s.hosts.staging, win := s.hosts.win },
                   mem := { u.mem with bootPend := false, ciLast := st, ciFail := n } }
        (∀ u, b.Performed 0 image u → t = left u .ok 0) ∧
        (∀ done o w rest u, image = done ++ (o, w) :: rest → b.Performed 0 done u → (u.hostWrite 0 o w).2 ≠ .ok →
          t = left (u.hostWrite 0 o w).1 (u.hostWrite 0 o w).2 done.length)))

/-- Lifecycle changes and dies (R42, R43, R404, R405, R449): a legal change starts the wipe and erases the sentinel's log to
its one LIFECYCLE entry; the wipe's end sets the new state, keeps the key fuses, empties the log and resets the device; a
failed analog die is cause ANALOG, a failed flash die is remembered. -/
def Obligations.LifecycleAndDies : Prop :=
  (∀ (s : State) (h k : Nat), k < 4 → s.pends h A.LCY_CMD mService (wd k) = true → s.lcyLegal (lifecycleOf k) = true →
    (s.lcy.state = .blank → ∃ o ∈ keyFuses, s.reg o ≠ 0#32) →
    Gives (exec (.lifecycleChange h k) s) fun t =>
      t.lcy = { s.lcy with target := some (lifecycleOf k), wipe := 0 } ∧
      (s.sen.alive = true → t.sen.log.map (fun p => p.1) = [0] ∧ t.sen.next = 1 ∧ t.sen.gapFrom = 0 ∧ t.sen.gapTo = 0) ∧
      (s.sen.alive = false → t.sen = s.sen) ∧
      t = { s with regs := t.regs, lcy := t.lcy, sen := t.sen, ev := t.ev, reco := t.reco, hosts := t.hosts, mem := t.mem }) ∧
  (∀ (s : State) (k : Lifecycle), s.Canon → s.pwr.dark = false → s.lcy.target = some k →
    Gives (exec .lifecycleWipeEnd s) fun t =>
      t.lcy = { state := k, target := none, wipe := 0,
                cycles := if s.lcy.state = .returned then min (s.lcy.cycles + 1) 3 else s.lcy.cycles } ∧
      t.pwr.held = true ∧ t.pwr.count = 0 ∧ t.pwr.cause.testBit 6 = true ∧ t.modes.cur = .wake ∧ t.ev.log.entries = [] ∧
      (∀ o ∈ keyFuses, t.reg o = s.reg o) ∧ t.rti.store = [] ∧ t.bpt.hist = [] ∧ t.gaf.slots = s.gaf.slots ∧
      t.pending = s.pending) ∧
  (∀ s : State, s.live = true →
    Gives (exec .analogDieFault s) fun t =>
      t.modes.cond.testBit cAnalog = true ∧ (s.modes.cond.testBit cAnalog = false → t.modes.latch.testBit cAnalog = true) ∧
      (s.modes.cond.testBit cAnalog = false → s.modes.latch.testBit cAnalog = false → s.modes.cur ≠ .hold →
        s.modes.cur ≠ .service → t.modes.next = some .hold ∧ t.modes.tgt = .hold ∧ ∀ g, g < 4 → (t.group g).cmd = false) ∧
      t.regs = s.regs) ∧
  (∀ s : State, s.pwr.dark = false →
    Gives (exec .flashDieFault s) fun t => t = { s with mem := { s.mem with flashFail := true } })

/-- The rails start, fail and latch (R411, R417 to R419, R450, R451): the auxiliary input and a restart begin the soft start
of RC_0 and RC_1 in reset, each rail's power good starts the next in order, a core rail without power good is a reset, the
auxiliary input's fall and a latch, whose condition is met, stop every channel and leave the device dark. That RAIL_LASTOFF
stands through the loss of the auxiliary input is the model's reading (log entry 178). -/
def Obligations.RailsStartAndStop : Prop :=
  (∀ (s : State) (r : Bool), s.rail.aux = false → s.rail.ch.length = 4 →
    Gives (exec (.auxRise r) s) fun t =>
      t.rail.aux = true ∧ t.rail.rc3sel = some r ∧ t.rail.latch = none ∧ (t.railCh 0).st = .soft ∧ (t.railCh 1).st = .soft ∧
      (t.railCh 2).st = .off ∧ (t.railCh 3).st = .off ∧ t.pwr.held = true ∧ t.pwr.dark = false ∧
      (s.pwr.dark = true → t.pwr.cause = 1) ∧ t.pwr.ir = 1 ∧ t.clk.good = [false, false]) ∧
  (∀ s : State, s.rail.aux = true → s.rail.ch.length = 4 →
    Gives (exec .auxFall s) fun t =>
      t.rail.aux = false ∧ t.rail.latch = none ∧ t.rail.rc3sel = none ∧ (∀ c, c < 4 → (t.railCh c).st = .off ∧ (t.railCh c).pg = false) ∧
      t.pwr.dark = true ∧ t.pwr.held = true ∧ t.rail.last = s.rail.last ∧ t.rail.lastValid = s.rail.latch.isSome) ∧
  (∀ (s : State) (c : Nat) (p : Bool), c < 4 → s.rail.ch.length = 4 → s.railOn = true → (s.railCh c).st = .soft →
    Gives (exec (.softStartEnd c p) s) fun t =>
      (t.railCh c).st = .on ∧ (t.railCh c).preb = p ∧ (t.railCh c).vFrom = (s.railCh c).vTgt ∧
      t.clock = (s.advance ((s.railCh c).vAt + ms 2)).clock ∧ (∀ d, d ∉ railOf c → t.railCh d = s.railCh d) ∧
      t = { s.advance ((s.railCh c).vAt + ms 2) with rail := { s.rail with ch := t.rail.ch } }) ∧
  (∀ (s : State) (c : Nat), c < 4 → s.rail.ch.length = 4 → s.railOn = true → (s.railCh c).st = .on → (s.railCh c).pg = false →
    Gives (exec (.railPowerGood c) s) fun t =>
      (t.railCh c).pg = true ∧ (c < 3 → t.pwr.sources.testBit (if c < 2 then 2 else 3) = false) ∧
      (c < 2 → (s.railCh 2).st = .off → (t.railCh 2).st = .soft) ∧ (c = 2 → (s.railCh 3).st = .off → (t.railCh 3).st = .soft) ∧
      t = { s with rail := { s.rail with ch := t.rail.ch }, pwr := { s.pwr with sources := t.pwr.sources } }) ∧
  (∀ (s : State) (c : Nat), c < 3 → s.rail.ch.length = 4 → s.railOn = true → (s.railCh c).st = .on → (s.railCh c).pg = true →
    Gives (exec (.coreRailPgLoss c) s) fun t =>
      (t.railCh c).pg = false ∧ t.pwr.held = true ∧ t.pwr.sources.testBit (if c < 2 then 2 else 3) = true ∧
      t.pwr.cause.testBit (if c < 2 then 2 else 3) = true ∧ t.live = false) ∧
  (∀ s : State, s.Canon → s.rail.ch.length = 4 → s.railOn = true → (s.railCh 3).st = .on → (s.railCh 3).pg = true →
    Gives (exec .pgLost s) fun t =>
      t.railCh 3 = { s.railCh 3 with pg := false } ∧ (∀ c, c ≠ 3 → t.railCh c = s.railCh c) ∧
      (∀ h, h < 4 → bitAt (t.ev.flags h 0x11) 1 = true) ∧
      t = { s with rail := { s.rail with ch := t.rail.ch }, ev := t.ev, reco := t.reco }) ∧
  (∀ (s : State) (c k : Nat), s.rail.ch.length = 4 → s.latchDue c k = true →
    Gives (exec (.railLatch c k) s) fun t =>
      (∀ a, k = 4 → (s.railCh c).pgDue = some a → t.clock.mono = (s.advance (a + ms 5)).clock.mono) ∧
      t.rail.latch = some (c, k) ∧ t.rail.last = some (c, k) ∧ (∀ d, d < 4 → (t.railCh d).st = .off) ∧ t.pwr.dark = true ∧
      t.live = false) ∧
  (∀ s : State, s.rail.aux = true → s.rail.latch.isSome = true → s.rail.ch.length = 4 →
    Gives (exec .railEnRestart s) fun t =>
      t.rail.latch = none ∧ t.rail.last = s.rail.last ∧ t.rail.lastValid = true ∧ (t.railCh 0).st = .soft ∧
      (t.railCh 1).st = .soft ∧ t.pwr.dark = false ∧ t.pwr.held = true)

/-- Protection of a channel (R413 to R416, R418): limits and under-voltages mark the channel alone, the thirty-second
limited cycle in succession latches the rails off, a cycle whose bootstrap falls is not counted as limited, and the start of
a switching cycle shows what the last one met and leaves burst mode where that was due. Voltage commands, burst mode and the
synchronised clock (R412, R420 to R422): an accepted command moves its rail's reference from where it stands, burst is
entered only where permitted for every channel of the rail (log entry 219) and with power good, a command or an exit ends it
at the next cycle start, and a clock that is followed or lost is taken over 64 cycles. That the first validity of RAIL_SYNC
raises no SYNC_BACK is the model's choice (log entry 223). -/
def Obligations.RailsProtectAndFollowCommands : Prop :=
  (∀ (s : State) (c : Nat), s.rail.ch.length = 4 → s.chRuns c = true → (s.railCh c).bstuv = false → (s.railCh c).ilimNow = false →
    Gives (exec (.currentLimit c) s) fun t =>
      ((s.railCh c).consec < 31 →
        t.railCh c = { s.railCh c with ilimNow := true, consec := (s.railCh c).consec + 1, cntI := satInc 16 (s.railCh c).cntI 1 } ∧
        (∀ d, d ≠ c → t.railCh d = s.railCh d) ∧ t = { s with rail := { s.rail with ch := t.rail.ch } }) ∧
      (31 ≤ (s.railCh c).consec → t.rail.latch = some (c, 1) ∧ ∀ d, d < 4 → (t.railCh d).st = .off)) ∧
  (∀ (s : State) (c : Nat), s.rail.ch.length = 4 → s.chRuns c = true →
    Gives (exec (.reverseCurrentLimit c) s) fun t =>
      t.railCh c = { s.railCh c with negcNow := true } ∧ (∀ d, d ≠ c → t.railCh d = s.railCh d) ∧
      t = { s with rail := { s.rail with ch := t.rail.ch } }) ∧
  (∀ (s : State) (c : Nat), s.Canon → s.rail.ch.length = 4 → s.chRuns c = true → (s.railCh c).bstuv = false →
    Gives (exec (.bstuv c) s) fun t =>
      t.railCh c = { s.railCh c with
        bstuv := true, bstOk := false, cntB := satInc 16 (s.railCh c).cntB 1,
        consec := if (s.railCh c).ilimNow = true then (s.railCh c).consec - 1 else (s.railCh c).consec,
        cntI := if (s.railCh c).ilimNow = true then (s.railCh c).cntI - 1 else (s.railCh c).cntI } ∧
      (∀ d, d ≠ c → t.railCh d = s.railCh d) ∧ (s.live = true → ∀ h, h < 4 → bitAt (t.ev.flags h 0x11) 0 = true) ∧
      t = { s with rail := { s.rail with ch := t.rail.ch }, ev := t.ev, reco := t.reco }) ∧
  (∀ (s : State) (c : Nat), s.rail.ch.length = 4 → s.chRuns c = true → (s.railCh c).bstuv = true →
    Gives (exec (.bootstrapRecover c) s) fun t =>
      t.railCh c = { s.railCh c with bstOk := true } ∧ (∀ d, d ≠ c → t.railCh d = s.railCh d) ∧
      t = { s with rail := { s.rail with ch := t.rail.ch } }) ∧
  (∀ (s : State) (c : Nat) (a : Bool), s.Canon → s.rail.ch.length = 4 → s.chRuns c = true → (s.railCh c).ov ≠ a →
    Gives (exec (.outputOvervoltage c a) s) fun t =>
      t.railCh c = { s.railCh c with ov := a } ∧ (∀ d, d ≠ c → t.railCh d = s.railCh d) ∧
      (a = true → s.live = true → ∀ h, h < 4 → bitAt (t.ev.flags h 0x11) 5 = true) ∧
      t = { s with rail := { s.rail with ch := t.rail.ch }, ev := t.ev, reco := t.reco }) ∧
  (∀ (s : State) (c : Nat) (l : Bool), s.rail.ch.length = 4 → s.chRuns c = true →
    Gives (exec (.driverSupplyUv c l) s) fun t =>
      t.railCh c = { s.railCh c with drvuv := l } ∧ (∀ d, d ≠ c → t.railCh d = s.railCh d) ∧
      t = { s with rail := { s.rail with ch := t.rail.ch } }) ∧
  (∀ (s : State) (c : Nat) (p e : Bool), s.rail.ch.length = 4 → s.chRuns c = true →
    Gives (exec (.switchingCycle c true p e) s) fun t =>
      let q := s.railCh c
      (t.railCh c).ilim = q.ilimNow ∧ (t.railCh c).negc = q.negcNow ∧ (t.railCh c).ilimNow = false ∧ (t.railCh c).negcNow = false ∧
      (t.railCh c).bstuv = (q.bstuv && !q.bstOk) ∧ (t.railCh c).limit = fld (s.chCfg c) 16 8 ∧ (t.railCh c).phase = s.phaseOf c ∧
      ((t.railCh c).consec = if q.bstuv = true ∨ q.ilimNow = true then q.consec else 0) ∧ (t.railCh c).vTgt = q.vTgt ∧
      (t.railCh c).pulse = p ∧ (t.railCh c).enable = e ∧
      (q.ov = false → q.drvuv = false → (q.bstuv = false ∨ q.bstOk = true) → t.railSwitches c = (e && p, e && !p)) ∧
      (∀ d, d ∉ railOf c → t.railCh d = s.railCh d) ∧
      (s.rail.burstEnds.contains c = true → (∀ d ∈ railOf c, (t.railCh d).burst = false) ∧
        (s.rail.lossPend = true → t.rail.lossPend = false ∧ t.rail.wasLost = true ∧
          (s.Canon → ∀ h, h < 4 → bitAt (t.ev.flags h 0x11) 2 = true))) ∧
      (s.rail.burstEnds.contains c = false → (∀ d, d ≠ c → t.railCh d = s.railCh d) ∧ (t.railCh c).burst = q.burst ∧
        (c ≠ 0 → t = { s with rail := { s.rail with ch := t.rail.ch } }) ∧
        (c = 0 → s.rail.follow = true → s.syncEn = false → t.rail.follow = false ∧ t.rail.kHz = s.fsw ∧ t.rail.move = 0) ∧
        (c = 0 → s.rail.follow = false → s.syncEn = true → s.rail.sync.isSome = true → t.rail.follow = true ∧ t.rail.move = 64) ∧
        (c = 0 → s.rail.follow = false → s.rail.sync = none → s.rail.move = 0 → t.rail.kHz = s.fsw))) ∧
  (∀ (s : State) (c : Nat) (p e : Bool), s.rail.ch.length = 4 → s.chRuns c = true →
    Gives (exec (.switchingCycle c false p e) s) fun t =>
      t.railCh c = { s.railCh c with pulse := p, enable := e } ∧ (∀ d, d ≠ c → t.railCh d = s.railCh d) ∧
      (e = false → t.railSwitches c = (false, false)) ∧
      ((s.railCh c).ilimNow = false → (s.railCh c).negcNow = false → (s.railCh c).bstuv = false → (s.railCh c).ov = false →
        (s.railCh c).drvuv = false → t.railSwitches c = (e && p, e && !p)) ∧
      t = { s with rail := { s.rail with ch := t.rail.ch } }) ∧
  (∀ (s : State) (c : Nat), s.railSwitches c ≠ (true, true) ∧ (s.chRuns c = false → s.railSwitches c = (false, false))) ∧
  (∀ (s : State) (h c : Nat) (v : Word), s.Canon → c < 4 → s.rail.ch.length = 4 → s.pends h (A.RAIL_VSET c) mStop v = true →
    s.vsetOk c v = true →
    Gives (exec (.voltageCommand h c v) s) fun t =>
      t.reg (A.RAIL_VSET c) = v ∧ (∀ o, o ≠ A.RAIL_VSET c → t.reg o = s.reg o) ∧
      (t.railCh c).vFrom = (s.railCh c).vNow s.now ∧ (t.railCh c).vAt = s.now ∧ (t.railCh c).vTgt = 1000 * v.toNat ∧
      (t.railCh c).slew = s.slewOf c ∧ (t.railCh c).burst = (s.railCh c).burst ∧ (∀ d, d ∉ railOf c → t.railCh d = s.railCh d) ∧
      ((s.railCh c).burst = true → ∀ d ∈ railOf c, d ∈ t.rail.burstEnds) ∧
      t = { s with regs := t.regs, rail := { s.rail with ch := t.rail.ch, burstEnds := t.rail.burstEnds }, hosts := t.hosts,
                   mem := t.mem }) ∧
  (∀ (s : State) (c : Nat), s.rail.ch.length = 4 → s.chRuns c = true → (s.railCh c).pg = true →
    (∀ d ∈ railOf c, bitAt (s.chCfg d) 4 = true) →
    Gives (exec (.burstEntry c) s) fun t =>
      (∀ d ∈ railOf c, t.railCh d = { s.railCh d with burst := true }) ∧ (∀ d, d ∉ railOf c → t.railCh d = s.railCh d) ∧
      t = { s with rail := { s.rail with ch := t.rail.ch } }) ∧
  (∀ (s : State) (c : Nat), s.Canon → c < 4 → s.rail.ch.length = 4 → (s.railCh c).burst = true →
    Gives (exec (.burstExit c) s) fun t =>
      (∀ d ∈ railOf c, d ∈ t.rail.burstEnds) ∧ (∀ d ∈ s.rail.burstEnds, d ∈ t.rail.burstEnds) ∧
      t = { s with rail := { s.rail with burstEnds := t.rail.burstEnds } }) ∧
  (∀ (s : State) (k : Nat), s.Canon → s.railOn = true → 400 ≤ k → k ≤ 2200 →
    Gives (exec (.railSyncValid k) s) fun t =>
      t.rail.sync = some k ∧ t.rail.ch = s.rail.ch ∧
      (s.syncEn = true → s.rail.follow = false → t.rail.follow = true ∧ t.rail.move = 64 ∧ t.rail.goal = k ∧
        (s.rail.wasLost = true → ∀ h, h < 4 → bitAt (t.ev.flags h 0x11) 3 = true) ∧ (s.rail.wasLost = false → t.ev = s.ev)) ∧
      t.rail.lossPend = false ∧ t.rail.wasLost = false ∧
      (s.rail.follow = true → t.rail.follow = true ∧ t.rail.goal = k) ∧
      (s.syncEn = false → s.rail.follow = false → t = { s with rail := { s.rail with sync := some k, lossPend := false, wasLost := false } })) ∧
  (∀ s : State, s.Canon → s.railOn = true → s.rail.sync.isSome = true →
    Gives (exec .railSyncLost s) fun t =>
      t.rail.sync = none ∧ t.rail.ch = s.rail.ch ∧
      (s.rail.follow = false → t = { s with rail := { s.rail with sync := none } }) ∧
      (s.rail.follow = true → (∃ q ∈ s.rail.ch, q.burst = false) → t.rail.follow = false ∧ t.rail.move = 64 ∧ t.rail.goal = s.fsw ∧
        t.rail.wasLost = true ∧ ∀ h, h < 4 → bitAt (t.ev.flags h 0x11) 2 = true) ∧
      (s.rail.follow = true → (∀ q ∈ s.rail.ch, q.burst = true) →
        t = { s with rail := { s.rail with sync := none, lossPend := true } }))

/-- References (R426, R430): a reference that becomes good ends holdover and is selected where the one in use is not good,
the loss of the one in use is holdover until another is selected, ten milliseconds without one are cause CLOCK, and PREF
returns where REVERT says so. That the pool reads substituted when a fabric loop is lost, and what ends its retry are the
model's choices (log entries 95, 197). Loops (R428, R429, R431): a loop that declares lock is noted and may end cause CLOCK,
a loop is lost by the fast monitor or by a window that does not fit outside holdover: an engine loop is counted and stops
its engine, the fabric loop in use is taken over by its locked twin, without one the device is in reset; a retry restores
the twin or exhausts it; a port whose delay-locked line is lost goes down. -/
def Obligations.ClocksAreSelectedAndLock : Prop :=
  (∀ (s : State) (r : Nat), s.clkOn = true → r < 2 → s.clk.good.length = 2 → s.clk.goodAt.length = 2 →
    Gives (exec (.referenceGood r) s) fun t =>
      t.clk.good.getD r false = true ∧ t.clk.goodAt.getD r 0 = s.now ∧
      (∀ k, k ≠ r → t.clk.good.getD k false = s.clk.good.getD k false) ∧
      (s.clk.hold.isSome = true → t.clk.use = r ∧ t.clk.hold = none) ∧
      (s.clk.hold = none → s.clk.good.getD s.clk.use false = false → t.clk.use = r) ∧
      (s.clk.hold = none → s.clk.good.getD s.clk.use false = true → s.pwr.held = false → t.clk.use = s.clk.use) ∧
      t = { s with clk := t.clk }) ∧
  (∀ (s : State) (r : Nat), s.Canon → s.clkOn = true → r < 2 → s.clk.good.length = 2 → s.clk.good.getD r false = true →
    Gives (exec (.referenceLost r) s) fun t =>
      t.clk.good.getD r false = false ∧ t.clk.refLoss = satInc 8 s.clk.refLoss 1 ∧
      (∀ k, k ≠ r → t.clk.good.getD k false = s.clk.good.getD k false) ∧
      (s.live = true → ∀ h, h < 4 → bitAt (t.ev.flags h 0x10) 0 = true) ∧
      (r ≠ s.clk.use → t.clk.use = s.clk.use ∧ t.clk.hold = s.clk.hold) ∧
      (r = s.clk.use → s.clk.hold = none → s.clk.good.getD (1 - r) false = false → t.clk.hold = some s.now ∧ t.clk.use = r) ∧
      (r = s.clk.use → s.clk.hold = none → s.clk.good.getD (1 - r) false = true → t.clk.hold = none ∧ t.clk.use = 1 - r) ∧
      t = { s with clk := t.clk, ev := t.ev, reco := t.reco }) ∧
  (∀ (s : State) (a : Nat), s.clkOn = true → s.live = true → s.clk.hold = some a →
    Gives (exec .holdoverTimeout s) fun t =>
      t.clock = (s.advance (a + ms 10)).clock ∧ t.modes.cond.testBit cClock = true ∧
      (s.modes.cond.testBit cClock = false → t.modes.latch.testBit cClock = true) ∧ t.clk = s.clk) ∧
  (∀ s : State, s.clkOn = true → bitAt (s.reg A.CLK_REFCFG) 1 = true → s.clk.use ≠ s.prefRef → s.clk.hold = none →
    s.clk.good.getD s.prefRef false = true →
    Gives (exec .referenceRevert s) fun t =>
      t = { s.advance (s.clk.goodAt.getD s.prefRef 0 + ms 10000) with clk := { s.clk with use := s.prefRef } }) ∧
  (∀ (s : State) (x : Int), s.Canon → s.clkOn = true →
    Gives (exec (.refDisagree x) s) fun t =>
      t.clk = { s.clk with refDiff := x } ∧ OnlyEvents { s with clk := t.clk } t ∧
      (x.natAbs ≤ 1000 → t = { s with clk := t.clk }) ∧
      ((∀ g ∈ s.clk.good, g = true) → 1000 < x.natAbs → s.live = true → ∀ h, h < 4 → bitAt (t.ev.flags h 0x10) 5 = true)) ∧
  (∀ (s : State) (l n : Nat), s.lockFits l n = false → Gives (exec (.loopLock l n) s) fun t => t = s) ∧
  (∀ (s : State) (l n : Nat), s.lockFits l n = true → s.clk.lock.length = 4 → s.clk.counts.length = 4 →
    Gives (exec (.loopLock l n) s) fun t =>
      t.clk.lock.getD l false = true ∧ t.clk.counts.getD l 0 = n % 65536 ∧ t.clk.relock.testBit l = false ∧
      (∀ k, k ≠ l → t.clk.lock.getD k false = s.clk.lock.getD k false) ∧ (2 ≤ l → t.pwr.sources.testBit 4 = false) ∧
      (s.clk.good.getD s.clk.use false = true → s.clk.hold = none → t.clk.relock &&& s.loopsUsed = 0 →
        t.modes.cond.testBit cClock = false) ∧
      ((t.engine l).clkBk = if l < 2 ∧ (s.engine l).joins = true then false else (s.engine l).clkBk) ∧
      (l = 3 - s.clk.fab → s.clk.retry = true → t.clk.retry = false ∧ t.clk.pool = .idle) ∧
      t = { s with clk := t.clk, pwr := { s.pwr with sources := t.pwr.sources }, gaf := { s.gaf with engines := t.gaf.engines },
                   modes := { s.modes with cond := t.modes.cond, hist := t.modes.hist } }) ∧
  (∀ (s : State) (l n : Nat) (fast : Bool), s.Canon → s.lockGoes l n fast = true → s.clk.lock.length = 4 →
    s.clk.losses.length = 2 → s.gaf.engines.length = 2 → s.clk.fab < 2 →
    Gives (exec (.loopLockLoss l n fast) s) fun t =>
      (l < 2 → t.clk.lock.getD l true = false ∧ t.clk.losses.getD l 0 = satInc 8 (s.clk.losses.getD l 0) 1 ∧ (t.engine l).clkBk = true ∧
        (s.live = true → ∀ h, h < 4 → bitAt (t.ev.flags h 0x10) 3 = true)) ∧
      (2 ≤ l → l - 2 = s.clk.fab → s.clk.lock.getD (3 - s.clk.fab) false = true →
        t.clk.fab = 1 - s.clk.fab ∧ t.clk.takeovers = satInc 8 s.clk.takeovers 1 ∧ t.clk.retry = true ∧ t.clk.pool = .substituted ∧
        t.clk.lock.getD l true = false ∧ (s.live = true → ∀ h, h < 4 → bitAt (t.ev.flags h 0x10) 2 = true) ∧
        t = { s with clk := t.clk, ev := t.ev, reco := t.reco }) ∧
      (2 ≤ l → l - 2 = s.clk.fab → s.clk.lock.getD (3 - s.clk.fab) false = false →
        t.pwr.held = true ∧ t.pwr.sources.testBit 4 = true ∧ t.pwr.cause.testBit 4 = true ∧ t.live = false) ∧
      (2 ≤ l → l - 2 ≠ s.clk.fab → t.clk.retry = true ∧ t.clk.fab = s.clk.fab ∧ t.clk.pool = .substituted ∧
        t.clk.lock.getD l true = false ∧
        t = { s with clk := t.clk, ev := t.ev, reco := t.reco })) ∧
  (∀ (s : State) (b : Bool), s.clkOn = true → s.clk.retry = true → s.clk.lock.length = 4 → s.clk.fab < 2 →
    Gives (exec (.fabricRetryEnd b) s) fun t =>
      t.clk.retry = false ∧ (b = true → t.clk.pool = .idle ∧ t.clk.lock.getD (3 - s.clk.fab) false = true) ∧
      (b = false → t.clk.pool = .exhausted ∧ t.clk.lock = s.clk.lock ∧ s.clk.retryAt + ms 100 ≤ t.now) ∧ t.clk.fab = s.clk.fab ∧
      t = { s with clk := t.clk, modes := { s.modes with hist := t.modes.hist }, ev := t.ev, reco := t.reco,
                   clock := t.clock, sen := t.sen }) ∧
  (∀ (s : State) (p : Nat), s.Canon → s.live = true → p < 34 → (s.port p).dll = true →
    Gives (exec (.dllLost p) s) fun t =>
      (t.port p).dll = false ∧ (∀ h, h < 4 → bitAt (t.ev.flags h 0x10) 4 = true) ∧
      (∀ q, s.linePort p = some q → q < 34 → (t.port q).sync = false ∧ (t.port q).down = true ∧ (t.port q).los = (s.port q).los ∧
        (s.serves q < 32 → ∀ h, h < 4 → bitAt (t.ev.flags h (0x40 + s.serves q / 2)) (2 + s.serves q % 2) = true)) ∧
      (s.linePort p = none → OnlyEvents (s.modPort p fun q => { q with dll := false }) t))

/-- The sentinel's watch (R438, R449): a sample takes a new reading of every watched input and of no other, a reading that
repeats becomes its baseline and one seen once does not move it; a pending change confirmed moves the baseline and is
entered in the log, or waits for the end of a frame. The alert output (R441, R442): the oldest pending entry's frame starts
where it may and is refused below SEN_TX, a complete frame has been sent and its entry marked, an aborted one is counted and
not tried again for sixty seconds, the fourth in succession suspends sending. -/
def Obligations.SentinelWatchesAndAlerts : Prop :=
  (∀ (s : State) (no nc : BitVec 8) (tamp : BitVec 2) (i : Nat), s.sen.alive = true → s.sen.cand.length = 10 → i < 10 →
    Gives (exec (.sentinelSample no nc tamp) s) fun t =>
      let r := if i < 8 then (match sealRead (no.getLsbD i) (nc.getLsbD i) with | some v => b2n v | none => 2)
               else b2n (xor (tamp.getLsbD (i - 8)) ((fld (s.reg A.SEN_TAMP_CFG) 4 2).testBit (i - 8)))
      (s.senWatches i = false → t.sen.cand.getD i (0, 0) = s.sen.cand.getD i (0, 0) ∧ t.sen.base i = s.sen.base i) ∧
      (s.senWatches i = true → (t.sen.cand.getD i (0, 0)).1 = r) ∧
      (s.senWatches i = true → (s.sen.cand.getD i (0, 0)).1 = r → 0 < (s.sen.cand.getD i (0, 0)).2 → t.sen.base i = r) ∧
      (s.senWatches i = true → ((s.sen.cand.getD i (0, 0)).1 ≠ r ∨ (s.sen.cand.getD i (0, 0)).2 = 0) → t.sen.base i = s.sen.base i) ∧
      t = { s with sen := t.sen, ev := t.ev, reco := t.reco }) ∧
  (∀ (s : State) (i : Nat), s.sen.alive = true → s.sen.cand.length = 10 → s.senPending i = true →
    (s.sen.cand.getD i (0, 0)).1 ≤ (if i < 8 then 2 else 1) →
    Gives (exec (.sentinelReadingChange i) s) fun t =>
      t.sen.base i = (s.sen.cand.getD i (0, 0)).1 ∧ (∀ j, j < 10 → j ≠ i → t.sen.base j = s.sen.base j) ∧
      t.sen.unjudged.testBit i = false ∧
      (s.sen.frame = none → t.sen.next = (s.sen.next + 1) % 256 ∧ (t.sen.entry s.sen.next).isSome = true) ∧
      (s.sen.frame.isSome = true → t.sen.next = s.sen.next ∧ t.sen.waiting.length = s.sen.waiting.length + 1) ∧
      t = { s with sen := t.sen, ev := t.ev, reco := t.reco }) ∧
  (∀ (s : State) (i : Nat) (b : List Byte) (l : List (Nat × List Byte)), s.sen.alive = true → bitAt (s.reg A.SEN_CFG) 0 = true →
    s.sen.frame = none → s.sen.txSusp = false → s.sen.prot.testBit 3 = false → s.sen.retryAt = none →
    (s.rail.aux = true ∨ 2 ≤ s.sen.band) → s.alertsPending = (i, b) :: l →
    Gives (exec .alertFrameStart s) fun t =>
      (s.rail.aux = true ∨ 3700 ≤ s.sen.vcell → t.sen.frame = some { entry := i, start := s.now, bytes := s.alertBytes i b } ∧
        t.sen.refused = false) ∧
      (¬ (s.rail.aux = true ∨ 3700 ≤ s.sen.vcell) → s.sen.refused = false →
        t.sen.frame = none ∧ t.sen.refused = true ∧ t.sen.defer = satInc 8 s.sen.defer 1) ∧
      t = { s with sen := t.sen }) ∧
  (∀ (s : State) (f : AlertFrame), s.sen.alive = true → s.sen.frame = some f →
    Gives (exec .alertFrameComplete s) fun t =>
      t.clock = (s.advance (f.start + 20 * alertByte)).clock ∧ t.sen.aborts = 0 ∧ t.sen.waiting = [] ∧
      (s.sen.waiting = [] → t.ev = { s.ev with out := (f.bytes.map Out.alert).reverse ++ s.ev.out } ∧
        t.sen.log.map (fun p => p.1) = s.sen.log.map (fun p => p.1) ∧
        ∀ b, s.sen.entry f.entry = some b → t.sen.entry f.entry = some (clearMark 2 b))) ∧
  (∀ (s : State) (f : AlertFrame), s.Canon → s.sen.alive = true → s.rail.aux = false → s.sen.frame = some f →
    Gives (exec .alertFrameAbort s) fun t =>
      t.clock = (s.advance (f.start + min 20 ((s.now - f.start) / alertByte + 1) * alertByte)).clock ∧ t.sen.frame = none ∧
      t.sen.abort = satInc 8 s.sen.abort 1 ∧ t.sen.retryAt = some (t.now + ms 60000) ∧
      t.sen.txSusp = (s.sen.txSusp || decide (3 ≤ s.sen.aborts)) ∧
      t.sen.aborts = (if 3 ≤ s.sen.aborts then 0 else s.sen.aborts + 1) ∧
      (s.senOn = true → ∀ h, h < 4 → bitAt (t.ev.flags h 0x12) 2 = true)) ∧
  (∀ (s : State) (a : Nat), s.sen.alive = true → s.sen.retryAt = some a →
    Gives (exec .alertRetry s) fun t =>
      t.clock = (s.advance a).clock ∧ t.sen.retryAt = none ∧
      (s.rail.aux = false → s.sen.vcell < 3700 → t.sen.refused = true ∧ t.sen.frame = s.sen.frame) ∧
      (s.rail.aux = true → bitAt (s.reg A.SEN_CFG) 0 = true → s.sen.frame = none → s.sen.txSusp = false →
        s.sen.prot.testBit 3 = false → s.alertsPending ≠ [] → t.sen.frame.isSome = true))

/-- The sentinel's life (R435 to R437, R443, R445, R448, R449): stamps, the band of the cell and what a fall does, the
cell's protections, death, cold start, the handover, the tamper configuration, and the read that clears CELLFLT. -/
def Obligations.SentinelLives : Prop :=
  (∀ s : State, s.senWorks = true → s.sen.rtc ≤ s.sen.stampDue * ns →
    Gives (exec .aliveStamp s) fun t =>
      t.sen.rtc = s.sen.stampDue * ns ∧ t.sen.stamp = s.sen.stampDue ∧ t.sen.stampDue = s.sen.stampDue + 600000000000 ∧
      t.now = s.now + (s.sen.stampDue * ns - s.sen.rtc)) ∧
  (∀ (s : State) (v : Nat), s.sen.alive = true →
    Gives (exec (.bandChange v) s) fun t =>
      t.sen.vcell = min v 8191 ∧ t.sen.band = bandOf s.sen.band v ∧
      (s.rail.aux = false → v < 3000 → t.sen.alive = false) ∧ (s.rail.aux = true → t.sen.alive = true) ∧
      (s.rail.aux = false → 2 ≤ s.sen.band → bandOf s.sen.band v = 1 → t.sen.blind.isSome = true ∧ t.sen.alive = true) ∧
      (s.rail.aux = false → 2 ≤ bandOf s.sen.band v → t.sen.blind = none ∧ t.sen.alive = true)) ∧
  (∀ (s : State) (mid : Bool), s.sen.alive = true →
    Gives (exec (.cellCutoff mid) s) fun t =>
      t.sen.band = 0 ∧ t.sen.vcell = min s.sen.vcell 2999 ∧ t.sen.alive = s.rail.aux ∧ t.sen.next = s.sen.next ∧
      (s.rail.aux = true ∨ mid = false → t.sen.log = s.sen.log) ∧
      (s.rail.aux = false → mid = true → ∀ p ∈ t.sen.log, p.1 = (s.sen.next + 255) % 256 → torn p.2 = true) ∧
      t = { s with sen := t.sen }) ∧
  (∀ (s : State) (k : Nat), s.Canon → s.sen.alive = true → k < 4 → k ≠ 0 ∨ 4200 ≤ s.sen.vcell →
    Gives (exec (.cellProtection k) s) fun t =>
      t.sen.prot.testBit k = true ∧ (k < 2 → t.sen.cellFlt = true ∧ (s.senOn = true → ∀ h, h < 4 → bitAt (t.ev.flags h 0x12) 5 = true)) ∧
      (2 ≤ k → t.sen.cellFlt = s.sen.cellFlt ∧ t.ev = s.ev) ∧
      (k = 1 → t.sen.frame = none) ∧ (k = 0 ∨ k = 2 → t.sen.chg = false)) ∧
  (∀ (s : State) (k : Nat), s.sen.alive = true → k < 4 → s.sen.prot.testBit k = true →
    Gives (exec (.cellProtectionRelease k) s) fun t => t.sen.prot.testBit k = false ∧ t = { s with sen := t.sen }) ∧
  (∀ s : State, s.sen.alive = false → s.rail.aux = true →
    Gives (exec .sentinelColdStart s) fun t =>
      t.sen.alive = true ∧ t.sen.rtc = 0 ∧ t.sen.syncd = false ∧ t.sen.gap = true ∧ t.sen.gapFrom = s.sen.stamp ∧
      t.sen.band = bandOf 0 s.sen.vcell ∧ t.sen.torn = satInc 8 s.sen.torn (s.sen.log.filter fun p => torn p.2).length ∧
      (s.sen.frame = none → t.sen.next = (s.sen.next + 1) % 256)) ∧
  (∀ s : State, s.Canon → s.live = true → s.sen.alive = true → s.ready 4 = false →
    Gives (exec .sentinelHandover s) fun t =>
      t.ready 4 = true ∧ (∀ b, b ≠ 4 → t.ready b = s.ready b) ∧ t.sen.lostReport = false ∧
      (s.sen.lostReport = true → ∀ h, h < 4 → bitAt (t.ev.flags h 0x12) 4 = true)) ∧
  (∀ (s : State) (h : Nat) (v : Word) (r : Row), s.Canon → rowAt A.SEN_TAMP_CFG = some r → r.ok v = true →
    s.admits h 0x12 mService = true → s.sealClosed 3 = false →
    Gives (exec (.tamperConfigWrite h v) s) fun t =>
      t.reg A.SEN_TAMP_CFG = mergeWord 0x33#32 (s.reg A.SEN_TAMP_CFG) v ∧ (∀ o, o ≠ A.SEN_TAMP_CFG → t.reg o = s.reg o) ∧
      (t.reg A.SEN_TAMP_CFG = s.reg A.SEN_TAMP_CFG → t.sen = s.sen) ∧
      (s.sen.frame = none → bitAt (s.reg A.SEN_TAMP_CFG) 0 ≠ bitAt v 0 → bitAt (s.reg A.SEN_TAMP_CFG) 1 = bitAt v 1 →
        bitAt (s.reg A.SEN_TAMP_CFG) 5 = bitAt v 5 → t.sen.next = (s.sen.next + 1) % 256)) ∧
  (∀ (s : State) (h : Nat), s.live = true → h < 4 →
    Gives (exec (.senStatRead h) s) fun t => t = { s with sen := { s.sen with cellFlt := false } })

/-- Reset and readiness (R40, R50, R403, R405, R450 to R452, R455, R466): a pin or software reset holds the device, keeps
the kept registers and wipes the rest, the release brings WAKE with the blocks ready at release and the pool members whose
test failed exhausted and PCIe links training where PERST_N is high, a block becomes ready where it may, is reported where
it is late and then stays not ready, and a host's link that trains comes up, its page ready unless it is late; configuration
requests are answered accordingly. PERST_N of both ports is high in the state after reset: the model's choice (log entry
198). That a late block stays so until the next reset, and when the times of the host pages begin are the model's choices
(log entry 198). -/
def Obligations.ResetAndReadiness : Prop :=
  (∀ s : State, s.Canon → s.pwr.dark = false →
    Gives (exec (.resetPin true) s) fun t =>
      t.live = false ∧ t.pwr.held = true ∧ t.pwr.sources.testBit 1 = true ∧ t.pwr.cause.testBit 1 = true ∧ t.pwr.ready = 0 ∧
      (s.pwr.held = false → t.pwr.cause = 2 ∧ t.pwr.count = satInc 16 s.pwr.count 1) ∧ t.modes.cur = .wake ∧
      (∀ o ∈ keptRegs, o ≠ A.RAIL_VSET 3 → t.reg o = s.reg o) ∧ (∀ o, o ∉ keptRegs → o ≠ A.RAIL_VSET 3 → t.reg o = resetWord o) ∧
      t.ev.log.entries = s.ev.log.entries ∧ t.gaf.slots = s.gaf.slots ∧ t.rti.store = s.rti.store ∧ t.mem.ci = s.mem.ci ∧
      t.hosts = { hostsReset with perst := s.hosts.perst } ∧ t.lcy = s.lcy ∧ t.pwr.late = 0) ∧
  (∀ s : State, s.pwr.dark = false → s.pwr.scan = none →
    Gives (exec (.resetPin false) s) fun t => t = { s with pwr := { s.pwr with sources := t.pwr.sources } } ∧
      t.pwr.sources.testBit 1 = false ∧ ∀ b, b ≠ 1 → t.pwr.sources.testBit b = s.pwr.sources.testBit b) ∧
  (∀ (s : State) (h : Nat), s.pends h A.DBG_SWRST 0x182 1#32 = true →
    Gives (exec (.softwareReset h) s) fun t =>
      t.live = false ∧ t.pwr.cause = 0x20 ∧ t.pwr.sources = s.pwr.sources ∧ t.modes.cur = .wake ∧ t.gaf.slots = s.gaf.slots) ∧
  (∀ (s : State) (failed : List Nat), s.releaseDue = true → s.rings.ports.length = 34 → s.adc.slices.length = 24 →
    s.mem.rows.length = 24 →
    Gives (exec (.resetRelease failed) s) fun t =>
      (∀ i ∈ failed, 0x18 ≤ i → i < 0x50 → (t.member i).1 ≠ 0xF → (t.member i).2.1 = .exhausted) ∧
      (∀ h, h < 2 → s.hosts.perst.length = 2 → t.hosts.train[h]? = some (if s.hosts.perst.getD h false then none else some s.now)) ∧
      t.live = true ∧ t.pwr.ready = readyAtRelease ∧ t.pwr.released = s.now ∧
      t.clock.dev = (if s.sen.alive && s.sen.syncd then s.sen.rtc else 0) ∧ t.regs = s.regs ∧ t.modes = s.modes) ∧
  (∀ (s : State) (b : Nat), s.live = true → b < 26 → b ≠ 4 → s.ready b = false → s.pwr.late.testBit b = false →
    s.blockMay b = true →
    Gives (exec (.blockReady b) s) fun t => t.ready b = true ∧ ∀ k, k ≠ b → t.ready k = s.ready k) ∧
  (∀ (s : State) (b : Nat), s.live = true → b < 26 → s.pwr.late.testBit b = true →
    Gives (exec (.blockReady b) s) fun t => t = s) ∧
  (∀ (s : State) (b u : Nat), s.Canon → s.live = true → b < 26 → s.ready b = false → s.pwr.late.testBit b = false →
    s.readyBy b = some u →
    Gives (exec (.readinessTimeout b) s) fun t =>
      (b ≠ 18 → b ≠ 19 → u = s.pwr.released + ms (readyLimit b)) ∧ t.ready b = false ∧
      (∀ k, t.pwr.late.testBit k = (s.pwr.late.testBit k || k == b)) ∧
      OnlyEvents { s.advance u with pwr := { s.pwr with late := t.pwr.late } } t ∧
      ∀ h, h < 4 → bitAt (t.ev.flags h 2) 0 = true) ∧
  (∀ (s : State) (h : Nat), s.live = true → h < 2 → s.hosts.link.length = 4 → s.hosts.train.length = 2 → s.training h = true →
    Gives (exec (.hostLinkUp h) s) fun t =>
      (∀ k, t.ready k = (s.ready k || (k == 18 + h && !s.pwr.late.testBit k))) ∧ t.hosts.link.getD h false = true ∧
      t.training h = false ∧ (t.cfgAnswer h = if s.ready (18 + h) = false ∧ s.pwr.late.testBit (18 + h) = true then .retry else .completes) ∧
      t = { s with pwr := { s.pwr with ready := t.pwr.ready }, hosts := { s.hosts with link := t.hosts.link, train := t.hosts.train } })

/-- The boundary-scan port (R456 to R459; the order of the chain is the model's choice, log entry 96): each instruction is
in the register, the passive ones drive no pin, SAMPLE shifts the levels of the pins out, those that drive pins drive every
driven pin of the chain and no observe-only one, act only while RESET_N is low and the lifecycle and switch 7 permit, and
are BYPASS otherwise; one that is in force ends with a reset of cause SCAN as its conditions lapse, and one that is loaded
takes effect once they hold. What a serial or clock cell captures is open (log entry 229). -/
def Obligations.BoundaryScanInstructions : Prop :=
  (∀ s : State, s.tapOn = true → s.pwr.scan = none →
    Gives (exec .tapReset s) fun t => t = { s with pwr := { s.pwr with ir := 1, tapBypass := false } }) ∧
  (∀ s : State, s.tapOn = true → s.pwr.scan = none →
    Gives (exec .idcode s) fun t =>
      t.pwr = { s.pwr with ir := 1, tapBypass := false } ∧ t.ev.out = .tdo (wordBits s.idcode) :: s.ev.out ∧
      s.idcode.getLsbD 0 = true ∧ fld s.idcode 1 11 = 0x2C5 ∧ fld s.idcode 12 16 = 0x9384 ∧
      t = { s with pwr := t.pwr, ev := { s.ev with out := t.ev.out } }) ∧
  (∀ (s : State) (c : List Bool), s.tapOn = true → s.pwr.scan = none →
    Gives (exec (.samplePreload c) s) fun t =>
      (∃ bits : List Bool, t.ev.out = .tdo bits :: s.ev.out ∧ bits.length = drivenPins.length + observedPins.length ∧
        ∀ (i : Nat) (p : Pin), (drivenPins ++ observedPins)[i]? = some p →
          (s.pin p = .high ∨ s.pin p = .on → bits[i]? = some true) ∧ (s.pin p = .low ∨ s.pin p = .off → bits[i]? = some false)) ∧
      t = { s with pwr := { s.pwr with ir := 2, tapBypass := false, cells := c }, ev := { s.ev with out := t.ev.out },
                   free := t.free }) ∧
  (∀ (s : State) (c : List Bool), s.tapOn = true → s.pwr.scan = none → s.scanAllowed = true → c ≠ [] →
    Gives (exec (.extest c) s) fun t =>
      t = { s with pwr := { s.pwr with ir := 3, scan := some 3, tapBypass := false, cells := c },
                   ev := { s.ev with out := t.ev.out }, free := t.free } ∧
      (∃ bits : List Bool, t.ev.out = .tdo bits :: s.ev.out) ∧
      (∀ (i : Nat) (p : Pin), drivenPins[i]? = some p → t.pin p = .of (c.getD i false)) ∧
      (∀ p, p ∉ drivenPins → t.pin p = t.pinOwn p)) ∧
  (∀ (s : State) (c : List Bool), s.tapOn = true → s.pwr.scan = none → s.scanAllowed = false →
    Gives (exec (.extest c) s) fun t =>
      t = { s with pwr := { s.pwr with ir := 3, tapBypass := true } } ∧ ∀ p, t.pin p = s.pin p) ∧
  (∀ (s : State) (c : List Bool), s.tapOn = true → s.pwr.scan = none → s.scanAllowed = true → c ≠ [] →
    Gives (exec (.extestPulse c) s) fun t =>
      t = { s with pwr := { s.pwr with ir := 4, scan := some 4, tapBypass := false, cells := c },
                   ev := { s.ev with out := t.ev.out }, free := t.free } ∧
      (∃ bits : List Bool, t.ev.out = .tdo bits :: s.ev.out) ∧
      (∀ (i : Nat) (p : Pin), drivenPins[i]? = some p → t.pin p = .of (c.getD i false)) ∧
      (∀ p, p ∉ drivenPins → t.pin p = t.pinOwn p)) ∧
  (∀ (s : State) (c : List Bool), s.tapOn = true → s.pwr.scan = none → s.scanAllowed = false →
    Gives (exec (.extestPulse c) s) fun t =>
      t = { s with pwr := { s.pwr with ir := 4, tapBypass := true } } ∧ ∀ p, t.pin p = s.pin p) ∧
  (∀ (s : State) (c : List Bool), s.tapOn = true → s.pwr.scan = none → s.scanAllowed = true → c ≠ [] →
    Gives (exec (.extestTrain c) s) fun t =>
      t = { s with pwr := { s.pwr with ir := 5, scan := some 5, tapBypass := false, cells := c },
                   ev := { s.ev with out := t.ev.out }, free := t.free } ∧
      (∃ bits : List Bool, t.ev.out = .tdo bits :: s.ev.out) ∧
      (∀ (i : Nat) (p : Pin), drivenPins[i]? = some p → t.pin p = .of (c.getD i false)) ∧
      (∀ p, p ∉ drivenPins → t.pin p = t.pinOwn p)) ∧
  (∀ (s : State) (c : List Bool), s.tapOn = true → s.pwr.scan = none → s.scanAllowed = false →
    Gives (exec (.extestTrain c) s) fun t =>
      t = { s with pwr := { s.pwr with ir := 5, tapBypass := true } } ∧ ∀ p, t.pin p = s.pin p) ∧
  (∀ s : State, s.tapOn = true → s.pwr.scan = none → s.scanAllowed = true →
    Gives (exec .highz s) fun t =>
      t = { s with pwr := { s.pwr with ir := 6, scan := some 6, tapBypass := true } } ∧
      (∀ p ∈ drivenPins, t.pin p = .highZ) ∧ ∀ p, p ∉ drivenPins → t.pin p = t.pinOwn p) ∧
  (∀ s : State, s.tapOn = true → s.pwr.scan = none → s.scanAllowed = true →
    Gives (exec .clamp s) fun t =>
      t = { s with pwr := { s.pwr with ir := 7, scan := some 7, tapBypass := true } } ∧
      (∀ (i : Nat) (p : Pin), drivenPins[i]? = some p → t.pin p = .of (s.pwr.cells.getD i false)) ∧
      (∀ p, p ∉ drivenPins → t.pin p = t.pinOwn p)) ∧
  (∀ s : State, s.tapOn = true → s.pwr.scan = none → s.scanAllowed = false →
    Gives (exec .highz s) fun t => t = { s with pwr := { s.pwr with ir := 6, tapBypass := true } } ∧ ∀ p, t.pin p = s.pin p) ∧
  (∀ s : State, s.tapOn = true → s.pwr.scan = none → s.scanAllowed = false →
    Gives (exec .clamp s) fun t => t = { s with pwr := { s.pwr with ir := 7, tapBypass := true } } ∧ ∀ p, t.pin p = s.pin p) ∧
  (∀ s : State, s.scanAllowed = true ↔
    s.pwr.sources.testBit 1 = true ∧ (s.lcy.state.inUse = false ∨ s.sen.base 7 = 1)) ∧
  (∀ (s : State) (c : BitVec 8), s.tapOn = true → s.pwr.scan = none → (c = 0#8 ∨ 7 < c.toNat) →
    Gives (exec (.bypass c) s) fun t => t = { s with pwr := { s.pwr with ir := c.toNat, tapBypass := true } }) ∧
  (∀ (s : State) (i : Nat), s.tapOn = true → s.pwr.scan = some i →
    Gives (exec .tapReset s) fun t =>
      t.pwr.scan = none ∧ t.pwr.ir = 1 ∧ t.pwr.held = true ∧ t.pwr.dark = false ∧ t.pwr.cause.testBit 7 = true) ∧
  (∀ (s : State) (i : Nat), s.live = false → s.pwr.scan = some i → s.scanAllowed = false →
    s.settle.pwr.scan = none ∧ s.settle.pwr.held = true ∧ s.settle.pwr.cause.testBit 7 = true ∧ s.settle.pwr.tapBypass = true) ∧
  (∀ s : State, s.live = false → s.pwr.scan = none → s.tapOn = true → 3 ≤ s.pwr.ir → s.pwr.ir ≤ 7 → s.scanAllowed = true →
    s.settle.pwr.scan = some s.pwr.ir)

/-- A step takes the command at the front of the queue and answers what that command does with the queue's rest; where
nothing waits, one period of the fabric clock passes, which is the model's choice (log entry 30). -/
def Obligations.StepTakesTheFrontCommand : Prop :=
  (∀ (s : State) (c : Instr) (q : List Instr), step { s with pending := c :: q } = exec c { s with pending := q }) ∧
  (∀ s : State, s.pending = [] → step s = .next (s.advance (s.now + fabricPeriod)))

/-- Every command is answered by a next state, and none of them changes what waits in the queue or what part this is, turns
time back, or changes the lifecycle state, but for the end of a lifecycle wipe (R1, R404). That every command is answered by
a next state, one whose condition is absent leaving the machine as it is, is the model's choice (log entries 60, 106). -/
def Obligations.EveryCommandIsAnswered : Prop :=
  ∀ (i : Instr) (s : State), ∃ t : State, exec i s = .next t ∧ t.pending = s.pending ∧ t.part = s.part ∧ s.now ≤ t.now ∧
    (i ≠ .lifecycleWipeEnd → t.lcy.state = s.lcy.state)

/-- Every step keeps the tables of the machine in their canonical form, and every claim with one host (R346, R348, R351). -/
def Obligations.InvariantsAreKept : Prop :=
  (∀ s t : State, s.Canon → step s = .next t → t.Canon) ∧ (∀ s t : State, s.Claimed → step s = .next t → t.Claimed)

/-- The machine right after reset (R40, R43, R45, R60, R63, R346, R351): mode WAKE with no change under way, no cause
latched, no claim, nothing in ring space, no flag pending, nothing written, no group commanded, and the invariants hold.
What no rule gives a reset value, the unsynchronised DEVTIME among it, is the model's choice (log entry 15). -/
def Obligations.ResetIsQuiet : Prop :=
  State.reset.Canon ∧ State.reset.Claimed ∧ State.reset.pending = [] ∧ State.reset.regs = [] ∧ State.reset.used = [] ∧
  State.reset.modes.cur = .wake ∧ State.reset.modes.trans = false ∧ State.reset.modes.latch = 0 ∧
  State.reset.hosts.claims = [] ∧ State.reset.hosts.holder = [] ∧ State.reset.ev.mem = [] ∧ State.reset.ev.irq = [] ∧
  State.reset.clock.sync = .unset ∧ State.reset.ang.beats = false ∧ (∀ c, (State.reset.cell c).st = .absent) ∧
  (∀ g, (State.reset.group g).cmd = false) ∧ (∀ n, (State.reset.hw n).en = false)

/-- What follows every command (R52, R71, R375, R464): nothing while the device is in reset; and otherwise, where beats run
or no mode is decided, nothing but the mode, the angle unit, the close sequence, the groups, the followed master, the events
and the readiness time. -/
def Obligations.SettleChangesLittle : Prop :=
  ∀ s : State,
    (s.live = false → s.settle = s) ∧
    (s.ang.beats = true ∨ s.modes.next = none →
      s.settle = { s with
        modes := s.settle.modes, ang := s.settle.ang, grd := s.settle.grd, saf := s.settle.saf, net := s.settle.net,
        ev := s.settle.ev, reco := s.settle.reco, pwr := { s.pwr with readyT := s.settle.pwr.readyT } } ∧
      (s.ang.lock = true → s.settle = { s with
        net := s.settle.net, ev := s.settle.ev, reco := s.settle.reco,
        pwr := { s.pwr with readyT := s.settle.pwr.readyT } }))

/-- An event (R350, R361, R393) changes nothing but flags, rings, log and recorder; one of the first 32 of its page sets its
pending flag in every host window, and no event clears a flag. -/
def Obligations.EventsSetFlags : Prop :=
  ∀ (s : State) (page n sub : Nat) (d : List Nat) (st : Status), s.Canon → page < 0x1000 →
    OnlyEvents s (s.event page n sub d st) ∧
    (n < 32 → ∀ h, h < 4 → bitAt ((s.event page n sub d st).ev.flags h page) n = true) ∧
    (∀ h p b, h < 4 → p < 0x1000 → bitAt (s.ev.flags h p) b = true → bitAt ((s.event page n sub d st).ev.flags h p) b = true)

/-- ERRCODE (R17, R294, R404): each host window holds its own ERRCODE in every page. A refused write or read of a host
leaves its status there, and every other ERRCODE as it was; an access that is not refused leaves every ERRCODE as it was,
but for a write of ERRCODE itself, which sets it to OK, and the software reset. While a lifecycle change runs (R404), or on
the page of a fenced engine (R294), a write of ERRCODE is itself refused: R17 alone does not say so, and that the two rules
reach ERRCODE is the model's reading (log entries 176, 99). -/
def Obligations.ErrcodeHoldsTheLastRefusal : Prop :=
  (∀ (s : State) (h o : Nat) (v : Word), s.Canon → h < 4 → o < 0x1000000 → o % 4 = 0 → listed (o / 0x1000) = true →
    let r := s.hostWrite h o v
    (r.2 ≠ .ok → ∀ k page, k < 4 → page < 0x1000 → r.1.win k (page * 0x1000 + 0x28) =
      if k = h ∧ page = o / 0x1000 then wd r.2.code else s.win k (page * 0x1000 + 0x28)) ∧
    (r.2 = .ok → o % 0x1000 ≠ 0x28 → o ≠ A.DBG_SWRST + 4 → ∀ k page, k < 4 → page < 0x1000 →
      r.1.win k (page * 0x1000 + 0x28) = s.win k (page * 0x1000 + 0x28))) ∧
  (∀ (s : State) (h page : Nat) (v : Word), s.Canon → h < 4 → page < 0x1000 → listed page = true → s.wiping = false →
    s.fencedPage page = false →
    let r := s.hostWrite h (page * 0x1000 + 0x28) v
    r.2 = .ok ∧ r.1.win h (page * 0x1000 + 0x28) = 0#32 ∧
    ∀ k q, k < 4 → q < 0x1000 → (k ≠ h ∨ q ≠ page) → r.1.win k (q * 0x1000 + 0x28) = s.win k (q * 0x1000 + 0x28)) ∧
  (∀ (s : State) (h o : Nat), s.Canon → h < 4 → o < 0x1000000 →
    let r := s.hostRead h o
    ∀ k page, k < 4 → page < 0x1000 → r.1.win k (page * 0x1000 + 0x28) =
      if r.2.2 ≠ .ok ∧ k = h ∧ page = o / 0x1000 then wd r.2.2.code else s.win k (page * 0x1000 + 0x28))

/-- R15: a second write to X replaces the pending value, a write to X + 4 while none is pending is refused with
COMPLEMENT_MISMATCH, on a page that is not fused (R32), and stores nothing, and X and X + 4 read the effective pair whatever
is pending. -/
def Obligations.PendingPairsAreNotRead : Prop :=
  (∀ (s : State) (h o : Nat) (v : Word) (r : Row), h < 4 → o < 0x1000000 → o % 4 = 0 → listed (o / 0x1000) = true →
    0x40 ≤ o % 0x1000 → rowAt o = some r → r.cls = .rwc → (s.hostWrite h o v).2 = .ok →
    (s.hostWrite h o v).1.pendingOf h o = some v ∧ (s.hostWrite h o v).1.regs = s.regs ∧
    ∀ k, (s.hostWrite h o v).1.readWord k o = s.readWord k o ∧ (s.hostWrite h o v).1.readWord k (o + 4) = s.readWord k (o + 4)) ∧
  (∀ (s : State) (h o : Nat) (vn : Word) (r : Row), h < 4 → o + 4 < 0x1000000 → o % 4 = 0 → listed ((o + 4) / 0x1000) = true →
    0x40 ≤ (o + 4) % 0x1000 → rowAt o = some r → r.cls = .rwc → rowAt (o + 4) = none → s.pendingOf h o = none →
    s.fusedPage (o / 0x1000) = false →
    (s.hostWrite h (o + 4) vn).2 = .complementMismatch ∧ (s.hostWrite h (o + 4) vn).1.regs = s.regs)

/-- Ring space (R345, R351): a word a host may write reads back, every other word stays, and the memory stays in its one
form; a write that is barred changes nothing but what its event does. -/
def Obligations.RingSpaceReadsBack : Prop :=
  (∀ (s : State) (h a : Nat) (way : BitVec 8) (v : Word), s.live = true → h < 4 → wholeWord h way = true →
    Memory.wf s.ev.mem = true → s.spaceBarred h a = false →
    Gives (exec (.registerWrite h way (spaceBase + a) v) s) fun t =>
      t.spaceRead a = v ∧ (∀ b, b / 4 ≠ a / 4 → t.spaceRead b = s.spaceRead b) ∧ Memory.wf t.ev.mem = true ∧
      t = { s with ev := { s.ev with mem := t.ev.mem } }) ∧
  (∀ (s : State) (h a : Nat) (way : BitVec 8) (v : Word), s.live = true → h < 4 → wholeWord h way = true → s.spaceBarred h a = true →
    Gives (exec (.registerWrite h way (spaceBase + a) v) s) fun t => OnlyEvents s t) ∧
  (∀ (s : State) (h o : Nat) (way : BitVec 8) (v : Word), s.live = true → h < 2 → wholeWord h way = false →
    Gives (exec (.registerWrite h way o v) s) fun t => OnlyEvents s t)

/-- A refused write of a register (R14, R18, R56, R360, R398) stores nothing: a word that is not of a complement pair leaves
everything but the writer's ERRCODE, its key on the page and what the refusal's event does; the first half of an RW-C pair
may also empty the writer's pending holder, and so may the second; a write of DEV_HOLD_LATCH refused for one bit clears the
others; a refused DEV_MODE_REQ tells LAST_STAT and WHY. No other host's ERRCODE changes. -/
def Obligations.RefusedWritesStoreNothing : Prop :=
  (∀ (s : State) (h o : Nat) (v : Word) (r : Row), o % 4 = 0 → listed (o / 0x1000) = true → 0x40 ≤ o % 0x1000 → h < 4 →
    rowAt o = some r → r.cls ≠ .rwc → (s.hostWrite h o v).2 ≠ .ok →
    let t := (s.hostWrite h o v).1
    t = { s with hosts := { s.hosts with keys := t.hosts.keys, win := t.hosts.win }, ev := t.ev, reco := t.reco,
                 modes := if o = A.DEV_HOLD_LATCH then { s.modes with latch := t.modes.latch } else s.modes } ∧
    (s.Canon → ∀ k page, k < 4 → page < 0x1000 → k ≠ h ∨ page ≠ o / 0x1000 → t.win k (page * 0x1000 + 0x28) = s.win k (page * 0x1000 + 0x28))) ∧
  (∀ (s : State) (h o b : Nat) (v : Word) (r : Row), b = 0 ∨ b = 4 → o % 4 = 0 → listed (o / 0x1000) = true → 0x40 ≤ o % 0x1000 →
    h < 4 → rowAt o = some r → r.cls = .rwc → rowAt (o + 4) = none → (s.hostWrite h (o + b) v).2 ≠ .ok →
    let t := (s.hostWrite h (o + b) v).1
    t = { s with hosts := { s.hosts with keys := t.hosts.keys, win := t.hosts.win, holder := t.hosts.holder }, ev := t.ev,
                 reco := t.reco,
                 modes := if o = A.DEV_MODE_REQ then { s.modes with lastStat := t.modes.lastStat, why := t.modes.why } else s.modes } ∧
    (∀ p ∈ t.hosts.holder, p ∈ s.hosts.holder) ∧ (∀ k x, k < 4 → k ≠ h → t.pendingOf k x = s.pendingOf k x) ∧
    (s.Canon → ∀ k page, k < 4 → page < 0x1000 → k ≠ h ∨ page ≠ o / 0x1000 → t.win k (page * 0x1000 + 0x28) = s.win k (page * 0x1000 + 0x28)))

/-- In reset (R40, R451, R453) the device takes no command of a host and none of its units acts: only the supply, the rails,
the clock unit, the sentinel domain, the reset sources, the boundary-scan port, a failing flash die and a lifecycle wipe do,
and of PERST_N the level moves (R452). -/
def Obligations.NothingActsInReset : Prop :=
  ∀ (s : State) (i : Instr), s.live = false →
    (match i with
    | .auxRise _ | .auxFall | .railPowerGood _ | .softStartEnd _ _ | .coreRailPgLoss _ | .pgLost | .railSyncValid _
    | .railSyncLost | .currentLimit _ | .bstuv _ | .bootstrapRecover _ | .outputOvervoltage _ _ | .driverSupplyUv _ _
    | .railLatch _ _ | .railEnRestart | .burstEntry _ | .burstExit _ | .switchingCycle _ _ _ _ | .reverseCurrentLimit _
    | .referenceGood _ | .referenceLost _ | .holdoverTimeout | .referenceRevert | .loopLock _ _ | .loopLockLoss _ _ _
    | .fabricRetryEnd _ | .refDisagree _ | .sentinelSample _ _ _ | .sentinelReadingChange _ | .alertFrameStart
    | .alertFrameAbort | .alertFrameComplete | .alertRetry | .aliveStamp | .bandChange _ | .cellCutoff _ | .cellProtection _
    | .cellProtectionRelease _ | .sentinelColdStart | .resetPin _ | .resetRelease _ | .tapReset | .idcode | .samplePreload _
    | .extest _ | .extestPulse _ | .extestTrain _ | .highz | .clamp | .bypass _ | .lifecycleWipeEnd | .flashDieFault => True
    | .hostPortReset h (.perst low) =>
      if s.pwr.dark = false ∧ h < 2 then Gives (exec i s) fun t => t = { s with hosts := { s.hosts with perst := setAt low h s.hosts.perst } }
      else exec i s = .next s
    | _ => exec i s = .next s)

/-- What the stages of the pipeline compute (R92, R151, R188, R189, R192, R214 to R216, R248, R249, R271). A pair takes the
mean of two members that agree, the one valid member, or the carried value, and counts disagreement. A due slot is executed
once: held it keeps its output or takes SAFE, with an invalid input it enters OUT_HOLD, and otherwise its type gives its
result, within OUTMIN and OUTMAX, the flags saying where it was clamped. The weights of a phase are the shares over their
sum; no reference passes ±1.0, and a phase short of voltage holds every cell there; a cell whose legs are not on has none.
Values are lowered from the highest to one level, by the total asked for; curtailment raises no target and meets the
condition; outside the switching modes nothing is allocated. A storage cell's budget is what its energy and power afford,
and none while its SOC is unknown. RIDE is decided on the ENT_N-th beat or at a phase jump. A count in the last place of a
quotient is open (log entry 11), a pair declared in disagreement stays so with one member (log entry 233), and EXEC is
counted at every execution (log entry 224). -/
def Obligations.PipelineStagesCompute : Prop :=
  (∀ (p : Pair) (thr : Int) (n : Nat) (x y : Int × Int), p.declared = false →
    (absI (x.1 - y.1) ≤ thr →
      (pairStep p thr n (some x) (some y)).valid = .valid ∧ (pairStep p thr n (some x) (some y)).value = quo (x.1 + y.1) 2 ∧
      (pairStep p thr n (some x) (some y)).dis = 0 ∧ (pairStep p thr n (some x) (some y)).declared = false) ∧
    (thr < absI (x.1 - y.1) → p.dis + 1 < n →
      (pairStep p thr n (some x) (some y)).valid = .valid ∧ (pairStep p thr n (some x) (some y)).value = quo (x.1 + y.1) 2 ∧
      (pairStep p thr n (some x) (some y)).dis = p.dis + 1 ∧ (pairStep p thr n (some x) (some y)).agree = 0) ∧
    (thr < absI (x.1 - y.1) → n ≤ p.dis + 1 →
      (pairStep p thr n (some x) (some y)).valid = .invalid ∧ (pairStep p thr n (some x) (some y)).declared = true) ∧
    (pairStep p thr n (some x) none).valid = .valid ∧ (pairStep p thr n (some x) none).value = x.1 ∧
    (pairStep p thr n none (some y)).valid = .valid ∧ (pairStep p thr n none (some y)).value = y.1 ∧
    (p.valid ≠ .invalid → p.carried < 2 →
      (pairStep p thr n none none).valid = .carried ∧ (pairStep p thr n none none).value = p.value ∧
      (pairStep p thr n none none).carried = p.carried + 1) ∧
    (2 ≤ p.carried → (pairStep p thr n none none).valid = .invalid)) ∧
  (∀ (p : Pair) (thr : Int) (n : Nat) (a b : Option (Int × Int)), p.declared = true →
    (a = none ∨ b = none → (pairStep p thr n a b).valid = .invalid ∧ (pairStep p thr n a b).declared = true ∧
      (pairStep p thr n a b).agree = 0 ∧ (pairStep p thr n a b).dis = 0) ∧
    (∀ x y, a = some x → b = some y → absI (x.1 - y.1) ≤ thr → p.agree + 1 < n →
      (pairStep p thr n a b).valid = .invalid ∧ (pairStep p thr n a b).agree = p.agree + 1) ∧
    (∀ x y, a = some x → b = some y → absI (x.1 - y.1) ≤ thr → n ≤ p.agree + 1 →
      (pairStep p thr n a b).valid = .valid ∧ (pairStep p thr n a b).declared = false)) ∧
  (∀ (s : State) (i : Nat), Map.rising s.loop.slots = true → s.slotDue i = true → s.loop.fresh.contains i = false →
    let t := s.execSlot State.supply State.withheld i
    let q := s.slot i
    let w := fun (b : Nat) => (s.sw i b).toInt
    let ref := (s.supply (slotRole (s.sw i 4))).getD (if fld (s.sw i 8) 28 4 = 0 then w 0x40 else (s.srcVal (s.sw i 8)).1)
    let fb := s.notched i false (s.srcVal (s.sw i 0xC)).1 q.notch
    let aux := (s.srcVal (s.sw i 0x10)).1
    let ts : Int := (s.execTs (slotRsh (s.sw i 0)) : Nat)
    let result := fun (u : Int) =>
      (t.slot i).st = .run ∧ (t.slot i).out = clampI (w 0x2C) (w 0x28) u ∧ (t.slot i).sath = decide (w 0x28 < u) ∧
      (t.slot i).satl = decide (u < w 0x2C) ∧ (t.slot i).spUsed = ref ∧ (t.slot i).released = false
    (t.slot i).exec = (q.exec + 1) % 2 ^ 32 ∧ (∀ j, j ≠ i → t.slot j = s.slot j) ∧
    (q.st = .outHold → t.slot i = { q with exec := (t.slot i).exec, out := if bitAt (s.sw i 0) 6 then w 0x30 else q.out }) ∧
    (q.st ≠ .outHold → s.inputsOk i = false →
      t.slot i = { q with exec := (t.slot i).exec, st := .outHold, hcause := 1, holds := satInc 16 q.holds 1,
                          out := if bitAt (s.sw i 0) 6 then w 0x30 else q.out }) ∧
    (q.st ≠ .outHold → s.inputsOk i = true → slotType (s.sw i 0) = 1 → fld (s.sw i 4) 16 8 = 0 → q.released = false →
      let e := if bitAt (s.sw i 4) 8 then psub fb.1 ref else psub ref fb.1
      let far := s.slot (fld (s.sw i 0x14) 0 10)
      let inhib := (q.sath && decide (0 < e)) || (q.satl && decide (e < 0)) ||
        (bitAt (s.sw i 0x14) 15 && ((far.sath && decide (0 < e)) || (far.satl && decide (e < 0)))) ||
        s.withheld (slotRole (s.sw i 4)) e
      let intg := if inhib then q.intg else
        clampI (w 0x2C) (w 0x28) (sat (q.intg + quo (((s.sw i 0x1C).toNat : Int) * ts * e) (256 * second)))
      (t.slot i).err = e ∧ (t.slot i).inhib = inhib ∧ (t.slot i).intg = intg ∧
      result (s.notched i true (padd (padd (sat (quo (w 0x18 * e) 0x1000000)) aux) intg) fb.2).1) ∧
    (q.st ≠ .outHold → s.inputsOk i = true → slotType (s.sw i 0) = 3 → s.withheld (slotRole (s.sw i 4)) (ref - q.out) = false →
      result (sat (if q.out ≤ ref then min ref (q.out + quo (((s.sw i 0x18).toNat : Int) * 4096 * ts) second)
        else max ref (q.out - quo (((s.sw i 0x1C).toNat : Int) * 4096 * ts) second)))) ∧
    (q.st ≠ .outHold → s.inputsOk i = true → slotType (s.sw i 0) = 4 → s.withheld (slotRole (s.sw i 4)) (ref - q.out) = false →
      let x := s.notched i false ref q.notch
      let tau := us (s.sw i 0x18).toNat
      let intg := if tau = 0 then x.1 else
        sat (q.intg + quo (ts * (x.1 - q.intg)) (tau + s.execTs (slotRsh (s.sw i 0))))
      (t.slot i).intg = intg ∧ result (s.notched i true intg x.2).1) ∧
    (q.st ≠ .outHold → s.inputsOk i = true → slotType (s.sw i 0) = 5 →
      let part := fun (b : Nat) (x : Int) => sat (quo (w b * x) 0x1000000)
      result (s.notched i true (padd (padd (part 0x18 ref) (part 0x1C fb.1)) (part 0x20 aux)) fb.2).1)) ∧
  (∀ (s : State) (i : Nat), s.slotDue i = false ∨ s.loop.fresh.contains i = true →
    s.execSlot State.supply State.withheld i = s) ∧
  (∀ (s : State) (x c : Nat), s.Canon → Map.wf (fun _ => cellModReset) s.modu.cells = true → c ∈ s.cellsIn x .active →
    let cs := s.cellsIn x .active
    let even := cs.all fun c => (s.trk c).share == 0
    let part := fun (c : Nat) => if even then (s.vdc c : Int) else s.weightOf x c
    isum (cs.map part) ≠ 0 →
    ((s.weighPhase x).cmod c).weight = sat (quoI (part c * pu) (isum (cs.map part)))) ∧
  (∀ (s : State) (x c : Nat), 0 ≤ (s.trk c).share → quo (s.trk c).share 2 ≤ s.weightOf x c ∧ s.weightOf x c ≤ quo (3 * (s.trk c).share) 2) ∧
  (∀ (s : State) (cells : List Nat) (v : Int),
    (∀ p ∈ (s.cellRefs cells v).1, absI p.2 ≤ pu) ∧
    (isum (cells.map s.vdcPu) < absI v →
      s.cellRefs cells v = (cells.map fun c => (c, if v < 0 then -pu else pu), true))) ∧
  (∀ (s : State) (n r c : Nat) (m0 m1 : Int), Map.wf (fun _ => cellModReset) s.modu.cells = true → s.modes.cur ≠ .service →
    (s.modCellBeat n r c m0 m1 false).cmod c =
      { s.cmod c with leg0 := (s.cmod c).leg0.off, leg1 := (s.cmod c).leg1.off, edges := List.replicate 8 0#32, vref := 0 }) ∧
  (∀ (x : Int) (l : List Int), (lowered x l).length = l.length ∧ (∀ (k : Nat), (lowered x l).getD k 0 ≤ l.getD k 0) ∧
    (0 < x → l ≠ [] → absI (isum l - isum (lowered x l) - x) < l.length)) ∧
  (∀ (s : State) (a b c : Int), -0x80000000 ≤ a → -0x80000000 ≤ b → -0x80000000 ≤ c →
    let cut := s.curtailed [a, b, c]
    s.balanced cut = true ∧ (s.balanced [a, b, c] = true → cut = [a, b, c]) ∧
    cut = [a, b, c].map fun x => min x (cut.foldl max (-0x80000000))) ∧
  (∀ s : State,
    (s.modes.cur.within 0x70 = false →
      s.balance.grd.poff = [0, 0, 0] ∧ s.balance.grd.curt = [0, 0, 0] ∧ s.balance.grd.v0 = 0 ∧ s.balance.bpt.disp = 0) ∧
    (s.modes.cur.within 0x70 = true →
      0 ≤ s.balance.grd.v0 ∧ s.balance.grd.v0 ≤ s.v0Max ∧ (∀ (k : Nat), 0 ≤ s.balance.grd.curt.getD k 0) ∧
      (s.balance.grd.curtOn = true ↔ ∃ r ∈ s.balance.grd.curt, r ≠ 0))) ∧
  (∀ (s : State) (c : Nat), s.Canon →
    let t := s.budgetCell c
    (s.socKnown c = false → (t.trk c).paff = 0 ∧ (t.trk c).paffc = 0) ∧
    (s.socKnown c = true → (t.trk c).eavail = s.energyAbove c ∧ (t.trk c).paff = min (s.pDis c) (s.afford (s.energyAbove c)) ∧
      (t.trk c).paffc = min (s.pChg c) (s.afford (s.energyBelow c)))) ∧
  (∀ s : State, s.modes.next ≠ some .hold →
    let t := s.rtiRun
    let n := fld (s.pw 0x10) 0 5
    let decided := fun (c : Nat) => (s.entryCounts.decideRide c).tripRow true = none →
      t.modes.next = some .ride ∧ t.modes.rideFrom = s.modes.cur ∧ t.rti.cause = c ∧ t.rti.rideT = s.beatMono
    (s.gridOk = true → s.rti.ulow < milli (fld (s.pw 8) 0 16) → n ≤ s.rti.entLow + 1 → decided 1) ∧
    (s.gridOk = true → milli (fld (s.pw 8) 0 16) ≤ s.rti.ulow → milli (fld (s.pw 8) 16 16) < s.rti.uhigh →
      n ≤ s.rti.entHigh + 1 → decided 2) ∧
    (∀ j, s.rti.jump = some j → deg10 (fld (s.pw 0x28) 0 16) < absI j → s.tripJump = false →
      s.entryCounts.rti.entLow = 0 → s.entryCounts.rti.entHigh = 0 → decided 3) ∧
    (s.entryCounts.entryCause = none → s.modes.next = none → t.modes.next ≠ some .ride))
end

