-- ==== Sys2Proof/Laws/Map.lean ====
section
/-! SUPPORT. The laws of sparse tables: what is read after a write, and that a write keeps the canonical form. -/

namespace Sys2Proof.Map

variable {α : Type}

theorem above_insert {k j : Nat} {v : α} {m : List (Nat × α)} (h : above k m = true) (hj : k < j) :
    above k (insert j v m) = true := by
  cases m with
  | nil => simpa [insert, above] using hj
  | cons p m =>
    obtain ⟨i, w⟩ := p
    have hi : k < i := by simpa [above] using h
    unfold insert
    split
    · simpa [above] using hj
    · split <;> simp [above, hi, hj]

theorem above_of_lt {k j : Nat} {m : List (Nat × α)} (h : above j m = true) (hk : k < j) : above k m = true := by
  cases m with
  | nil => rfl
  | cons p m => simp only [above, decide_eq_true_eq] at h ⊢; omega

theorem rising_insert {k : Nat} {v : α} {m : List (Nat × α)} (h : rising m = true) : rising (insert k v m) = true := by
  induction m with
  | nil => simp [insert, rising, above]
  | cons p m ih =>
    obtain ⟨j, w⟩ := p
    simp only [rising, Bool.and_eq_true] at h
    unfold insert
    split
    · rename_i hk; simp [rising, h, show above k ((j, w) :: m) = true by simpa [above] using hk]
    · split
      · rename_i hk; subst hk; simp [rising, h]
      · rename_i h1 h2; simp [rising, ih h.2, above_insert h.1 (show j < k by omega)]

theorem above_remove {k j : Nat} {m : List (Nat × α)} (hr : rising m = true) (h : above k m = true) :
    above k (remove j m) = true := by
  cases m with
  | nil => rfl
  | cons p m =>
    obtain ⟨i, w⟩ := p
    have hi : k < i := by simpa [above] using h
    simp only [rising, Bool.and_eq_true] at hr
    unfold remove
    split
    · exact h
    · split
      · exact above_of_lt hr.1 hi
      · simpa [above] using hi

theorem rising_remove {k : Nat} {m : List (Nat × α)} (h : rising m = true) : rising (remove k m) = true := by
  induction m with
  | nil => rfl
  | cons p m ih =>
    obtain ⟨j, w⟩ := p
    have h' := h
    simp only [rising, Bool.and_eq_true] at h'
    unfold remove
    split
    · exact h
    · split
      · exact h'.2
      · simp [rising, ih h'.2, above_remove h'.2 h'.1]

theorem get_below {d : Nat → α} {k : Nat} {m : List (Nat × α)} (hr : rising m = true) (h : above k m = true) :
    get d k m = d k := by
  induction m with
  | nil => rfl
  | cons p m ih =>
    obtain ⟨j, w⟩ := p
    simp only [rising, Bool.and_eq_true] at hr
    have hj : k < j := by simpa [above] using h
    have : j ≠ k := by omega
    simp [get, this, ih hr.2 (above_of_lt hr.1 hj)]

theorem get_insert_self {d : Nat → α} {k : Nat} {v : α} {m : List (Nat × α)} : get d k (insert k v m) = v := by
  induction m with
  | nil => simp [insert, get]
  | cons p m ih =>
    obtain ⟨j, w⟩ := p
    unfold insert
    split
    · simp [get]
    · split
      · simp [get]
      · rename_i h1 h2; simp [get, Ne.symm h2, ih]

theorem get_insert_other {d : Nat → α} {k j : Nat} {v : α} {m : List (Nat × α)} (h : j ≠ k) :
    get d j (insert k v m) = get d j m := by
  induction m with
  | nil => simp [insert, get, h.symm]
  | cons p m ih =>
    obtain ⟨i, w⟩ := p
    unfold insert
    split
    · simp [get, h.symm]
    · split
      · rename_i h1 h2; subst h2; simp [get, h.symm]
      · simp [get, ih]

theorem get_remove_self {d : Nat → α} {k : Nat} {m : List (Nat × α)} (hr : rising m = true) :
    get d k (remove k m) = d k := by
  induction m with
  | nil => rfl
  | cons p m ih =>
    obtain ⟨j, w⟩ := p
    have hr' := hr
    simp only [rising, Bool.and_eq_true] at hr'
    unfold remove
    split
    · rename_i h; exact get_below hr (by simpa [above] using h)
    · split
      · rename_i h1 h2; subst h2; exact get_below hr'.2 hr'.1
      · rename_i h1 h2; simp [get, Ne.symm h2, ih hr'.2]

theorem get_remove_other {d : Nat → α} {k j : Nat} {m : List (Nat × α)} (h : j ≠ k) :
    get d j (remove k m) = get d j m := by
  induction m with
  | nil => rfl
  | cons p m ih =>
    obtain ⟨i, w⟩ := p
    unfold remove
    split
    · rfl
    · split
      · rename_i h1 h2; subst h2; simp [get, h.symm]
      · simp [get, ih]

variable [DecidableEq α]

theorem rising_of_wf {d : Nat → α} {m : List (Nat × α)} (h : wf d m = true) : rising m = true := by
  induction m with
  | nil => rfl
  | cons p m ih =>
    obtain ⟨j, w⟩ := p
    simp only [wf, Bool.and_eq_true] at h
    simp [rising, h.1.2, ih h.2]

theorem wf_insert {d : Nat → α} {k : Nat} {v : α} {m : List (Nat × α)} (h : wf d m = true) (hv : v ≠ d k) :
    wf d (insert k v m) = true := by
  induction m with
  | nil => simp [insert, wf, above, hv]
  | cons p m ih =>
    obtain ⟨j, w⟩ := p
    simp only [wf, Bool.and_eq_true, decide_eq_true_eq] at h
    unfold insert
    split
    · rename_i hk; simp [wf, h, hv, show above k ((j, w) :: m) = true by simpa [above] using hk]
    · split
      · rename_i hk; subst hk; simp [wf, h, hv]
      · rename_i h1 h2; simp [wf, ih h.2, h.1.1, above_insert h.1.2 (show j < k by omega)]

theorem wf_remove {d : Nat → α} {k : Nat} {m : List (Nat × α)} (h : wf d m = true) : wf d (remove k m) = true := by
  induction m with
  | nil => rfl
  | cons p m ih =>
    obtain ⟨j, w⟩ := p
    have h' := h
    simp only [wf, Bool.and_eq_true, decide_eq_true_eq] at h'
    unfold remove
    split
    · exact h
    · split
      · exact h'.2
      · simp [wf, ih h'.2, h'.1.1, above_remove (rising_of_wf h'.2) h'.1.2]

/-- A write keeps the canonical form. -/
theorem wf_put {d : Nat → α} {k : Nat} {v : α} {m : List (Nat × α)} (h : wf d m = true) : wf d (put d k v m) = true := by
  unfold put
  split
  · exact wf_remove h
  · rename_i hv; exact wf_insert h hv

/-- What is read at the key written. -/
theorem get_put_self {d : Nat → α} {k : Nat} {v : α} {m : List (Nat × α)} (h : wf d m = true) :
    get d k (put d k v m) = v := by
  unfold put
  split
  · rename_i hv; rw [hv]; exact get_remove_self (rising_of_wf h)
  · exact get_insert_self

/-- What is read at every other key. -/
theorem get_put_other {d : Nat → α} {k j : Nat} {v : α} {m : List (Nat × α)} (h : j ≠ k) :
    get d j (put d k v m) = get d j m := by
  unfold put
  split
  · exact get_remove_other h
  · exact get_insert_other h

theorem above_filter {k : Nat} {p : Nat × α → Bool} {d : Nat → α} {m : List (Nat × α)} (hw : wf d m = true)
    (h : above k m = true) : above k (m.filter p) = true := by
  induction m with
  | nil => rfl
  | cons q m ih =>
    obtain ⟨j, w⟩ := q
    simp only [wf, Bool.and_eq_true] at hw
    have hj : k < j := by simpa [above] using h
    simp only [List.filter_cons]
    split
    · simpa [above] using hj
    · exact ih hw.2 (above_of_lt hw.1.2 hj)

/-- Taking entries out keeps the canonical form. -/
theorem wf_filter {p : Nat × α → Bool} {d : Nat → α} {m : List (Nat × α)} (h : wf d m = true) :
    wf d (m.filter p) = true := by
  induction m with
  | nil => rfl
  | cons q m ih =>
    obtain ⟨j, w⟩ := q
    have h' := h
    simp only [wf, Bool.and_eq_true] at h'
    simp only [List.filter_cons]
    split
    · simp only [wf, Bool.and_eq_true]
      exact ⟨⟨h'.1.1, above_filter h'.2 h'.1.2⟩, ih h'.2⟩
    · exact ih h'.2

end Sys2Proof.Map
end

