-- ==== Sys2Proof/Laws/State.lean ====
section
/-! SUPPORT. What each named update of the state changes, field by field: the field it changes, and every field it leaves. -/

namespace Sys2Proof.Machine

variable (s : State)

@[simp] theorem State.modClock_free (f : Clock → Clock) : (s.modClock f).free = s.free := rfl
@[simp] theorem State.modClock_part (f : Clock → Clock) : (s.modClock f).part = s.part := rfl
@[simp] theorem State.modClock_regs (f : Clock → Clock) : (s.modClock f).regs = s.regs := rfl
@[simp] theorem State.modClock_used (f : Clock → Clock) : (s.modClock f).used = s.used := rfl
@[simp] theorem State.modClock_rideWait (f : Clock → Clock) : (s.modClock f).rideWait = s.rideWait := rfl
@[simp] theorem State.modClock_pwr (f : Clock → Clock) : (s.modClock f).pwr = s.pwr := rfl
@[simp] theorem State.modClock_lcy (f : Clock → Clock) : (s.modClock f).lcy = s.lcy := rfl
@[simp] theorem State.modClock_clock (f : Clock → Clock) : (s.modClock f).clock = f s.clock := rfl
@[simp] theorem State.modClock_hosts (f : Clock → Clock) : (s.modClock f).hosts = s.hosts := rfl
@[simp] theorem State.modClock_modes (f : Clock → Clock) : (s.modClock f).modes = s.modes := rfl
@[simp] theorem State.modClock_ang (f : Clock → Clock) : (s.modClock f).ang = s.ang := rfl
@[simp] theorem State.modClock_adc (f : Clock → Clock) : (s.modClock f).adc = s.adc := rfl
@[simp] theorem State.modClock_rings (f : Clock → Clock) : (s.modClock f).rings = s.rings := rfl
@[simp] theorem State.modClock_modu (f : Clock → Clock) : (s.modClock f).modu = s.modu := rfl
@[simp] theorem State.modClock_loop (f : Clock → Clock) : (s.modClock f).loop = s.loop := rfl
@[simp] theorem State.modClock_grd (f : Clock → Clock) : (s.modClock f).grd = s.grd := rfl
@[simp] theorem State.modClock_bpt (f : Clock → Clock) : (s.modClock f).bpt = s.bpt := rfl
@[simp] theorem State.modClock_rti (f : Clock → Clock) : (s.modClock f).rti = s.rti := rfl
@[simp] theorem State.modClock_gaf (f : Clock → Clock) : (s.modClock f).gaf = s.gaf := rfl
@[simp] theorem State.modClock_saf (f : Clock → Clock) : (s.modClock f).saf = s.saf := rfl
@[simp] theorem State.modClock_net (f : Clock → Clock) : (s.modClock f).net = s.net := rfl
@[simp] theorem State.modClock_reco (f : Clock → Clock) : (s.modClock f).reco = s.reco := rfl
@[simp] theorem State.modClock_mem (f : Clock → Clock) : (s.modClock f).mem = s.mem := rfl
@[simp] theorem State.modClock_rail (f : Clock → Clock) : (s.modClock f).rail = s.rail := rfl
@[simp] theorem State.modClock_clk (f : Clock → Clock) : (s.modClock f).clk = s.clk := rfl
@[simp] theorem State.modClock_sen (f : Clock → Clock) : (s.modClock f).sen = s.sen := rfl
@[simp] theorem State.modClock_ev (f : Clock → Clock) : (s.modClock f).ev = s.ev := rfl
@[simp] theorem State.modClock_pending (f : Clock → Clock) : (s.modClock f).pending = s.pending := rfl

@[simp] theorem State.modAng_free (f : Angle → Angle) : (s.modAng f).free = s.free := rfl
@[simp] theorem State.modAng_part (f : Angle → Angle) : (s.modAng f).part = s.part := rfl
@[simp] theorem State.modAng_regs (f : Angle → Angle) : (s.modAng f).regs = s.regs := rfl
@[simp] theorem State.modAng_used (f : Angle → Angle) : (s.modAng f).used = s.used := rfl
@[simp] theorem State.modAng_rideWait (f : Angle → Angle) : (s.modAng f).rideWait = s.rideWait := rfl
@[simp] theorem State.modAng_pwr (f : Angle → Angle) : (s.modAng f).pwr = s.pwr := rfl
@[simp] theorem State.modAng_lcy (f : Angle → Angle) : (s.modAng f).lcy = s.lcy := rfl
@[simp] theorem State.modAng_clock (f : Angle → Angle) : (s.modAng f).clock = s.clock := rfl
@[simp] theorem State.modAng_hosts (f : Angle → Angle) : (s.modAng f).hosts = s.hosts := rfl
@[simp] theorem State.modAng_modes (f : Angle → Angle) : (s.modAng f).modes = s.modes := rfl
@[simp] theorem State.modAng_ang (f : Angle → Angle) : (s.modAng f).ang = f s.ang := rfl
@[simp] theorem State.modAng_adc (f : Angle → Angle) : (s.modAng f).adc = s.adc := rfl
@[simp] theorem State.modAng_rings (f : Angle → Angle) : (s.modAng f).rings = s.rings := rfl
@[simp] theorem State.modAng_modu (f : Angle → Angle) : (s.modAng f).modu = s.modu := rfl
@[simp] theorem State.modAng_loop (f : Angle → Angle) : (s.modAng f).loop = s.loop := rfl
@[simp] theorem State.modAng_grd (f : Angle → Angle) : (s.modAng f).grd = s.grd := rfl
@[simp] theorem State.modAng_bpt (f : Angle → Angle) : (s.modAng f).bpt = s.bpt := rfl
@[simp] theorem State.modAng_rti (f : Angle → Angle) : (s.modAng f).rti = s.rti := rfl
@[simp] theorem State.modAng_gaf (f : Angle → Angle) : (s.modAng f).gaf = s.gaf := rfl
@[simp] theorem State.modAng_saf (f : Angle → Angle) : (s.modAng f).saf = s.saf := rfl
@[simp] theorem State.modAng_net (f : Angle → Angle) : (s.modAng f).net = s.net := rfl
@[simp] theorem State.modAng_reco (f : Angle → Angle) : (s.modAng f).reco = s.reco := rfl
@[simp] theorem State.modAng_mem (f : Angle → Angle) : (s.modAng f).mem = s.mem := rfl
@[simp] theorem State.modAng_rail (f : Angle → Angle) : (s.modAng f).rail = s.rail := rfl
@[simp] theorem State.modAng_clk (f : Angle → Angle) : (s.modAng f).clk = s.clk := rfl
@[simp] theorem State.modAng_sen (f : Angle → Angle) : (s.modAng f).sen = s.sen := rfl
@[simp] theorem State.modAng_ev (f : Angle → Angle) : (s.modAng f).ev = s.ev := rfl
@[simp] theorem State.modAng_pending (f : Angle → Angle) : (s.modAng f).pending = s.pending := rfl

@[simp] theorem State.modLoop_free (f : Loop → Loop) : (s.modLoop f).free = s.free := rfl
@[simp] theorem State.modLoop_part (f : Loop → Loop) : (s.modLoop f).part = s.part := rfl
@[simp] theorem State.modLoop_regs (f : Loop → Loop) : (s.modLoop f).regs = s.regs := rfl
@[simp] theorem State.modLoop_used (f : Loop → Loop) : (s.modLoop f).used = s.used := rfl
@[simp] theorem State.modLoop_rideWait (f : Loop → Loop) : (s.modLoop f).rideWait = s.rideWait := rfl
@[simp] theorem State.modLoop_pwr (f : Loop → Loop) : (s.modLoop f).pwr = s.pwr := rfl
@[simp] theorem State.modLoop_lcy (f : Loop → Loop) : (s.modLoop f).lcy = s.lcy := rfl
@[simp] theorem State.modLoop_clock (f : Loop → Loop) : (s.modLoop f).clock = s.clock := rfl
@[simp] theorem State.modLoop_hosts (f : Loop → Loop) : (s.modLoop f).hosts = s.hosts := rfl
@[simp] theorem State.modLoop_modes (f : Loop → Loop) : (s.modLoop f).modes = s.modes := rfl
@[simp] theorem State.modLoop_ang (f : Loop → Loop) : (s.modLoop f).ang = s.ang := rfl
@[simp] theorem State.modLoop_adc (f : Loop → Loop) : (s.modLoop f).adc = s.adc := rfl
@[simp] theorem State.modLoop_rings (f : Loop → Loop) : (s.modLoop f).rings = s.rings := rfl
@[simp] theorem State.modLoop_modu (f : Loop → Loop) : (s.modLoop f).modu = s.modu := rfl
@[simp] theorem State.modLoop_loop (f : Loop → Loop) : (s.modLoop f).loop = f s.loop := rfl
@[simp] theorem State.modLoop_grd (f : Loop → Loop) : (s.modLoop f).grd = s.grd := rfl
@[simp] theorem State.modLoop_bpt (f : Loop → Loop) : (s.modLoop f).bpt = s.bpt := rfl
@[simp] theorem State.modLoop_rti (f : Loop → Loop) : (s.modLoop f).rti = s.rti := rfl
@[simp] theorem State.modLoop_gaf (f : Loop → Loop) : (s.modLoop f).gaf = s.gaf := rfl
@[simp] theorem State.modLoop_saf (f : Loop → Loop) : (s.modLoop f).saf = s.saf := rfl
@[simp] theorem State.modLoop_net (f : Loop → Loop) : (s.modLoop f).net = s.net := rfl
@[simp] theorem State.modLoop_reco (f : Loop → Loop) : (s.modLoop f).reco = s.reco := rfl
@[simp] theorem State.modLoop_mem (f : Loop → Loop) : (s.modLoop f).mem = s.mem := rfl
@[simp] theorem State.modLoop_rail (f : Loop → Loop) : (s.modLoop f).rail = s.rail := rfl
@[simp] theorem State.modLoop_clk (f : Loop → Loop) : (s.modLoop f).clk = s.clk := rfl
@[simp] theorem State.modLoop_sen (f : Loop → Loop) : (s.modLoop f).sen = s.sen := rfl
@[simp] theorem State.modLoop_ev (f : Loop → Loop) : (s.modLoop f).ev = s.ev := rfl
@[simp] theorem State.modLoop_pending (f : Loop → Loop) : (s.modLoop f).pending = s.pending := rfl

@[simp] theorem State.modBpt_free (f : Bpt → Bpt) : (s.modBpt f).free = s.free := rfl
@[simp] theorem State.modBpt_part (f : Bpt → Bpt) : (s.modBpt f).part = s.part := rfl
@[simp] theorem State.modBpt_regs (f : Bpt → Bpt) : (s.modBpt f).regs = s.regs := rfl
@[simp] theorem State.modBpt_used (f : Bpt → Bpt) : (s.modBpt f).used = s.used := rfl
@[simp] theorem State.modBpt_rideWait (f : Bpt → Bpt) : (s.modBpt f).rideWait = s.rideWait := rfl
@[simp] theorem State.modBpt_pwr (f : Bpt → Bpt) : (s.modBpt f).pwr = s.pwr := rfl
@[simp] theorem State.modBpt_lcy (f : Bpt → Bpt) : (s.modBpt f).lcy = s.lcy := rfl
@[simp] theorem State.modBpt_clock (f : Bpt → Bpt) : (s.modBpt f).clock = s.clock := rfl
@[simp] theorem State.modBpt_hosts (f : Bpt → Bpt) : (s.modBpt f).hosts = s.hosts := rfl
@[simp] theorem State.modBpt_modes (f : Bpt → Bpt) : (s.modBpt f).modes = s.modes := rfl
@[simp] theorem State.modBpt_ang (f : Bpt → Bpt) : (s.modBpt f).ang = s.ang := rfl
@[simp] theorem State.modBpt_adc (f : Bpt → Bpt) : (s.modBpt f).adc = s.adc := rfl
@[simp] theorem State.modBpt_rings (f : Bpt → Bpt) : (s.modBpt f).rings = s.rings := rfl
@[simp] theorem State.modBpt_modu (f : Bpt → Bpt) : (s.modBpt f).modu = s.modu := rfl
@[simp] theorem State.modBpt_loop (f : Bpt → Bpt) : (s.modBpt f).loop = s.loop := rfl
@[simp] theorem State.modBpt_grd (f : Bpt → Bpt) : (s.modBpt f).grd = s.grd := rfl
@[simp] theorem State.modBpt_bpt (f : Bpt → Bpt) : (s.modBpt f).bpt = f s.bpt := rfl
@[simp] theorem State.modBpt_rti (f : Bpt → Bpt) : (s.modBpt f).rti = s.rti := rfl
@[simp] theorem State.modBpt_gaf (f : Bpt → Bpt) : (s.modBpt f).gaf = s.gaf := rfl
@[simp] theorem State.modBpt_saf (f : Bpt → Bpt) : (s.modBpt f).saf = s.saf := rfl
@[simp] theorem State.modBpt_net (f : Bpt → Bpt) : (s.modBpt f).net = s.net := rfl
@[simp] theorem State.modBpt_reco (f : Bpt → Bpt) : (s.modBpt f).reco = s.reco := rfl
@[simp] theorem State.modBpt_mem (f : Bpt → Bpt) : (s.modBpt f).mem = s.mem := rfl
@[simp] theorem State.modBpt_rail (f : Bpt → Bpt) : (s.modBpt f).rail = s.rail := rfl
@[simp] theorem State.modBpt_clk (f : Bpt → Bpt) : (s.modBpt f).clk = s.clk := rfl
@[simp] theorem State.modBpt_sen (f : Bpt → Bpt) : (s.modBpt f).sen = s.sen := rfl
@[simp] theorem State.modBpt_ev (f : Bpt → Bpt) : (s.modBpt f).ev = s.ev := rfl
@[simp] theorem State.modBpt_pending (f : Bpt → Bpt) : (s.modBpt f).pending = s.pending := rfl

@[simp] theorem State.modAdc_free (f : Adc → Adc) : (s.modAdc f).free = s.free := rfl
@[simp] theorem State.modAdc_part (f : Adc → Adc) : (s.modAdc f).part = s.part := rfl
@[simp] theorem State.modAdc_regs (f : Adc → Adc) : (s.modAdc f).regs = s.regs := rfl
@[simp] theorem State.modAdc_used (f : Adc → Adc) : (s.modAdc f).used = s.used := rfl
@[simp] theorem State.modAdc_rideWait (f : Adc → Adc) : (s.modAdc f).rideWait = s.rideWait := rfl
@[simp] theorem State.modAdc_pwr (f : Adc → Adc) : (s.modAdc f).pwr = s.pwr := rfl
@[simp] theorem State.modAdc_lcy (f : Adc → Adc) : (s.modAdc f).lcy = s.lcy := rfl
@[simp] theorem State.modAdc_clock (f : Adc → Adc) : (s.modAdc f).clock = s.clock := rfl
@[simp] theorem State.modAdc_hosts (f : Adc → Adc) : (s.modAdc f).hosts = s.hosts := rfl
@[simp] theorem State.modAdc_modes (f : Adc → Adc) : (s.modAdc f).modes = s.modes := rfl
@[simp] theorem State.modAdc_ang (f : Adc → Adc) : (s.modAdc f).ang = s.ang := rfl
@[simp] theorem State.modAdc_adc (f : Adc → Adc) : (s.modAdc f).adc = f s.adc := rfl
@[simp] theorem State.modAdc_rings (f : Adc → Adc) : (s.modAdc f).rings = s.rings := rfl
@[simp] theorem State.modAdc_modu (f : Adc → Adc) : (s.modAdc f).modu = s.modu := rfl
@[simp] theorem State.modAdc_loop (f : Adc → Adc) : (s.modAdc f).loop = s.loop := rfl
@[simp] theorem State.modAdc_grd (f : Adc → Adc) : (s.modAdc f).grd = s.grd := rfl
@[simp] theorem State.modAdc_bpt (f : Adc → Adc) : (s.modAdc f).bpt = s.bpt := rfl
@[simp] theorem State.modAdc_rti (f : Adc → Adc) : (s.modAdc f).rti = s.rti := rfl
@[simp] theorem State.modAdc_gaf (f : Adc → Adc) : (s.modAdc f).gaf = s.gaf := rfl
@[simp] theorem State.modAdc_saf (f : Adc → Adc) : (s.modAdc f).saf = s.saf := rfl
@[simp] theorem State.modAdc_net (f : Adc → Adc) : (s.modAdc f).net = s.net := rfl
@[simp] theorem State.modAdc_reco (f : Adc → Adc) : (s.modAdc f).reco = s.reco := rfl
@[simp] theorem State.modAdc_mem (f : Adc → Adc) : (s.modAdc f).mem = s.mem := rfl
@[simp] theorem State.modAdc_rail (f : Adc → Adc) : (s.modAdc f).rail = s.rail := rfl
@[simp] theorem State.modAdc_clk (f : Adc → Adc) : (s.modAdc f).clk = s.clk := rfl
@[simp] theorem State.modAdc_sen (f : Adc → Adc) : (s.modAdc f).sen = s.sen := rfl
@[simp] theorem State.modAdc_ev (f : Adc → Adc) : (s.modAdc f).ev = s.ev := rfl
@[simp] theorem State.modAdc_pending (f : Adc → Adc) : (s.modAdc f).pending = s.pending := rfl

@[simp] theorem State.modGrd_free (f : Grd → Grd) : (s.modGrd f).free = s.free := rfl
@[simp] theorem State.modGrd_part (f : Grd → Grd) : (s.modGrd f).part = s.part := rfl
@[simp] theorem State.modGrd_regs (f : Grd → Grd) : (s.modGrd f).regs = s.regs := rfl
@[simp] theorem State.modGrd_used (f : Grd → Grd) : (s.modGrd f).used = s.used := rfl
@[simp] theorem State.modGrd_rideWait (f : Grd → Grd) : (s.modGrd f).rideWait = s.rideWait := rfl
@[simp] theorem State.modGrd_pwr (f : Grd → Grd) : (s.modGrd f).pwr = s.pwr := rfl
@[simp] theorem State.modGrd_lcy (f : Grd → Grd) : (s.modGrd f).lcy = s.lcy := rfl
@[simp] theorem State.modGrd_clock (f : Grd → Grd) : (s.modGrd f).clock = s.clock := rfl
@[simp] theorem State.modGrd_hosts (f : Grd → Grd) : (s.modGrd f).hosts = s.hosts := rfl
@[simp] theorem State.modGrd_modes (f : Grd → Grd) : (s.modGrd f).modes = s.modes := rfl
@[simp] theorem State.modGrd_ang (f : Grd → Grd) : (s.modGrd f).ang = s.ang := rfl
@[simp] theorem State.modGrd_adc (f : Grd → Grd) : (s.modGrd f).adc = s.adc := rfl
@[simp] theorem State.modGrd_rings (f : Grd → Grd) : (s.modGrd f).rings = s.rings := rfl
@[simp] theorem State.modGrd_modu (f : Grd → Grd) : (s.modGrd f).modu = s.modu := rfl
@[simp] theorem State.modGrd_loop (f : Grd → Grd) : (s.modGrd f).loop = s.loop := rfl
@[simp] theorem State.modGrd_grd (f : Grd → Grd) : (s.modGrd f).grd = f s.grd := rfl
@[simp] theorem State.modGrd_bpt (f : Grd → Grd) : (s.modGrd f).bpt = s.bpt := rfl
@[simp] theorem State.modGrd_rti (f : Grd → Grd) : (s.modGrd f).rti = s.rti := rfl
@[simp] theorem State.modGrd_gaf (f : Grd → Grd) : (s.modGrd f).gaf = s.gaf := rfl
@[simp] theorem State.modGrd_saf (f : Grd → Grd) : (s.modGrd f).saf = s.saf := rfl
@[simp] theorem State.modGrd_net (f : Grd → Grd) : (s.modGrd f).net = s.net := rfl
@[simp] theorem State.modGrd_reco (f : Grd → Grd) : (s.modGrd f).reco = s.reco := rfl
@[simp] theorem State.modGrd_mem (f : Grd → Grd) : (s.modGrd f).mem = s.mem := rfl
@[simp] theorem State.modGrd_rail (f : Grd → Grd) : (s.modGrd f).rail = s.rail := rfl
@[simp] theorem State.modGrd_clk (f : Grd → Grd) : (s.modGrd f).clk = s.clk := rfl
@[simp] theorem State.modGrd_sen (f : Grd → Grd) : (s.modGrd f).sen = s.sen := rfl
@[simp] theorem State.modGrd_ev (f : Grd → Grd) : (s.modGrd f).ev = s.ev := rfl
@[simp] theorem State.modGrd_pending (f : Grd → Grd) : (s.modGrd f).pending = s.pending := rfl

@[simp] theorem State.modNet_free (f : Net → Net) : (s.modNet f).free = s.free := rfl
@[simp] theorem State.modNet_part (f : Net → Net) : (s.modNet f).part = s.part := rfl
@[simp] theorem State.modNet_regs (f : Net → Net) : (s.modNet f).regs = s.regs := rfl
@[simp] theorem State.modNet_used (f : Net → Net) : (s.modNet f).used = s.used := rfl
@[simp] theorem State.modNet_rideWait (f : Net → Net) : (s.modNet f).rideWait = s.rideWait := rfl
@[simp] theorem State.modNet_pwr (f : Net → Net) : (s.modNet f).pwr = s.pwr := rfl
@[simp] theorem State.modNet_lcy (f : Net → Net) : (s.modNet f).lcy = s.lcy := rfl
@[simp] theorem State.modNet_clock (f : Net → Net) : (s.modNet f).clock = s.clock := rfl
@[simp] theorem State.modNet_hosts (f : Net → Net) : (s.modNet f).hosts = s.hosts := rfl
@[simp] theorem State.modNet_modes (f : Net → Net) : (s.modNet f).modes = s.modes := rfl
@[simp] theorem State.modNet_ang (f : Net → Net) : (s.modNet f).ang = s.ang := rfl
@[simp] theorem State.modNet_adc (f : Net → Net) : (s.modNet f).adc = s.adc := rfl
@[simp] theorem State.modNet_rings (f : Net → Net) : (s.modNet f).rings = s.rings := rfl
@[simp] theorem State.modNet_modu (f : Net → Net) : (s.modNet f).modu = s.modu := rfl
@[simp] theorem State.modNet_loop (f : Net → Net) : (s.modNet f).loop = s.loop := rfl
@[simp] theorem State.modNet_grd (f : Net → Net) : (s.modNet f).grd = s.grd := rfl
@[simp] theorem State.modNet_bpt (f : Net → Net) : (s.modNet f).bpt = s.bpt := rfl
@[simp] theorem State.modNet_rti (f : Net → Net) : (s.modNet f).rti = s.rti := rfl
@[simp] theorem State.modNet_gaf (f : Net → Net) : (s.modNet f).gaf = s.gaf := rfl
@[simp] theorem State.modNet_saf (f : Net → Net) : (s.modNet f).saf = s.saf := rfl
@[simp] theorem State.modNet_net (f : Net → Net) : (s.modNet f).net = f s.net := rfl
@[simp] theorem State.modNet_reco (f : Net → Net) : (s.modNet f).reco = s.reco := rfl
@[simp] theorem State.modNet_mem (f : Net → Net) : (s.modNet f).mem = s.mem := rfl
@[simp] theorem State.modNet_rail (f : Net → Net) : (s.modNet f).rail = s.rail := rfl
@[simp] theorem State.modNet_clk (f : Net → Net) : (s.modNet f).clk = s.clk := rfl
@[simp] theorem State.modNet_sen (f : Net → Net) : (s.modNet f).sen = s.sen := rfl
@[simp] theorem State.modNet_ev (f : Net → Net) : (s.modNet f).ev = s.ev := rfl
@[simp] theorem State.modNet_pending (f : Net → Net) : (s.modNet f).pending = s.pending := rfl

@[simp] theorem State.modHosts_free (f : Hosts → Hosts) : (s.modHosts f).free = s.free := rfl
@[simp] theorem State.modHosts_part (f : Hosts → Hosts) : (s.modHosts f).part = s.part := rfl
@[simp] theorem State.modHosts_regs (f : Hosts → Hosts) : (s.modHosts f).regs = s.regs := rfl
@[simp] theorem State.modHosts_used (f : Hosts → Hosts) : (s.modHosts f).used = s.used := rfl
@[simp] theorem State.modHosts_rideWait (f : Hosts → Hosts) : (s.modHosts f).rideWait = s.rideWait := rfl
@[simp] theorem State.modHosts_pwr (f : Hosts → Hosts) : (s.modHosts f).pwr = s.pwr := rfl
@[simp] theorem State.modHosts_lcy (f : Hosts → Hosts) : (s.modHosts f).lcy = s.lcy := rfl
@[simp] theorem State.modHosts_clock (f : Hosts → Hosts) : (s.modHosts f).clock = s.clock := rfl
@[simp] theorem State.modHosts_hosts (f : Hosts → Hosts) : (s.modHosts f).hosts = f s.hosts := rfl
@[simp] theorem State.modHosts_modes (f : Hosts → Hosts) : (s.modHosts f).modes = s.modes := rfl
@[simp] theorem State.modHosts_ang (f : Hosts → Hosts) : (s.modHosts f).ang = s.ang := rfl
@[simp] theorem State.modHosts_adc (f : Hosts → Hosts) : (s.modHosts f).adc = s.adc := rfl
@[simp] theorem State.modHosts_rings (f : Hosts → Hosts) : (s.modHosts f).rings = s.rings := rfl
@[simp] theorem State.modHosts_modu (f : Hosts → Hosts) : (s.modHosts f).modu = s.modu := rfl
@[simp] theorem State.modHosts_loop (f : Hosts → Hosts) : (s.modHosts f).loop = s.loop := rfl
@[simp] theorem State.modHosts_grd (f : Hosts → Hosts) : (s.modHosts f).grd = s.grd := rfl
@[simp] theorem State.modHosts_bpt (f : Hosts → Hosts) : (s.modHosts f).bpt = s.bpt := rfl
@[simp] theorem State.modHosts_rti (f : Hosts → Hosts) : (s.modHosts f).rti = s.rti := rfl
@[simp] theorem State.modHosts_gaf (f : Hosts → Hosts) : (s.modHosts f).gaf = s.gaf := rfl
@[simp] theorem State.modHosts_saf (f : Hosts → Hosts) : (s.modHosts f).saf = s.saf := rfl
@[simp] theorem State.modHosts_net (f : Hosts → Hosts) : (s.modHosts f).net = s.net := rfl
@[simp] theorem State.modHosts_reco (f : Hosts → Hosts) : (s.modHosts f).reco = s.reco := rfl
@[simp] theorem State.modHosts_mem (f : Hosts → Hosts) : (s.modHosts f).mem = s.mem := rfl
@[simp] theorem State.modHosts_rail (f : Hosts → Hosts) : (s.modHosts f).rail = s.rail := rfl
@[simp] theorem State.modHosts_clk (f : Hosts → Hosts) : (s.modHosts f).clk = s.clk := rfl
@[simp] theorem State.modHosts_sen (f : Hosts → Hosts) : (s.modHosts f).sen = s.sen := rfl
@[simp] theorem State.modHosts_ev (f : Hosts → Hosts) : (s.modHosts f).ev = s.ev := rfl
@[simp] theorem State.modHosts_pending (f : Hosts → Hosts) : (s.modHosts f).pending = s.pending := rfl

@[simp] theorem State.modGaf_free (f : Gaffer → Gaffer) : (s.modGaf f).free = s.free := rfl
@[simp] theorem State.modGaf_part (f : Gaffer → Gaffer) : (s.modGaf f).part = s.part := rfl
@[simp] theorem State.modGaf_regs (f : Gaffer → Gaffer) : (s.modGaf f).regs = s.regs := rfl
@[simp] theorem State.modGaf_used (f : Gaffer → Gaffer) : (s.modGaf f).used = s.used := rfl
@[simp] theorem State.modGaf_rideWait (f : Gaffer → Gaffer) : (s.modGaf f).rideWait = s.rideWait := rfl
@[simp] theorem State.modGaf_pwr (f : Gaffer → Gaffer) : (s.modGaf f).pwr = s.pwr := rfl
@[simp] theorem State.modGaf_lcy (f : Gaffer → Gaffer) : (s.modGaf f).lcy = s.lcy := rfl
@[simp] theorem State.modGaf_clock (f : Gaffer → Gaffer) : (s.modGaf f).clock = s.clock := rfl
@[simp] theorem State.modGaf_hosts (f : Gaffer → Gaffer) : (s.modGaf f).hosts = s.hosts := rfl
@[simp] theorem State.modGaf_modes (f : Gaffer → Gaffer) : (s.modGaf f).modes = s.modes := rfl
@[simp] theorem State.modGaf_ang (f : Gaffer → Gaffer) : (s.modGaf f).ang = s.ang := rfl
@[simp] theorem State.modGaf_adc (f : Gaffer → Gaffer) : (s.modGaf f).adc = s.adc := rfl
@[simp] theorem State.modGaf_rings (f : Gaffer → Gaffer) : (s.modGaf f).rings = s.rings := rfl
@[simp] theorem State.modGaf_modu (f : Gaffer → Gaffer) : (s.modGaf f).modu = s.modu := rfl
@[simp] theorem State.modGaf_loop (f : Gaffer → Gaffer) : (s.modGaf f).loop = s.loop := rfl
@[simp] theorem State.modGaf_grd (f : Gaffer → Gaffer) : (s.modGaf f).grd = s.grd := rfl
@[simp] theorem State.modGaf_bpt (f : Gaffer → Gaffer) : (s.modGaf f).bpt = s.bpt := rfl
@[simp] theorem State.modGaf_rti (f : Gaffer → Gaffer) : (s.modGaf f).rti = s.rti := rfl
@[simp] theorem State.modGaf_gaf (f : Gaffer → Gaffer) : (s.modGaf f).gaf = f s.gaf := rfl
@[simp] theorem State.modGaf_saf (f : Gaffer → Gaffer) : (s.modGaf f).saf = s.saf := rfl
@[simp] theorem State.modGaf_net (f : Gaffer → Gaffer) : (s.modGaf f).net = s.net := rfl
@[simp] theorem State.modGaf_reco (f : Gaffer → Gaffer) : (s.modGaf f).reco = s.reco := rfl
@[simp] theorem State.modGaf_mem (f : Gaffer → Gaffer) : (s.modGaf f).mem = s.mem := rfl
@[simp] theorem State.modGaf_rail (f : Gaffer → Gaffer) : (s.modGaf f).rail = s.rail := rfl
@[simp] theorem State.modGaf_clk (f : Gaffer → Gaffer) : (s.modGaf f).clk = s.clk := rfl
@[simp] theorem State.modGaf_sen (f : Gaffer → Gaffer) : (s.modGaf f).sen = s.sen := rfl
@[simp] theorem State.modGaf_ev (f : Gaffer → Gaffer) : (s.modGaf f).ev = s.ev := rfl
@[simp] theorem State.modGaf_pending (f : Gaffer → Gaffer) : (s.modGaf f).pending = s.pending := rfl

@[simp] theorem State.modReco_free (f : Recorder → Recorder) : (s.modReco f).free = s.free := rfl
@[simp] theorem State.modReco_part (f : Recorder → Recorder) : (s.modReco f).part = s.part := rfl
@[simp] theorem State.modReco_regs (f : Recorder → Recorder) : (s.modReco f).regs = s.regs := rfl
@[simp] theorem State.modReco_used (f : Recorder → Recorder) : (s.modReco f).used = s.used := rfl
@[simp] theorem State.modReco_rideWait (f : Recorder → Recorder) : (s.modReco f).rideWait = s.rideWait := rfl
@[simp] theorem State.modReco_pwr (f : Recorder → Recorder) : (s.modReco f).pwr = s.pwr := rfl
@[simp] theorem State.modReco_lcy (f : Recorder → Recorder) : (s.modReco f).lcy = s.lcy := rfl
@[simp] theorem State.modReco_clock (f : Recorder → Recorder) : (s.modReco f).clock = s.clock := rfl
@[simp] theorem State.modReco_hosts (f : Recorder → Recorder) : (s.modReco f).hosts = s.hosts := rfl
@[simp] theorem State.modReco_modes (f : Recorder → Recorder) : (s.modReco f).modes = s.modes := rfl
@[simp] theorem State.modReco_ang (f : Recorder → Recorder) : (s.modReco f).ang = s.ang := rfl
@[simp] theorem State.modReco_adc (f : Recorder → Recorder) : (s.modReco f).adc = s.adc := rfl
@[simp] theorem State.modReco_rings (f : Recorder → Recorder) : (s.modReco f).rings = s.rings := rfl
@[simp] theorem State.modReco_modu (f : Recorder → Recorder) : (s.modReco f).modu = s.modu := rfl
@[simp] theorem State.modReco_loop (f : Recorder → Recorder) : (s.modReco f).loop = s.loop := rfl
@[simp] theorem State.modReco_grd (f : Recorder → Recorder) : (s.modReco f).grd = s.grd := rfl
@[simp] theorem State.modReco_bpt (f : Recorder → Recorder) : (s.modReco f).bpt = s.bpt := rfl
@[simp] theorem State.modReco_rti (f : Recorder → Recorder) : (s.modReco f).rti = s.rti := rfl
@[simp] theorem State.modReco_gaf (f : Recorder → Recorder) : (s.modReco f).gaf = s.gaf := rfl
@[simp] theorem State.modReco_saf (f : Recorder → Recorder) : (s.modReco f).saf = s.saf := rfl
@[simp] theorem State.modReco_net (f : Recorder → Recorder) : (s.modReco f).net = s.net := rfl
@[simp] theorem State.modReco_reco (f : Recorder → Recorder) : (s.modReco f).reco = f s.reco := rfl
@[simp] theorem State.modReco_mem (f : Recorder → Recorder) : (s.modReco f).mem = s.mem := rfl
@[simp] theorem State.modReco_rail (f : Recorder → Recorder) : (s.modReco f).rail = s.rail := rfl
@[simp] theorem State.modReco_clk (f : Recorder → Recorder) : (s.modReco f).clk = s.clk := rfl
@[simp] theorem State.modReco_sen (f : Recorder → Recorder) : (s.modReco f).sen = s.sen := rfl
@[simp] theorem State.modReco_ev (f : Recorder → Recorder) : (s.modReco f).ev = s.ev := rfl
@[simp] theorem State.modReco_pending (f : Recorder → Recorder) : (s.modReco f).pending = s.pending := rfl

@[simp] theorem State.modMem_free (f : Memories → Memories) : (s.modMem f).free = s.free := rfl
@[simp] theorem State.modMem_part (f : Memories → Memories) : (s.modMem f).part = s.part := rfl
@[simp] theorem State.modMem_regs (f : Memories → Memories) : (s.modMem f).regs = s.regs := rfl
@[simp] theorem State.modMem_used (f : Memories → Memories) : (s.modMem f).used = s.used := rfl
@[simp] theorem State.modMem_rideWait (f : Memories → Memories) : (s.modMem f).rideWait = s.rideWait := rfl
@[simp] theorem State.modMem_pwr (f : Memories → Memories) : (s.modMem f).pwr = s.pwr := rfl
@[simp] theorem State.modMem_lcy (f : Memories → Memories) : (s.modMem f).lcy = s.lcy := rfl
@[simp] theorem State.modMem_clock (f : Memories → Memories) : (s.modMem f).clock = s.clock := rfl
@[simp] theorem State.modMem_hosts (f : Memories → Memories) : (s.modMem f).hosts = s.hosts := rfl
@[simp] theorem State.modMem_modes (f : Memories → Memories) : (s.modMem f).modes = s.modes := rfl
@[simp] theorem State.modMem_ang (f : Memories → Memories) : (s.modMem f).ang = s.ang := rfl
@[simp] theorem State.modMem_adc (f : Memories → Memories) : (s.modMem f).adc = s.adc := rfl
@[simp] theorem State.modMem_rings (f : Memories → Memories) : (s.modMem f).rings = s.rings := rfl
@[simp] theorem State.modMem_modu (f : Memories → Memories) : (s.modMem f).modu = s.modu := rfl
@[simp] theorem State.modMem_loop (f : Memories → Memories) : (s.modMem f).loop = s.loop := rfl
@[simp] theorem State.modMem_grd (f : Memories → Memories) : (s.modMem f).grd = s.grd := rfl
@[simp] theorem State.modMem_bpt (f : Memories → Memories) : (s.modMem f).bpt = s.bpt := rfl
@[simp] theorem State.modMem_rti (f : Memories → Memories) : (s.modMem f).rti = s.rti := rfl
@[simp] theorem State.modMem_gaf (f : Memories → Memories) : (s.modMem f).gaf = s.gaf := rfl
@[simp] theorem State.modMem_saf (f : Memories → Memories) : (s.modMem f).saf = s.saf := rfl
@[simp] theorem State.modMem_net (f : Memories → Memories) : (s.modMem f).net = s.net := rfl
@[simp] theorem State.modMem_reco (f : Memories → Memories) : (s.modMem f).reco = s.reco := rfl
@[simp] theorem State.modMem_mem (f : Memories → Memories) : (s.modMem f).mem = f s.mem := rfl
@[simp] theorem State.modMem_rail (f : Memories → Memories) : (s.modMem f).rail = s.rail := rfl
@[simp] theorem State.modMem_clk (f : Memories → Memories) : (s.modMem f).clk = s.clk := rfl
@[simp] theorem State.modMem_sen (f : Memories → Memories) : (s.modMem f).sen = s.sen := rfl
@[simp] theorem State.modMem_ev (f : Memories → Memories) : (s.modMem f).ev = s.ev := rfl
@[simp] theorem State.modMem_pending (f : Memories → Memories) : (s.modMem f).pending = s.pending := rfl

@[simp] theorem State.modPwr_free (f : Reset → Reset) : (s.modPwr f).free = s.free := rfl
@[simp] theorem State.modPwr_part (f : Reset → Reset) : (s.modPwr f).part = s.part := rfl
@[simp] theorem State.modPwr_regs (f : Reset → Reset) : (s.modPwr f).regs = s.regs := rfl
@[simp] theorem State.modPwr_used (f : Reset → Reset) : (s.modPwr f).used = s.used := rfl
@[simp] theorem State.modPwr_rideWait (f : Reset → Reset) : (s.modPwr f).rideWait = s.rideWait := rfl
@[simp] theorem State.modPwr_pwr (f : Reset → Reset) : (s.modPwr f).pwr = f s.pwr := rfl
@[simp] theorem State.modPwr_lcy (f : Reset → Reset) : (s.modPwr f).lcy = s.lcy := rfl
@[simp] theorem State.modPwr_clock (f : Reset → Reset) : (s.modPwr f).clock = s.clock := rfl
@[simp] theorem State.modPwr_hosts (f : Reset → Reset) : (s.modPwr f).hosts = s.hosts := rfl
@[simp] theorem State.modPwr_modes (f : Reset → Reset) : (s.modPwr f).modes = s.modes := rfl
@[simp] theorem State.modPwr_ang (f : Reset → Reset) : (s.modPwr f).ang = s.ang := rfl
@[simp] theorem State.modPwr_adc (f : Reset → Reset) : (s.modPwr f).adc = s.adc := rfl
@[simp] theorem State.modPwr_rings (f : Reset → Reset) : (s.modPwr f).rings = s.rings := rfl
@[simp] theorem State.modPwr_modu (f : Reset → Reset) : (s.modPwr f).modu = s.modu := rfl
@[simp] theorem State.modPwr_loop (f : Reset → Reset) : (s.modPwr f).loop = s.loop := rfl
@[simp] theorem State.modPwr_grd (f : Reset → Reset) : (s.modPwr f).grd = s.grd := rfl
@[simp] theorem State.modPwr_bpt (f : Reset → Reset) : (s.modPwr f).bpt = s.bpt := rfl
@[simp] theorem State.modPwr_rti (f : Reset → Reset) : (s.modPwr f).rti = s.rti := rfl
@[simp] theorem State.modPwr_gaf (f : Reset → Reset) : (s.modPwr f).gaf = s.gaf := rfl
@[simp] theorem State.modPwr_saf (f : Reset → Reset) : (s.modPwr f).saf = s.saf := rfl
@[simp] theorem State.modPwr_net (f : Reset → Reset) : (s.modPwr f).net = s.net := rfl
@[simp] theorem State.modPwr_reco (f : Reset → Reset) : (s.modPwr f).reco = s.reco := rfl
@[simp] theorem State.modPwr_mem (f : Reset → Reset) : (s.modPwr f).mem = s.mem := rfl
@[simp] theorem State.modPwr_rail (f : Reset → Reset) : (s.modPwr f).rail = s.rail := rfl
@[simp] theorem State.modPwr_clk (f : Reset → Reset) : (s.modPwr f).clk = s.clk := rfl
@[simp] theorem State.modPwr_sen (f : Reset → Reset) : (s.modPwr f).sen = s.sen := rfl
@[simp] theorem State.modPwr_ev (f : Reset → Reset) : (s.modPwr f).ev = s.ev := rfl
@[simp] theorem State.modPwr_pending (f : Reset → Reset) : (s.modPwr f).pending = s.pending := rfl

@[simp] theorem State.modRail_free (f : Rail → Rail) : (s.modRail f).free = s.free := rfl
@[simp] theorem State.modRail_part (f : Rail → Rail) : (s.modRail f).part = s.part := rfl
@[simp] theorem State.modRail_regs (f : Rail → Rail) : (s.modRail f).regs = s.regs := rfl
@[simp] theorem State.modRail_used (f : Rail → Rail) : (s.modRail f).used = s.used := rfl
@[simp] theorem State.modRail_rideWait (f : Rail → Rail) : (s.modRail f).rideWait = s.rideWait := rfl
@[simp] theorem State.modRail_pwr (f : Rail → Rail) : (s.modRail f).pwr = s.pwr := rfl
@[simp] theorem State.modRail_lcy (f : Rail → Rail) : (s.modRail f).lcy = s.lcy := rfl
@[simp] theorem State.modRail_clock (f : Rail → Rail) : (s.modRail f).clock = s.clock := rfl
@[simp] theorem State.modRail_hosts (f : Rail → Rail) : (s.modRail f).hosts = s.hosts := rfl
@[simp] theorem State.modRail_modes (f : Rail → Rail) : (s.modRail f).modes = s.modes := rfl
@[simp] theorem State.modRail_ang (f : Rail → Rail) : (s.modRail f).ang = s.ang := rfl
@[simp] theorem State.modRail_adc (f : Rail → Rail) : (s.modRail f).adc = s.adc := rfl
@[simp] theorem State.modRail_rings (f : Rail → Rail) : (s.modRail f).rings = s.rings := rfl
@[simp] theorem State.modRail_modu (f : Rail → Rail) : (s.modRail f).modu = s.modu := rfl
@[simp] theorem State.modRail_loop (f : Rail → Rail) : (s.modRail f).loop = s.loop := rfl
@[simp] theorem State.modRail_grd (f : Rail → Rail) : (s.modRail f).grd = s.grd := rfl
@[simp] theorem State.modRail_bpt (f : Rail → Rail) : (s.modRail f).bpt = s.bpt := rfl
@[simp] theorem State.modRail_rti (f : Rail → Rail) : (s.modRail f).rti = s.rti := rfl
@[simp] theorem State.modRail_gaf (f : Rail → Rail) : (s.modRail f).gaf = s.gaf := rfl
@[simp] theorem State.modRail_saf (f : Rail → Rail) : (s.modRail f).saf = s.saf := rfl
@[simp] theorem State.modRail_net (f : Rail → Rail) : (s.modRail f).net = s.net := rfl
@[simp] theorem State.modRail_reco (f : Rail → Rail) : (s.modRail f).reco = s.reco := rfl
@[simp] theorem State.modRail_mem (f : Rail → Rail) : (s.modRail f).mem = s.mem := rfl
@[simp] theorem State.modRail_rail (f : Rail → Rail) : (s.modRail f).rail = f s.rail := rfl
@[simp] theorem State.modRail_clk (f : Rail → Rail) : (s.modRail f).clk = s.clk := rfl
@[simp] theorem State.modRail_sen (f : Rail → Rail) : (s.modRail f).sen = s.sen := rfl
@[simp] theorem State.modRail_ev (f : Rail → Rail) : (s.modRail f).ev = s.ev := rfl
@[simp] theorem State.modRail_pending (f : Rail → Rail) : (s.modRail f).pending = s.pending := rfl

@[simp] theorem State.modClk_free (f : Clk → Clk) : (s.modClk f).free = s.free := rfl
@[simp] theorem State.modClk_part (f : Clk → Clk) : (s.modClk f).part = s.part := rfl
@[simp] theorem State.modClk_regs (f : Clk → Clk) : (s.modClk f).regs = s.regs := rfl
@[simp] theorem State.modClk_used (f : Clk → Clk) : (s.modClk f).used = s.used := rfl
@[simp] theorem State.modClk_rideWait (f : Clk → Clk) : (s.modClk f).rideWait = s.rideWait := rfl
@[simp] theorem State.modClk_pwr (f : Clk → Clk) : (s.modClk f).pwr = s.pwr := rfl
@[simp] theorem State.modClk_lcy (f : Clk → Clk) : (s.modClk f).lcy = s.lcy := rfl
@[simp] theorem State.modClk_clock (f : Clk → Clk) : (s.modClk f).clock = s.clock := rfl
@[simp] theorem State.modClk_hosts (f : Clk → Clk) : (s.modClk f).hosts = s.hosts := rfl
@[simp] theorem State.modClk_modes (f : Clk → Clk) : (s.modClk f).modes = s.modes := rfl
@[simp] theorem State.modClk_ang (f : Clk → Clk) : (s.modClk f).ang = s.ang := rfl
@[simp] theorem State.modClk_adc (f : Clk → Clk) : (s.modClk f).adc = s.adc := rfl
@[simp] theorem State.modClk_rings (f : Clk → Clk) : (s.modClk f).rings = s.rings := rfl
@[simp] theorem State.modClk_modu (f : Clk → Clk) : (s.modClk f).modu = s.modu := rfl
@[simp] theorem State.modClk_loop (f : Clk → Clk) : (s.modClk f).loop = s.loop := rfl
@[simp] theorem State.modClk_grd (f : Clk → Clk) : (s.modClk f).grd = s.grd := rfl
@[simp] theorem State.modClk_bpt (f : Clk → Clk) : (s.modClk f).bpt = s.bpt := rfl
@[simp] theorem State.modClk_rti (f : Clk → Clk) : (s.modClk f).rti = s.rti := rfl
@[simp] theorem State.modClk_gaf (f : Clk → Clk) : (s.modClk f).gaf = s.gaf := rfl
@[simp] theorem State.modClk_saf (f : Clk → Clk) : (s.modClk f).saf = s.saf := rfl
@[simp] theorem State.modClk_net (f : Clk → Clk) : (s.modClk f).net = s.net := rfl
@[simp] theorem State.modClk_reco (f : Clk → Clk) : (s.modClk f).reco = s.reco := rfl
@[simp] theorem State.modClk_mem (f : Clk → Clk) : (s.modClk f).mem = s.mem := rfl
@[simp] theorem State.modClk_rail (f : Clk → Clk) : (s.modClk f).rail = s.rail := rfl
@[simp] theorem State.modClk_clk (f : Clk → Clk) : (s.modClk f).clk = f s.clk := rfl
@[simp] theorem State.modClk_sen (f : Clk → Clk) : (s.modClk f).sen = s.sen := rfl
@[simp] theorem State.modClk_ev (f : Clk → Clk) : (s.modClk f).ev = s.ev := rfl
@[simp] theorem State.modClk_pending (f : Clk → Clk) : (s.modClk f).pending = s.pending := rfl

@[simp] theorem State.modRti_free (f : Rti → Rti) : (s.modRti f).free = s.free := rfl
@[simp] theorem State.modRti_part (f : Rti → Rti) : (s.modRti f).part = s.part := rfl
@[simp] theorem State.modRti_regs (f : Rti → Rti) : (s.modRti f).regs = s.regs := rfl
@[simp] theorem State.modRti_used (f : Rti → Rti) : (s.modRti f).used = s.used := rfl
@[simp] theorem State.modRti_rideWait (f : Rti → Rti) : (s.modRti f).rideWait = s.rideWait := rfl
@[simp] theorem State.modRti_pwr (f : Rti → Rti) : (s.modRti f).pwr = s.pwr := rfl
@[simp] theorem State.modRti_lcy (f : Rti → Rti) : (s.modRti f).lcy = s.lcy := rfl
@[simp] theorem State.modRti_clock (f : Rti → Rti) : (s.modRti f).clock = s.clock := rfl
@[simp] theorem State.modRti_hosts (f : Rti → Rti) : (s.modRti f).hosts = s.hosts := rfl
@[simp] theorem State.modRti_modes (f : Rti → Rti) : (s.modRti f).modes = s.modes := rfl
@[simp] theorem State.modRti_ang (f : Rti → Rti) : (s.modRti f).ang = s.ang := rfl
@[simp] theorem State.modRti_adc (f : Rti → Rti) : (s.modRti f).adc = s.adc := rfl
@[simp] theorem State.modRti_rings (f : Rti → Rti) : (s.modRti f).rings = s.rings := rfl
@[simp] theorem State.modRti_modu (f : Rti → Rti) : (s.modRti f).modu = s.modu := rfl
@[simp] theorem State.modRti_loop (f : Rti → Rti) : (s.modRti f).loop = s.loop := rfl
@[simp] theorem State.modRti_grd (f : Rti → Rti) : (s.modRti f).grd = s.grd := rfl
@[simp] theorem State.modRti_bpt (f : Rti → Rti) : (s.modRti f).bpt = s.bpt := rfl
@[simp] theorem State.modRti_rti (f : Rti → Rti) : (s.modRti f).rti = f s.rti := rfl
@[simp] theorem State.modRti_gaf (f : Rti → Rti) : (s.modRti f).gaf = s.gaf := rfl
@[simp] theorem State.modRti_saf (f : Rti → Rti) : (s.modRti f).saf = s.saf := rfl
@[simp] theorem State.modRti_net (f : Rti → Rti) : (s.modRti f).net = s.net := rfl
@[simp] theorem State.modRti_reco (f : Rti → Rti) : (s.modRti f).reco = s.reco := rfl
@[simp] theorem State.modRti_mem (f : Rti → Rti) : (s.modRti f).mem = s.mem := rfl
@[simp] theorem State.modRti_rail (f : Rti → Rti) : (s.modRti f).rail = s.rail := rfl
@[simp] theorem State.modRti_clk (f : Rti → Rti) : (s.modRti f).clk = s.clk := rfl
@[simp] theorem State.modRti_sen (f : Rti → Rti) : (s.modRti f).sen = s.sen := rfl
@[simp] theorem State.modRti_ev (f : Rti → Rti) : (s.modRti f).ev = s.ev := rfl
@[simp] theorem State.modRti_pending (f : Rti → Rti) : (s.modRti f).pending = s.pending := rfl

@[simp] theorem State.modSen_free (f : Sentinel → Sentinel) : (s.modSen f).free = s.free := rfl
@[simp] theorem State.modSen_part (f : Sentinel → Sentinel) : (s.modSen f).part = s.part := rfl
@[simp] theorem State.modSen_regs (f : Sentinel → Sentinel) : (s.modSen f).regs = s.regs := rfl
@[simp] theorem State.modSen_used (f : Sentinel → Sentinel) : (s.modSen f).used = s.used := rfl
@[simp] theorem State.modSen_rideWait (f : Sentinel → Sentinel) : (s.modSen f).rideWait = s.rideWait := rfl
@[simp] theorem State.modSen_pwr (f : Sentinel → Sentinel) : (s.modSen f).pwr = s.pwr := rfl
@[simp] theorem State.modSen_lcy (f : Sentinel → Sentinel) : (s.modSen f).lcy = s.lcy := rfl
@[simp] theorem State.modSen_clock (f : Sentinel → Sentinel) : (s.modSen f).clock = s.clock := rfl
@[simp] theorem State.modSen_hosts (f : Sentinel → Sentinel) : (s.modSen f).hosts = s.hosts := rfl
@[simp] theorem State.modSen_modes (f : Sentinel → Sentinel) : (s.modSen f).modes = s.modes := rfl
@[simp] theorem State.modSen_ang (f : Sentinel → Sentinel) : (s.modSen f).ang = s.ang := rfl
@[simp] theorem State.modSen_adc (f : Sentinel → Sentinel) : (s.modSen f).adc = s.adc := rfl
@[simp] theorem State.modSen_rings (f : Sentinel → Sentinel) : (s.modSen f).rings = s.rings := rfl
@[simp] theorem State.modSen_modu (f : Sentinel → Sentinel) : (s.modSen f).modu = s.modu := rfl
@[simp] theorem State.modSen_loop (f : Sentinel → Sentinel) : (s.modSen f).loop = s.loop := rfl
@[simp] theorem State.modSen_grd (f : Sentinel → Sentinel) : (s.modSen f).grd = s.grd := rfl
@[simp] theorem State.modSen_bpt (f : Sentinel → Sentinel) : (s.modSen f).bpt = s.bpt := rfl
@[simp] theorem State.modSen_rti (f : Sentinel → Sentinel) : (s.modSen f).rti = s.rti := rfl
@[simp] theorem State.modSen_gaf (f : Sentinel → Sentinel) : (s.modSen f).gaf = s.gaf := rfl
@[simp] theorem State.modSen_saf (f : Sentinel → Sentinel) : (s.modSen f).saf = s.saf := rfl
@[simp] theorem State.modSen_net (f : Sentinel → Sentinel) : (s.modSen f).net = s.net := rfl
@[simp] theorem State.modSen_reco (f : Sentinel → Sentinel) : (s.modSen f).reco = s.reco := rfl
@[simp] theorem State.modSen_mem (f : Sentinel → Sentinel) : (s.modSen f).mem = s.mem := rfl
@[simp] theorem State.modSen_rail (f : Sentinel → Sentinel) : (s.modSen f).rail = s.rail := rfl
@[simp] theorem State.modSen_clk (f : Sentinel → Sentinel) : (s.modSen f).clk = s.clk := rfl
@[simp] theorem State.modSen_sen (f : Sentinel → Sentinel) : (s.modSen f).sen = f s.sen := rfl
@[simp] theorem State.modSen_ev (f : Sentinel → Sentinel) : (s.modSen f).ev = s.ev := rfl
@[simp] theorem State.modSen_pending (f : Sentinel → Sentinel) : (s.modSen f).pending = s.pending := rfl

@[simp] theorem State.modTrk_free (c : Nat) (f : Tracker → Tracker) : (s.modTrk c f).free = s.free := rfl
@[simp] theorem State.modTrk_part (c : Nat) (f : Tracker → Tracker) : (s.modTrk c f).part = s.part := rfl
@[simp] theorem State.modTrk_regs (c : Nat) (f : Tracker → Tracker) : (s.modTrk c f).regs = s.regs := rfl
@[simp] theorem State.modTrk_used (c : Nat) (f : Tracker → Tracker) : (s.modTrk c f).used = s.used := rfl
@[simp] theorem State.modTrk_rideWait (c : Nat) (f : Tracker → Tracker) : (s.modTrk c f).rideWait = s.rideWait := rfl
@[simp] theorem State.modTrk_pwr (c : Nat) (f : Tracker → Tracker) : (s.modTrk c f).pwr = s.pwr := rfl
@[simp] theorem State.modTrk_lcy (c : Nat) (f : Tracker → Tracker) : (s.modTrk c f).lcy = s.lcy := rfl
@[simp] theorem State.modTrk_clock (c : Nat) (f : Tracker → Tracker) : (s.modTrk c f).clock = s.clock := rfl
@[simp] theorem State.modTrk_hosts (c : Nat) (f : Tracker → Tracker) : (s.modTrk c f).hosts = s.hosts := rfl
@[simp] theorem State.modTrk_modes (c : Nat) (f : Tracker → Tracker) : (s.modTrk c f).modes = s.modes := rfl
@[simp] theorem State.modTrk_ang (c : Nat) (f : Tracker → Tracker) : (s.modTrk c f).ang = s.ang := rfl
@[simp] theorem State.modTrk_adc (c : Nat) (f : Tracker → Tracker) : (s.modTrk c f).adc = s.adc := rfl
@[simp] theorem State.modTrk_rings (c : Nat) (f : Tracker → Tracker) : (s.modTrk c f).rings = s.rings := rfl
@[simp] theorem State.modTrk_modu (c : Nat) (f : Tracker → Tracker) : (s.modTrk c f).modu = s.modu := rfl
@[simp] theorem State.modTrk_loop (c : Nat) (f : Tracker → Tracker) : (s.modTrk c f).loop = s.loop := rfl
@[simp] theorem State.modTrk_grd (c : Nat) (f : Tracker → Tracker) : (s.modTrk c f).grd = s.grd := rfl
@[simp] theorem State.modTrk_rti (c : Nat) (f : Tracker → Tracker) : (s.modTrk c f).rti = s.rti := rfl
@[simp] theorem State.modTrk_gaf (c : Nat) (f : Tracker → Tracker) : (s.modTrk c f).gaf = s.gaf := rfl
@[simp] theorem State.modTrk_saf (c : Nat) (f : Tracker → Tracker) : (s.modTrk c f).saf = s.saf := rfl
@[simp] theorem State.modTrk_net (c : Nat) (f : Tracker → Tracker) : (s.modTrk c f).net = s.net := rfl
@[simp] theorem State.modTrk_reco (c : Nat) (f : Tracker → Tracker) : (s.modTrk c f).reco = s.reco := rfl
@[simp] theorem State.modTrk_mem (c : Nat) (f : Tracker → Tracker) : (s.modTrk c f).mem = s.mem := rfl
@[simp] theorem State.modTrk_rail (c : Nat) (f : Tracker → Tracker) : (s.modTrk c f).rail = s.rail := rfl
@[simp] theorem State.modTrk_clk (c : Nat) (f : Tracker → Tracker) : (s.modTrk c f).clk = s.clk := rfl
@[simp] theorem State.modTrk_sen (c : Nat) (f : Tracker → Tracker) : (s.modTrk c f).sen = s.sen := rfl
@[simp] theorem State.modTrk_ev (c : Nat) (f : Tracker → Tracker) : (s.modTrk c f).ev = s.ev := rfl
@[simp] theorem State.modTrk_pending (c : Nat) (f : Tracker → Tracker) : (s.modTrk c f).pending = s.pending := rfl

@[simp] theorem State.modEng_free (e : Nat) (f : Engine → Engine) : (s.modEng e f).free = s.free := rfl
@[simp] theorem State.modEng_part (e : Nat) (f : Engine → Engine) : (s.modEng e f).part = s.part := rfl
@[simp] theorem State.modEng_regs (e : Nat) (f : Engine → Engine) : (s.modEng e f).regs = s.regs := rfl
@[simp] theorem State.modEng_used (e : Nat) (f : Engine → Engine) : (s.modEng e f).used = s.used := rfl
@[simp] theorem State.modEng_rideWait (e : Nat) (f : Engine → Engine) : (s.modEng e f).rideWait = s.rideWait := rfl
@[simp] theorem State.modEng_pwr (e : Nat) (f : Engine → Engine) : (s.modEng e f).pwr = s.pwr := rfl
@[simp] theorem State.modEng_lcy (e : Nat) (f : Engine → Engine) : (s.modEng e f).lcy = s.lcy := rfl
@[simp] theorem State.modEng_clock (e : Nat) (f : Engine → Engine) : (s.modEng e f).clock = s.clock := rfl
@[simp] theorem State.modEng_hosts (e : Nat) (f : Engine → Engine) : (s.modEng e f).hosts = s.hosts := rfl
@[simp] theorem State.modEng_modes (e : Nat) (f : Engine → Engine) : (s.modEng e f).modes = s.modes := rfl
@[simp] theorem State.modEng_ang (e : Nat) (f : Engine → Engine) : (s.modEng e f).ang = s.ang := rfl
@[simp] theorem State.modEng_adc (e : Nat) (f : Engine → Engine) : (s.modEng e f).adc = s.adc := rfl
@[simp] theorem State.modEng_rings (e : Nat) (f : Engine → Engine) : (s.modEng e f).rings = s.rings := rfl
@[simp] theorem State.modEng_modu (e : Nat) (f : Engine → Engine) : (s.modEng e f).modu = s.modu := rfl
@[simp] theorem State.modEng_loop (e : Nat) (f : Engine → Engine) : (s.modEng e f).loop = s.loop := rfl
@[simp] theorem State.modEng_grd (e : Nat) (f : Engine → Engine) : (s.modEng e f).grd = s.grd := rfl
@[simp] theorem State.modEng_bpt (e : Nat) (f : Engine → Engine) : (s.modEng e f).bpt = s.bpt := rfl
@[simp] theorem State.modEng_rti (e : Nat) (f : Engine → Engine) : (s.modEng e f).rti = s.rti := rfl
@[simp] theorem State.modEng_saf (e : Nat) (f : Engine → Engine) : (s.modEng e f).saf = s.saf := rfl
@[simp] theorem State.modEng_net (e : Nat) (f : Engine → Engine) : (s.modEng e f).net = s.net := rfl
@[simp] theorem State.modEng_reco (e : Nat) (f : Engine → Engine) : (s.modEng e f).reco = s.reco := rfl
@[simp] theorem State.modEng_mem (e : Nat) (f : Engine → Engine) : (s.modEng e f).mem = s.mem := rfl
@[simp] theorem State.modEng_rail (e : Nat) (f : Engine → Engine) : (s.modEng e f).rail = s.rail := rfl
@[simp] theorem State.modEng_clk (e : Nat) (f : Engine → Engine) : (s.modEng e f).clk = s.clk := rfl
@[simp] theorem State.modEng_sen (e : Nat) (f : Engine → Engine) : (s.modEng e f).sen = s.sen := rfl
@[simp] theorem State.modEng_ev (e : Nat) (f : Engine → Engine) : (s.modEng e f).ev = s.ev := rfl
@[simp] theorem State.modEng_pending (e : Nat) (f : Engine → Engine) : (s.modEng e f).pending = s.pending := rfl

@[simp] theorem State.modSeq_free (q : Nat) (f : Seq → Seq) : (s.modSeq q f).free = s.free := rfl
@[simp] theorem State.modSeq_part (q : Nat) (f : Seq → Seq) : (s.modSeq q f).part = s.part := rfl
@[simp] theorem State.modSeq_regs (q : Nat) (f : Seq → Seq) : (s.modSeq q f).regs = s.regs := rfl
@[simp] theorem State.modSeq_used (q : Nat) (f : Seq → Seq) : (s.modSeq q f).used = s.used := rfl
@[simp] theorem State.modSeq_rideWait (q : Nat) (f : Seq → Seq) : (s.modSeq q f).rideWait = s.rideWait := rfl
@[simp] theorem State.modSeq_pwr (q : Nat) (f : Seq → Seq) : (s.modSeq q f).pwr = s.pwr := rfl
@[simp] theorem State.modSeq_lcy (q : Nat) (f : Seq → Seq) : (s.modSeq q f).lcy = s.lcy := rfl
@[simp] theorem State.modSeq_clock (q : Nat) (f : Seq → Seq) : (s.modSeq q f).clock = s.clock := rfl
@[simp] theorem State.modSeq_hosts (q : Nat) (f : Seq → Seq) : (s.modSeq q f).hosts = s.hosts := rfl
@[simp] theorem State.modSeq_modes (q : Nat) (f : Seq → Seq) : (s.modSeq q f).modes = s.modes := rfl
@[simp] theorem State.modSeq_ang (q : Nat) (f : Seq → Seq) : (s.modSeq q f).ang = s.ang := rfl
@[simp] theorem State.modSeq_rings (q : Nat) (f : Seq → Seq) : (s.modSeq q f).rings = s.rings := rfl
@[simp] theorem State.modSeq_modu (q : Nat) (f : Seq → Seq) : (s.modSeq q f).modu = s.modu := rfl
@[simp] theorem State.modSeq_loop (q : Nat) (f : Seq → Seq) : (s.modSeq q f).loop = s.loop := rfl
@[simp] theorem State.modSeq_grd (q : Nat) (f : Seq → Seq) : (s.modSeq q f).grd = s.grd := rfl
@[simp] theorem State.modSeq_bpt (q : Nat) (f : Seq → Seq) : (s.modSeq q f).bpt = s.bpt := rfl
@[simp] theorem State.modSeq_rti (q : Nat) (f : Seq → Seq) : (s.modSeq q f).rti = s.rti := rfl
@[simp] theorem State.modSeq_gaf (q : Nat) (f : Seq → Seq) : (s.modSeq q f).gaf = s.gaf := rfl
@[simp] theorem State.modSeq_saf (q : Nat) (f : Seq → Seq) : (s.modSeq q f).saf = s.saf := rfl
@[simp] theorem State.modSeq_net (q : Nat) (f : Seq → Seq) : (s.modSeq q f).net = s.net := rfl
@[simp] theorem State.modSeq_reco (q : Nat) (f : Seq → Seq) : (s.modSeq q f).reco = s.reco := rfl
@[simp] theorem State.modSeq_mem (q : Nat) (f : Seq → Seq) : (s.modSeq q f).mem = s.mem := rfl
@[simp] theorem State.modSeq_rail (q : Nat) (f : Seq → Seq) : (s.modSeq q f).rail = s.rail := rfl
@[simp] theorem State.modSeq_clk (q : Nat) (f : Seq → Seq) : (s.modSeq q f).clk = s.clk := rfl
@[simp] theorem State.modSeq_sen (q : Nat) (f : Seq → Seq) : (s.modSeq q f).sen = s.sen := rfl
@[simp] theorem State.modSeq_ev (q : Nat) (f : Seq → Seq) : (s.modSeq q f).ev = s.ev := rfl
@[simp] theorem State.modSeq_pending (q : Nat) (f : Seq → Seq) : (s.modSeq q f).pending = s.pending := rfl

@[simp] theorem State.modSvc_free (k : Nat) (f : Slot → Slot) : (s.modSvc k f).free = s.free := rfl
@[simp] theorem State.modSvc_part (k : Nat) (f : Slot → Slot) : (s.modSvc k f).part = s.part := rfl
@[simp] theorem State.modSvc_regs (k : Nat) (f : Slot → Slot) : (s.modSvc k f).regs = s.regs := rfl
@[simp] theorem State.modSvc_used (k : Nat) (f : Slot → Slot) : (s.modSvc k f).used = s.used := rfl
@[simp] theorem State.modSvc_rideWait (k : Nat) (f : Slot → Slot) : (s.modSvc k f).rideWait = s.rideWait := rfl
@[simp] theorem State.modSvc_pwr (k : Nat) (f : Slot → Slot) : (s.modSvc k f).pwr = s.pwr := rfl
@[simp] theorem State.modSvc_lcy (k : Nat) (f : Slot → Slot) : (s.modSvc k f).lcy = s.lcy := rfl
@[simp] theorem State.modSvc_clock (k : Nat) (f : Slot → Slot) : (s.modSvc k f).clock = s.clock := rfl
@[simp] theorem State.modSvc_hosts (k : Nat) (f : Slot → Slot) : (s.modSvc k f).hosts = s.hosts := rfl
@[simp] theorem State.modSvc_modes (k : Nat) (f : Slot → Slot) : (s.modSvc k f).modes = s.modes := rfl
@[simp] theorem State.modSvc_ang (k : Nat) (f : Slot → Slot) : (s.modSvc k f).ang = s.ang := rfl
@[simp] theorem State.modSvc_rings (k : Nat) (f : Slot → Slot) : (s.modSvc k f).rings = s.rings := rfl
@[simp] theorem State.modSvc_modu (k : Nat) (f : Slot → Slot) : (s.modSvc k f).modu = s.modu := rfl
@[simp] theorem State.modSvc_loop (k : Nat) (f : Slot → Slot) : (s.modSvc k f).loop = s.loop := rfl
@[simp] theorem State.modSvc_grd (k : Nat) (f : Slot → Slot) : (s.modSvc k f).grd = s.grd := rfl
@[simp] theorem State.modSvc_bpt (k : Nat) (f : Slot → Slot) : (s.modSvc k f).bpt = s.bpt := rfl
@[simp] theorem State.modSvc_rti (k : Nat) (f : Slot → Slot) : (s.modSvc k f).rti = s.rti := rfl
@[simp] theorem State.modSvc_gaf (k : Nat) (f : Slot → Slot) : (s.modSvc k f).gaf = s.gaf := rfl
@[simp] theorem State.modSvc_saf (k : Nat) (f : Slot → Slot) : (s.modSvc k f).saf = s.saf := rfl
@[simp] theorem State.modSvc_net (k : Nat) (f : Slot → Slot) : (s.modSvc k f).net = s.net := rfl
@[simp] theorem State.modSvc_reco (k : Nat) (f : Slot → Slot) : (s.modSvc k f).reco = s.reco := rfl
@[simp] theorem State.modSvc_mem (k : Nat) (f : Slot → Slot) : (s.modSvc k f).mem = s.mem := rfl
@[simp] theorem State.modSvc_rail (k : Nat) (f : Slot → Slot) : (s.modSvc k f).rail = s.rail := rfl
@[simp] theorem State.modSvc_clk (k : Nat) (f : Slot → Slot) : (s.modSvc k f).clk = s.clk := rfl
@[simp] theorem State.modSvc_sen (k : Nat) (f : Slot → Slot) : (s.modSvc k f).sen = s.sen := rfl
@[simp] theorem State.modSvc_ev (k : Nat) (f : Slot → Slot) : (s.modSvc k f).ev = s.ev := rfl
@[simp] theorem State.modSvc_pending (k : Nat) (f : Slot → Slot) : (s.modSvc k f).pending = s.pending := rfl

@[simp] theorem State.modCell_free (c : Nat) (f : CellLink → CellLink) : (s.modCell c f).free = s.free := rfl
@[simp] theorem State.modCell_part (c : Nat) (f : CellLink → CellLink) : (s.modCell c f).part = s.part := rfl
@[simp] theorem State.modCell_regs (c : Nat) (f : CellLink → CellLink) : (s.modCell c f).regs = s.regs := rfl
@[simp] theorem State.modCell_used (c : Nat) (f : CellLink → CellLink) : (s.modCell c f).used = s.used := rfl
@[simp] theorem State.modCell_rideWait (c : Nat) (f : CellLink → CellLink) : (s.modCell c f).rideWait = s.rideWait := rfl
@[simp] theorem State.modCell_pwr (c : Nat) (f : CellLink → CellLink) : (s.modCell c f).pwr = s.pwr := rfl
@[simp] theorem State.modCell_lcy (c : Nat) (f : CellLink → CellLink) : (s.modCell c f).lcy = s.lcy := rfl
@[simp] theorem State.modCell_clock (c : Nat) (f : CellLink → CellLink) : (s.modCell c f).clock = s.clock := rfl
@[simp] theorem State.modCell_hosts (c : Nat) (f : CellLink → CellLink) : (s.modCell c f).hosts = s.hosts := rfl
@[simp] theorem State.modCell_modes (c : Nat) (f : CellLink → CellLink) : (s.modCell c f).modes = s.modes := rfl
@[simp] theorem State.modCell_ang (c : Nat) (f : CellLink → CellLink) : (s.modCell c f).ang = s.ang := rfl
@[simp] theorem State.modCell_adc (c : Nat) (f : CellLink → CellLink) : (s.modCell c f).adc = s.adc := rfl
@[simp] theorem State.modCell_modu (c : Nat) (f : CellLink → CellLink) : (s.modCell c f).modu = s.modu := rfl
@[simp] theorem State.modCell_loop (c : Nat) (f : CellLink → CellLink) : (s.modCell c f).loop = s.loop := rfl
@[simp] theorem State.modCell_grd (c : Nat) (f : CellLink → CellLink) : (s.modCell c f).grd = s.grd := rfl
@[simp] theorem State.modCell_bpt (c : Nat) (f : CellLink → CellLink) : (s.modCell c f).bpt = s.bpt := rfl
@[simp] theorem State.modCell_rti (c : Nat) (f : CellLink → CellLink) : (s.modCell c f).rti = s.rti := rfl
@[simp] theorem State.modCell_gaf (c : Nat) (f : CellLink → CellLink) : (s.modCell c f).gaf = s.gaf := rfl
@[simp] theorem State.modCell_saf (c : Nat) (f : CellLink → CellLink) : (s.modCell c f).saf = s.saf := rfl
@[simp] theorem State.modCell_net (c : Nat) (f : CellLink → CellLink) : (s.modCell c f).net = s.net := rfl
@[simp] theorem State.modCell_reco (c : Nat) (f : CellLink → CellLink) : (s.modCell c f).reco = s.reco := rfl
@[simp] theorem State.modCell_mem (c : Nat) (f : CellLink → CellLink) : (s.modCell c f).mem = s.mem := rfl
@[simp] theorem State.modCell_rail (c : Nat) (f : CellLink → CellLink) : (s.modCell c f).rail = s.rail := rfl
@[simp] theorem State.modCell_clk (c : Nat) (f : CellLink → CellLink) : (s.modCell c f).clk = s.clk := rfl
@[simp] theorem State.modCell_sen (c : Nat) (f : CellLink → CellLink) : (s.modCell c f).sen = s.sen := rfl
@[simp] theorem State.modCell_ev (c : Nat) (f : CellLink → CellLink) : (s.modCell c f).ev = s.ev := rfl
@[simp] theorem State.modCell_pending (c : Nat) (f : CellLink → CellLink) : (s.modCell c f).pending = s.pending := rfl

@[simp] theorem State.modRing_free (k : Nat) (f : RingSt → RingSt) : (s.modRing k f).free = s.free := rfl
@[simp] theorem State.modRing_part (k : Nat) (f : RingSt → RingSt) : (s.modRing k f).part = s.part := rfl
@[simp] theorem State.modRing_regs (k : Nat) (f : RingSt → RingSt) : (s.modRing k f).regs = s.regs := rfl
@[simp] theorem State.modRing_used (k : Nat) (f : RingSt → RingSt) : (s.modRing k f).used = s.used := rfl
@[simp] theorem State.modRing_rideWait (k : Nat) (f : RingSt → RingSt) : (s.modRing k f).rideWait = s.rideWait := rfl
@[simp] theorem State.modRing_pwr (k : Nat) (f : RingSt → RingSt) : (s.modRing k f).pwr = s.pwr := rfl
@[simp] theorem State.modRing_lcy (k : Nat) (f : RingSt → RingSt) : (s.modRing k f).lcy = s.lcy := rfl
@[simp] theorem State.modRing_clock (k : Nat) (f : RingSt → RingSt) : (s.modRing k f).clock = s.clock := rfl
@[simp] theorem State.modRing_hosts (k : Nat) (f : RingSt → RingSt) : (s.modRing k f).hosts = s.hosts := rfl
@[simp] theorem State.modRing_modes (k : Nat) (f : RingSt → RingSt) : (s.modRing k f).modes = s.modes := rfl
@[simp] theorem State.modRing_ang (k : Nat) (f : RingSt → RingSt) : (s.modRing k f).ang = s.ang := rfl
@[simp] theorem State.modRing_adc (k : Nat) (f : RingSt → RingSt) : (s.modRing k f).adc = s.adc := rfl
@[simp] theorem State.modRing_modu (k : Nat) (f : RingSt → RingSt) : (s.modRing k f).modu = s.modu := rfl
@[simp] theorem State.modRing_loop (k : Nat) (f : RingSt → RingSt) : (s.modRing k f).loop = s.loop := rfl
@[simp] theorem State.modRing_grd (k : Nat) (f : RingSt → RingSt) : (s.modRing k f).grd = s.grd := rfl
@[simp] theorem State.modRing_bpt (k : Nat) (f : RingSt → RingSt) : (s.modRing k f).bpt = s.bpt := rfl
@[simp] theorem State.modRing_rti (k : Nat) (f : RingSt → RingSt) : (s.modRing k f).rti = s.rti := rfl
@[simp] theorem State.modRing_gaf (k : Nat) (f : RingSt → RingSt) : (s.modRing k f).gaf = s.gaf := rfl
@[simp] theorem State.modRing_saf (k : Nat) (f : RingSt → RingSt) : (s.modRing k f).saf = s.saf := rfl
@[simp] theorem State.modRing_net (k : Nat) (f : RingSt → RingSt) : (s.modRing k f).net = s.net := rfl
@[simp] theorem State.modRing_reco (k : Nat) (f : RingSt → RingSt) : (s.modRing k f).reco = s.reco := rfl
@[simp] theorem State.modRing_mem (k : Nat) (f : RingSt → RingSt) : (s.modRing k f).mem = s.mem := rfl
@[simp] theorem State.modRing_rail (k : Nat) (f : RingSt → RingSt) : (s.modRing k f).rail = s.rail := rfl
@[simp] theorem State.modRing_clk (k : Nat) (f : RingSt → RingSt) : (s.modRing k f).clk = s.clk := rfl
@[simp] theorem State.modRing_sen (k : Nat) (f : RingSt → RingSt) : (s.modRing k f).sen = s.sen := rfl
@[simp] theorem State.modRing_ev (k : Nat) (f : RingSt → RingSt) : (s.modRing k f).ev = s.ev := rfl
@[simp] theorem State.modRing_pending (k : Nat) (f : RingSt → RingSt) : (s.modRing k f).pending = s.pending := rfl

@[simp] theorem State.modPort_free (p : Nat) (f : Port → Port) : (s.modPort p f).free = s.free := rfl
@[simp] theorem State.modPort_part (p : Nat) (f : Port → Port) : (s.modPort p f).part = s.part := rfl
@[simp] theorem State.modPort_regs (p : Nat) (f : Port → Port) : (s.modPort p f).regs = s.regs := rfl
@[simp] theorem State.modPort_used (p : Nat) (f : Port → Port) : (s.modPort p f).used = s.used := rfl
@[simp] theorem State.modPort_rideWait (p : Nat) (f : Port → Port) : (s.modPort p f).rideWait = s.rideWait := rfl
@[simp] theorem State.modPort_pwr (p : Nat) (f : Port → Port) : (s.modPort p f).pwr = s.pwr := rfl
@[simp] theorem State.modPort_lcy (p : Nat) (f : Port → Port) : (s.modPort p f).lcy = s.lcy := rfl
@[simp] theorem State.modPort_clock (p : Nat) (f : Port → Port) : (s.modPort p f).clock = s.clock := rfl
@[simp] theorem State.modPort_hosts (p : Nat) (f : Port → Port) : (s.modPort p f).hosts = s.hosts := rfl
@[simp] theorem State.modPort_modes (p : Nat) (f : Port → Port) : (s.modPort p f).modes = s.modes := rfl
@[simp] theorem State.modPort_ang (p : Nat) (f : Port → Port) : (s.modPort p f).ang = s.ang := rfl
@[simp] theorem State.modPort_adc (p : Nat) (f : Port → Port) : (s.modPort p f).adc = s.adc := rfl
@[simp] theorem State.modPort_modu (p : Nat) (f : Port → Port) : (s.modPort p f).modu = s.modu := rfl
@[simp] theorem State.modPort_loop (p : Nat) (f : Port → Port) : (s.modPort p f).loop = s.loop := rfl
@[simp] theorem State.modPort_grd (p : Nat) (f : Port → Port) : (s.modPort p f).grd = s.grd := rfl
@[simp] theorem State.modPort_bpt (p : Nat) (f : Port → Port) : (s.modPort p f).bpt = s.bpt := rfl
@[simp] theorem State.modPort_rti (p : Nat) (f : Port → Port) : (s.modPort p f).rti = s.rti := rfl
@[simp] theorem State.modPort_gaf (p : Nat) (f : Port → Port) : (s.modPort p f).gaf = s.gaf := rfl
@[simp] theorem State.modPort_saf (p : Nat) (f : Port → Port) : (s.modPort p f).saf = s.saf := rfl
@[simp] theorem State.modPort_net (p : Nat) (f : Port → Port) : (s.modPort p f).net = s.net := rfl
@[simp] theorem State.modPort_reco (p : Nat) (f : Port → Port) : (s.modPort p f).reco = s.reco := rfl
@[simp] theorem State.modPort_mem (p : Nat) (f : Port → Port) : (s.modPort p f).mem = s.mem := rfl
@[simp] theorem State.modPort_rail (p : Nat) (f : Port → Port) : (s.modPort p f).rail = s.rail := rfl
@[simp] theorem State.modPort_clk (p : Nat) (f : Port → Port) : (s.modPort p f).clk = s.clk := rfl
@[simp] theorem State.modPort_sen (p : Nat) (f : Port → Port) : (s.modPort p f).sen = s.sen := rfl
@[simp] theorem State.modPort_ev (p : Nat) (f : Port → Port) : (s.modPort p f).ev = s.ev := rfl
@[simp] theorem State.modPort_pending (p : Nat) (f : Port → Port) : (s.modPort p f).pending = s.pending := rfl

@[simp] theorem State.modCmod_free (c : Nat) (f : CellMod → CellMod) : (s.modCmod c f).free = s.free := rfl
@[simp] theorem State.modCmod_part (c : Nat) (f : CellMod → CellMod) : (s.modCmod c f).part = s.part := rfl
@[simp] theorem State.modCmod_regs (c : Nat) (f : CellMod → CellMod) : (s.modCmod c f).regs = s.regs := rfl
@[simp] theorem State.modCmod_used (c : Nat) (f : CellMod → CellMod) : (s.modCmod c f).used = s.used := rfl
@[simp] theorem State.modCmod_rideWait (c : Nat) (f : CellMod → CellMod) : (s.modCmod c f).rideWait = s.rideWait := rfl
@[simp] theorem State.modCmod_pwr (c : Nat) (f : CellMod → CellMod) : (s.modCmod c f).pwr = s.pwr := rfl
@[simp] theorem State.modCmod_lcy (c : Nat) (f : CellMod → CellMod) : (s.modCmod c f).lcy = s.lcy := rfl
@[simp] theorem State.modCmod_clock (c : Nat) (f : CellMod → CellMod) : (s.modCmod c f).clock = s.clock := rfl
@[simp] theorem State.modCmod_hosts (c : Nat) (f : CellMod → CellMod) : (s.modCmod c f).hosts = s.hosts := rfl
@[simp] theorem State.modCmod_modes (c : Nat) (f : CellMod → CellMod) : (s.modCmod c f).modes = s.modes := rfl
@[simp] theorem State.modCmod_ang (c : Nat) (f : CellMod → CellMod) : (s.modCmod c f).ang = s.ang := rfl
@[simp] theorem State.modCmod_adc (c : Nat) (f : CellMod → CellMod) : (s.modCmod c f).adc = s.adc := rfl
@[simp] theorem State.modCmod_rings (c : Nat) (f : CellMod → CellMod) : (s.modCmod c f).rings = s.rings := rfl
@[simp] theorem State.modCmod_loop (c : Nat) (f : CellMod → CellMod) : (s.modCmod c f).loop = s.loop := rfl
@[simp] theorem State.modCmod_grd (c : Nat) (f : CellMod → CellMod) : (s.modCmod c f).grd = s.grd := rfl
@[simp] theorem State.modCmod_bpt (c : Nat) (f : CellMod → CellMod) : (s.modCmod c f).bpt = s.bpt := rfl
@[simp] theorem State.modCmod_rti (c : Nat) (f : CellMod → CellMod) : (s.modCmod c f).rti = s.rti := rfl
@[simp] theorem State.modCmod_gaf (c : Nat) (f : CellMod → CellMod) : (s.modCmod c f).gaf = s.gaf := rfl
@[simp] theorem State.modCmod_saf (c : Nat) (f : CellMod → CellMod) : (s.modCmod c f).saf = s.saf := rfl
@[simp] theorem State.modCmod_net (c : Nat) (f : CellMod → CellMod) : (s.modCmod c f).net = s.net := rfl
@[simp] theorem State.modCmod_reco (c : Nat) (f : CellMod → CellMod) : (s.modCmod c f).reco = s.reco := rfl
@[simp] theorem State.modCmod_mem (c : Nat) (f : CellMod → CellMod) : (s.modCmod c f).mem = s.mem := rfl
@[simp] theorem State.modCmod_rail (c : Nat) (f : CellMod → CellMod) : (s.modCmod c f).rail = s.rail := rfl
@[simp] theorem State.modCmod_clk (c : Nat) (f : CellMod → CellMod) : (s.modCmod c f).clk = s.clk := rfl
@[simp] theorem State.modCmod_sen (c : Nat) (f : CellMod → CellMod) : (s.modCmod c f).sen = s.sen := rfl
@[simp] theorem State.modCmod_ev (c : Nat) (f : CellMod → CellMod) : (s.modCmod c f).ev = s.ev := rfl
@[simp] theorem State.modCmod_pending (c : Nat) (f : CellMod → CellMod) : (s.modCmod c f).pending = s.pending := rfl

@[simp] theorem State.modLhb_free (k : Nat) (f : Lhb → Lhb) : (s.modLhb k f).free = s.free := rfl
@[simp] theorem State.modLhb_part (k : Nat) (f : Lhb → Lhb) : (s.modLhb k f).part = s.part := rfl
@[simp] theorem State.modLhb_regs (k : Nat) (f : Lhb → Lhb) : (s.modLhb k f).regs = s.regs := rfl
@[simp] theorem State.modLhb_used (k : Nat) (f : Lhb → Lhb) : (s.modLhb k f).used = s.used := rfl
@[simp] theorem State.modLhb_rideWait (k : Nat) (f : Lhb → Lhb) : (s.modLhb k f).rideWait = s.rideWait := rfl
@[simp] theorem State.modLhb_pwr (k : Nat) (f : Lhb → Lhb) : (s.modLhb k f).pwr = s.pwr := rfl
@[simp] theorem State.modLhb_lcy (k : Nat) (f : Lhb → Lhb) : (s.modLhb k f).lcy = s.lcy := rfl
@[simp] theorem State.modLhb_clock (k : Nat) (f : Lhb → Lhb) : (s.modLhb k f).clock = s.clock := rfl
@[simp] theorem State.modLhb_hosts (k : Nat) (f : Lhb → Lhb) : (s.modLhb k f).hosts = s.hosts := rfl
@[simp] theorem State.modLhb_modes (k : Nat) (f : Lhb → Lhb) : (s.modLhb k f).modes = s.modes := rfl
@[simp] theorem State.modLhb_ang (k : Nat) (f : Lhb → Lhb) : (s.modLhb k f).ang = s.ang := rfl
@[simp] theorem State.modLhb_adc (k : Nat) (f : Lhb → Lhb) : (s.modLhb k f).adc = s.adc := rfl
@[simp] theorem State.modLhb_rings (k : Nat) (f : Lhb → Lhb) : (s.modLhb k f).rings = s.rings := rfl
@[simp] theorem State.modLhb_loop (k : Nat) (f : Lhb → Lhb) : (s.modLhb k f).loop = s.loop := rfl
@[simp] theorem State.modLhb_grd (k : Nat) (f : Lhb → Lhb) : (s.modLhb k f).grd = s.grd := rfl
@[simp] theorem State.modLhb_bpt (k : Nat) (f : Lhb → Lhb) : (s.modLhb k f).bpt = s.bpt := rfl
@[simp] theorem State.modLhb_rti (k : Nat) (f : Lhb → Lhb) : (s.modLhb k f).rti = s.rti := rfl
@[simp] theorem State.modLhb_gaf (k : Nat) (f : Lhb → Lhb) : (s.modLhb k f).gaf = s.gaf := rfl
@[simp] theorem State.modLhb_saf (k : Nat) (f : Lhb → Lhb) : (s.modLhb k f).saf = s.saf := rfl
@[simp] theorem State.modLhb_net (k : Nat) (f : Lhb → Lhb) : (s.modLhb k f).net = s.net := rfl
@[simp] theorem State.modLhb_reco (k : Nat) (f : Lhb → Lhb) : (s.modLhb k f).reco = s.reco := rfl
@[simp] theorem State.modLhb_mem (k : Nat) (f : Lhb → Lhb) : (s.modLhb k f).mem = s.mem := rfl
@[simp] theorem State.modLhb_rail (k : Nat) (f : Lhb → Lhb) : (s.modLhb k f).rail = s.rail := rfl
@[simp] theorem State.modLhb_clk (k : Nat) (f : Lhb → Lhb) : (s.modLhb k f).clk = s.clk := rfl
@[simp] theorem State.modLhb_sen (k : Nat) (f : Lhb → Lhb) : (s.modLhb k f).sen = s.sen := rfl
@[simp] theorem State.modLhb_ev (k : Nat) (f : Lhb → Lhb) : (s.modLhb k f).ev = s.ev := rfl
@[simp] theorem State.modLhb_pending (k : Nat) (f : Lhb → Lhb) : (s.modLhb k f).pending = s.pending := rfl

@[simp] theorem State.modGroup_free (g : Nat) (f : Group → Group) : (s.modGroup g f).free = s.free := rfl
@[simp] theorem State.modGroup_part (g : Nat) (f : Group → Group) : (s.modGroup g f).part = s.part := rfl
@[simp] theorem State.modGroup_regs (g : Nat) (f : Group → Group) : (s.modGroup g f).regs = s.regs := rfl
@[simp] theorem State.modGroup_used (g : Nat) (f : Group → Group) : (s.modGroup g f).used = s.used := rfl
@[simp] theorem State.modGroup_rideWait (g : Nat) (f : Group → Group) : (s.modGroup g f).rideWait = s.rideWait := rfl
@[simp] theorem State.modGroup_pwr (g : Nat) (f : Group → Group) : (s.modGroup g f).pwr = s.pwr := rfl
@[simp] theorem State.modGroup_lcy (g : Nat) (f : Group → Group) : (s.modGroup g f).lcy = s.lcy := rfl
@[simp] theorem State.modGroup_clock (g : Nat) (f : Group → Group) : (s.modGroup g f).clock = s.clock := rfl
@[simp] theorem State.modGroup_hosts (g : Nat) (f : Group → Group) : (s.modGroup g f).hosts = s.hosts := rfl
@[simp] theorem State.modGroup_modes (g : Nat) (f : Group → Group) : (s.modGroup g f).modes = s.modes := rfl
@[simp] theorem State.modGroup_ang (g : Nat) (f : Group → Group) : (s.modGroup g f).ang = s.ang := rfl
@[simp] theorem State.modGroup_adc (g : Nat) (f : Group → Group) : (s.modGroup g f).adc = s.adc := rfl
@[simp] theorem State.modGroup_rings (g : Nat) (f : Group → Group) : (s.modGroup g f).rings = s.rings := rfl
@[simp] theorem State.modGroup_modu (g : Nat) (f : Group → Group) : (s.modGroup g f).modu = s.modu := rfl
@[simp] theorem State.modGroup_loop (g : Nat) (f : Group → Group) : (s.modGroup g f).loop = s.loop := rfl
@[simp] theorem State.modGroup_grd (g : Nat) (f : Group → Group) : (s.modGroup g f).grd = s.grd := rfl
@[simp] theorem State.modGroup_bpt (g : Nat) (f : Group → Group) : (s.modGroup g f).bpt = s.bpt := rfl
@[simp] theorem State.modGroup_rti (g : Nat) (f : Group → Group) : (s.modGroup g f).rti = s.rti := rfl
@[simp] theorem State.modGroup_gaf (g : Nat) (f : Group → Group) : (s.modGroup g f).gaf = s.gaf := rfl
@[simp] theorem State.modGroup_net (g : Nat) (f : Group → Group) : (s.modGroup g f).net = s.net := rfl
@[simp] theorem State.modGroup_reco (g : Nat) (f : Group → Group) : (s.modGroup g f).reco = s.reco := rfl
@[simp] theorem State.modGroup_mem (g : Nat) (f : Group → Group) : (s.modGroup g f).mem = s.mem := rfl
@[simp] theorem State.modGroup_rail (g : Nat) (f : Group → Group) : (s.modGroup g f).rail = s.rail := rfl
@[simp] theorem State.modGroup_clk (g : Nat) (f : Group → Group) : (s.modGroup g f).clk = s.clk := rfl
@[simp] theorem State.modGroup_sen (g : Nat) (f : Group → Group) : (s.modGroup g f).sen = s.sen := rfl
@[simp] theorem State.modGroup_ev (g : Nat) (f : Group → Group) : (s.modGroup g f).ev = s.ev := rfl
@[simp] theorem State.modGroup_pending (g : Nat) (f : Group → Group) : (s.modGroup g f).pending = s.pending := rfl

@[simp] theorem State.modSip_free (p : Nat) (f : Sip → Sip) : (s.modSip p f).free = s.free := rfl
@[simp] theorem State.modSip_part (p : Nat) (f : Sip → Sip) : (s.modSip p f).part = s.part := rfl
@[simp] theorem State.modSip_regs (p : Nat) (f : Sip → Sip) : (s.modSip p f).regs = s.regs := rfl
@[simp] theorem State.modSip_used (p : Nat) (f : Sip → Sip) : (s.modSip p f).used = s.used := rfl
@[simp] theorem State.modSip_rideWait (p : Nat) (f : Sip → Sip) : (s.modSip p f).rideWait = s.rideWait := rfl
@[simp] theorem State.modSip_pwr (p : Nat) (f : Sip → Sip) : (s.modSip p f).pwr = s.pwr := rfl
@[simp] theorem State.modSip_lcy (p : Nat) (f : Sip → Sip) : (s.modSip p f).lcy = s.lcy := rfl
@[simp] theorem State.modSip_clock (p : Nat) (f : Sip → Sip) : (s.modSip p f).clock = s.clock := rfl
@[simp] theorem State.modSip_hosts (p : Nat) (f : Sip → Sip) : (s.modSip p f).hosts = s.hosts := rfl
@[simp] theorem State.modSip_modes (p : Nat) (f : Sip → Sip) : (s.modSip p f).modes = s.modes := rfl
@[simp] theorem State.modSip_ang (p : Nat) (f : Sip → Sip) : (s.modSip p f).ang = s.ang := rfl
@[simp] theorem State.modSip_adc (p : Nat) (f : Sip → Sip) : (s.modSip p f).adc = s.adc := rfl
@[simp] theorem State.modSip_rings (p : Nat) (f : Sip → Sip) : (s.modSip p f).rings = s.rings := rfl
@[simp] theorem State.modSip_modu (p : Nat) (f : Sip → Sip) : (s.modSip p f).modu = s.modu := rfl
@[simp] theorem State.modSip_loop (p : Nat) (f : Sip → Sip) : (s.modSip p f).loop = s.loop := rfl
@[simp] theorem State.modSip_grd (p : Nat) (f : Sip → Sip) : (s.modSip p f).grd = s.grd := rfl
@[simp] theorem State.modSip_bpt (p : Nat) (f : Sip → Sip) : (s.modSip p f).bpt = s.bpt := rfl
@[simp] theorem State.modSip_rti (p : Nat) (f : Sip → Sip) : (s.modSip p f).rti = s.rti := rfl
@[simp] theorem State.modSip_gaf (p : Nat) (f : Sip → Sip) : (s.modSip p f).gaf = s.gaf := rfl
@[simp] theorem State.modSip_net (p : Nat) (f : Sip → Sip) : (s.modSip p f).net = s.net := rfl
@[simp] theorem State.modSip_reco (p : Nat) (f : Sip → Sip) : (s.modSip p f).reco = s.reco := rfl
@[simp] theorem State.modSip_mem (p : Nat) (f : Sip → Sip) : (s.modSip p f).mem = s.mem := rfl
@[simp] theorem State.modSip_rail (p : Nat) (f : Sip → Sip) : (s.modSip p f).rail = s.rail := rfl
@[simp] theorem State.modSip_clk (p : Nat) (f : Sip → Sip) : (s.modSip p f).clk = s.clk := rfl
@[simp] theorem State.modSip_sen (p : Nat) (f : Sip → Sip) : (s.modSip p f).sen = s.sen := rfl
@[simp] theorem State.modSip_ev (p : Nat) (f : Sip → Sip) : (s.modSip p f).ev = s.ev := rfl
@[simp] theorem State.modSip_pending (p : Nat) (f : Sip → Sip) : (s.modSip p f).pending = s.pending := rfl

@[simp] theorem State.modSeal_free (k : Nat) (f : Seal → Seal) : (s.modSeal k f).free = s.free := rfl
@[simp] theorem State.modSeal_part (k : Nat) (f : Seal → Seal) : (s.modSeal k f).part = s.part := rfl
@[simp] theorem State.modSeal_regs (k : Nat) (f : Seal → Seal) : (s.modSeal k f).regs = s.regs := rfl
@[simp] theorem State.modSeal_used (k : Nat) (f : Seal → Seal) : (s.modSeal k f).used = s.used := rfl
@[simp] theorem State.modSeal_rideWait (k : Nat) (f : Seal → Seal) : (s.modSeal k f).rideWait = s.rideWait := rfl
@[simp] theorem State.modSeal_pwr (k : Nat) (f : Seal → Seal) : (s.modSeal k f).pwr = s.pwr := rfl
@[simp] theorem State.modSeal_lcy (k : Nat) (f : Seal → Seal) : (s.modSeal k f).lcy = s.lcy := rfl
@[simp] theorem State.modSeal_clock (k : Nat) (f : Seal → Seal) : (s.modSeal k f).clock = s.clock := rfl
@[simp] theorem State.modSeal_hosts (k : Nat) (f : Seal → Seal) : (s.modSeal k f).hosts = s.hosts := rfl
@[simp] theorem State.modSeal_modes (k : Nat) (f : Seal → Seal) : (s.modSeal k f).modes = s.modes := rfl
@[simp] theorem State.modSeal_ang (k : Nat) (f : Seal → Seal) : (s.modSeal k f).ang = s.ang := rfl
@[simp] theorem State.modSeal_adc (k : Nat) (f : Seal → Seal) : (s.modSeal k f).adc = s.adc := rfl
@[simp] theorem State.modSeal_rings (k : Nat) (f : Seal → Seal) : (s.modSeal k f).rings = s.rings := rfl
@[simp] theorem State.modSeal_modu (k : Nat) (f : Seal → Seal) : (s.modSeal k f).modu = s.modu := rfl
@[simp] theorem State.modSeal_loop (k : Nat) (f : Seal → Seal) : (s.modSeal k f).loop = s.loop := rfl
@[simp] theorem State.modSeal_grd (k : Nat) (f : Seal → Seal) : (s.modSeal k f).grd = s.grd := rfl
@[simp] theorem State.modSeal_bpt (k : Nat) (f : Seal → Seal) : (s.modSeal k f).bpt = s.bpt := rfl
@[simp] theorem State.modSeal_rti (k : Nat) (f : Seal → Seal) : (s.modSeal k f).rti = s.rti := rfl
@[simp] theorem State.modSeal_gaf (k : Nat) (f : Seal → Seal) : (s.modSeal k f).gaf = s.gaf := rfl
@[simp] theorem State.modSeal_net (k : Nat) (f : Seal → Seal) : (s.modSeal k f).net = s.net := rfl
@[simp] theorem State.modSeal_reco (k : Nat) (f : Seal → Seal) : (s.modSeal k f).reco = s.reco := rfl
@[simp] theorem State.modSeal_mem (k : Nat) (f : Seal → Seal) : (s.modSeal k f).mem = s.mem := rfl
@[simp] theorem State.modSeal_rail (k : Nat) (f : Seal → Seal) : (s.modSeal k f).rail = s.rail := rfl
@[simp] theorem State.modSeal_clk (k : Nat) (f : Seal → Seal) : (s.modSeal k f).clk = s.clk := rfl
@[simp] theorem State.modSeal_sen (k : Nat) (f : Seal → Seal) : (s.modSeal k f).sen = s.sen := rfl
@[simp] theorem State.modSeal_ev (k : Nat) (f : Seal → Seal) : (s.modSeal k f).ev = s.ev := rfl
@[simp] theorem State.modSeal_pending (k : Nat) (f : Seal → Seal) : (s.modSeal k f).pending = s.pending := rfl

@[simp] theorem State.modSource_free (i : Nat) (f : Source → Source) : (s.modSource i f).free = s.free := rfl
@[simp] theorem State.modSource_part (i : Nat) (f : Source → Source) : (s.modSource i f).part = s.part := rfl
@[simp] theorem State.modSource_regs (i : Nat) (f : Source → Source) : (s.modSource i f).regs = s.regs := rfl
@[simp] theorem State.modSource_used (i : Nat) (f : Source → Source) : (s.modSource i f).used = s.used := rfl
@[simp] theorem State.modSource_rideWait (i : Nat) (f : Source → Source) : (s.modSource i f).rideWait = s.rideWait := rfl
@[simp] theorem State.modSource_pwr (i : Nat) (f : Source → Source) : (s.modSource i f).pwr = s.pwr := rfl
@[simp] theorem State.modSource_lcy (i : Nat) (f : Source → Source) : (s.modSource i f).lcy = s.lcy := rfl
@[simp] theorem State.modSource_clock (i : Nat) (f : Source → Source) : (s.modSource i f).clock = s.clock := rfl
@[simp] theorem State.modSource_hosts (i : Nat) (f : Source → Source) : (s.modSource i f).hosts = s.hosts := rfl
@[simp] theorem State.modSource_modes (i : Nat) (f : Source → Source) : (s.modSource i f).modes = s.modes := rfl
@[simp] theorem State.modSource_ang (i : Nat) (f : Source → Source) : (s.modSource i f).ang = s.ang := rfl
@[simp] theorem State.modSource_adc (i : Nat) (f : Source → Source) : (s.modSource i f).adc = s.adc := rfl
@[simp] theorem State.modSource_rings (i : Nat) (f : Source → Source) : (s.modSource i f).rings = s.rings := rfl
@[simp] theorem State.modSource_modu (i : Nat) (f : Source → Source) : (s.modSource i f).modu = s.modu := rfl
@[simp] theorem State.modSource_loop (i : Nat) (f : Source → Source) : (s.modSource i f).loop = s.loop := rfl
@[simp] theorem State.modSource_grd (i : Nat) (f : Source → Source) : (s.modSource i f).grd = s.grd := rfl
@[simp] theorem State.modSource_bpt (i : Nat) (f : Source → Source) : (s.modSource i f).bpt = s.bpt := rfl
@[simp] theorem State.modSource_rti (i : Nat) (f : Source → Source) : (s.modSource i f).rti = s.rti := rfl
@[simp] theorem State.modSource_gaf (i : Nat) (f : Source → Source) : (s.modSource i f).gaf = s.gaf := rfl
@[simp] theorem State.modSource_net (i : Nat) (f : Source → Source) : (s.modSource i f).net = s.net := rfl
@[simp] theorem State.modSource_reco (i : Nat) (f : Source → Source) : (s.modSource i f).reco = s.reco := rfl
@[simp] theorem State.modSource_mem (i : Nat) (f : Source → Source) : (s.modSource i f).mem = s.mem := rfl
@[simp] theorem State.modSource_rail (i : Nat) (f : Source → Source) : (s.modSource i f).rail = s.rail := rfl
@[simp] theorem State.modSource_clk (i : Nat) (f : Source → Source) : (s.modSource i f).clk = s.clk := rfl
@[simp] theorem State.modSource_sen (i : Nat) (f : Source → Source) : (s.modSource i f).sen = s.sen := rfl
@[simp] theorem State.modSource_ev (i : Nat) (f : Source → Source) : (s.modSource i f).ev = s.ev := rfl
@[simp] theorem State.modSource_pending (i : Nat) (f : Source → Source) : (s.modSource i f).pending = s.pending := rfl

@[simp] theorem State.modSlot_free (i : Nat) (f : LoopSlot → LoopSlot) : (s.modSlot i f).free = s.free := rfl
@[simp] theorem State.modSlot_part (i : Nat) (f : LoopSlot → LoopSlot) : (s.modSlot i f).part = s.part := rfl
@[simp] theorem State.modSlot_regs (i : Nat) (f : LoopSlot → LoopSlot) : (s.modSlot i f).regs = s.regs := rfl
@[simp] theorem State.modSlot_used (i : Nat) (f : LoopSlot → LoopSlot) : (s.modSlot i f).used = s.used := rfl
@[simp] theorem State.modSlot_rideWait (i : Nat) (f : LoopSlot → LoopSlot) : (s.modSlot i f).rideWait = s.rideWait := rfl
@[simp] theorem State.modSlot_pwr (i : Nat) (f : LoopSlot → LoopSlot) : (s.modSlot i f).pwr = s.pwr := rfl
@[simp] theorem State.modSlot_lcy (i : Nat) (f : LoopSlot → LoopSlot) : (s.modSlot i f).lcy = s.lcy := rfl
@[simp] theorem State.modSlot_clock (i : Nat) (f : LoopSlot → LoopSlot) : (s.modSlot i f).clock = s.clock := rfl
@[simp] theorem State.modSlot_hosts (i : Nat) (f : LoopSlot → LoopSlot) : (s.modSlot i f).hosts = s.hosts := rfl
@[simp] theorem State.modSlot_modes (i : Nat) (f : LoopSlot → LoopSlot) : (s.modSlot i f).modes = s.modes := rfl
@[simp] theorem State.modSlot_ang (i : Nat) (f : LoopSlot → LoopSlot) : (s.modSlot i f).ang = s.ang := rfl
@[simp] theorem State.modSlot_adc (i : Nat) (f : LoopSlot → LoopSlot) : (s.modSlot i f).adc = s.adc := rfl
@[simp] theorem State.modSlot_rings (i : Nat) (f : LoopSlot → LoopSlot) : (s.modSlot i f).rings = s.rings := rfl
@[simp] theorem State.modSlot_modu (i : Nat) (f : LoopSlot → LoopSlot) : (s.modSlot i f).modu = s.modu := rfl
@[simp] theorem State.modSlot_grd (i : Nat) (f : LoopSlot → LoopSlot) : (s.modSlot i f).grd = s.grd := rfl
@[simp] theorem State.modSlot_bpt (i : Nat) (f : LoopSlot → LoopSlot) : (s.modSlot i f).bpt = s.bpt := rfl
@[simp] theorem State.modSlot_rti (i : Nat) (f : LoopSlot → LoopSlot) : (s.modSlot i f).rti = s.rti := rfl
@[simp] theorem State.modSlot_gaf (i : Nat) (f : LoopSlot → LoopSlot) : (s.modSlot i f).gaf = s.gaf := rfl
@[simp] theorem State.modSlot_saf (i : Nat) (f : LoopSlot → LoopSlot) : (s.modSlot i f).saf = s.saf := rfl
@[simp] theorem State.modSlot_net (i : Nat) (f : LoopSlot → LoopSlot) : (s.modSlot i f).net = s.net := rfl
@[simp] theorem State.modSlot_reco (i : Nat) (f : LoopSlot → LoopSlot) : (s.modSlot i f).reco = s.reco := rfl
@[simp] theorem State.modSlot_mem (i : Nat) (f : LoopSlot → LoopSlot) : (s.modSlot i f).mem = s.mem := rfl
@[simp] theorem State.modSlot_rail (i : Nat) (f : LoopSlot → LoopSlot) : (s.modSlot i f).rail = s.rail := rfl
@[simp] theorem State.modSlot_clk (i : Nat) (f : LoopSlot → LoopSlot) : (s.modSlot i f).clk = s.clk := rfl
@[simp] theorem State.modSlot_sen (i : Nat) (f : LoopSlot → LoopSlot) : (s.modSlot i f).sen = s.sen := rfl
@[simp] theorem State.modSlot_ev (i : Nat) (f : LoopSlot → LoopSlot) : (s.modSlot i f).ev = s.ev := rfl
@[simp] theorem State.modSlot_pending (i : Nat) (f : LoopSlot → LoopSlot) : (s.modSlot i f).pending = s.pending := rfl

@[simp] theorem State.modSub_free (n : Nat) (f : Sub → Sub) : (s.modSub n f).free = s.free := rfl
@[simp] theorem State.modSub_part (n : Nat) (f : Sub → Sub) : (s.modSub n f).part = s.part := rfl
@[simp] theorem State.modSub_regs (n : Nat) (f : Sub → Sub) : (s.modSub n f).regs = s.regs := rfl
@[simp] theorem State.modSub_used (n : Nat) (f : Sub → Sub) : (s.modSub n f).used = s.used := rfl
@[simp] theorem State.modSub_rideWait (n : Nat) (f : Sub → Sub) : (s.modSub n f).rideWait = s.rideWait := rfl
@[simp] theorem State.modSub_pwr (n : Nat) (f : Sub → Sub) : (s.modSub n f).pwr = s.pwr := rfl
@[simp] theorem State.modSub_lcy (n : Nat) (f : Sub → Sub) : (s.modSub n f).lcy = s.lcy := rfl
@[simp] theorem State.modSub_clock (n : Nat) (f : Sub → Sub) : (s.modSub n f).clock = s.clock := rfl
@[simp] theorem State.modSub_hosts (n : Nat) (f : Sub → Sub) : (s.modSub n f).hosts = s.hosts := rfl
@[simp] theorem State.modSub_modes (n : Nat) (f : Sub → Sub) : (s.modSub n f).modes = s.modes := rfl
@[simp] theorem State.modSub_ang (n : Nat) (f : Sub → Sub) : (s.modSub n f).ang = s.ang := rfl
@[simp] theorem State.modSub_adc (n : Nat) (f : Sub → Sub) : (s.modSub n f).adc = s.adc := rfl
@[simp] theorem State.modSub_rings (n : Nat) (f : Sub → Sub) : (s.modSub n f).rings = s.rings := rfl
@[simp] theorem State.modSub_modu (n : Nat) (f : Sub → Sub) : (s.modSub n f).modu = s.modu := rfl
@[simp] theorem State.modSub_loop (n : Nat) (f : Sub → Sub) : (s.modSub n f).loop = s.loop := rfl
@[simp] theorem State.modSub_grd (n : Nat) (f : Sub → Sub) : (s.modSub n f).grd = s.grd := rfl
@[simp] theorem State.modSub_bpt (n : Nat) (f : Sub → Sub) : (s.modSub n f).bpt = s.bpt := rfl
@[simp] theorem State.modSub_rti (n : Nat) (f : Sub → Sub) : (s.modSub n f).rti = s.rti := rfl
@[simp] theorem State.modSub_gaf (n : Nat) (f : Sub → Sub) : (s.modSub n f).gaf = s.gaf := rfl
@[simp] theorem State.modSub_saf (n : Nat) (f : Sub → Sub) : (s.modSub n f).saf = s.saf := rfl
@[simp] theorem State.modSub_reco (n : Nat) (f : Sub → Sub) : (s.modSub n f).reco = s.reco := rfl
@[simp] theorem State.modSub_mem (n : Nat) (f : Sub → Sub) : (s.modSub n f).mem = s.mem := rfl
@[simp] theorem State.modSub_rail (n : Nat) (f : Sub → Sub) : (s.modSub n f).rail = s.rail := rfl
@[simp] theorem State.modSub_clk (n : Nat) (f : Sub → Sub) : (s.modSub n f).clk = s.clk := rfl
@[simp] theorem State.modSub_sen (n : Nat) (f : Sub → Sub) : (s.modSub n f).sen = s.sen := rfl
@[simp] theorem State.modSub_ev (n : Nat) (f : Sub → Sub) : (s.modSub n f).ev = s.ev := rfl
@[simp] theorem State.modSub_pending (n : Nat) (f : Sub → Sub) : (s.modSub n f).pending = s.pending := rfl

@[simp] theorem State.modPub_free (n : Nat) (f : Pub → Pub) : (s.modPub n f).free = s.free := rfl
@[simp] theorem State.modPub_part (n : Nat) (f : Pub → Pub) : (s.modPub n f).part = s.part := rfl
@[simp] theorem State.modPub_regs (n : Nat) (f : Pub → Pub) : (s.modPub n f).regs = s.regs := rfl
@[simp] theorem State.modPub_used (n : Nat) (f : Pub → Pub) : (s.modPub n f).used = s.used := rfl
@[simp] theorem State.modPub_rideWait (n : Nat) (f : Pub → Pub) : (s.modPub n f).rideWait = s.rideWait := rfl
@[simp] theorem State.modPub_pwr (n : Nat) (f : Pub → Pub) : (s.modPub n f).pwr = s.pwr := rfl
@[simp] theorem State.modPub_lcy (n : Nat) (f : Pub → Pub) : (s.modPub n f).lcy = s.lcy := rfl
@[simp] theorem State.modPub_clock (n : Nat) (f : Pub → Pub) : (s.modPub n f).clock = s.clock := rfl
@[simp] theorem State.modPub_hosts (n : Nat) (f : Pub → Pub) : (s.modPub n f).hosts = s.hosts := rfl
@[simp] theorem State.modPub_modes (n : Nat) (f : Pub → Pub) : (s.modPub n f).modes = s.modes := rfl
@[simp] theorem State.modPub_ang (n : Nat) (f : Pub → Pub) : (s.modPub n f).ang = s.ang := rfl
@[simp] theorem State.modPub_adc (n : Nat) (f : Pub → Pub) : (s.modPub n f).adc = s.adc := rfl
@[simp] theorem State.modPub_rings (n : Nat) (f : Pub → Pub) : (s.modPub n f).rings = s.rings := rfl
@[simp] theorem State.modPub_modu (n : Nat) (f : Pub → Pub) : (s.modPub n f).modu = s.modu := rfl
@[simp] theorem State.modPub_loop (n : Nat) (f : Pub → Pub) : (s.modPub n f).loop = s.loop := rfl
@[simp] theorem State.modPub_grd (n : Nat) (f : Pub → Pub) : (s.modPub n f).grd = s.grd := rfl
@[simp] theorem State.modPub_bpt (n : Nat) (f : Pub → Pub) : (s.modPub n f).bpt = s.bpt := rfl
@[simp] theorem State.modPub_rti (n : Nat) (f : Pub → Pub) : (s.modPub n f).rti = s.rti := rfl
@[simp] theorem State.modPub_gaf (n : Nat) (f : Pub → Pub) : (s.modPub n f).gaf = s.gaf := rfl
@[simp] theorem State.modPub_saf (n : Nat) (f : Pub → Pub) : (s.modPub n f).saf = s.saf := rfl
@[simp] theorem State.modPub_reco (n : Nat) (f : Pub → Pub) : (s.modPub n f).reco = s.reco := rfl
@[simp] theorem State.modPub_mem (n : Nat) (f : Pub → Pub) : (s.modPub n f).mem = s.mem := rfl
@[simp] theorem State.modPub_rail (n : Nat) (f : Pub → Pub) : (s.modPub n f).rail = s.rail := rfl
@[simp] theorem State.modPub_clk (n : Nat) (f : Pub → Pub) : (s.modPub n f).clk = s.clk := rfl
@[simp] theorem State.modPub_sen (n : Nat) (f : Pub → Pub) : (s.modPub n f).sen = s.sen := rfl
@[simp] theorem State.modPub_ev (n : Nat) (f : Pub → Pub) : (s.modPub n f).ev = s.ev := rfl
@[simp] theorem State.modPub_pending (n : Nat) (f : Pub → Pub) : (s.modPub n f).pending = s.pending := rfl

@[simp] theorem State.modCh_free (c : Nat) (f : RailCh → RailCh) : (s.modCh c f).free = s.free := rfl
@[simp] theorem State.modCh_part (c : Nat) (f : RailCh → RailCh) : (s.modCh c f).part = s.part := rfl
@[simp] theorem State.modCh_regs (c : Nat) (f : RailCh → RailCh) : (s.modCh c f).regs = s.regs := rfl
@[simp] theorem State.modCh_used (c : Nat) (f : RailCh → RailCh) : (s.modCh c f).used = s.used := rfl
@[simp] theorem State.modCh_rideWait (c : Nat) (f : RailCh → RailCh) : (s.modCh c f).rideWait = s.rideWait := rfl
@[simp] theorem State.modCh_pwr (c : Nat) (f : RailCh → RailCh) : (s.modCh c f).pwr = s.pwr := rfl
@[simp] theorem State.modCh_lcy (c : Nat) (f : RailCh → RailCh) : (s.modCh c f).lcy = s.lcy := rfl
@[simp] theorem State.modCh_clock (c : Nat) (f : RailCh → RailCh) : (s.modCh c f).clock = s.clock := rfl
@[simp] theorem State.modCh_hosts (c : Nat) (f : RailCh → RailCh) : (s.modCh c f).hosts = s.hosts := rfl
@[simp] theorem State.modCh_modes (c : Nat) (f : RailCh → RailCh) : (s.modCh c f).modes = s.modes := rfl
@[simp] theorem State.modCh_ang (c : Nat) (f : RailCh → RailCh) : (s.modCh c f).ang = s.ang := rfl
@[simp] theorem State.modCh_adc (c : Nat) (f : RailCh → RailCh) : (s.modCh c f).adc = s.adc := rfl
@[simp] theorem State.modCh_rings (c : Nat) (f : RailCh → RailCh) : (s.modCh c f).rings = s.rings := rfl
@[simp] theorem State.modCh_modu (c : Nat) (f : RailCh → RailCh) : (s.modCh c f).modu = s.modu := rfl
@[simp] theorem State.modCh_loop (c : Nat) (f : RailCh → RailCh) : (s.modCh c f).loop = s.loop := rfl
@[simp] theorem State.modCh_grd (c : Nat) (f : RailCh → RailCh) : (s.modCh c f).grd = s.grd := rfl
@[simp] theorem State.modCh_bpt (c : Nat) (f : RailCh → RailCh) : (s.modCh c f).bpt = s.bpt := rfl
@[simp] theorem State.modCh_rti (c : Nat) (f : RailCh → RailCh) : (s.modCh c f).rti = s.rti := rfl
@[simp] theorem State.modCh_gaf (c : Nat) (f : RailCh → RailCh) : (s.modCh c f).gaf = s.gaf := rfl
@[simp] theorem State.modCh_saf (c : Nat) (f : RailCh → RailCh) : (s.modCh c f).saf = s.saf := rfl
@[simp] theorem State.modCh_net (c : Nat) (f : RailCh → RailCh) : (s.modCh c f).net = s.net := rfl
@[simp] theorem State.modCh_reco (c : Nat) (f : RailCh → RailCh) : (s.modCh c f).reco = s.reco := rfl
@[simp] theorem State.modCh_mem (c : Nat) (f : RailCh → RailCh) : (s.modCh c f).mem = s.mem := rfl
@[simp] theorem State.modCh_clk (c : Nat) (f : RailCh → RailCh) : (s.modCh c f).clk = s.clk := rfl
@[simp] theorem State.modCh_sen (c : Nat) (f : RailCh → RailCh) : (s.modCh c f).sen = s.sen := rfl
@[simp] theorem State.modCh_ev (c : Nat) (f : RailCh → RailCh) : (s.modCh c f).ev = s.ev := rfl
@[simp] theorem State.modCh_pending (c : Nat) (f : RailCh → RailCh) : (s.modCh c f).pending = s.pending := rfl

@[simp] theorem State.modHwRing_free (n : Nat) (f : Ring → Ring) : (s.modHwRing n f).free = s.free := rfl
@[simp] theorem State.modHwRing_part (n : Nat) (f : Ring → Ring) : (s.modHwRing n f).part = s.part := rfl
@[simp] theorem State.modHwRing_regs (n : Nat) (f : Ring → Ring) : (s.modHwRing n f).regs = s.regs := rfl
@[simp] theorem State.modHwRing_used (n : Nat) (f : Ring → Ring) : (s.modHwRing n f).used = s.used := rfl
@[simp] theorem State.modHwRing_rideWait (n : Nat) (f : Ring → Ring) : (s.modHwRing n f).rideWait = s.rideWait := rfl
@[simp] theorem State.modHwRing_pwr (n : Nat) (f : Ring → Ring) : (s.modHwRing n f).pwr = s.pwr := rfl
@[simp] theorem State.modHwRing_lcy (n : Nat) (f : Ring → Ring) : (s.modHwRing n f).lcy = s.lcy := rfl
@[simp] theorem State.modHwRing_clock (n : Nat) (f : Ring → Ring) : (s.modHwRing n f).clock = s.clock := rfl
@[simp] theorem State.modHwRing_hosts (n : Nat) (f : Ring → Ring) : (s.modHwRing n f).hosts = s.hosts := rfl
@[simp] theorem State.modHwRing_modes (n : Nat) (f : Ring → Ring) : (s.modHwRing n f).modes = s.modes := rfl
@[simp] theorem State.modHwRing_ang (n : Nat) (f : Ring → Ring) : (s.modHwRing n f).ang = s.ang := rfl
@[simp] theorem State.modHwRing_adc (n : Nat) (f : Ring → Ring) : (s.modHwRing n f).adc = s.adc := rfl
@[simp] theorem State.modHwRing_rings (n : Nat) (f : Ring → Ring) : (s.modHwRing n f).rings = s.rings := rfl
@[simp] theorem State.modHwRing_modu (n : Nat) (f : Ring → Ring) : (s.modHwRing n f).modu = s.modu := rfl
@[simp] theorem State.modHwRing_loop (n : Nat) (f : Ring → Ring) : (s.modHwRing n f).loop = s.loop := rfl
@[simp] theorem State.modHwRing_grd (n : Nat) (f : Ring → Ring) : (s.modHwRing n f).grd = s.grd := rfl
@[simp] theorem State.modHwRing_bpt (n : Nat) (f : Ring → Ring) : (s.modHwRing n f).bpt = s.bpt := rfl
@[simp] theorem State.modHwRing_rti (n : Nat) (f : Ring → Ring) : (s.modHwRing n f).rti = s.rti := rfl
@[simp] theorem State.modHwRing_gaf (n : Nat) (f : Ring → Ring) : (s.modHwRing n f).gaf = s.gaf := rfl
@[simp] theorem State.modHwRing_saf (n : Nat) (f : Ring → Ring) : (s.modHwRing n f).saf = s.saf := rfl
@[simp] theorem State.modHwRing_net (n : Nat) (f : Ring → Ring) : (s.modHwRing n f).net = s.net := rfl
@[simp] theorem State.modHwRing_reco (n : Nat) (f : Ring → Ring) : (s.modHwRing n f).reco = s.reco := rfl
@[simp] theorem State.modHwRing_mem (n : Nat) (f : Ring → Ring) : (s.modHwRing n f).mem = s.mem := rfl
@[simp] theorem State.modHwRing_rail (n : Nat) (f : Ring → Ring) : (s.modHwRing n f).rail = s.rail := rfl
@[simp] theorem State.modHwRing_clk (n : Nat) (f : Ring → Ring) : (s.modHwRing n f).clk = s.clk := rfl
@[simp] theorem State.modHwRing_sen (n : Nat) (f : Ring → Ring) : (s.modHwRing n f).sen = s.sen := rfl
@[simp] theorem State.modHwRing_pending (n : Nat) (f : Ring → Ring) : (s.modHwRing n f).pending = s.pending := rfl

@[simp] theorem State.putReg_free (o : Nat) (v : Word) : (s.putReg o v).free = s.free := rfl
@[simp] theorem State.putReg_part (o : Nat) (v : Word) : (s.putReg o v).part = s.part := rfl
@[simp] theorem State.putReg_regs (o : Nat) (v : Word) : (s.putReg o v).regs = Map.put resetWord o v s.regs := rfl
@[simp] theorem State.putReg_used (o : Nat) (v : Word) : (s.putReg o v).used = s.used := rfl
@[simp] theorem State.putReg_rideWait (o : Nat) (v : Word) : (s.putReg o v).rideWait = s.rideWait := rfl
@[simp] theorem State.putReg_pwr (o : Nat) (v : Word) : (s.putReg o v).pwr = s.pwr := rfl
@[simp] theorem State.putReg_lcy (o : Nat) (v : Word) : (s.putReg o v).lcy = s.lcy := rfl
@[simp] theorem State.putReg_clock (o : Nat) (v : Word) : (s.putReg o v).clock = s.clock := rfl
@[simp] theorem State.putReg_hosts (o : Nat) (v : Word) : (s.putReg o v).hosts = s.hosts := rfl
@[simp] theorem State.putReg_modes (o : Nat) (v : Word) : (s.putReg o v).modes = s.modes := rfl
@[simp] theorem State.putReg_ang (o : Nat) (v : Word) : (s.putReg o v).ang = s.ang := rfl
@[simp] theorem State.putReg_adc (o : Nat) (v : Word) : (s.putReg o v).adc = s.adc := rfl
@[simp] theorem State.putReg_rings (o : Nat) (v : Word) : (s.putReg o v).rings = s.rings := rfl
@[simp] theorem State.putReg_modu (o : Nat) (v : Word) : (s.putReg o v).modu = s.modu := rfl
@[simp] theorem State.putReg_loop (o : Nat) (v : Word) : (s.putReg o v).loop = s.loop := rfl
@[simp] theorem State.putReg_grd (o : Nat) (v : Word) : (s.putReg o v).grd = s.grd := rfl
@[simp] theorem State.putReg_bpt (o : Nat) (v : Word) : (s.putReg o v).bpt = s.bpt := rfl
@[simp] theorem State.putReg_rti (o : Nat) (v : Word) : (s.putReg o v).rti = s.rti := rfl
@[simp] theorem State.putReg_gaf (o : Nat) (v : Word) : (s.putReg o v).gaf = s.gaf := rfl
@[simp] theorem State.putReg_saf (o : Nat) (v : Word) : (s.putReg o v).saf = s.saf := rfl
@[simp] theorem State.putReg_net (o : Nat) (v : Word) : (s.putReg o v).net = s.net := rfl
@[simp] theorem State.putReg_reco (o : Nat) (v : Word) : (s.putReg o v).reco = s.reco := rfl
@[simp] theorem State.putReg_mem (o : Nat) (v : Word) : (s.putReg o v).mem = s.mem := rfl
@[simp] theorem State.putReg_rail (o : Nat) (v : Word) : (s.putReg o v).rail = s.rail := rfl
@[simp] theorem State.putReg_clk (o : Nat) (v : Word) : (s.putReg o v).clk = s.clk := rfl
@[simp] theorem State.putReg_sen (o : Nat) (v : Word) : (s.putReg o v).sen = s.sen := rfl
@[simp] theorem State.putReg_ev (o : Nat) (v : Word) : (s.putReg o v).ev = s.ev := rfl
@[simp] theorem State.putReg_pending (o : Nat) (v : Word) : (s.putReg o v).pending = s.pending := rfl

@[simp] theorem State.putBoth_free (o : Nat) (v : Word) : (s.putBoth o v).free = s.free := rfl
@[simp] theorem State.putBoth_part (o : Nat) (v : Word) : (s.putBoth o v).part = s.part := rfl
@[simp] theorem State.putBoth_rideWait (o : Nat) (v : Word) : (s.putBoth o v).rideWait = s.rideWait := rfl
@[simp] theorem State.putBoth_pwr (o : Nat) (v : Word) : (s.putBoth o v).pwr = s.pwr := rfl
@[simp] theorem State.putBoth_lcy (o : Nat) (v : Word) : (s.putBoth o v).lcy = s.lcy := rfl
@[simp] theorem State.putBoth_clock (o : Nat) (v : Word) : (s.putBoth o v).clock = s.clock := rfl
@[simp] theorem State.putBoth_hosts (o : Nat) (v : Word) : (s.putBoth o v).hosts = s.hosts := rfl
@[simp] theorem State.putBoth_modes (o : Nat) (v : Word) : (s.putBoth o v).modes = s.modes := rfl
@[simp] theorem State.putBoth_ang (o : Nat) (v : Word) : (s.putBoth o v).ang = s.ang := rfl
@[simp] theorem State.putBoth_adc (o : Nat) (v : Word) : (s.putBoth o v).adc = s.adc := rfl
@[simp] theorem State.putBoth_rings (o : Nat) (v : Word) : (s.putBoth o v).rings = s.rings := rfl
@[simp] theorem State.putBoth_modu (o : Nat) (v : Word) : (s.putBoth o v).modu = s.modu := rfl
@[simp] theorem State.putBoth_loop (o : Nat) (v : Word) : (s.putBoth o v).loop = s.loop := rfl
@[simp] theorem State.putBoth_grd (o : Nat) (v : Word) : (s.putBoth o v).grd = s.grd := rfl
@[simp] theorem State.putBoth_bpt (o : Nat) (v : Word) : (s.putBoth o v).bpt = s.bpt := rfl
@[simp] theorem State.putBoth_rti (o : Nat) (v : Word) : (s.putBoth o v).rti = s.rti := rfl
@[simp] theorem State.putBoth_gaf (o : Nat) (v : Word) : (s.putBoth o v).gaf = s.gaf := rfl
@[simp] theorem State.putBoth_saf (o : Nat) (v : Word) : (s.putBoth o v).saf = s.saf := rfl
@[simp] theorem State.putBoth_net (o : Nat) (v : Word) : (s.putBoth o v).net = s.net := rfl
@[simp] theorem State.putBoth_reco (o : Nat) (v : Word) : (s.putBoth o v).reco = s.reco := rfl
@[simp] theorem State.putBoth_mem (o : Nat) (v : Word) : (s.putBoth o v).mem = s.mem := rfl
@[simp] theorem State.putBoth_rail (o : Nat) (v : Word) : (s.putBoth o v).rail = s.rail := rfl
@[simp] theorem State.putBoth_clk (o : Nat) (v : Word) : (s.putBoth o v).clk = s.clk := rfl
@[simp] theorem State.putBoth_sen (o : Nat) (v : Word) : (s.putBoth o v).sen = s.sen := rfl
@[simp] theorem State.putBoth_ev (o : Nat) (v : Word) : (s.putBoth o v).ev = s.ev := rfl
@[simp] theorem State.putBoth_pending (o : Nat) (v : Word) : (s.putBoth o v).pending = s.pending := rfl

@[simp] theorem State.putWin_free (h : Nat) (o : Nat) (v : Word) : (s.putWin h o v).free = s.free := rfl
@[simp] theorem State.putWin_part (h : Nat) (o : Nat) (v : Word) : (s.putWin h o v).part = s.part := rfl
@[simp] theorem State.putWin_regs (h : Nat) (o : Nat) (v : Word) : (s.putWin h o v).regs = s.regs := rfl
@[simp] theorem State.putWin_used (h : Nat) (o : Nat) (v : Word) : (s.putWin h o v).used = s.used := rfl
@[simp] theorem State.putWin_rideWait (h : Nat) (o : Nat) (v : Word) : (s.putWin h o v).rideWait = s.rideWait := rfl
@[simp] theorem State.putWin_pwr (h : Nat) (o : Nat) (v : Word) : (s.putWin h o v).pwr = s.pwr := rfl
@[simp] theorem State.putWin_lcy (h : Nat) (o : Nat) (v : Word) : (s.putWin h o v).lcy = s.lcy := rfl
@[simp] theorem State.putWin_clock (h : Nat) (o : Nat) (v : Word) : (s.putWin h o v).clock = s.clock := rfl
@[simp] theorem State.putWin_modes (h : Nat) (o : Nat) (v : Word) : (s.putWin h o v).modes = s.modes := rfl
@[simp] theorem State.putWin_ang (h : Nat) (o : Nat) (v : Word) : (s.putWin h o v).ang = s.ang := rfl
@[simp] theorem State.putWin_adc (h : Nat) (o : Nat) (v : Word) : (s.putWin h o v).adc = s.adc := rfl
@[simp] theorem State.putWin_rings (h : Nat) (o : Nat) (v : Word) : (s.putWin h o v).rings = s.rings := rfl
@[simp] theorem State.putWin_modu (h : Nat) (o : Nat) (v : Word) : (s.putWin h o v).modu = s.modu := rfl
@[simp] theorem State.putWin_loop (h : Nat) (o : Nat) (v : Word) : (s.putWin h o v).loop = s.loop := rfl
@[simp] theorem State.putWin_grd (h : Nat) (o : Nat) (v : Word) : (s.putWin h o v).grd = s.grd := rfl
@[simp] theorem State.putWin_bpt (h : Nat) (o : Nat) (v : Word) : (s.putWin h o v).bpt = s.bpt := rfl
@[simp] theorem State.putWin_rti (h : Nat) (o : Nat) (v : Word) : (s.putWin h o v).rti = s.rti := rfl
@[simp] theorem State.putWin_gaf (h : Nat) (o : Nat) (v : Word) : (s.putWin h o v).gaf = s.gaf := rfl
@[simp] theorem State.putWin_saf (h : Nat) (o : Nat) (v : Word) : (s.putWin h o v).saf = s.saf := rfl
@[simp] theorem State.putWin_net (h : Nat) (o : Nat) (v : Word) : (s.putWin h o v).net = s.net := rfl
@[simp] theorem State.putWin_reco (h : Nat) (o : Nat) (v : Word) : (s.putWin h o v).reco = s.reco := rfl
@[simp] theorem State.putWin_mem (h : Nat) (o : Nat) (v : Word) : (s.putWin h o v).mem = s.mem := rfl
@[simp] theorem State.putWin_rail (h : Nat) (o : Nat) (v : Word) : (s.putWin h o v).rail = s.rail := rfl
@[simp] theorem State.putWin_clk (h : Nat) (o : Nat) (v : Word) : (s.putWin h o v).clk = s.clk := rfl
@[simp] theorem State.putWin_sen (h : Nat) (o : Nat) (v : Word) : (s.putWin h o v).sen = s.sen := rfl
@[simp] theorem State.putWin_ev (h : Nat) (o : Nat) (v : Word) : (s.putWin h o v).ev = s.ev := rfl
@[simp] theorem State.putWin_pending (h : Nat) (o : Nat) (v : Word) : (s.putWin h o v).pending = s.pending := rfl

@[simp] theorem State.disarm_free (h : Nat) (page : Nat) : (s.disarm h page).free = s.free := rfl
@[simp] theorem State.disarm_part (h : Nat) (page : Nat) : (s.disarm h page).part = s.part := rfl
@[simp] theorem State.disarm_regs (h : Nat) (page : Nat) : (s.disarm h page).regs = s.regs := rfl
@[simp] theorem State.disarm_used (h : Nat) (page : Nat) : (s.disarm h page).used = s.used := rfl
@[simp] theorem State.disarm_rideWait (h : Nat) (page : Nat) : (s.disarm h page).rideWait = s.rideWait := rfl
@[simp] theorem State.disarm_pwr (h : Nat) (page : Nat) : (s.disarm h page).pwr = s.pwr := rfl
@[simp] theorem State.disarm_lcy (h : Nat) (page : Nat) : (s.disarm h page).lcy = s.lcy := rfl
@[simp] theorem State.disarm_clock (h : Nat) (page : Nat) : (s.disarm h page).clock = s.clock := rfl
@[simp] theorem State.disarm_modes (h : Nat) (page : Nat) : (s.disarm h page).modes = s.modes := rfl
@[simp] theorem State.disarm_ang (h : Nat) (page : Nat) : (s.disarm h page).ang = s.ang := rfl
@[simp] theorem State.disarm_adc (h : Nat) (page : Nat) : (s.disarm h page).adc = s.adc := rfl
@[simp] theorem State.disarm_rings (h : Nat) (page : Nat) : (s.disarm h page).rings = s.rings := rfl
@[simp] theorem State.disarm_modu (h : Nat) (page : Nat) : (s.disarm h page).modu = s.modu := rfl
@[simp] theorem State.disarm_loop (h : Nat) (page : Nat) : (s.disarm h page).loop = s.loop := rfl
@[simp] theorem State.disarm_grd (h : Nat) (page : Nat) : (s.disarm h page).grd = s.grd := rfl
@[simp] theorem State.disarm_bpt (h : Nat) (page : Nat) : (s.disarm h page).bpt = s.bpt := rfl
@[simp] theorem State.disarm_rti (h : Nat) (page : Nat) : (s.disarm h page).rti = s.rti := rfl
@[simp] theorem State.disarm_gaf (h : Nat) (page : Nat) : (s.disarm h page).gaf = s.gaf := rfl
@[simp] theorem State.disarm_saf (h : Nat) (page : Nat) : (s.disarm h page).saf = s.saf := rfl
@[simp] theorem State.disarm_net (h : Nat) (page : Nat) : (s.disarm h page).net = s.net := rfl
@[simp] theorem State.disarm_reco (h : Nat) (page : Nat) : (s.disarm h page).reco = s.reco := rfl
@[simp] theorem State.disarm_mem (h : Nat) (page : Nat) : (s.disarm h page).mem = s.mem := rfl
@[simp] theorem State.disarm_rail (h : Nat) (page : Nat) : (s.disarm h page).rail = s.rail := rfl
@[simp] theorem State.disarm_clk (h : Nat) (page : Nat) : (s.disarm h page).clk = s.clk := rfl
@[simp] theorem State.disarm_sen (h : Nat) (page : Nat) : (s.disarm h page).sen = s.sen := rfl
@[simp] theorem State.disarm_ev (h : Nat) (page : Nat) : (s.disarm h page).ev = s.ev := rfl
@[simp] theorem State.disarm_pending (h : Nat) (page : Nat) : (s.disarm h page).pending = s.pending := rfl

@[simp] theorem State.emptied_free (h : Nat) (o : Nat) : (s.emptied h o).free = s.free := rfl
@[simp] theorem State.emptied_part (h : Nat) (o : Nat) : (s.emptied h o).part = s.part := rfl
@[simp] theorem State.emptied_regs (h : Nat) (o : Nat) : (s.emptied h o).regs = s.regs := rfl
@[simp] theorem State.emptied_used (h : Nat) (o : Nat) : (s.emptied h o).used = s.used := rfl
@[simp] theorem State.emptied_rideWait (h : Nat) (o : Nat) : (s.emptied h o).rideWait = s.rideWait := rfl
@[simp] theorem State.emptied_pwr (h : Nat) (o : Nat) : (s.emptied h o).pwr = s.pwr := rfl
@[simp] theorem State.emptied_lcy (h : Nat) (o : Nat) : (s.emptied h o).lcy = s.lcy := rfl
@[simp] theorem State.emptied_clock (h : Nat) (o : Nat) : (s.emptied h o).clock = s.clock := rfl
@[simp] theorem State.emptied_modes (h : Nat) (o : Nat) : (s.emptied h o).modes = s.modes := rfl
@[simp] theorem State.emptied_ang (h : Nat) (o : Nat) : (s.emptied h o).ang = s.ang := rfl
@[simp] theorem State.emptied_adc (h : Nat) (o : Nat) : (s.emptied h o).adc = s.adc := rfl
@[simp] theorem State.emptied_rings (h : Nat) (o : Nat) : (s.emptied h o).rings = s.rings := rfl
@[simp] theorem State.emptied_modu (h : Nat) (o : Nat) : (s.emptied h o).modu = s.modu := rfl
@[simp] theorem State.emptied_loop (h : Nat) (o : Nat) : (s.emptied h o).loop = s.loop := rfl
@[simp] theorem State.emptied_grd (h : Nat) (o : Nat) : (s.emptied h o).grd = s.grd := rfl
@[simp] theorem State.emptied_bpt (h : Nat) (o : Nat) : (s.emptied h o).bpt = s.bpt := rfl
@[simp] theorem State.emptied_rti (h : Nat) (o : Nat) : (s.emptied h o).rti = s.rti := rfl
@[simp] theorem State.emptied_gaf (h : Nat) (o : Nat) : (s.emptied h o).gaf = s.gaf := rfl
@[simp] theorem State.emptied_saf (h : Nat) (o : Nat) : (s.emptied h o).saf = s.saf := rfl
@[simp] theorem State.emptied_net (h : Nat) (o : Nat) : (s.emptied h o).net = s.net := rfl
@[simp] theorem State.emptied_reco (h : Nat) (o : Nat) : (s.emptied h o).reco = s.reco := rfl
@[simp] theorem State.emptied_mem (h : Nat) (o : Nat) : (s.emptied h o).mem = s.mem := rfl
@[simp] theorem State.emptied_rail (h : Nat) (o : Nat) : (s.emptied h o).rail = s.rail := rfl
@[simp] theorem State.emptied_clk (h : Nat) (o : Nat) : (s.emptied h o).clk = s.clk := rfl
@[simp] theorem State.emptied_sen (h : Nat) (o : Nat) : (s.emptied h o).sen = s.sen := rfl
@[simp] theorem State.emptied_ev (h : Nat) (o : Nat) : (s.emptied h o).ev = s.ev := rfl
@[simp] theorem State.emptied_pending (h : Nat) (o : Nat) : (s.emptied h o).pending = s.pending := rfl

@[simp] theorem State.placed_free (h : Nat) (o : Nat) (v : Word) : (s.placed h o v).free = s.free := rfl
@[simp] theorem State.placed_part (h : Nat) (o : Nat) (v : Word) : (s.placed h o v).part = s.part := rfl
@[simp] theorem State.placed_regs (h : Nat) (o : Nat) (v : Word) : (s.placed h o v).regs = s.regs := rfl
@[simp] theorem State.placed_used (h : Nat) (o : Nat) (v : Word) : (s.placed h o v).used = s.used := rfl
@[simp] theorem State.placed_rideWait (h : Nat) (o : Nat) (v : Word) : (s.placed h o v).rideWait = s.rideWait := rfl
@[simp] theorem State.placed_pwr (h : Nat) (o : Nat) (v : Word) : (s.placed h o v).pwr = s.pwr := rfl
@[simp] theorem State.placed_lcy (h : Nat) (o : Nat) (v : Word) : (s.placed h o v).lcy = s.lcy := rfl
@[simp] theorem State.placed_clock (h : Nat) (o : Nat) (v : Word) : (s.placed h o v).clock = s.clock := rfl
@[simp] theorem State.placed_modes (h : Nat) (o : Nat) (v : Word) : (s.placed h o v).modes = s.modes := rfl
@[simp] theorem State.placed_ang (h : Nat) (o : Nat) (v : Word) : (s.placed h o v).ang = s.ang := rfl
@[simp] theorem State.placed_adc (h : Nat) (o : Nat) (v : Word) : (s.placed h o v).adc = s.adc := rfl
@[simp] theorem State.placed_rings (h : Nat) (o : Nat) (v : Word) : (s.placed h o v).rings = s.rings := rfl
@[simp] theorem State.placed_modu (h : Nat) (o : Nat) (v : Word) : (s.placed h o v).modu = s.modu := rfl
@[simp] theorem State.placed_loop (h : Nat) (o : Nat) (v : Word) : (s.placed h o v).loop = s.loop := rfl
@[simp] theorem State.placed_grd (h : Nat) (o : Nat) (v : Word) : (s.placed h o v).grd = s.grd := rfl
@[simp] theorem State.placed_bpt (h : Nat) (o : Nat) (v : Word) : (s.placed h o v).bpt = s.bpt := rfl
@[simp] theorem State.placed_rti (h : Nat) (o : Nat) (v : Word) : (s.placed h o v).rti = s.rti := rfl
@[simp] theorem State.placed_gaf (h : Nat) (o : Nat) (v : Word) : (s.placed h o v).gaf = s.gaf := rfl
@[simp] theorem State.placed_saf (h : Nat) (o : Nat) (v : Word) : (s.placed h o v).saf = s.saf := rfl
@[simp] theorem State.placed_net (h : Nat) (o : Nat) (v : Word) : (s.placed h o v).net = s.net := rfl
@[simp] theorem State.placed_reco (h : Nat) (o : Nat) (v : Word) : (s.placed h o v).reco = s.reco := rfl
@[simp] theorem State.placed_mem (h : Nat) (o : Nat) (v : Word) : (s.placed h o v).mem = s.mem := rfl
@[simp] theorem State.placed_rail (h : Nat) (o : Nat) (v : Word) : (s.placed h o v).rail = s.rail := rfl
@[simp] theorem State.placed_clk (h : Nat) (o : Nat) (v : Word) : (s.placed h o v).clk = s.clk := rfl
@[simp] theorem State.placed_sen (h : Nat) (o : Nat) (v : Word) : (s.placed h o v).sen = s.sen := rfl
@[simp] theorem State.placed_ev (h : Nat) (o : Nat) (v : Word) : (s.placed h o v).ev = s.ev := rfl
@[simp] theorem State.placed_pending (h : Nat) (o : Nat) (v : Word) : (s.placed h o v).pending = s.pending := rfl

@[simp] theorem State.putUpper_free (h : Nat) (o : Nat) (v : Word) : (s.putUpper h o v).free = s.free := rfl
@[simp] theorem State.putUpper_part (h : Nat) (o : Nat) (v : Word) : (s.putUpper h o v).part = s.part := rfl
@[simp] theorem State.putUpper_regs (h : Nat) (o : Nat) (v : Word) : (s.putUpper h o v).regs = s.regs := rfl
@[simp] theorem State.putUpper_used (h : Nat) (o : Nat) (v : Word) : (s.putUpper h o v).used = s.used := rfl
@[simp] theorem State.putUpper_rideWait (h : Nat) (o : Nat) (v : Word) : (s.putUpper h o v).rideWait = s.rideWait := rfl
@[simp] theorem State.putUpper_pwr (h : Nat) (o : Nat) (v : Word) : (s.putUpper h o v).pwr = s.pwr := rfl
@[simp] theorem State.putUpper_lcy (h : Nat) (o : Nat) (v : Word) : (s.putUpper h o v).lcy = s.lcy := rfl
@[simp] theorem State.putUpper_clock (h : Nat) (o : Nat) (v : Word) : (s.putUpper h o v).clock = s.clock := rfl
@[simp] theorem State.putUpper_modes (h : Nat) (o : Nat) (v : Word) : (s.putUpper h o v).modes = s.modes := rfl
@[simp] theorem State.putUpper_ang (h : Nat) (o : Nat) (v : Word) : (s.putUpper h o v).ang = s.ang := rfl
@[simp] theorem State.putUpper_adc (h : Nat) (o : Nat) (v : Word) : (s.putUpper h o v).adc = s.adc := rfl
@[simp] theorem State.putUpper_rings (h : Nat) (o : Nat) (v : Word) : (s.putUpper h o v).rings = s.rings := rfl
@[simp] theorem State.putUpper_modu (h : Nat) (o : Nat) (v : Word) : (s.putUpper h o v).modu = s.modu := rfl
@[simp] theorem State.putUpper_loop (h : Nat) (o : Nat) (v : Word) : (s.putUpper h o v).loop = s.loop := rfl
@[simp] theorem State.putUpper_grd (h : Nat) (o : Nat) (v : Word) : (s.putUpper h o v).grd = s.grd := rfl
@[simp] theorem State.putUpper_bpt (h : Nat) (o : Nat) (v : Word) : (s.putUpper h o v).bpt = s.bpt := rfl
@[simp] theorem State.putUpper_rti (h : Nat) (o : Nat) (v : Word) : (s.putUpper h o v).rti = s.rti := rfl
@[simp] theorem State.putUpper_gaf (h : Nat) (o : Nat) (v : Word) : (s.putUpper h o v).gaf = s.gaf := rfl
@[simp] theorem State.putUpper_saf (h : Nat) (o : Nat) (v : Word) : (s.putUpper h o v).saf = s.saf := rfl
@[simp] theorem State.putUpper_net (h : Nat) (o : Nat) (v : Word) : (s.putUpper h o v).net = s.net := rfl
@[simp] theorem State.putUpper_reco (h : Nat) (o : Nat) (v : Word) : (s.putUpper h o v).reco = s.reco := rfl
@[simp] theorem State.putUpper_mem (h : Nat) (o : Nat) (v : Word) : (s.putUpper h o v).mem = s.mem := rfl
@[simp] theorem State.putUpper_rail (h : Nat) (o : Nat) (v : Word) : (s.putUpper h o v).rail = s.rail := rfl
@[simp] theorem State.putUpper_clk (h : Nat) (o : Nat) (v : Word) : (s.putUpper h o v).clk = s.clk := rfl
@[simp] theorem State.putUpper_sen (h : Nat) (o : Nat) (v : Word) : (s.putUpper h o v).sen = s.sen := rfl
@[simp] theorem State.putUpper_ev (h : Nat) (o : Nat) (v : Word) : (s.putUpper h o v).ev = s.ev := rfl
@[simp] theorem State.putUpper_pending (h : Nat) (o : Nat) (v : Word) : (s.putUpper h o v).pending = s.pending := rfl

@[simp] theorem State.dropUpper_free (h : Nat) (o : Nat) : (s.dropUpper h o).free = s.free := rfl
@[simp] theorem State.dropUpper_part (h : Nat) (o : Nat) : (s.dropUpper h o).part = s.part := rfl
@[simp] theorem State.dropUpper_regs (h : Nat) (o : Nat) : (s.dropUpper h o).regs = s.regs := rfl
@[simp] theorem State.dropUpper_used (h : Nat) (o : Nat) : (s.dropUpper h o).used = s.used := rfl
@[simp] theorem State.dropUpper_rideWait (h : Nat) (o : Nat) : (s.dropUpper h o).rideWait = s.rideWait := rfl
@[simp] theorem State.dropUpper_pwr (h : Nat) (o : Nat) : (s.dropUpper h o).pwr = s.pwr := rfl
@[simp] theorem State.dropUpper_lcy (h : Nat) (o : Nat) : (s.dropUpper h o).lcy = s.lcy := rfl
@[simp] theorem State.dropUpper_clock (h : Nat) (o : Nat) : (s.dropUpper h o).clock = s.clock := rfl
@[simp] theorem State.dropUpper_modes (h : Nat) (o : Nat) : (s.dropUpper h o).modes = s.modes := rfl
@[simp] theorem State.dropUpper_ang (h : Nat) (o : Nat) : (s.dropUpper h o).ang = s.ang := rfl
@[simp] theorem State.dropUpper_adc (h : Nat) (o : Nat) : (s.dropUpper h o).adc = s.adc := rfl
@[simp] theorem State.dropUpper_rings (h : Nat) (o : Nat) : (s.dropUpper h o).rings = s.rings := rfl
@[simp] theorem State.dropUpper_modu (h : Nat) (o : Nat) : (s.dropUpper h o).modu = s.modu := rfl
@[simp] theorem State.dropUpper_loop (h : Nat) (o : Nat) : (s.dropUpper h o).loop = s.loop := rfl
@[simp] theorem State.dropUpper_grd (h : Nat) (o : Nat) : (s.dropUpper h o).grd = s.grd := rfl
@[simp] theorem State.dropUpper_bpt (h : Nat) (o : Nat) : (s.dropUpper h o).bpt = s.bpt := rfl
@[simp] theorem State.dropUpper_rti (h : Nat) (o : Nat) : (s.dropUpper h o).rti = s.rti := rfl
@[simp] theorem State.dropUpper_gaf (h : Nat) (o : Nat) : (s.dropUpper h o).gaf = s.gaf := rfl
@[simp] theorem State.dropUpper_saf (h : Nat) (o : Nat) : (s.dropUpper h o).saf = s.saf := rfl
@[simp] theorem State.dropUpper_net (h : Nat) (o : Nat) : (s.dropUpper h o).net = s.net := rfl
@[simp] theorem State.dropUpper_reco (h : Nat) (o : Nat) : (s.dropUpper h o).reco = s.reco := rfl
@[simp] theorem State.dropUpper_mem (h : Nat) (o : Nat) : (s.dropUpper h o).mem = s.mem := rfl
@[simp] theorem State.dropUpper_rail (h : Nat) (o : Nat) : (s.dropUpper h o).rail = s.rail := rfl
@[simp] theorem State.dropUpper_clk (h : Nat) (o : Nat) : (s.dropUpper h o).clk = s.clk := rfl
@[simp] theorem State.dropUpper_sen (h : Nat) (o : Nat) : (s.dropUpper h o).sen = s.sen := rfl
@[simp] theorem State.dropUpper_ev (h : Nat) (o : Nat) : (s.dropUpper h o).ev = s.ev := rfl
@[simp] theorem State.dropUpper_pending (h : Nat) (o : Nat) : (s.dropUpper h o).pending = s.pending := rfl

@[simp] theorem State.send_free (o : Out) : (s.send o).free = s.free := rfl
@[simp] theorem State.send_part (o : Out) : (s.send o).part = s.part := rfl
@[simp] theorem State.send_regs (o : Out) : (s.send o).regs = s.regs := rfl
@[simp] theorem State.send_used (o : Out) : (s.send o).used = s.used := rfl
@[simp] theorem State.send_rideWait (o : Out) : (s.send o).rideWait = s.rideWait := rfl
@[simp] theorem State.send_pwr (o : Out) : (s.send o).pwr = s.pwr := rfl
@[simp] theorem State.send_lcy (o : Out) : (s.send o).lcy = s.lcy := rfl
@[simp] theorem State.send_clock (o : Out) : (s.send o).clock = s.clock := rfl
@[simp] theorem State.send_hosts (o : Out) : (s.send o).hosts = s.hosts := rfl
@[simp] theorem State.send_modes (o : Out) : (s.send o).modes = s.modes := rfl
@[simp] theorem State.send_ang (o : Out) : (s.send o).ang = s.ang := rfl
@[simp] theorem State.send_adc (o : Out) : (s.send o).adc = s.adc := rfl
@[simp] theorem State.send_rings (o : Out) : (s.send o).rings = s.rings := rfl
@[simp] theorem State.send_modu (o : Out) : (s.send o).modu = s.modu := rfl
@[simp] theorem State.send_loop (o : Out) : (s.send o).loop = s.loop := rfl
@[simp] theorem State.send_grd (o : Out) : (s.send o).grd = s.grd := rfl
@[simp] theorem State.send_bpt (o : Out) : (s.send o).bpt = s.bpt := rfl
@[simp] theorem State.send_rti (o : Out) : (s.send o).rti = s.rti := rfl
@[simp] theorem State.send_gaf (o : Out) : (s.send o).gaf = s.gaf := rfl
@[simp] theorem State.send_saf (o : Out) : (s.send o).saf = s.saf := rfl
@[simp] theorem State.send_net (o : Out) : (s.send o).net = s.net := rfl
@[simp] theorem State.send_reco (o : Out) : (s.send o).reco = s.reco := rfl
@[simp] theorem State.send_mem (o : Out) : (s.send o).mem = s.mem := rfl
@[simp] theorem State.send_rail (o : Out) : (s.send o).rail = s.rail := rfl
@[simp] theorem State.send_clk (o : Out) : (s.send o).clk = s.clk := rfl
@[simp] theorem State.send_sen (o : Out) : (s.send o).sen = s.sen := rfl
@[simp] theorem State.send_pending (o : Out) : (s.send o).pending = s.pending := rfl

@[simp] theorem State.sendAll_free (os : List Out) : (s.sendAll os).free = s.free := rfl
@[simp] theorem State.sendAll_part (os : List Out) : (s.sendAll os).part = s.part := rfl
@[simp] theorem State.sendAll_regs (os : List Out) : (s.sendAll os).regs = s.regs := rfl
@[simp] theorem State.sendAll_used (os : List Out) : (s.sendAll os).used = s.used := rfl
@[simp] theorem State.sendAll_rideWait (os : List Out) : (s.sendAll os).rideWait = s.rideWait := rfl
@[simp] theorem State.sendAll_pwr (os : List Out) : (s.sendAll os).pwr = s.pwr := rfl
@[simp] theorem State.sendAll_lcy (os : List Out) : (s.sendAll os).lcy = s.lcy := rfl
@[simp] theorem State.sendAll_clock (os : List Out) : (s.sendAll os).clock = s.clock := rfl
@[simp] theorem State.sendAll_hosts (os : List Out) : (s.sendAll os).hosts = s.hosts := rfl
@[simp] theorem State.sendAll_modes (os : List Out) : (s.sendAll os).modes = s.modes := rfl
@[simp] theorem State.sendAll_ang (os : List Out) : (s.sendAll os).ang = s.ang := rfl
@[simp] theorem State.sendAll_adc (os : List Out) : (s.sendAll os).adc = s.adc := rfl
@[simp] theorem State.sendAll_rings (os : List Out) : (s.sendAll os).rings = s.rings := rfl
@[simp] theorem State.sendAll_modu (os : List Out) : (s.sendAll os).modu = s.modu := rfl
@[simp] theorem State.sendAll_loop (os : List Out) : (s.sendAll os).loop = s.loop := rfl
@[simp] theorem State.sendAll_grd (os : List Out) : (s.sendAll os).grd = s.grd := rfl
@[simp] theorem State.sendAll_bpt (os : List Out) : (s.sendAll os).bpt = s.bpt := rfl
@[simp] theorem State.sendAll_rti (os : List Out) : (s.sendAll os).rti = s.rti := rfl
@[simp] theorem State.sendAll_gaf (os : List Out) : (s.sendAll os).gaf = s.gaf := rfl
@[simp] theorem State.sendAll_saf (os : List Out) : (s.sendAll os).saf = s.saf := rfl
@[simp] theorem State.sendAll_net (os : List Out) : (s.sendAll os).net = s.net := rfl
@[simp] theorem State.sendAll_reco (os : List Out) : (s.sendAll os).reco = s.reco := rfl
@[simp] theorem State.sendAll_mem (os : List Out) : (s.sendAll os).mem = s.mem := rfl
@[simp] theorem State.sendAll_rail (os : List Out) : (s.sendAll os).rail = s.rail := rfl
@[simp] theorem State.sendAll_clk (os : List Out) : (s.sendAll os).clk = s.clk := rfl
@[simp] theorem State.sendAll_sen (os : List Out) : (s.sendAll os).sen = s.sen := rfl
@[simp] theorem State.sendAll_pending (os : List Out) : (s.sendAll os).pending = s.pending := rfl

@[simp] theorem State.took_free (n : Nat) : (s.took n).free = s.free + n := rfl
@[simp] theorem State.took_part (n : Nat) : (s.took n).part = s.part := rfl
@[simp] theorem State.took_regs (n : Nat) : (s.took n).regs = s.regs := rfl
@[simp] theorem State.took_used (n : Nat) : (s.took n).used = s.used := rfl
@[simp] theorem State.took_rideWait (n : Nat) : (s.took n).rideWait = s.rideWait := rfl
@[simp] theorem State.took_pwr (n : Nat) : (s.took n).pwr = s.pwr := rfl
@[simp] theorem State.took_lcy (n : Nat) : (s.took n).lcy = s.lcy := rfl
@[simp] theorem State.took_clock (n : Nat) : (s.took n).clock = s.clock := rfl
@[simp] theorem State.took_hosts (n : Nat) : (s.took n).hosts = s.hosts := rfl
@[simp] theorem State.took_modes (n : Nat) : (s.took n).modes = s.modes := rfl
@[simp] theorem State.took_ang (n : Nat) : (s.took n).ang = s.ang := rfl
@[simp] theorem State.took_adc (n : Nat) : (s.took n).adc = s.adc := rfl
@[simp] theorem State.took_rings (n : Nat) : (s.took n).rings = s.rings := rfl
@[simp] theorem State.took_modu (n : Nat) : (s.took n).modu = s.modu := rfl
@[simp] theorem State.took_loop (n : Nat) : (s.took n).loop = s.loop := rfl
@[simp] theorem State.took_grd (n : Nat) : (s.took n).grd = s.grd := rfl
@[simp] theorem State.took_bpt (n : Nat) : (s.took n).bpt = s.bpt := rfl
@[simp] theorem State.took_rti (n : Nat) : (s.took n).rti = s.rti := rfl
@[simp] theorem State.took_gaf (n : Nat) : (s.took n).gaf = s.gaf := rfl
@[simp] theorem State.took_saf (n : Nat) : (s.took n).saf = s.saf := rfl
@[simp] theorem State.took_net (n : Nat) : (s.took n).net = s.net := rfl
@[simp] theorem State.took_reco (n : Nat) : (s.took n).reco = s.reco := rfl
@[simp] theorem State.took_mem (n : Nat) : (s.took n).mem = s.mem := rfl
@[simp] theorem State.took_rail (n : Nat) : (s.took n).rail = s.rail := rfl
@[simp] theorem State.took_clk (n : Nat) : (s.took n).clk = s.clk := rfl
@[simp] theorem State.took_sen (n : Nat) : (s.took n).sen = s.sen := rfl
@[simp] theorem State.took_ev (n : Nat) : (s.took n).ev = s.ev := rfl
@[simp] theorem State.took_pending (n : Nat) : (s.took n).pending = s.pending := rfl

@[simp] theorem State.advance_free (t : Nat) : (s.advance t).free = s.free := rfl
@[simp] theorem State.advance_part (t : Nat) : (s.advance t).part = s.part := rfl
@[simp] theorem State.advance_regs (t : Nat) : (s.advance t).regs = s.regs := rfl
@[simp] theorem State.advance_used (t : Nat) : (s.advance t).used = s.used := rfl
@[simp] theorem State.advance_rideWait (t : Nat) : (s.advance t).rideWait = s.rideWait := rfl
@[simp] theorem State.advance_pwr (t : Nat) : (s.advance t).pwr = s.pwr := rfl
@[simp] theorem State.advance_lcy (t : Nat) : (s.advance t).lcy = s.lcy := rfl
@[simp] theorem State.advance_hosts (t : Nat) : (s.advance t).hosts = s.hosts := rfl
@[simp] theorem State.advance_modes (t : Nat) : (s.advance t).modes = s.modes := rfl
@[simp] theorem State.advance_ang (t : Nat) : (s.advance t).ang = s.ang := rfl
@[simp] theorem State.advance_adc (t : Nat) : (s.advance t).adc = s.adc := rfl
@[simp] theorem State.advance_rings (t : Nat) : (s.advance t).rings = s.rings := rfl
@[simp] theorem State.advance_modu (t : Nat) : (s.advance t).modu = s.modu := rfl
@[simp] theorem State.advance_loop (t : Nat) : (s.advance t).loop = s.loop := rfl
@[simp] theorem State.advance_grd (t : Nat) : (s.advance t).grd = s.grd := rfl
@[simp] theorem State.advance_bpt (t : Nat) : (s.advance t).bpt = s.bpt := rfl
@[simp] theorem State.advance_rti (t : Nat) : (s.advance t).rti = s.rti := rfl
@[simp] theorem State.advance_gaf (t : Nat) : (s.advance t).gaf = s.gaf := rfl
@[simp] theorem State.advance_saf (t : Nat) : (s.advance t).saf = s.saf := rfl
@[simp] theorem State.advance_net (t : Nat) : (s.advance t).net = s.net := rfl
@[simp] theorem State.advance_reco (t : Nat) : (s.advance t).reco = s.reco := rfl
@[simp] theorem State.advance_mem (t : Nat) : (s.advance t).mem = s.mem := rfl
@[simp] theorem State.advance_rail (t : Nat) : (s.advance t).rail = s.rail := rfl
@[simp] theorem State.advance_clk (t : Nat) : (s.advance t).clk = s.clk := rfl
@[simp] theorem State.advance_ev (t : Nat) : (s.advance t).ev = s.ev := rfl
@[simp] theorem State.advance_pending (t : Nat) : (s.advance t).pending = s.pending := rfl

@[simp] theorem State.raise_free (e : Event) : (s.raise e).free = s.free := rfl
@[simp] theorem State.raise_part (e : Event) : (s.raise e).part = s.part := rfl
@[simp] theorem State.raise_regs (e : Event) : (s.raise e).regs = s.regs := rfl
@[simp] theorem State.raise_used (e : Event) : (s.raise e).used = s.used := rfl
@[simp] theorem State.raise_rideWait (e : Event) : (s.raise e).rideWait = s.rideWait := rfl
@[simp] theorem State.raise_pwr (e : Event) : (s.raise e).pwr = s.pwr := rfl
@[simp] theorem State.raise_lcy (e : Event) : (s.raise e).lcy = s.lcy := rfl
@[simp] theorem State.raise_clock (e : Event) : (s.raise e).clock = s.clock := rfl
@[simp] theorem State.raise_hosts (e : Event) : (s.raise e).hosts = s.hosts := rfl
@[simp] theorem State.raise_modes (e : Event) : (s.raise e).modes = s.modes := rfl
@[simp] theorem State.raise_ang (e : Event) : (s.raise e).ang = s.ang := rfl
@[simp] theorem State.raise_adc (e : Event) : (s.raise e).adc = s.adc := rfl
@[simp] theorem State.raise_rings (e : Event) : (s.raise e).rings = s.rings := rfl
@[simp] theorem State.raise_modu (e : Event) : (s.raise e).modu = s.modu := rfl
@[simp] theorem State.raise_loop (e : Event) : (s.raise e).loop = s.loop := rfl
@[simp] theorem State.raise_grd (e : Event) : (s.raise e).grd = s.grd := rfl
@[simp] theorem State.raise_bpt (e : Event) : (s.raise e).bpt = s.bpt := rfl
@[simp] theorem State.raise_rti (e : Event) : (s.raise e).rti = s.rti := rfl
@[simp] theorem State.raise_gaf (e : Event) : (s.raise e).gaf = s.gaf := rfl
@[simp] theorem State.raise_saf (e : Event) : (s.raise e).saf = s.saf := rfl
@[simp] theorem State.raise_net (e : Event) : (s.raise e).net = s.net := rfl
@[simp] theorem State.raise_mem (e : Event) : (s.raise e).mem = s.mem := rfl
@[simp] theorem State.raise_rail (e : Event) : (s.raise e).rail = s.rail := rfl
@[simp] theorem State.raise_clk (e : Event) : (s.raise e).clk = s.clk := rfl
@[simp] theorem State.raise_sen (e : Event) : (s.raise e).sen = s.sen := rfl
@[simp] theorem State.raise_pending (e : Event) : (s.raise e).pending = s.pending := rfl

@[simp] theorem State.event_free (page : Nat) (num : Nat) (subject : Nat) (detail : List Nat) (st : Status) : (s.event page num subject detail st).free = s.free := rfl
@[simp] theorem State.event_part (page : Nat) (num : Nat) (subject : Nat) (detail : List Nat) (st : Status) : (s.event page num subject detail st).part = s.part := rfl
@[simp] theorem State.event_regs (page : Nat) (num : Nat) (subject : Nat) (detail : List Nat) (st : Status) : (s.event page num subject detail st).regs = s.regs := rfl
@[simp] theorem State.event_used (page : Nat) (num : Nat) (subject : Nat) (detail : List Nat) (st : Status) : (s.event page num subject detail st).used = s.used := rfl
@[simp] theorem State.event_rideWait (page : Nat) (num : Nat) (subject : Nat) (detail : List Nat) (st : Status) : (s.event page num subject detail st).rideWait = s.rideWait := rfl
@[simp] theorem State.event_pwr (page : Nat) (num : Nat) (subject : Nat) (detail : List Nat) (st : Status) : (s.event page num subject detail st).pwr = s.pwr := rfl
@[simp] theorem State.event_lcy (page : Nat) (num : Nat) (subject : Nat) (detail : List Nat) (st : Status) : (s.event page num subject detail st).lcy = s.lcy := rfl
@[simp] theorem State.event_clock (page : Nat) (num : Nat) (subject : Nat) (detail : List Nat) (st : Status) : (s.event page num subject detail st).clock = s.clock := rfl
@[simp] theorem State.event_hosts (page : Nat) (num : Nat) (subject : Nat) (detail : List Nat) (st : Status) : (s.event page num subject detail st).hosts = s.hosts := rfl
@[simp] theorem State.event_modes (page : Nat) (num : Nat) (subject : Nat) (detail : List Nat) (st : Status) : (s.event page num subject detail st).modes = s.modes := rfl
@[simp] theorem State.event_ang (page : Nat) (num : Nat) (subject : Nat) (detail : List Nat) (st : Status) : (s.event page num subject detail st).ang = s.ang := rfl
@[simp] theorem State.event_adc (page : Nat) (num : Nat) (subject : Nat) (detail : List Nat) (st : Status) : (s.event page num subject detail st).adc = s.adc := rfl
@[simp] theorem State.event_rings (page : Nat) (num : Nat) (subject : Nat) (detail : List Nat) (st : Status) : (s.event page num subject detail st).rings = s.rings := rfl
@[simp] theorem State.event_modu (page : Nat) (num : Nat) (subject : Nat) (detail : List Nat) (st : Status) : (s.event page num subject detail st).modu = s.modu := rfl
@[simp] theorem State.event_loop (page : Nat) (num : Nat) (subject : Nat) (detail : List Nat) (st : Status) : (s.event page num subject detail st).loop = s.loop := rfl
@[simp] theorem State.event_grd (page : Nat) (num : Nat) (subject : Nat) (detail : List Nat) (st : Status) : (s.event page num subject detail st).grd = s.grd := rfl
@[simp] theorem State.event_bpt (page : Nat) (num : Nat) (subject : Nat) (detail : List Nat) (st : Status) : (s.event page num subject detail st).bpt = s.bpt := rfl
@[simp] theorem State.event_rti (page : Nat) (num : Nat) (subject : Nat) (detail : List Nat) (st : Status) : (s.event page num subject detail st).rti = s.rti := rfl
@[simp] theorem State.event_gaf (page : Nat) (num : Nat) (subject : Nat) (detail : List Nat) (st : Status) : (s.event page num subject detail st).gaf = s.gaf := rfl
@[simp] theorem State.event_saf (page : Nat) (num : Nat) (subject : Nat) (detail : List Nat) (st : Status) : (s.event page num subject detail st).saf = s.saf := rfl
@[simp] theorem State.event_net (page : Nat) (num : Nat) (subject : Nat) (detail : List Nat) (st : Status) : (s.event page num subject detail st).net = s.net := rfl
@[simp] theorem State.event_mem (page : Nat) (num : Nat) (subject : Nat) (detail : List Nat) (st : Status) : (s.event page num subject detail st).mem = s.mem := rfl
@[simp] theorem State.event_rail (page : Nat) (num : Nat) (subject : Nat) (detail : List Nat) (st : Status) : (s.event page num subject detail st).rail = s.rail := rfl
@[simp] theorem State.event_clk (page : Nat) (num : Nat) (subject : Nat) (detail : List Nat) (st : Status) : (s.event page num subject detail st).clk = s.clk := rfl
@[simp] theorem State.event_sen (page : Nat) (num : Nat) (subject : Nat) (detail : List Nat) (st : Status) : (s.event page num subject detail st).sen = s.sen := rfl
@[simp] theorem State.event_pending (page : Nat) (num : Nat) (subject : Nat) (detail : List Nat) (st : Status) : (s.event page num subject detail st).pending = s.pending := rfl

@[simp] theorem State.eventTo_free (whom : Nat) (page : Nat) (num : Nat) (subject : Nat) (detail : List Nat) : (s.eventTo whom page num subject detail).free = s.free := rfl
@[simp] theorem State.eventTo_part (whom : Nat) (page : Nat) (num : Nat) (subject : Nat) (detail : List Nat) : (s.eventTo whom page num subject detail).part = s.part := rfl
@[simp] theorem State.eventTo_regs (whom : Nat) (page : Nat) (num : Nat) (subject : Nat) (detail : List Nat) : (s.eventTo whom page num subject detail).regs = s.regs := rfl
@[simp] theorem State.eventTo_used (whom : Nat) (page : Nat) (num : Nat) (subject : Nat) (detail : List Nat) : (s.eventTo whom page num subject detail).used = s.used := rfl
@[simp] theorem State.eventTo_rideWait (whom : Nat) (page : Nat) (num : Nat) (subject : Nat) (detail : List Nat) : (s.eventTo whom page num subject detail).rideWait = s.rideWait := rfl
@[simp] theorem State.eventTo_pwr (whom : Nat) (page : Nat) (num : Nat) (subject : Nat) (detail : List Nat) : (s.eventTo whom page num subject detail).pwr = s.pwr := rfl
@[simp] theorem State.eventTo_lcy (whom : Nat) (page : Nat) (num : Nat) (subject : Nat) (detail : List Nat) : (s.eventTo whom page num subject detail).lcy = s.lcy := rfl
@[simp] theorem State.eventTo_clock (whom : Nat) (page : Nat) (num : Nat) (subject : Nat) (detail : List Nat) : (s.eventTo whom page num subject detail).clock = s.clock := rfl
@[simp] theorem State.eventTo_hosts (whom : Nat) (page : Nat) (num : Nat) (subject : Nat) (detail : List Nat) : (s.eventTo whom page num subject detail).hosts = s.hosts := rfl
@[simp] theorem State.eventTo_modes (whom : Nat) (page : Nat) (num : Nat) (subject : Nat) (detail : List Nat) : (s.eventTo whom page num subject detail).modes = s.modes := rfl
@[simp] theorem State.eventTo_ang (whom : Nat) (page : Nat) (num : Nat) (subject : Nat) (detail : List Nat) : (s.eventTo whom page num subject detail).ang = s.ang := rfl
@[simp] theorem State.eventTo_adc (whom : Nat) (page : Nat) (num : Nat) (subject : Nat) (detail : List Nat) : (s.eventTo whom page num subject detail).adc = s.adc := rfl
@[simp] theorem State.eventTo_rings (whom : Nat) (page : Nat) (num : Nat) (subject : Nat) (detail : List Nat) : (s.eventTo whom page num subject detail).rings = s.rings := rfl
@[simp] theorem State.eventTo_modu (whom : Nat) (page : Nat) (num : Nat) (subject : Nat) (detail : List Nat) : (s.eventTo whom page num subject detail).modu = s.modu := rfl
@[simp] theorem State.eventTo_loop (whom : Nat) (page : Nat) (num : Nat) (subject : Nat) (detail : List Nat) : (s.eventTo whom page num subject detail).loop = s.loop := rfl
@[simp] theorem State.eventTo_grd (whom : Nat) (page : Nat) (num : Nat) (subject : Nat) (detail : List Nat) : (s.eventTo whom page num subject detail).grd = s.grd := rfl
@[simp] theorem State.eventTo_bpt (whom : Nat) (page : Nat) (num : Nat) (subject : Nat) (detail : List Nat) : (s.eventTo whom page num subject detail).bpt = s.bpt := rfl
@[simp] theorem State.eventTo_rti (whom : Nat) (page : Nat) (num : Nat) (subject : Nat) (detail : List Nat) : (s.eventTo whom page num subject detail).rti = s.rti := rfl
@[simp] theorem State.eventTo_gaf (whom : Nat) (page : Nat) (num : Nat) (subject : Nat) (detail : List Nat) : (s.eventTo whom page num subject detail).gaf = s.gaf := rfl
@[simp] theorem State.eventTo_saf (whom : Nat) (page : Nat) (num : Nat) (subject : Nat) (detail : List Nat) : (s.eventTo whom page num subject detail).saf = s.saf := rfl
@[simp] theorem State.eventTo_net (whom : Nat) (page : Nat) (num : Nat) (subject : Nat) (detail : List Nat) : (s.eventTo whom page num subject detail).net = s.net := rfl
@[simp] theorem State.eventTo_mem (whom : Nat) (page : Nat) (num : Nat) (subject : Nat) (detail : List Nat) : (s.eventTo whom page num subject detail).mem = s.mem := rfl
@[simp] theorem State.eventTo_rail (whom : Nat) (page : Nat) (num : Nat) (subject : Nat) (detail : List Nat) : (s.eventTo whom page num subject detail).rail = s.rail := rfl
@[simp] theorem State.eventTo_clk (whom : Nat) (page : Nat) (num : Nat) (subject : Nat) (detail : List Nat) : (s.eventTo whom page num subject detail).clk = s.clk := rfl
@[simp] theorem State.eventTo_sen (whom : Nat) (page : Nat) (num : Nat) (subject : Nat) (detail : List Nat) : (s.eventTo whom page num subject detail).sen = s.sen := rfl
@[simp] theorem State.eventTo_pending (whom : Nat) (page : Nat) (num : Nat) (subject : Nat) (detail : List Nat) : (s.eventTo whom page num subject detail).pending = s.pending := rfl

@[simp] theorem State.eventIf_free (c : Bool) (page num subject : Nat) (detail : List Nat) :
    (s.eventIf c page num subject detail).free = s.free := by unfold State.eventIf; split <;> rfl
@[simp] theorem State.eventIf_part (c : Bool) (page num subject : Nat) (detail : List Nat) :
    (s.eventIf c page num subject detail).part = s.part := by unfold State.eventIf; split <;> rfl
@[simp] theorem State.eventIf_regs (c : Bool) (page num subject : Nat) (detail : List Nat) :
    (s.eventIf c page num subject detail).regs = s.regs := by unfold State.eventIf; split <;> rfl
@[simp] theorem State.eventIf_used (c : Bool) (page num subject : Nat) (detail : List Nat) :
    (s.eventIf c page num subject detail).used = s.used := by unfold State.eventIf; split <;> rfl
@[simp] theorem State.eventIf_rideWait (c : Bool) (page num subject : Nat) (detail : List Nat) :
    (s.eventIf c page num subject detail).rideWait = s.rideWait := by unfold State.eventIf; split <;> rfl
@[simp] theorem State.eventIf_pwr (c : Bool) (page num subject : Nat) (detail : List Nat) :
    (s.eventIf c page num subject detail).pwr = s.pwr := by unfold State.eventIf; split <;> rfl
@[simp] theorem State.eventIf_lcy (c : Bool) (page num subject : Nat) (detail : List Nat) :
    (s.eventIf c page num subject detail).lcy = s.lcy := by unfold State.eventIf; split <;> rfl
@[simp] theorem State.eventIf_clock (c : Bool) (page num subject : Nat) (detail : List Nat) :
    (s.eventIf c page num subject detail).clock = s.clock := by unfold State.eventIf; split <;> rfl
@[simp] theorem State.eventIf_hosts (c : Bool) (page num subject : Nat) (detail : List Nat) :
    (s.eventIf c page num subject detail).hosts = s.hosts := by unfold State.eventIf; split <;> rfl
@[simp] theorem State.eventIf_modes (c : Bool) (page num subject : Nat) (detail : List Nat) :
    (s.eventIf c page num subject detail).modes = s.modes := by unfold State.eventIf; split <;> rfl
@[simp] theorem State.eventIf_ang (c : Bool) (page num subject : Nat) (detail : List Nat) :
    (s.eventIf c page num subject detail).ang = s.ang := by unfold State.eventIf; split <;> rfl
@[simp] theorem State.eventIf_adc (c : Bool) (page num subject : Nat) (detail : List Nat) :
    (s.eventIf c page num subject detail).adc = s.adc := by unfold State.eventIf; split <;> rfl
@[simp] theorem State.eventIf_rings (c : Bool) (page num subject : Nat) (detail : List Nat) :
    (s.eventIf c page num subject detail).rings = s.rings := by unfold State.eventIf; split <;> rfl
@[simp] theorem State.eventIf_modu (c : Bool) (page num subject : Nat) (detail : List Nat) :
    (s.eventIf c page num subject detail).modu = s.modu := by unfold State.eventIf; split <;> rfl
@[simp] theorem State.eventIf_loop (c : Bool) (page num subject : Nat) (detail : List Nat) :
    (s.eventIf c page num subject detail).loop = s.loop := by unfold State.eventIf; split <;> rfl
@[simp] theorem State.eventIf_grd (c : Bool) (page num subject : Nat) (detail : List Nat) :
    (s.eventIf c page num subject detail).grd = s.grd := by unfold State.eventIf; split <;> rfl
@[simp] theorem State.eventIf_bpt (c : Bool) (page num subject : Nat) (detail : List Nat) :
    (s.eventIf c page num subject detail).bpt = s.bpt := by unfold State.eventIf; split <;> rfl
@[simp] theorem State.eventIf_rti (c : Bool) (page num subject : Nat) (detail : List Nat) :
    (s.eventIf c page num subject detail).rti = s.rti := by unfold State.eventIf; split <;> rfl
@[simp] theorem State.eventIf_gaf (c : Bool) (page num subject : Nat) (detail : List Nat) :
    (s.eventIf c page num subject detail).gaf = s.gaf := by unfold State.eventIf; split <;> rfl
@[simp] theorem State.eventIf_saf (c : Bool) (page num subject : Nat) (detail : List Nat) :
    (s.eventIf c page num subject detail).saf = s.saf := by unfold State.eventIf; split <;> rfl
@[simp] theorem State.eventIf_net (c : Bool) (page num subject : Nat) (detail : List Nat) :
    (s.eventIf c page num subject detail).net = s.net := by unfold State.eventIf; split <;> rfl
@[simp] theorem State.eventIf_mem (c : Bool) (page num subject : Nat) (detail : List Nat) :
    (s.eventIf c page num subject detail).mem = s.mem := by unfold State.eventIf; split <;> rfl
@[simp] theorem State.eventIf_rail (c : Bool) (page num subject : Nat) (detail : List Nat) :
    (s.eventIf c page num subject detail).rail = s.rail := by unfold State.eventIf; split <;> rfl
@[simp] theorem State.eventIf_clk (c : Bool) (page num subject : Nat) (detail : List Nat) :
    (s.eventIf c page num subject detail).clk = s.clk := by unfold State.eventIf; split <;> rfl
@[simp] theorem State.eventIf_sen (c : Bool) (page num subject : Nat) (detail : List Nat) :
    (s.eventIf c page num subject detail).sen = s.sen := by unfold State.eventIf; split <;> rfl
@[simp] theorem State.eventIf_pending (c : Bool) (page num subject : Nat) (detail : List Nat) :
    (s.eventIf c page num subject detail).pending = s.pending := by unfold State.eventIf; split <;> rfl

@[simp] theorem State.mended_free (o : Nat) : (s.mended o).free = s.free := by
  unfold State.mended; split <;> [rfl; (split <;> rfl)]
@[simp] theorem State.mended_part (o : Nat) : (s.mended o).part = s.part := by
  unfold State.mended; split <;> [rfl; (split <;> rfl)]
@[simp] theorem State.mended_regs (o : Nat) : (s.mended o).regs = s.regs := by
  unfold State.mended; split <;> [rfl; (split <;> rfl)]
@[simp] theorem State.mended_used (o : Nat) : (s.mended o).used = s.used := by
  unfold State.mended; split <;> [rfl; (split <;> rfl)]
@[simp] theorem State.mended_rideWait (o : Nat) : (s.mended o).rideWait = s.rideWait := by
  unfold State.mended; split <;> [rfl; (split <;> rfl)]
@[simp] theorem State.mended_pwr (o : Nat) : (s.mended o).pwr = s.pwr := by
  unfold State.mended; split <;> [rfl; (split <;> rfl)]
@[simp] theorem State.mended_lcy (o : Nat) : (s.mended o).lcy = s.lcy := by
  unfold State.mended; split <;> [rfl; (split <;> rfl)]
@[simp] theorem State.mended_clock (o : Nat) : (s.mended o).clock = s.clock := by
  unfold State.mended; split <;> [rfl; (split <;> rfl)]
@[simp] theorem State.mended_hosts (o : Nat) : (s.mended o).hosts = s.hosts := by
  unfold State.mended; split <;> [rfl; (split <;> rfl)]
@[simp] theorem State.mended_modes (o : Nat) : (s.mended o).modes = s.modes := by
  unfold State.mended; split <;> [rfl; (split <;> rfl)]
@[simp] theorem State.mended_ang (o : Nat) : (s.mended o).ang = s.ang := by
  unfold State.mended; split <;> [rfl; (split <;> rfl)]
@[simp] theorem State.mended_adc (o : Nat) : (s.mended o).adc = s.adc := by
  unfold State.mended; split <;> [rfl; (split <;> rfl)]
@[simp] theorem State.mended_rings (o : Nat) : (s.mended o).rings = s.rings := by
  unfold State.mended; split <;> [rfl; (split <;> rfl)]
@[simp] theorem State.mended_modu (o : Nat) : (s.mended o).modu = s.modu := by
  unfold State.mended; split <;> [rfl; (split <;> rfl)]
@[simp] theorem State.mended_loop (o : Nat) : (s.mended o).loop = s.loop := by
  unfold State.mended; split <;> [rfl; (split <;> rfl)]
@[simp] theorem State.mended_grd (o : Nat) : (s.mended o).grd = s.grd := by
  unfold State.mended; split <;> [rfl; (split <;> rfl)]
@[simp] theorem State.mended_bpt (o : Nat) : (s.mended o).bpt = s.bpt := by
  unfold State.mended; split <;> [rfl; (split <;> rfl)]
@[simp] theorem State.mended_rti (o : Nat) : (s.mended o).rti = s.rti := by
  unfold State.mended; split <;> [rfl; (split <;> rfl)]
@[simp] theorem State.mended_gaf (o : Nat) : (s.mended o).gaf = s.gaf := by
  unfold State.mended; split <;> [rfl; (split <;> rfl)]
@[simp] theorem State.mended_saf (o : Nat) : (s.mended o).saf = s.saf := by
  unfold State.mended; split <;> [rfl; (split <;> rfl)]
@[simp] theorem State.mended_net (o : Nat) : (s.mended o).net = s.net := by
  unfold State.mended; split <;> [rfl; (split <;> rfl)]
@[simp] theorem State.mended_reco (o : Nat) : (s.mended o).reco = s.reco := by
  unfold State.mended; split <;> [rfl; (split <;> rfl)]
@[simp] theorem State.mended_rail (o : Nat) : (s.mended o).rail = s.rail := by
  unfold State.mended; split <;> [rfl; (split <;> rfl)]
@[simp] theorem State.mended_clk (o : Nat) : (s.mended o).clk = s.clk := by
  unfold State.mended; split <;> [rfl; (split <;> rfl)]
@[simp] theorem State.mended_sen (o : Nat) : (s.mended o).sen = s.sen := by
  unfold State.mended; split <;> [rfl; (split <;> rfl)]
@[simp] theorem State.mended_ev (o : Nat) : (s.mended o).ev = s.ev := by
  unfold State.mended; split <;> [rfl; (split <;> rfl)]
@[simp] theorem State.mended_pending (o : Nat) : (s.mended o).pending = s.pending := by
  unfold State.mended; split <;> [rfl; (split <;> rfl)]

end Sys2Proof.Machine
end

