-- ==== Sys2Proof/Laws/Host.lean ====
section
/-! SUPPORT. Host writes, once: which checks an accepted write has passed, and the state it leaves. -/

namespace Sys2Proof.Machine

/-! ## The order of checks -/

/-- No refusal applies exactly where none of the listed conditions holds. -/
theorem firstOf_ok {l : List (Bool × Status)} (h : ∀ p ∈ l, p.1 = false) : firstOf l = .ok := by
  induction l with
  | nil => rfl
  | cons p l ih =>
    obtain ⟨c, st⟩ := p
    have h1 : c = false := h (c, st) (by simp)
    have h2 := ih fun q hq => h q (by simp [hq])
    simp [firstOf, h1, h2]

theorem firstOf_append {l m : List (Bool × Status)} (h1 : ∀ p ∈ l, p.1 = false) (h2 : ∀ p ∈ m, p.1 = false) :
    firstOf (l ++ m) = .ok := by
  refine firstOf_ok fun p hp => ?_
  rcases List.mem_append.mp hp with h | h
  · exact h1 p h
  · exact h2 p h

/-- A host the block admits passes every common check. -/
theorem common_clear {s : State} {h page modes : Nat} (ha : s.admits h page modes = true) :
    ∀ p ∈ s.common h page modes true, p.1 = false := by
  simp only [State.admits, Bool.and_eq_true, decide_eq_true_eq, Bool.not_eq_true'] at ha
  obtain ⟨⟨⟨⟨⟨_, _⟩, ho⟩, hm⟩, hu⟩, hw⟩ := ha
  simp [State.common, State.unclaimed, ho, hm, hu, hw]

theorem judged_ok {s : State} {l : List (Bool × Status)} {act : State → State} (h : firstOf l = .ok) :
    s.judged l act = (act s, .ok) := by
  simp [State.judged, h]

/-! ## What a write disarms and mends -/

@[simp] theorem disarm_owns (s : State) (h p h' q : Nat) : (s.disarm h p).owns h' q = s.owns h' q := rfl
@[simp] theorem disarm_holderOf (s : State) (h p q : Nat) : (s.disarm h p).holderOf q = s.holderOf q := rfl
@[simp] theorem disarm_pendingOf (s : State) (h p h' o : Nat) : (s.disarm h p).pendingOf h' o = s.pendingOf h' o := rfl
@[simp] theorem disarm_admits (s : State) (h p h' q m : Nat) : (s.disarm h p).admits h' q m = s.admits h' q m := rfl
@[simp] theorem emptied_owns (s : State) (h p h' q : Nat) : (s.emptied h p).owns h' q = s.owns h' q := rfl
@[simp] theorem emptied_admits (s : State) (h p h' q m : Nat) : (s.emptied h p).admits h' q m = s.admits h' q m := rfl

/-- Mending changes only which pairs are corrupt. -/
theorem mended_eq (s : State) (o : Nat) :
    s.mended o = { s with mem := { s.mem with corrupt := (s.mended o).mem.corrupt } } := by
  unfold State.mended
  split
  · rfl
  · split <;> rfl

/-! ## A write of a listed register -/

theorem access_ok {s t : State} {h o : Nat} {body : State → Acc} (hb : body (s.disarm h (pageOf o)) = (t, .ok)) :
    s.access h o body = (t, .ok) := by
  simp [State.access, hb]

/-- A host write of a register beyond the header that no check refuses. -/
theorem hostWrite_ok {s t : State} {h o : Nat} {v : Word} (h4 : o % 4 = 0) (hlo : o < 0x1000000)
    (hl : listed (o / 0x1000) = true) (hh : 0x40 ≤ o % 0x1000)
    (hb : (s.disarm h (pageOf o)).regWrite h o v = (t, .ok)) : s.hostWrite h o v = (t.mended o, .ok) := by
  have h1 : ¬ (0x1000000 ≤ o) := by omega
  have h2 : ¬ (o % 0x1000 < 0x40) := by omega
  have h3 : s.access h o (fun s => s.regWrite h o v) = (t, .ok) := access_ok hb
  simp [State.hostWrite, h4, h1, h2, hl, h3]

theorem hostPut_ok {s t : State} {h o : Nat} {v : Word} (h4 : o % 4 = 0) (hlo : o < 0x1000000)
    (hl : listed (o / 0x1000) = true) (hh : 0x40 ≤ o % 0x1000)
    (hb : (s.disarm h (pageOf o)).regWrite h o v = (t, .ok)) : s.hostPut h o v = t.mended o := by
  have h1 : ¬ (spaceBase ≤ o) := by simp [spaceBase]; omega
  simp [State.hostPut, h1, hostWrite_ok h4 hlo hl hh hb]

/-- A write of a table word that no check refuses. -/
theorem hostPut_table {s t : State} {h o : Nat} {v : Word} (h4 : o % 4 = 0) (hlo : 0x1000000 ≤ o) (hhi : o < 0x2000000)
    (hb : s.tableWrite h o v = (t, .ok)) : s.hostPut h o v = t.mended o := by
  have h1 : ¬ (spaceBase ≤ o) := by simp [spaceBase]; omega
  simp [State.hostPut, State.hostWrite, h1, h4, hlo, hb]

@[simp] theorem disarm_fencedPage (s : State) (h p q : Nat) : (s.disarm h p).fencedPage q = s.fencedPage q := rfl

/-- The two words of an RW-C register are its value and its complement. -/
theorem regWrite_rw {s : State} {h o : Nat} {v : Word} {r : Row} (hr : rowAt o = some r) (hc : r.cls ≠ .rwc) :
    s.regWrite h o v = s.rwWrite h o v r := by
  simp [State.regWrite, hr, hc]

theorem regWrite_pair {s : State} {h o : Nat} {vn : Word} {r : Row} (hn : rowAt (o + 4) = none) (hr : rowAt o = some r)
    (hc : r.cls = .rwc) : s.regWrite h (o + 4) vn = s.rwcWrite h o vn r := by
  simp [State.regWrite, hn, hr, hc]

theorem complement_ok {s : State} {h o : Nat} {v vn : Word} {checks : Word → State → List (Bool × Status)}
    {act : Word → State → State} (hp : s.pendingOf h o = some v) (hv : vn = ~~~ v)
    (hc : firstOf (checks v (s.emptied h o)) = .ok) :
    s.rwcComplement h o vn checks act = (act v (s.emptied h o), .ok) := by
  simp [State.rwcComplement, hp, hv, judged_ok hc]

theorem complementAcc_ok {s : State} {h o : Nat} {v vn : Word} {checks : Word → State → List (Bool × Status)}
    {act : Word → State → Acc} (hp : s.pendingOf h o = some v) (hv : vn = ~~~ v)
    (hc : firstOf (checks v (s.emptied h o)) = .ok) :
    s.rwcComplementAcc h o vn checks act = act v (s.emptied h o) := by
  simp [State.rwcComplementAcc, hp, hv, hc]

/-- A completed RW-C pair that no check refuses. -/
theorem hostComplete_ok {s t : State} {h o : Nat} {v : Word} {r : Row} (h4 : o % 4 = 0) (hlo : o + 4 < 0x1000000)
    (hl : listed ((o + 4) / 0x1000) = true) (hh : 0x40 ≤ (o + 4) % 0x1000) (hn : rowAt (o + 4) = none)
    (hr : rowAt o = some r) (hc : r.cls = .rwc)
    (hb : (s.disarm h (pageOf (o + 4))).rwcWrite h o (~~~ v) r = (t, .ok)) : s.hostComplete h o v = t.mended (o + 4) := by
  have h1 := hostWrite_ok (s := s) (v := ~~~ v) (by omega) hlo hl hh
    (by rw [regWrite_pair hn hr hc]; exact hb)
  simp [State.hostComplete, h1]

/-- A write of a word of a page header that is not refused. -/
theorem header_ok {s t : State} {h page off : Nat} {v : Word} (hlive : s.live = true) (hh : h < 4) (hp : page < 0x1000)
    (hl : listed page = true) (hoff : off < 0x40) (h4 : off % 4 = 0)
    (hb : (s.disarm h page).headerWrite h page off v = (t, .ok)) :
    header s h page off v = .next ((t.mended (page * 0x1000 + off)).settle) := by
  have e1 : (page * 0x1000 + off) / 0x1000 = page := by omega
  have e2 : (page * 0x1000 + off) % 0x1000 = off := by omega
  have e3 : ¬ (spaceBase ≤ page * 0x1000 + off) := by simp [spaceBase]; omega
  have e4 : ¬ (0x1000000 ≤ page * 0x1000 + off) := by omega
  have e5 : (page * 0x1000 + off) % 4 = 0 := by omega
  have e6 : pageOf (page * 0x1000 + off) = page := by unfold pageOf; rw [if_pos (by omega), e1]
  have h3 : s.access h (page * 0x1000 + off) (fun s => s.headerWrite h page off v) = (t, .ok) :=
    access_ok (by simp only [e6]; exact hb)
  have hput : s.hostPut h (page * 0x1000 + off) v = t.mended (page * 0x1000 + off) := by
    simp only [State.hostPut, e3, if_false, State.hostWrite, e5, e4, e1, e2, hl, hoff, if_true, h3]
    simp
  simp [header, running, answer, hlive, hh, hp, hput]

theorem listed_lt {page : Nat} (h : listed page = true) : page < 0x1000 := by
  by_contra hc
  have : rowsOf page = [] := by
    unfold rowsOf
    rw [if_neg (by omega), if_neg (by omega)]
    simp only [show page ≠ 0x90 by omega, show page ≠ 0xA0 by omega, show page ≠ 0xB0 by omega, show page ≠ 0xB1 by omega,
      show page ≠ 0xB8 by omega, show page ≠ 0xC0 by omega, show page ≠ 0xC1 by omega, show ¬ (0xD0 ≤ page ∧ page < 0xD4) by omega,
      show page ≠ 0xD8 by omega, show page ≠ 0xE0 by omega, show page ≠ 0xF0 by omega, show page ≠ 0xF8 by omega, if_false, or_self]
  simp [listed, this] at h

end Sys2Proof.Machine
end

