-- ==== Sys2Proof/WellFormed.lean ====
section
/-! DEFINITION. Which terms are commands of this block: every operand lies in the range the rule of its row gives it. No
sender gives a term outside. -/

namespace Sys2Proof

/-- An offset a register write may name: an address of the window, or of ring space from 0x8000_0000 on, beyond its end too (R4, R345,
R351). -/
def offsetOk (off : Nat) : Bool := decide (off < 0x2000000) || (decide (0x80000000 ≤ off) && decide (off < 0x100000000))

/-- The operands of a command lie in their ranges. -/
def Instr.wellFormed : Instr → Bool
  | .registerWrite h _ off _ => decide (h < 4) && offsetOk off
  | .rwcValueWrite h off _ => decide (h < 4) && offsetOk off
  | .errcodeWrite h page _ => decide (h < 4) && decide (page < 0x1000)
  | .irqStatClear h page _ => decide (h < 4) && decide (page < 0x1000)
  | .claim h page _ => decide (h < 4) && decide (page < 0x1000)
  | .release h page _ => decide (h < 4) && decide (page < 0x1000)
  | .breakClaim h page _ => decide (h < 4) && decide (page < 0x1000)
  | .key h page _ => decide (h < 4) && decide (page < 0x1000)
  | .keyExpiry h page => decide (h < 4) && decide (page < 0x1000)
  | .modeRequestWatch h => decide (h < 4)
  | .modeRequestEnergize h => decide (h < 4)
  | .modeRequestFollow h => decide (h < 4)
  | .modeRequestForm h => decide (h < 4)
  | .modeRequestService h => decide (h < 4)
  | .holdRequest h _ => decide (h < 4)
  | .holdLatchClear h _ => decide (h < 4)
  | .beatStart => true
  | .scheduleEntryFire entry => decide (entry < 1024)
  | .blankWindowEnd cmp => decide (cmp < 16)
  | .scheduleEntryWrite h entry word _ => decide (h < 4) && decide (entry < 1024) && decide (word < 4)
  | .cellReport port bytes _ => decide (port < 34) && bytes.length == 32
  | .cellCharged cell => decide (cell < 384)
  | .cellAbsent cell => decide (cell < 384)
  | .reportCutoff => true
  | .joinStepRepeat cell => decide (cell < 384)
  | .pipelineStart => true
  | .standbyCopyHandover => true
  | .computeDeadline _ _ => true
  | .devtimeSet h _ => decide (h < 4)
  | .ptpSyncReceive port domain _ => decide (port < 4) && decide (domain < 256)
  | .ptpHoldover => true
  | .lockDeclared => true
  | .lockLost => true
  | .flywheelEntry => true
  | .flywheelEnd => true
  | .slewEnd => true
  | .angDivWrite h _ => decide (h < 4)
  | .divTakeEffect => true
  | .angCfgWrite h _ => decide (h < 4)
  | .adcSwtrig h _ => decide (h < 4)
  | .sequenceDelayExpiry seq => decide (seq < 16)
  | .entryHold seq => decide (seq < 16)
  | .conversionEnd bank slot _ _ => decide (bank < 2) && decide (slot < 10)
  | .resultDelivery => true
  | .calibrationStep => true
  | .spareCalibrationEnd _ _ _ => true
  | .slotHandover => true
  | .calStarved => true
  | .sliceCalibrationEnd _ _ _ => true
  | .calsetLoad h => decide (h < 4)
  | .calsetDataWrite h _ => decide (h < 4)
  | .calsetWrite h => decide (h < 4)
  | .calsetWritten => true
  | .comparatorAssert cmp _ => decide (cmp < 16)
  | .comparatorRelease cmp _ => decide (cmp < 16)
  | .sampledWindow _ => true
  | .comparatorSubstitute h circuit _ => decide (h < 4) && (circuit == 16 || circuit == 17)
  | .probeReturn ring _ _ => decide (ring < 16)
  | .portDown port cause => decide (port < 34) && decide (cause < 3)
  | .portSubstitute h _ => decide (h < 4)
  | .lnkCtrlWrite h ring _ => decide (h < 4) && decide (ring < 16)
  | .cellTableWrite h cell byte _ => decide (h < 4) && decide (cell < 384) && decide (byte < 0x100)
  | .tripAssert line => decide (line < 8)
  | .tripClear line => decide (line < 8)
  | .tripSw h _ => decide (h < 4)
  | .lhbPeriodBoundary out => decide (out < 12)
  | .lhbCommit h _ => decide (h < 4)
  | .modulatorEvent ev => decide (ev < 16)
  | .streamStopped => true
  | .fabricClockStop => true
  | .counterClear h _ => decide (h < 4)
  | .forceLhb h _ => decide (h < 4)
  | .forceCell h _ => decide (h < 4)
  | .slotStagingWrite h slot byte _ => decide (h < 4) && decide (slot < 1024) && decide (byte < 0x80)
  | .slotCommit h slot _ => decide (h < 4) && decide (slot < 1024)
  | .setpointWrite h slot _ => decide (h < 4) && decide (slot < 1024)
  | .loopRelease h _ => decide (h < 4)
  | .snapshotCapture h => decide (h < 4)
  | .snapshotRelease h => decide (h < 4)
  | .closeStart h => decide (h < 4)
  | .closeAbort h => decide (h < 4)
  | .closeStepAdvance => true
  | .closeWaitTimeout => true
  | .grdOpen h _ => decide (h < 4)
  | .stopZeroCurrent => true
  | .transferToFormComplete => true
  | .transferToFollowComplete => true
  | .neutralCurrent => true
  | .neutralClear => true
  | .trackerPeriodEnd cell => decide (cell < 384)
  | .sweepStart cell => decide (cell < 384)
  | .sweepPointEnd cell => decide (cell < 384)
  | .globalSweepDue => true
  | .globalSweepRequest h _ => decide (h < 4)
  | .historyWrite => true
  | .storeDispatchWrite h _ => decide (h < 4)
  | .subFail cell => decide (cell < 384)
  | .bypassFail cell => decide (cell < 384)
  | .manualSubstitution h _ => decide (h < 4)
  | .rideReturn => true
  | .profileTrip row => decide (1 ≤ row) && decide (row ≤ 9)
  | .profileLoad h profile => decide (h < 4) && decide (profile < 8)
  | .profileStagingWrite h profile byte _ => decide (h < 4) && decide (profile < 8) && decide (byte < 0x400)
  | .profileCommit h profile => decide (h < 4) && decide (profile < 8)
  | .profileAbandon h profile => decide (h < 4) && decide (profile < 8)
  | .profileWritten => true
  | .chipEnd => true
  | .islandAction => true
  | .passiveIslandDetect why => decide (2 ≤ why) && decide (why ≤ 4)
  | .gridBack => true
  | .reconOk => true
  | .heartbeat eng _ => decide (eng < 2)
  | .heartbeatMissing eng => decide (eng < 2)
  | .leaseExpiry => true
  | .guardEnd => true
  | .engineFault eng cause => decide (eng < 2) && decide (cause < 16)
  | .gafferFrozen => true
  | .forcedSwitchover h => decide (h < 4)
  | .switchoverJudgementEnd => true
  | .testDue => true
  | .engineJoin h eng slot => decide (h < 4) && decide (eng < 2) && decide (slot < 2)
  | .engineReload h eng slot => decide (h < 4) && decide (eng < 2) && decide (slot < 2)
  | .engineHalt h eng => decide (h < 4) && decide (eng < 2)
  | .engineOff h eng => decide (h < 4) && decide (eng < 2)
  | .rejoinStageEnd eng _ => decide (eng < 2)
  | .rejoinTimeout eng => decide (eng < 2)
  | .autojoin eng => decide (eng < 2)
  | .safetyTick _ _ _ => true
  | .discrepancyFault pair => decide (pair < 8)
  | .crossLinkExchange _ _ _ _ => true
  | .channelFault channel => decide (channel < 2)
  | .groupCommand h _ => decide (h < 4)
  | .feedbackConfirm group => decide (group < 4)
  | .feedbackTimeout group => decide (group < 4)
  | .mirrorDisagree group => decide (group < 4)
  | .darkPulse switch => decide (switch < 8)
  | .darkPulseEnd switch _ _ => decide (switch < 8)
  | .switchStuckOn switch => decide (switch < 8)
  | .testPulse line => decide (line < 4)
  | .crossfaultCheck line _ => decide (line < 4)
  | .sealSample _ _ _ _ => true
  | .sealChange sealIx => decide (sealIx < 8)
  | .sealFault sealIx => decide (sealIx < 8)
  | .envelopeCopy net _ _ => decide (net < 2)
  | .envelopeUnpaired net source => decide (net < 2) && decide (source < 8)
  | .networkSilent net => decide (net < 2)
  | .permitWindowEnd source => decide (source < 8)
  | .itsupLatch => true
  | .safetyAck h => decide (h < 4)
  | .ringEnable h ring _ => decide (h < 4) && decide (ring < 64)
  | .ringDisable h ring _ => decide (h < 4) && decide (ring < 64)
  | .cmdDoorbell h ring _ => decide (h < 4) && decide (ring < 64)
  | .ringHeadWrite h ring _ => decide (h < 4) && decide (ring < 64)
  | .nop ring => decide (ring < 64)
  | .read ring => decide (ring < 64)
  | .write ring => decide (ring < 64)
  | .writePair ring => decide (ring < 64)
  | .imageOpen ring => decide (ring < 64)
  | .imageData ring => decide (ring < 64)
  | .imageClose ring => decide (ring < 64)
  | .logRead ring => decide (ring < 64)
  | .msixDeferred h => decide (h < 4)
  | .eventWindowClose h code subject => decide (h < 5) && decide (code < 65536) && decide (subject < 65536)
  | .versionNegotiate h _ => decide (h < 4)
  | .hostResetRequest h => decide (h < 4)
  | .releaseAll h => decide (h < 4)
  | .hostPortReset h _ => decide (h < 2)
  | .logQueueDrain => true
  | .pdelayReqSend port => decide (port < 4)
  | .pdelayReqAnswer port domain => decide (port < 4) && decide (domain < 256)
  | .ptpAnnounceTimeout port => decide (port < 4)
  | .prpFrameReceive port source seq _ => decide (port < 4) && decide (source < 281474976710656) && decide (seq < 65536)
  | .prpSupervisionSend => true
  | .prpPath lan _ => decide (lan < 2)
  | .networkLinkChange port _ => decide (port < 4)
  | .gooseReceive frame => decide (frame.port < 4)
  | .subTimeout entry => decide (entry < 64)
  | .gooseRetransmit pub => decide (pub < 16)
  | .svSample stream => decide (stream < 2)
  | .recorderManualTrigger h _ => decide (h < 4)
  | .recordEnd => true
  | .recordDelivery => true
  | .recorderVersionNegotiate h _ => decide (h < 4)
  | .sramScrub bank row _ => decide (bank < 24) && decide (row < 4096)
  | .dramScrub _ => true
  | .uncorrectableError location _ _ => decide (location < 8)
  | .complementScan location _ _ _ => decide (location < 5)
  | .ciWrite h slot => decide (h < 4) && decide (slot < 8)
  | .ciApply h slot => decide (h < 4) && decide (slot < 8)
  | .ciErase h slot => decide (h < 4) && decide (slot < 8)
  | .ciOperationEnd _ _ => true
  | .bootApply => true
  | .lifecycleChange h target => decide (h < 4) && decide (target < 4)
  | .lifecycleWipeEnd => true
  | .auxRise _ => true
  | .auxFall => true
  | .railPowerGood ch => decide (ch < 4)
  | .softStartEnd ch _ => decide (ch < 4)
  | .coreRailPgLoss ch => decide (ch < 4)
  | .pgLost => true
  | .railSyncValid _ => true
  | .railSyncLost => true
  | .currentLimit ch => decide (ch < 4)
  | .bstuv ch => decide (ch < 4)
  | .bootstrapRecover ch => decide (ch < 4)
  | .outputOvervoltage ch _ => decide (ch < 4)
  | .driverSupplyUv ch _ => decide (ch < 4)
  | .railLatch ch cause => decide (ch < 4) && decide (cause < 16)
  | .railEnRestart => true
  | .voltageCommand h ch _ => decide (h < 4) && decide (ch < 4)
  | .burstEntry ch => decide (ch < 4)
  | .burstExit ch => decide (ch < 4)
  | .referenceGood ref => decide (ref < 2)
  | .referenceLost ref => decide (ref < 2)
  | .holdoverTimeout => true
  | .referenceRevert => true
  | .loopLock loop _ => decide (loop < 4)
  | .loopLockLoss loop _ _ => decide (loop < 4)
  | .fabricRetryEnd _ => true
  | .dllLost port => decide (port < 34)
  | .sentinelSample _ _ _ => true
  | .sentinelReadingChange input => decide (input < 10)
  | .alertFrameStart => true
  | .alertFrameAbort => true
  | .alertFrameComplete => true
  | .alertRetry => true
  | .aliveStamp => true
  | .bandChange _ => true
  | .cellCutoff _ => true
  | .cellProtection kind => decide (kind < 4)
  | .sentinelColdStart => true
  | .sentinelHandover => true
  | .tamperConfigWrite h _ => decide (h < 4)
  | .senStatRead h => decide (h < 4)
  | .resetPin _ => true
  | .softwareReset h => decide (h < 4)
  | .resetRelease _ => true
  | .blockReady block => decide (block < 26)
  | .readinessTimeout block => decide (block < 26)
  | .hostLinkUp h => decide (h < 2)
  | .tapReset => true
  | .idcode => true
  | .samplePreload _ => true
  | .extest _ => true
  | .extestPulse _ => true
  | .extestTrain _ => true
  | .highz => true
  | .clamp => true
  | .bypass code => !(decide (1 ≤ code.toNat) && decide (code.toNat ≤ 7))
  | .switchingCycle ch _ _ _ => decide (ch < 4)
  | .reverseCurrentLimit ch => decide (ch < 4)
  | .refDisagree _ => true
  | .ringPortSync port => decide (port < 34)
  | .ptpAnnounceReceive port domain _ _ _ _ => decide (port < 4) && decide (domain < 256)
  | .pdelayRespReceive port domain _ => decide (port < 4) && decide (domain < 256)
  | .engineBoot _ _ => true
  | .imageCommandComplete _ _ _ _ _ => true
  | .cellProtectionRelease kind => decide (kind < 4)
  | .analogDieFault => true
  | .flashDieFault => true

end Sys2Proof
end

