-- ==== Sys2Proof/Laws/PerInstr.lean ====
section
/-! SUPPORT. What holds of every command as a term, one lemma to a constructor. -/

namespace Sys2Proof.Laws

/-- The host that gives a command, where a host gives it. -/
def senderOf : Instr → Option Nat
  | .registerWrite h _ _ _ => some h
  | .rwcValueWrite h _ _ => some h
  | .errcodeWrite h _ _ => some h
  | .irqStatClear h _ _ => some h
  | .claim h _ _ => some h
  | .release h _ _ => some h
  | .breakClaim h _ _ => some h
  | .key h _ _ => some h
  | .keyExpiry h _ => some h
  | .modeRequestWatch h => some h
  | .modeRequestEnergize h => some h
  | .modeRequestFollow h => some h
  | .modeRequestForm h => some h
  | .modeRequestService h => some h
  | .holdRequest h _ => some h
  | .holdLatchClear h _ => some h
  | .scheduleEntryWrite h _ _ _ => some h
  | .devtimeSet h _ => some h
  | .angDivWrite h _ => some h
  | .angCfgWrite h _ => some h
  | .adcSwtrig h _ => some h
  | .calsetLoad h => some h
  | .calsetDataWrite h _ => some h
  | .calsetWrite h => some h
  | .comparatorSubstitute h _ _ => some h
  | .portSubstitute h _ => some h
  | .lnkCtrlWrite h _ _ => some h
  | .cellTableWrite h _ _ _ => some h
  | .tripSw h _ => some h
  | .lhbCommit h _ => some h
  | .counterClear h _ => some h
  | .forceLhb h _ => some h
  | .forceCell h _ => some h
  | .slotStagingWrite h _ _ _ => some h
  | .slotCommit h _ _ => some h
  | .setpointWrite h _ _ => some h
  | .loopRelease h _ => some h
  | .snapshotCapture h => some h
  | .snapshotRelease h => some h
  | .closeStart h => some h
  | .closeAbort h => some h
  | .grdOpen h _ => some h
  | .globalSweepRequest h _ => some h
  | .storeDispatchWrite h _ => some h
  | .manualSubstitution h _ => some h
  | .profileLoad h _ => some h
  | .profileStagingWrite h _ _ _ => some h
  | .profileCommit h _ => some h
  | .profileAbandon h _ => some h
  | .forcedSwitchover h => some h
  | .engineJoin h _ _ => some h
  | .engineReload h _ _ => some h
  | .engineHalt h _ => some h
  | .engineOff h _ => some h
  | .groupCommand h _ => some h
  | .safetyAck h => some h
  | .ringEnable h _ _ => some h
  | .ringDisable h _ _ => some h
  | .cmdDoorbell h _ _ => some h
  | .ringHeadWrite h _ _ => some h
  | .msixDeferred h => some h
  | .versionNegotiate h _ => some h
  | .hostResetRequest h => some h
  | .releaseAll h => some h
  | .recorderManualTrigger h _ => some h
  | .recorderVersionNegotiate h _ => some h
  | .ciWrite h _ => some h
  | .ciApply h _ => some h
  | .ciErase h _ => some h
  | .lifecycleChange h _ => some h
  | .voltageCommand h _ _ => some h
  | .tamperConfigWrite h _ => some h
  | .senStatRead h => some h
  | .softwareReset h => some h
  | .beatStart => none
  | .scheduleEntryFire _ => none
  | .blankWindowEnd _ => none
  | .cellReport _ _ _ => none
  | .cellCharged _ => none
  | .cellAbsent _ => none
  | .reportCutoff => none
  | .joinStepRepeat _ => none
  | .pipelineStart => none
  | .standbyCopyHandover => none
  | .computeDeadline _ _ => none
  | .ptpSyncReceive _ _ _ => none
  | .ptpHoldover => none
  | .lockDeclared => none
  | .lockLost => none
  | .flywheelEntry => none
  | .flywheelEnd => none
  | .slewEnd => none
  | .divTakeEffect => none
  | .sequenceDelayExpiry _ => none
  | .entryHold _ => none
  | .conversionEnd _ _ _ _ => none
  | .resultDelivery => none
  | .calibrationStep => none
  | .spareCalibrationEnd _ _ _ => none
  | .slotHandover => none
  | .calStarved => none
  | .sliceCalibrationEnd _ _ _ => none
  | .calsetWritten => none
  | .comparatorAssert _ _ => none
  | .comparatorRelease _ _ => none
  | .sampledWindow _ => none
  | .probeReturn _ _ _ => none
  | .portDown _ _ => none
  | .tripAssert _ => none
  | .tripClear _ => none
  | .lhbPeriodBoundary _ => none
  | .modulatorEvent _ => none
  | .streamStopped => none
  | .fabricClockStop => none
  | .closeStepAdvance => none
  | .closeWaitTimeout => none
  | .stopZeroCurrent => none
  | .transferToFormComplete => none
  | .transferToFollowComplete => none
  | .neutralCurrent => none
  | .neutralClear => none
  | .trackerPeriodEnd _ => none
  | .sweepStart _ => none
  | .sweepPointEnd _ => none
  | .globalSweepDue => none
  | .historyWrite => none
  | .subFail _ => none
  | .bypassFail _ => none
  | .rideReturn => none
  | .profileTrip _ => none
  | .profileWritten => none
  | .chipEnd => none
  | .islandAction => none
  | .passiveIslandDetect _ => none
  | .gridBack => none
  | .reconOk => none
  | .heartbeat _ _ => none
  | .heartbeatMissing _ => none
  | .leaseExpiry => none
  | .guardEnd => none
  | .engineFault _ _ => none
  | .gafferFrozen => none
  | .switchoverJudgementEnd => none
  | .testDue => none
  | .rejoinStageEnd _ _ => none
  | .rejoinTimeout _ => none
  | .autojoin _ => none
  | .safetyTick _ _ _ => none
  | .discrepancyFault _ => none
  | .crossLinkExchange _ _ _ _ => none
  | .channelFault _ => none
  | .feedbackConfirm _ => none
  | .feedbackTimeout _ => none
  | .mirrorDisagree _ => none
  | .darkPulse _ => none
  | .darkPulseEnd _ _ _ => none
  | .switchStuckOn _ => none
  | .testPulse _ => none
  | .crossfaultCheck _ _ => none
  | .sealSample _ _ _ _ => none
  | .sealChange _ => none
  | .sealFault _ => none
  | .envelopeCopy _ _ _ => none
  | .envelopeUnpaired _ _ => none
  | .networkSilent _ => none
  | .permitWindowEnd _ => none
  | .itsupLatch => none
  | .nop _ => none
  | .read _ => none
  | .write _ => none
  | .writePair _ => none
  | .imageOpen _ => none
  | .imageData _ => none
  | .imageClose _ => none
  | .logRead _ => none
  | .eventWindowClose _ _ _ => none
  | .hostPortReset _ _ => none
  | .logQueueDrain => none
  | .pdelayReqSend _ => none
  | .pdelayReqAnswer _ _ => none
  | .ptpAnnounceTimeout _ => none
  | .prpFrameReceive _ _ _ _ => none
  | .prpSupervisionSend => none
  | .prpPath _ _ => none
  | .networkLinkChange _ _ => none
  | .gooseReceive _ => none
  | .subTimeout _ => none
  | .gooseRetransmit _ => none
  | .svSample _ => none
  | .recordEnd => none
  | .recordDelivery => none
  | .sramScrub _ _ _ => none
  | .dramScrub _ => none
  | .uncorrectableError _ _ _ => none
  | .complementScan _ _ _ _ => none
  | .ciOperationEnd _ _ => none
  | .bootApply => none
  | .lifecycleWipeEnd => none
  | .auxRise _ => none
  | .auxFall => none
  | .railPowerGood _ => none
  | .softStartEnd _ _ => none
  | .coreRailPgLoss _ => none
  | .pgLost => none
  | .railSyncValid _ => none
  | .railSyncLost => none
  | .currentLimit _ => none
  | .bstuv _ => none
  | .bootstrapRecover _ => none
  | .outputOvervoltage _ _ => none
  | .driverSupplyUv _ _ => none
  | .railLatch _ _ => none
  | .railEnRestart => none
  | .burstEntry _ => none
  | .burstExit _ => none
  | .referenceGood _ => none
  | .referenceLost _ => none
  | .holdoverTimeout => none
  | .referenceRevert => none
  | .loopLock _ _ => none
  | .loopLockLoss _ _ _ => none
  | .fabricRetryEnd _ => none
  | .dllLost _ => none
  | .sentinelSample _ _ _ => none
  | .sentinelReadingChange _ => none
  | .alertFrameStart => none
  | .alertFrameAbort => none
  | .alertFrameComplete => none
  | .alertRetry => none
  | .aliveStamp => none
  | .bandChange _ => none
  | .cellCutoff _ => none
  | .cellProtection _ => none
  | .sentinelColdStart => none
  | .sentinelHandover => none
  | .resetPin _ => none
  | .resetRelease _ => none
  | .blockReady _ => none
  | .readinessTimeout _ => none
  | .hostLinkUp _ => none
  | .tapReset => none
  | .idcode => none
  | .samplePreload _ => none
  | .extest _ => none
  | .extestPulse _ => none
  | .extestTrain _ => none
  | .highz => none
  | .clamp => none
  | .bypass _ => none
  | .switchingCycle _ _ _ _ => none
  | .reverseCurrentLimit _ => none
  | .refDisagree _ => none
  | .ringPortSync _ => none
  | .ptpAnnounceReceive _ _ _ _ _ _ => none
  | .pdelayRespReceive _ _ _ => none
  | .engineBoot _ _ => none
  | .imageCommandComplete _ _ _ _ _ => none
  | .cellProtectionRelease _ => none
  | .analogDieFault => none
  | .flashDieFault => none

/-- A well-formed command that a host gives is given by one of the four hosts (R1). -/
def Operands.Statement (i : Instr) : Prop := i.wellFormed = true → ∀ h ∈ senderOf i, h < 4

theorem and_left {a b : Bool} (h : (a && b) = true) : a = true := by cases a <;> simp_all

theorem operands_of_host {i : Instr} {h : Nat} (hs : senderOf i = some h) (hw : i.wellFormed = true → decide (h < 4) = true) :
    Operands.Statement i := by
  intro w x hx
  rw [hs, Option.mem_some_iff] at hx
  exact hx ▸ of_decide_eq_true (hw w)

theorem operands_of_none {i : Instr} (hs : senderOf i = none) : Operands.Statement i := by
  intro _ x hx
  rw [hs] at hx
  exact absurd hx (Option.not_mem_none x)

theorem Operands.registerWrite (a : Nat) (b : BitVec 8) (c : Nat) (d : Word) : Operands.Statement (.registerWrite a b c d) := operands_of_host rfl fun w => and_left w
theorem Operands.rwcValueWrite (a : Nat) (b : Nat) (c : Word) : Operands.Statement (.rwcValueWrite a b c) := operands_of_host rfl fun w => and_left w
theorem Operands.errcodeWrite (a : Nat) (b : Nat) (c : Word) : Operands.Statement (.errcodeWrite a b c) := operands_of_host rfl fun w => and_left w
theorem Operands.irqStatClear (a : Nat) (b : Nat) (c : Word) : Operands.Statement (.irqStatClear a b c) := operands_of_host rfl fun w => and_left w
theorem Operands.claim (a : Nat) (b : Nat) (c : BitVec 24) : Operands.Statement (.claim a b c) := operands_of_host rfl fun w => and_left w
theorem Operands.release (a : Nat) (b : Nat) (c : BitVec 24) : Operands.Statement (.release a b c) := operands_of_host rfl fun w => and_left w
theorem Operands.breakClaim (a : Nat) (b : Nat) (c : BitVec 24) : Operands.Statement (.breakClaim a b c) := operands_of_host rfl fun w => and_left w
theorem Operands.key (a : Nat) (b : Nat) (c : BitVec 24) : Operands.Statement (.key a b c) := operands_of_host rfl fun w => and_left w
theorem Operands.keyExpiry (a : Nat) (b : Nat) : Operands.Statement (.keyExpiry a b) := operands_of_host rfl fun w => and_left w
theorem Operands.modeRequestWatch (a : Nat) : Operands.Statement (.modeRequestWatch a) := operands_of_host rfl fun w => w
theorem Operands.modeRequestEnergize (a : Nat) : Operands.Statement (.modeRequestEnergize a) := operands_of_host rfl fun w => w
theorem Operands.modeRequestFollow (a : Nat) : Operands.Statement (.modeRequestFollow a) := operands_of_host rfl fun w => w
theorem Operands.modeRequestForm (a : Nat) : Operands.Statement (.modeRequestForm a) := operands_of_host rfl fun w => w
theorem Operands.modeRequestService (a : Nat) : Operands.Statement (.modeRequestService a) := operands_of_host rfl fun w => w
theorem Operands.holdRequest (a : Nat) (b : Word) : Operands.Statement (.holdRequest a b) := operands_of_host rfl fun w => w
theorem Operands.holdLatchClear (a : Nat) (b : Word) : Operands.Statement (.holdLatchClear a b) := operands_of_host rfl fun w => w
theorem Operands.beatStart : Operands.Statement (.beatStart) := operands_of_none rfl
theorem Operands.scheduleEntryFire (a : Nat) : Operands.Statement (.scheduleEntryFire a) := operands_of_none rfl
theorem Operands.blankWindowEnd (a : Nat) : Operands.Statement (.blankWindowEnd a) := operands_of_none rfl
theorem Operands.scheduleEntryWrite (a : Nat) (b : Nat) (c : Nat) (d : Word) : Operands.Statement (.scheduleEntryWrite a b c d) := operands_of_host rfl fun w => and_left (and_left w)
theorem Operands.cellReport (a : Nat) (b : List Byte) (c : Nat) : Operands.Statement (.cellReport a b c) := operands_of_none rfl
theorem Operands.cellCharged (a : Nat) : Operands.Statement (.cellCharged a) := operands_of_none rfl
theorem Operands.cellAbsent (a : Nat) : Operands.Statement (.cellAbsent a) := operands_of_none rfl
theorem Operands.reportCutoff : Operands.Statement (.reportCutoff) := operands_of_none rfl
theorem Operands.joinStepRepeat (a : Nat) : Operands.Statement (.joinStepRepeat a) := operands_of_none rfl
theorem Operands.pipelineStart : Operands.Statement (.pipelineStart) := operands_of_none rfl
theorem Operands.standbyCopyHandover : Operands.Statement (.standbyCopyHandover) := operands_of_none rfl
theorem Operands.computeDeadline (a : Bool) (b : Bool) : Operands.Statement (.computeDeadline a b) := operands_of_none rfl
theorem Operands.devtimeSet (a : Nat) (b : Word) : Operands.Statement (.devtimeSet a b) := operands_of_host rfl fun w => w
theorem Operands.ptpSyncReceive (a : Nat) (b : Nat) (c : Int) : Operands.Statement (.ptpSyncReceive a b c) := operands_of_none rfl
theorem Operands.ptpHoldover : Operands.Statement (.ptpHoldover) := operands_of_none rfl
theorem Operands.lockDeclared : Operands.Statement (.lockDeclared) := operands_of_none rfl
theorem Operands.lockLost : Operands.Statement (.lockLost) := operands_of_none rfl
theorem Operands.flywheelEntry : Operands.Statement (.flywheelEntry) := operands_of_none rfl
theorem Operands.flywheelEnd : Operands.Statement (.flywheelEnd) := operands_of_none rfl
theorem Operands.slewEnd : Operands.Statement (.slewEnd) := operands_of_none rfl
theorem Operands.angDivWrite (a : Nat) (b : Word) : Operands.Statement (.angDivWrite a b) := operands_of_host rfl fun w => w
theorem Operands.divTakeEffect : Operands.Statement (.divTakeEffect) := operands_of_none rfl
theorem Operands.angCfgWrite (a : Nat) (b : Word) : Operands.Statement (.angCfgWrite a b) := operands_of_host rfl fun w => w
theorem Operands.adcSwtrig (a : Nat) (b : Word) : Operands.Statement (.adcSwtrig a b) := operands_of_host rfl fun w => w
theorem Operands.sequenceDelayExpiry (a : Nat) : Operands.Statement (.sequenceDelayExpiry a) := operands_of_none rfl
theorem Operands.entryHold (a : Nat) : Operands.Statement (.entryHold a) := operands_of_none rfl
theorem Operands.conversionEnd (a : Nat) (b : Nat) (c : BitVec 16) (d : Bool) : Operands.Statement (.conversionEnd a b c d) := operands_of_none rfl
theorem Operands.resultDelivery : Operands.Statement (.resultDelivery) := operands_of_none rfl
theorem Operands.calibrationStep : Operands.Statement (.calibrationStep) := operands_of_none rfl
theorem Operands.spareCalibrationEnd (a : Int) (b : Int) (c : Bool) : Operands.Statement (.spareCalibrationEnd a b c) := operands_of_none rfl
theorem Operands.slotHandover : Operands.Statement (.slotHandover) := operands_of_none rfl
theorem Operands.calStarved : Operands.Statement (.calStarved) := operands_of_none rfl
theorem Operands.sliceCalibrationEnd (a : Int) (b : Int) (c : Bool) : Operands.Statement (.sliceCalibrationEnd a b c) := operands_of_none rfl
theorem Operands.calsetLoad (a : Nat) : Operands.Statement (.calsetLoad a) := operands_of_host rfl fun w => w
theorem Operands.calsetDataWrite (a : Nat) (b : Word) : Operands.Statement (.calsetDataWrite a b) := operands_of_host rfl fun w => w
theorem Operands.calsetWrite (a : Nat) : Operands.Statement (.calsetWrite a) := operands_of_host rfl fun w => w
theorem Operands.calsetWritten : Operands.Statement (.calsetWritten) := operands_of_none rfl
theorem Operands.comparatorAssert (a : Nat) (b : Int) : Operands.Statement (.comparatorAssert a b) := operands_of_none rfl
theorem Operands.comparatorRelease (a : Nat) (b : Int) : Operands.Statement (.comparatorRelease a b) := operands_of_none rfl
theorem Operands.sampledWindow (a : Bool) : Operands.Statement (.sampledWindow a) := operands_of_none rfl
theorem Operands.comparatorSubstitute (a : Nat) (b : Nat) (c : Word) : Operands.Statement (.comparatorSubstitute a b c) := operands_of_host rfl fun w => and_left w
theorem Operands.probeReturn (a : Nat) (b : Bool) (c : Nat) : Operands.Statement (.probeReturn a b c) := operands_of_none rfl
theorem Operands.portDown (a : Nat) (b : Nat) : Operands.Statement (.portDown a b) := operands_of_none rfl
theorem Operands.portSubstitute (a : Nat) (b : Word) : Operands.Statement (.portSubstitute a b) := operands_of_host rfl fun w => w
theorem Operands.lnkCtrlWrite (a : Nat) (b : Nat) (c : Word) : Operands.Statement (.lnkCtrlWrite a b c) := operands_of_host rfl fun w => and_left w
theorem Operands.cellTableWrite (a : Nat) (b : Nat) (c : Nat) (d : Word) : Operands.Statement (.cellTableWrite a b c d) := operands_of_host rfl fun w => and_left (and_left w)
theorem Operands.tripAssert (a : Nat) : Operands.Statement (.tripAssert a) := operands_of_none rfl
theorem Operands.tripClear (a : Nat) : Operands.Statement (.tripClear a) := operands_of_none rfl
theorem Operands.tripSw (a : Nat) (b : Word) : Operands.Statement (.tripSw a b) := operands_of_host rfl fun w => w
theorem Operands.lhbPeriodBoundary (a : Nat) : Operands.Statement (.lhbPeriodBoundary a) := operands_of_none rfl
theorem Operands.lhbCommit (a : Nat) (b : Word) : Operands.Statement (.lhbCommit a b) := operands_of_host rfl fun w => w
theorem Operands.modulatorEvent (a : Nat) : Operands.Statement (.modulatorEvent a) := operands_of_none rfl
theorem Operands.streamStopped : Operands.Statement (.streamStopped) := operands_of_none rfl
theorem Operands.fabricClockStop : Operands.Statement (.fabricClockStop) := operands_of_none rfl
theorem Operands.counterClear (a : Nat) (b : Word) : Operands.Statement (.counterClear a b) := operands_of_host rfl fun w => w
theorem Operands.forceLhb (a : Nat) (b : Word) : Operands.Statement (.forceLhb a b) := operands_of_host rfl fun w => w
theorem Operands.forceCell (a : Nat) (b : Word) : Operands.Statement (.forceCell a b) := operands_of_host rfl fun w => w
theorem Operands.slotStagingWrite (a : Nat) (b : Nat) (c : Nat) (d : Word) : Operands.Statement (.slotStagingWrite a b c d) := operands_of_host rfl fun w => and_left (and_left w)
theorem Operands.slotCommit (a : Nat) (b : Nat) (c : Word) : Operands.Statement (.slotCommit a b c) := operands_of_host rfl fun w => and_left w
theorem Operands.setpointWrite (a : Nat) (b : Nat) (c : Word) : Operands.Statement (.setpointWrite a b c) := operands_of_host rfl fun w => and_left w
theorem Operands.loopRelease (a : Nat) (b : Word) : Operands.Statement (.loopRelease a b) := operands_of_host rfl fun w => w
theorem Operands.snapshotCapture (a : Nat) : Operands.Statement (.snapshotCapture a) := operands_of_host rfl fun w => w
theorem Operands.snapshotRelease (a : Nat) : Operands.Statement (.snapshotRelease a) := operands_of_host rfl fun w => w
theorem Operands.closeStart (a : Nat) : Operands.Statement (.closeStart a) := operands_of_host rfl fun w => w
theorem Operands.closeAbort (a : Nat) : Operands.Statement (.closeAbort a) := operands_of_host rfl fun w => w
theorem Operands.closeStepAdvance : Operands.Statement (.closeStepAdvance) := operands_of_none rfl
theorem Operands.closeWaitTimeout : Operands.Statement (.closeWaitTimeout) := operands_of_none rfl
theorem Operands.grdOpen (a : Nat) (b : Word) : Operands.Statement (.grdOpen a b) := operands_of_host rfl fun w => w
theorem Operands.stopZeroCurrent : Operands.Statement (.stopZeroCurrent) := operands_of_none rfl
theorem Operands.transferToFormComplete : Operands.Statement (.transferToFormComplete) := operands_of_none rfl
theorem Operands.transferToFollowComplete : Operands.Statement (.transferToFollowComplete) := operands_of_none rfl
theorem Operands.neutralCurrent : Operands.Statement (.neutralCurrent) := operands_of_none rfl
theorem Operands.neutralClear : Operands.Statement (.neutralClear) := operands_of_none rfl
theorem Operands.trackerPeriodEnd (a : Nat) : Operands.Statement (.trackerPeriodEnd a) := operands_of_none rfl
theorem Operands.sweepStart (a : Nat) : Operands.Statement (.sweepStart a) := operands_of_none rfl
theorem Operands.sweepPointEnd (a : Nat) : Operands.Statement (.sweepPointEnd a) := operands_of_none rfl
theorem Operands.globalSweepDue : Operands.Statement (.globalSweepDue) := operands_of_none rfl
theorem Operands.globalSweepRequest (a : Nat) (b : Word) : Operands.Statement (.globalSweepRequest a b) := operands_of_host rfl fun w => w
theorem Operands.historyWrite : Operands.Statement (.historyWrite) := operands_of_none rfl
theorem Operands.storeDispatchWrite (a : Nat) (b : Word) : Operands.Statement (.storeDispatchWrite a b) := operands_of_host rfl fun w => w
theorem Operands.subFail (a : Nat) : Operands.Statement (.subFail a) := operands_of_none rfl
theorem Operands.bypassFail (a : Nat) : Operands.Statement (.bypassFail a) := operands_of_none rfl
theorem Operands.manualSubstitution (a : Nat) (b : Word) : Operands.Statement (.manualSubstitution a b) := operands_of_host rfl fun w => w
theorem Operands.rideReturn : Operands.Statement (.rideReturn) := operands_of_none rfl
theorem Operands.profileTrip (a : Nat) : Operands.Statement (.profileTrip a) := operands_of_none rfl
theorem Operands.profileLoad (a : Nat) (b : Nat) : Operands.Statement (.profileLoad a b) := operands_of_host rfl fun w => and_left w
theorem Operands.profileStagingWrite (a : Nat) (b : Nat) (c : Nat) (d : Word) : Operands.Statement (.profileStagingWrite a b c d) := operands_of_host rfl fun w => and_left (and_left w)
theorem Operands.profileCommit (a : Nat) (b : Nat) : Operands.Statement (.profileCommit a b) := operands_of_host rfl fun w => and_left w
theorem Operands.profileAbandon (a : Nat) (b : Nat) : Operands.Statement (.profileAbandon a b) := operands_of_host rfl fun w => and_left w
theorem Operands.profileWritten : Operands.Statement (.profileWritten) := operands_of_none rfl
theorem Operands.chipEnd : Operands.Statement (.chipEnd) := operands_of_none rfl
theorem Operands.islandAction : Operands.Statement (.islandAction) := operands_of_none rfl
theorem Operands.passiveIslandDetect (a : Nat) : Operands.Statement (.passiveIslandDetect a) := operands_of_none rfl
theorem Operands.gridBack : Operands.Statement (.gridBack) := operands_of_none rfl
theorem Operands.reconOk : Operands.Statement (.reconOk) := operands_of_none rfl
theorem Operands.heartbeat (a : Nat) (b : BitVec 32) : Operands.Statement (.heartbeat a b) := operands_of_none rfl
theorem Operands.heartbeatMissing (a : Nat) : Operands.Statement (.heartbeatMissing a) := operands_of_none rfl
theorem Operands.leaseExpiry : Operands.Statement (.leaseExpiry) := operands_of_none rfl
theorem Operands.guardEnd : Operands.Statement (.guardEnd) := operands_of_none rfl
theorem Operands.engineFault (a : Nat) (b : Nat) : Operands.Statement (.engineFault a b) := operands_of_none rfl
theorem Operands.gafferFrozen : Operands.Statement (.gafferFrozen) := operands_of_none rfl
theorem Operands.forcedSwitchover (a : Nat) : Operands.Statement (.forcedSwitchover a) := operands_of_host rfl fun w => w
theorem Operands.switchoverJudgementEnd : Operands.Statement (.switchoverJudgementEnd) := operands_of_none rfl
theorem Operands.testDue : Operands.Statement (.testDue) := operands_of_none rfl
theorem Operands.engineJoin (a : Nat) (b : Nat) (c : Nat) : Operands.Statement (.engineJoin a b c) := operands_of_host rfl fun w => and_left (and_left w)
theorem Operands.engineReload (a : Nat) (b : Nat) (c : Nat) : Operands.Statement (.engineReload a b c) := operands_of_host rfl fun w => and_left (and_left w)
theorem Operands.engineHalt (a : Nat) (b : Nat) : Operands.Statement (.engineHalt a b) := operands_of_host rfl fun w => and_left w
theorem Operands.engineOff (a : Nat) (b : Nat) : Operands.Statement (.engineOff a b) := operands_of_host rfl fun w => and_left w
theorem Operands.rejoinStageEnd (a : Nat) (b : Bool) : Operands.Statement (.rejoinStageEnd a b) := operands_of_none rfl
theorem Operands.rejoinTimeout (a : Nat) : Operands.Statement (.rejoinTimeout a) := operands_of_none rfl
theorem Operands.autojoin (a : Nat) : Operands.Statement (.autojoin a) := operands_of_none rfl
theorem Operands.safetyTick (a : BitVec 16) (b : BitVec 8) (c : BitVec 8) : Operands.Statement (.safetyTick a b c) := operands_of_none rfl
theorem Operands.discrepancyFault (a : Nat) : Operands.Statement (.discrepancyFault a) := operands_of_none rfl
theorem Operands.crossLinkExchange (a : Bool) (b : Bool) (c : BitVec 4) (d : BitVec 4) : Operands.Statement (.crossLinkExchange a b c d) := operands_of_none rfl
theorem Operands.channelFault (a : Nat) : Operands.Statement (.channelFault a) := operands_of_none rfl
theorem Operands.groupCommand (a : Nat) (b : Word) : Operands.Statement (.groupCommand a b) := operands_of_host rfl fun w => w
theorem Operands.feedbackConfirm (a : Nat) : Operands.Statement (.feedbackConfirm a) := operands_of_none rfl
theorem Operands.feedbackTimeout (a : Nat) : Operands.Statement (.feedbackTimeout a) := operands_of_none rfl
theorem Operands.mirrorDisagree (a : Nat) : Operands.Statement (.mirrorDisagree a) := operands_of_none rfl
theorem Operands.darkPulse (a : Nat) : Operands.Statement (.darkPulse a) := operands_of_none rfl
theorem Operands.darkPulseEnd (a : Nat) (b : Bool) (c : Bool) : Operands.Statement (.darkPulseEnd a b c) := operands_of_none rfl
theorem Operands.switchStuckOn (a : Nat) : Operands.Statement (.switchStuckOn a) := operands_of_none rfl
theorem Operands.testPulse (a : Nat) : Operands.Statement (.testPulse a) := operands_of_none rfl
theorem Operands.crossfaultCheck (a : Nat) (b : BitVec 16) : Operands.Statement (.crossfaultCheck a b) := operands_of_none rfl
theorem Operands.sealSample (a : BitVec 8) (b : BitVec 8) (c : BitVec 8) (d : BitVec 8) : Operands.Statement (.sealSample a b c d) := operands_of_none rfl
theorem Operands.sealChange (a : Nat) : Operands.Statement (.sealChange a) := operands_of_none rfl
theorem Operands.sealFault (a : Nat) : Operands.Statement (.sealFault a) := operands_of_none rfl
theorem Operands.envelopeCopy (a : Nat) (b : List Byte) (c : Nat) : Operands.Statement (.envelopeCopy a b c) := operands_of_none rfl
theorem Operands.envelopeUnpaired (a : Nat) (b : Nat) : Operands.Statement (.envelopeUnpaired a b) := operands_of_none rfl
theorem Operands.networkSilent (a : Nat) : Operands.Statement (.networkSilent a) := operands_of_none rfl
theorem Operands.permitWindowEnd (a : Nat) : Operands.Statement (.permitWindowEnd a) := operands_of_none rfl
theorem Operands.itsupLatch : Operands.Statement (.itsupLatch) := operands_of_none rfl
theorem Operands.safetyAck (a : Nat) : Operands.Statement (.safetyAck a) := operands_of_host rfl fun w => w
theorem Operands.ringEnable (a : Nat) (b : Nat) (c : Word) : Operands.Statement (.ringEnable a b c) := operands_of_host rfl fun w => and_left w
theorem Operands.ringDisable (a : Nat) (b : Nat) (c : Word) : Operands.Statement (.ringDisable a b c) := operands_of_host rfl fun w => and_left w
theorem Operands.cmdDoorbell (a : Nat) (b : Nat) (c : Word) : Operands.Statement (.cmdDoorbell a b c) := operands_of_host rfl fun w => and_left w
theorem Operands.ringHeadWrite (a : Nat) (b : Nat) (c : Word) : Operands.Statement (.ringHeadWrite a b c) := operands_of_host rfl fun w => and_left w
theorem Operands.nop (a : Nat) : Operands.Statement (.nop a) := operands_of_none rfl
theorem Operands.read (a : Nat) : Operands.Statement (.read a) := operands_of_none rfl
theorem Operands.write (a : Nat) : Operands.Statement (.write a) := operands_of_none rfl
theorem Operands.writePair (a : Nat) : Operands.Statement (.writePair a) := operands_of_none rfl
theorem Operands.imageOpen (a : Nat) : Operands.Statement (.imageOpen a) := operands_of_none rfl
theorem Operands.imageData (a : Nat) : Operands.Statement (.imageData a) := operands_of_none rfl
theorem Operands.imageClose (a : Nat) : Operands.Statement (.imageClose a) := operands_of_none rfl
theorem Operands.logRead (a : Nat) : Operands.Statement (.logRead a) := operands_of_none rfl
theorem Operands.msixDeferred (a : Nat) : Operands.Statement (.msixDeferred a) := operands_of_host rfl fun w => w
theorem Operands.eventWindowClose (a : Nat) (b : Nat) (c : Nat) : Operands.Statement (.eventWindowClose a b c) := operands_of_none rfl
theorem Operands.versionNegotiate (a : Nat) (b : Word) : Operands.Statement (.versionNegotiate a b) := operands_of_host rfl fun w => w
theorem Operands.hostResetRequest (a : Nat) : Operands.Statement (.hostResetRequest a) := operands_of_host rfl fun w => w
theorem Operands.releaseAll (a : Nat) : Operands.Statement (.releaseAll a) := operands_of_host rfl fun w => w
theorem Operands.hostPortReset (a : Nat) (b : PortReset) : Operands.Statement (.hostPortReset a b) := operands_of_none rfl
theorem Operands.logQueueDrain : Operands.Statement (.logQueueDrain) := operands_of_none rfl
theorem Operands.pdelayReqSend (a : Nat) : Operands.Statement (.pdelayReqSend a) := operands_of_none rfl
theorem Operands.pdelayReqAnswer (a : Nat) (b : Nat) : Operands.Statement (.pdelayReqAnswer a b) := operands_of_none rfl
theorem Operands.ptpAnnounceTimeout (a : Nat) : Operands.Statement (.ptpAnnounceTimeout a) := operands_of_none rfl
theorem Operands.prpFrameReceive (a : Nat) (b : Nat) (c : Nat) (d : Bool) : Operands.Statement (.prpFrameReceive a b c d) := operands_of_none rfl
theorem Operands.prpSupervisionSend : Operands.Statement (.prpSupervisionSend) := operands_of_none rfl
theorem Operands.prpPath (a : Nat) (b : Bool) : Operands.Statement (.prpPath a b) := operands_of_none rfl
theorem Operands.networkLinkChange (a : Nat) (b : Bool) : Operands.Statement (.networkLinkChange a b) := operands_of_none rfl
theorem Operands.gooseReceive (a : GooseFrame) : Operands.Statement (.gooseReceive a) := operands_of_none rfl
theorem Operands.subTimeout (a : Nat) : Operands.Statement (.subTimeout a) := operands_of_none rfl
theorem Operands.gooseRetransmit (a : Nat) : Operands.Statement (.gooseRetransmit a) := operands_of_none rfl
theorem Operands.svSample (a : Nat) : Operands.Statement (.svSample a) := operands_of_none rfl
theorem Operands.recorderManualTrigger (a : Nat) (b : Word) : Operands.Statement (.recorderManualTrigger a b) := operands_of_host rfl fun w => w
theorem Operands.recordEnd : Operands.Statement (.recordEnd) := operands_of_none rfl
theorem Operands.recordDelivery : Operands.Statement (.recordDelivery) := operands_of_none rfl
theorem Operands.recorderVersionNegotiate (a : Nat) (b : Word) : Operands.Statement (.recorderVersionNegotiate a b) := operands_of_host rfl fun w => w
theorem Operands.sramScrub (a : Nat) (b : Nat) (c : Nat) : Operands.Statement (.sramScrub a b c) := operands_of_none rfl
theorem Operands.dramScrub (a : Nat) : Operands.Statement (.dramScrub a) := operands_of_none rfl
theorem Operands.uncorrectableError (a : Nat) (b : Nat) (c : Word) : Operands.Statement (.uncorrectableError a b c) := operands_of_none rfl
theorem Operands.complementScan (a : Nat) (b : Nat) (c : Word) (d : Word) : Operands.Statement (.complementScan a b c d) := operands_of_none rfl
theorem Operands.ciWrite (a : Nat) (b : Nat) : Operands.Statement (.ciWrite a b) := operands_of_host rfl fun w => and_left w
theorem Operands.ciApply (a : Nat) (b : Nat) : Operands.Statement (.ciApply a b) := operands_of_host rfl fun w => and_left w
theorem Operands.ciErase (a : Nat) (b : Nat) : Operands.Statement (.ciErase a b) := operands_of_host rfl fun w => and_left w
theorem Operands.ciOperationEnd (a : Bool) (b : Bool) : Operands.Statement (.ciOperationEnd a b) := operands_of_none rfl
theorem Operands.bootApply : Operands.Statement (.bootApply) := operands_of_none rfl
theorem Operands.lifecycleChange (a : Nat) (b : Nat) : Operands.Statement (.lifecycleChange a b) := operands_of_host rfl fun w => and_left w
theorem Operands.lifecycleWipeEnd : Operands.Statement (.lifecycleWipeEnd) := operands_of_none rfl
theorem Operands.auxRise (a : Bool) : Operands.Statement (.auxRise a) := operands_of_none rfl
theorem Operands.auxFall : Operands.Statement (.auxFall) := operands_of_none rfl
theorem Operands.railPowerGood (a : Nat) : Operands.Statement (.railPowerGood a) := operands_of_none rfl
theorem Operands.softStartEnd (a : Nat) (b : Bool) : Operands.Statement (.softStartEnd a b) := operands_of_none rfl
theorem Operands.coreRailPgLoss (a : Nat) : Operands.Statement (.coreRailPgLoss a) := operands_of_none rfl
theorem Operands.pgLost : Operands.Statement (.pgLost) := operands_of_none rfl
theorem Operands.railSyncValid (a : Nat) : Operands.Statement (.railSyncValid a) := operands_of_none rfl
theorem Operands.railSyncLost : Operands.Statement (.railSyncLost) := operands_of_none rfl
theorem Operands.currentLimit (a : Nat) : Operands.Statement (.currentLimit a) := operands_of_none rfl
theorem Operands.bstuv (a : Nat) : Operands.Statement (.bstuv a) := operands_of_none rfl
theorem Operands.bootstrapRecover (a : Nat) : Operands.Statement (.bootstrapRecover a) := operands_of_none rfl
theorem Operands.outputOvervoltage (a : Nat) (b : Bool) : Operands.Statement (.outputOvervoltage a b) := operands_of_none rfl
theorem Operands.driverSupplyUv (a : Nat) (b : Bool) : Operands.Statement (.driverSupplyUv a b) := operands_of_none rfl
theorem Operands.railLatch (a : Nat) (b : Nat) : Operands.Statement (.railLatch a b) := operands_of_none rfl
theorem Operands.railEnRestart : Operands.Statement (.railEnRestart) := operands_of_none rfl
theorem Operands.voltageCommand (a : Nat) (b : Nat) (c : Word) : Operands.Statement (.voltageCommand a b c) := operands_of_host rfl fun w => and_left w
theorem Operands.burstEntry (a : Nat) : Operands.Statement (.burstEntry a) := operands_of_none rfl
theorem Operands.burstExit (a : Nat) : Operands.Statement (.burstExit a) := operands_of_none rfl
theorem Operands.referenceGood (a : Nat) : Operands.Statement (.referenceGood a) := operands_of_none rfl
theorem Operands.referenceLost (a : Nat) : Operands.Statement (.referenceLost a) := operands_of_none rfl
theorem Operands.holdoverTimeout : Operands.Statement (.holdoverTimeout) := operands_of_none rfl
theorem Operands.referenceRevert : Operands.Statement (.referenceRevert) := operands_of_none rfl
theorem Operands.loopLock (a : Nat) (b : Nat) : Operands.Statement (.loopLock a b) := operands_of_none rfl
theorem Operands.loopLockLoss (a : Nat) (b : Nat) (c : Bool) : Operands.Statement (.loopLockLoss a b c) := operands_of_none rfl
theorem Operands.fabricRetryEnd (a : Bool) : Operands.Statement (.fabricRetryEnd a) := operands_of_none rfl
theorem Operands.dllLost (a : Nat) : Operands.Statement (.dllLost a) := operands_of_none rfl
theorem Operands.sentinelSample (a : BitVec 8) (b : BitVec 8) (c : BitVec 2) : Operands.Statement (.sentinelSample a b c) := operands_of_none rfl
theorem Operands.sentinelReadingChange (a : Nat) : Operands.Statement (.sentinelReadingChange a) := operands_of_none rfl
theorem Operands.alertFrameStart : Operands.Statement (.alertFrameStart) := operands_of_none rfl
theorem Operands.alertFrameAbort : Operands.Statement (.alertFrameAbort) := operands_of_none rfl
theorem Operands.alertFrameComplete : Operands.Statement (.alertFrameComplete) := operands_of_none rfl
theorem Operands.alertRetry : Operands.Statement (.alertRetry) := operands_of_none rfl
theorem Operands.aliveStamp : Operands.Statement (.aliveStamp) := operands_of_none rfl
theorem Operands.bandChange (a : Nat) : Operands.Statement (.bandChange a) := operands_of_none rfl
theorem Operands.cellCutoff (a : Bool) : Operands.Statement (.cellCutoff a) := operands_of_none rfl
theorem Operands.cellProtection (a : Nat) : Operands.Statement (.cellProtection a) := operands_of_none rfl
theorem Operands.sentinelColdStart : Operands.Statement (.sentinelColdStart) := operands_of_none rfl
theorem Operands.sentinelHandover : Operands.Statement (.sentinelHandover) := operands_of_none rfl
theorem Operands.tamperConfigWrite (a : Nat) (b : Word) : Operands.Statement (.tamperConfigWrite a b) := operands_of_host rfl fun w => w
theorem Operands.senStatRead (a : Nat) : Operands.Statement (.senStatRead a) := operands_of_host rfl fun w => w
theorem Operands.resetPin (a : Bool) : Operands.Statement (.resetPin a) := operands_of_none rfl
theorem Operands.softwareReset (a : Nat) : Operands.Statement (.softwareReset a) := operands_of_host rfl fun w => w
theorem Operands.resetRelease (a : List Nat) : Operands.Statement (.resetRelease a) := operands_of_none rfl
theorem Operands.blockReady (a : Nat) : Operands.Statement (.blockReady a) := operands_of_none rfl
theorem Operands.readinessTimeout (a : Nat) : Operands.Statement (.readinessTimeout a) := operands_of_none rfl
theorem Operands.hostLinkUp (a : Nat) : Operands.Statement (.hostLinkUp a) := operands_of_none rfl
theorem Operands.tapReset : Operands.Statement (.tapReset) := operands_of_none rfl
theorem Operands.idcode : Operands.Statement (.idcode) := operands_of_none rfl
theorem Operands.samplePreload (a : List Bool) : Operands.Statement (.samplePreload a) := operands_of_none rfl
theorem Operands.extest (a : List Bool) : Operands.Statement (.extest a) := operands_of_none rfl
theorem Operands.extestPulse (a : List Bool) : Operands.Statement (.extestPulse a) := operands_of_none rfl
theorem Operands.extestTrain (a : List Bool) : Operands.Statement (.extestTrain a) := operands_of_none rfl
theorem Operands.highz : Operands.Statement (.highz) := operands_of_none rfl
theorem Operands.clamp : Operands.Statement (.clamp) := operands_of_none rfl
theorem Operands.bypass (a : BitVec 8) : Operands.Statement (.bypass a) := operands_of_none rfl
theorem Operands.switchingCycle (a : Nat) (b : Bool) (c : Bool) (d : Bool) : Operands.Statement (.switchingCycle a b c d) := operands_of_none rfl
theorem Operands.reverseCurrentLimit (a : Nat) : Operands.Statement (.reverseCurrentLimit a) := operands_of_none rfl
theorem Operands.refDisagree (a : Int) : Operands.Statement (.refDisagree a) := operands_of_none rfl
theorem Operands.ringPortSync (a : Nat) : Operands.Statement (.ringPortSync a) := operands_of_none rfl
theorem Operands.ptpAnnounceReceive (a : Nat) (b : Nat) (c : BitVec 64) (d : BitVec 8) (e : BitVec 16) (f : Nat) : Operands.Statement (.ptpAnnounceReceive a b c d e f) := operands_of_none rfl
theorem Operands.pdelayRespReceive (a : Nat) (b : Nat) (c : Nat) : Operands.Statement (.pdelayRespReceive a b c) := operands_of_none rfl
theorem Operands.engineBoot (a : Bool) (b : Bool) : Operands.Statement (.engineBoot a b) := operands_of_none rfl
theorem Operands.imageCommandComplete (a : Bool) (b : BitVec 8) (c : BitVec 8) (d : Word) (e : BitVec 16) : Operands.Statement (.imageCommandComplete a b c d e) := operands_of_none rfl
theorem Operands.cellProtectionRelease (a : Nat) : Operands.Statement (.cellProtectionRelease a) := operands_of_none rfl
theorem Operands.analogDieFault : Operands.Statement (.analogDieFault) := operands_of_none rfl
theorem Operands.flashDieFault : Operands.Statement (.flashDieFault) := operands_of_none rfl

end Sys2Proof.Laws
end

