-- ==== Sys2Proof/Tests/Slice0.lean ====
section
/-! SUPPORT. Tests: the checks of commands, one command at a time against the manual, and for every statement with hypotheses
a state and operands that meet them, clause by clause. -/

open Sys2Proof Sys2Proof.Machine

namespace Sys2Proof.Tests

set_option Elab.async false
set_option linter.unusedVariables false

/-- A machine in SERVICE with every block ready, beats running and the angle unit locked. -/
def base : State :=
  { State.reset with
    pwr := { resetReset with ready := 0x3FFFFFF, readyT := some 1 }, modes := { modesReset with cur := .service },
    ang := { angleReset with beats := true, lock := true },
    saf := { safReset with xOk := true, yOk := true, link := true } }

/-- Host 0 holds the claim of the block of a page, and no other. -/
def own (page : Nat) (s : State) : State := { s with hosts := { s.hosts with claims := [(blockOf page, 0)] } }

/-- A value of host 0 waits in the pending holder of a register, whose block the host has claimed. -/
def held (o : Nat) (v : Word) (s : State) : State :=
  own (pageOf o) { s with hosts := { s.hosts with holder := [(o, v)] } }

/-- The device is in a mode. -/
def inMode (m : Mode) (s : State) : State := { s with modes := { s.modes with cur := m } }

/-- A word is written and in use. -/
def word (o : Nat) (v : Word) (s : State) : State :=
  { s with regs := Map.put resetWord o v s.regs, used := Map.put resetWord o v s.used }

/-- A cell as given, its entry in the cell table used. -/
def withCell (c : Nat) (w0 : Word) (x : CellLink) (s : State) : State :=
  word (A.CELL c 0) w0 { s with rings := { s.rings with cells := [(c, x)] } }

/-- An engine as given. -/
def withEngine (e : Nat) (x : Engine) (s : State) : State :=
  { s with gaf := { s.gaf with engines := s.gaf.engines.set e x } }

/-- An engine in step. -/
def serving : Engine := { engineReset with st := .active, tx := true, lead := true }

/-- The row of a register. -/
def rowOf (o : Nat) : Row := (rowAt o).getD { first := 0, mask := 0#32 }

/-- A group of the channels as given. -/
def withGroup (g : Nat) (x : Group) (s : State) : State :=
  { s with saf := { s.saf with groups := s.saf.groups.set g x } }

/-- A seal switch as given. -/
def withSeal (k : Nat) (x : Seal) (s : State) : State :=
  { s with saf := { s.saf with seals := s.saf.seals.set k x } }

/-- A tracker as given. -/
def withTracker (c : Nat) (x : Tracker) (s : State) : State := { s with bpt := { s.bpt with cells := [(c, x)] } }

/-- The values half of a profile that R266 and R267 admit: one breakpoint to a curve, nothing tripped by frequency. -/
def profileValues : List (Nat × Word) :=
  [(0, 0x10101#32), (2, 0x44C0384#32), (3, 0x41A03B6#32), (4, 0x640001#32), (5, 0x64#32), (9, 0x10001#32), (10, 20#32),
   (11, 10#32), (24, 0x10000#32), (25, 0x10000#32), (32, 500#32), (48, 1200#32), (127, 0x97d2e8a4#32)]

/-- The whole profile: the values and their complements. -/
def profileWhole : List (Nat × Word) :=
  profileValues ++ (List.range 128).map fun i => (128 + i, ~~~ Map.get (fun _ => 0#32) i profileValues)

/-- A command waits in the first CMD ring, which host 0 owns, with a CPL ring as its pair; the host's version is 2. -/
def commanded (op : Nat) (args : List Byte) (s : State) : State :=
  { s with
    hosts := { s.hosts with sel := [2, 0, 0, 0] }
    ev := { s.ev with
      holding := false
      rings := (s.ev.rings.set 0 { ringReset with en := true, pair := 1, tail := 1 }).set 1
        { ringReset with type := 1, en := true, base := 0x10000 }
      mem := memStore [] 0 (leBytes 2 op ++ leBytes 2 7 ++ [0, 0] ++ leBytes 2 args.length ++ args) } }

/-- A ring of 64 entries as given. -/
def withRing (n : Nat) (x : Ring) (s : State) : State :=
  { s with ev := { s.ev with rings := s.ev.rings.set n x, holding := false } }

/-- All four network ports are enabled and up, the first two run PTP, and a master is followed on the first. -/
def onNet (s : State) : State :=
  word A.NET_CFG 0xF#32 (word A.NET_PTP_CFG 0x300#32 { s with net := { s.net with
    link := 15, ptp := 0, masters := [some { gm := 1, cls := 6, utc := 37, rank := 0, heard := 0 }, none] } })

/-- A GOOSE frame that an entry with reset words but EN accepts. -/
def frame : GooseFrame :=
  { port := 1, source := 5, trailer := some 9, dst := 0, appid := 0, wellFormed := true, ref := [],
    sim := false, ndsCom := false, test := false, stNum := 1#32, sqNum := 0#32, tal := 10, members := [(0, [1])] }

/-- A rail channel as given. -/
def withChannel (c : Nat) (x : RailCh) (s : State) : State := { s with rail := { s.rail with ch := s.rail.ch.set c x } }


/-- Every group has a confirmation: 1 open, 2 closed. -/
def confirmedAs (conf : Nat) (s : State) : State :=
  { s with saf := { s.saf with groups := List.replicate 4 { groupReset with conf := conf } } }

/-- Five enabled slots hold the roles 1 to 4 and 0x10, two more the forming roles, and the base quantities are set. -/
def rolesSet (s : State) : State :=
  [(0, 1), (1, 2), (2, 3), (3, 4), (4, 0x10), (5, 0x20), (6, 0x21)].foldl
    (fun (s : State) p => word (A.SLOT p.1 4) (wd p.2) (word (A.SLOT p.1 0) 0x11#32 s))
    (word A.GRD_VBASE 10000#32 (word A.GRD_IBASE 100#32 (word A.GRD_CFG 0#32 s)))

/-- Every seal is known and open. -/
def sealsKnown (s : State) : State :=
  { s with saf := { s.saf with seals := List.replicate 8 { sealReset with known := true } } }

/-- The device is held by its reset pin, as boundary scan wants it, and its part is blank or not. -/
def tapBase (blank : Bool) : State :=
  { base with
    pwr := { base.pwr with sources := 2, held := true }
    lcy := { base.lcy with state := if blank then .blank else .field } }

/-- Both channels run, their link is up, no input demands a stop, and the closure is permitted. -/
def permitted (s : State) : State :=
  sealsKnown { s with saf := { s.saf with xOk := true, yOk := true, link := true } }

/-- A GOOSE frame received on a port. -/
def frameAt (p : Nat) : GooseFrame :=
  { port := p, source := 0, trailer := none, dst := 0, appid := 0, wellFormed := true, ref := [],
    sim := false, ndsCom := false, test := false, stNum := 0, sqNum := 0, tal := 0, members := [] }

/-- Each check of a command refuses a term with one operand just outside its range, the others inside. -/
theorem test_illFormed1 :
    ([.registerWrite 4 0#8 0 0#32, .registerWrite 0 0#8 0x2000000 0#32, .rwcValueWrite 4 0 0#32,
     .rwcValueWrite 0 0x2000000 0#32, .errcodeWrite 4 0 0#32, .errcodeWrite 0 0x1000 0#32, .irqStatClear 4 0 0#32,
     .irqStatClear 0 0x1000 0#32, .claim 4 0 0#24, .claim 0 0x1000 0#24, .release 4 0 0#24, .release 0 0x1000 0#24,
     .breakClaim 4 0 0#24, .breakClaim 0 0x1000 0#24, .key 4 0 0#24, .key 0 0x1000 0#24, .keyExpiry 4 0,
     .keyExpiry 0 0x1000, .modeRequestWatch 4, .modeRequestEnergize 4, .modeRequestFollow 4, .modeRequestForm 4,
     .modeRequestService 4, .holdRequest 4 0#32, .holdLatchClear 4 0#32, .scheduleEntryFire 1024, .blankWindowEnd 16,
     .scheduleEntryWrite 4 0 0 0#32, .scheduleEntryWrite 0 1024 0 0#32, .scheduleEntryWrite 0 0 4 0#32,
     .cellReport 34 (List.replicate 32 0#8) 0, .cellReport 0 (List.replicate 31 0#8) 0, .cellCharged 384,
     .cellAbsent 384, .joinStepRepeat 384, .devtimeSet 4 0#32, .ptpSyncReceive 4 0 0, .ptpSyncReceive 0 256 0,
     .angDivWrite 4 0#32, .angCfgWrite 4 0#32] : List Instr).all (fun i => !i.wellFormed) =
      true := by
  decide +kernel

/-- Each check of a command refuses a term with one operand just outside its range, the others inside. -/
theorem test_illFormed2 :
    ([.adcSwtrig 4 0#32, .sequenceDelayExpiry 16, .entryHold 16, .conversionEnd 2 0 0#16 true,
     .conversionEnd 0 10 0#16 true, .calsetLoad 4, .calsetDataWrite 4 0#32, .calsetWrite 4, .comparatorAssert 16 0,
     .comparatorRelease 16 0, .comparatorSubstitute 4 16 0#32, .comparatorSubstitute 0 18 0#32, .probeReturn 16 true 0,
     .portDown 34 0, .portDown 0 3, .portSubstitute 4 0#32, .lnkCtrlWrite 4 0 0#32, .lnkCtrlWrite 0 16 0#32,
     .cellTableWrite 4 0 0 0#32, .cellTableWrite 0 384 0 0#32, .cellTableWrite 0 0 0x100 0#32, .tripAssert 8,
     .tripClear 8, .tripSw 4 0#32, .lhbPeriodBoundary 12, .lhbCommit 4 0#32, .modulatorEvent 16, .counterClear 4 0#32,
     .forceLhb 4 0#32, .forceCell 4 0#32, .slotStagingWrite 4 0 0 0#32, .slotStagingWrite 0 1024 0 0#32,
     .slotStagingWrite 0 0 0x80 0#32, .slotCommit 4 0 0#32, .slotCommit 0 1024 0#32, .setpointWrite 4 0 0#32,
     .setpointWrite 0 1024 0#32, .loopRelease 4 0#32, .snapshotCapture 4, .snapshotRelease 4] : List Instr).all (fun i => !i.wellFormed) =
      true := by
  decide +kernel

/-- Each check of a command refuses a term with one operand just outside its range, the others inside. -/
theorem test_illFormed3 :
    ([.closeStart 4, .closeAbort 4, .grdOpen 4 0#32, .trackerPeriodEnd 384, .sweepStart 384, .sweepPointEnd 384,
     .globalSweepRequest 4 0#32, .storeDispatchWrite 4 0#32, .subFail 384, .bypassFail 384, .manualSubstitution 4 0#32,
     .profileTrip 0, .profileTrip 10, .profileLoad 4 0, .profileLoad 0 8, .profileStagingWrite 4 0 0 0#32,
     .profileStagingWrite 0 8 0 0#32, .profileStagingWrite 0 0 0x400 0#32, .profileCommit 4 0, .profileCommit 0 8,
     .profileAbandon 4 0, .profileAbandon 0 8, .passiveIslandDetect 1, .passiveIslandDetect 5, .heartbeat 2 0#32,
     .heartbeatMissing 2, .engineFault 2 0, .engineFault 0 16, .forcedSwitchover 4, .engineJoin 4 0 0,
     .engineJoin 0 2 0, .engineJoin 0 0 2, .engineReload 4 0 0, .engineReload 0 2 0, .engineReload 0 0 2,
     .engineHalt 4 0, .engineHalt 0 2, .engineOff 4 0, .engineOff 0 2, .rejoinStageEnd 2 true] : List Instr).all (fun i => !i.wellFormed) =
      true := by
  decide +kernel

/-- Each check of a command refuses a term with one operand just outside its range, the others inside. -/
theorem test_illFormed4 :
    ([.rejoinTimeout 2, .autojoin 2, .discrepancyFault 8, .channelFault 2, .groupCommand 4 0#32, .feedbackConfirm 4,
     .feedbackTimeout 4, .mirrorDisagree 4, .darkPulse 8, .darkPulseEnd 8 true true, .switchStuckOn 8, .testPulse 4,
     .crossfaultCheck 4 0#16, .sealChange 8, .sealFault 8, .envelopeCopy 2 [] 0, .envelopeUnpaired 2 0,
     .envelopeUnpaired 0 8, .networkSilent 2, .permitWindowEnd 8, .safetyAck 4, .ringEnable 4 0 0#32,
     .ringEnable 0 64 0#32, .ringDisable 4 0 0#32, .ringDisable 0 64 0#32, .cmdDoorbell 4 0 0#32,
     .cmdDoorbell 0 64 0#32, .ringHeadWrite 4 0 0#32, .ringHeadWrite 0 64 0#32, .nop 64, .read 64, .write 64,
     .writePair 64, .imageOpen 64, .imageData 64, .imageClose 64, .logRead 64, .msixDeferred 4,
     .eventWindowClose 5 0 0, .eventWindowClose 0 65536 0] : List Instr).all (fun i => !i.wellFormed) =
      true := by
  decide +kernel

/-- Each check of a command refuses a term with one operand just outside its range, the others inside. -/
theorem test_illFormed5 :
    ([.eventWindowClose 0 0 65536, .versionNegotiate 4 0#32, .hostResetRequest 4, .releaseAll 4,
     .hostPortReset 2 .hotReset, .pdelayReqSend 4, .pdelayReqAnswer 4 0, .pdelayReqAnswer 0 256, .ptpAnnounceTimeout 4,
     .prpFrameReceive 4 0 0 true, .prpFrameReceive 0 281474976710656 0 true, .prpFrameReceive 0 0 65536 true,
     .prpPath 2 true, .networkLinkChange 4 true, .gooseReceive (frameAt 4), .subTimeout 64, .gooseRetransmit 16,
     .svSample 2, .recorderManualTrigger 4 0#32, .recorderVersionNegotiate 4 0#32, .sramScrub 24 0 0,
     .sramScrub 0 4096 0, .uncorrectableError 8 0 0#32, .complementScan 5 0 0#32 0#32, .ciWrite 4 0, .ciWrite 0 8,
     .ciApply 4 0, .ciApply 0 8, .ciErase 4 0, .ciErase 0 8, .lifecycleChange 4 0, .lifecycleChange 0 4,
     .railPowerGood 4, .softStartEnd 4 true, .coreRailPgLoss 4, .currentLimit 4, .bstuv 4, .bootstrapRecover 4,
     .outputOvervoltage 4 true, .driverSupplyUv 4 true] : List Instr).all (fun i => !i.wellFormed) =
      true := by
  decide +kernel

/-- Each check of a command refuses a term with one operand just outside its range, the others inside. -/
theorem test_illFormed6 :
    ([.railLatch 4 0, .railLatch 0 16, .voltageCommand 4 0 0#32, .voltageCommand 0 4 0#32, .burstEntry 4, .burstExit 4,
     .referenceGood 2, .referenceLost 2, .loopLock 4 0, .loopLockLoss 4 0 true, .dllLost 34, .sentinelReadingChange 10,
     .cellProtection 4, .tamperConfigWrite 4 0#32, .senStatRead 4, .softwareReset 4, .blockReady 26,
     .readinessTimeout 26, .hostLinkUp 2, .bypass 7#8, .switchingCycle 4 true true true, .reverseCurrentLimit 4,
     .ringPortSync 34, .ptpAnnounceReceive 4 0 0#64 0#8 0#16 0, .ptpAnnounceReceive 0 256 0#64 0#8 0#16 0,
     .pdelayRespReceive 4 0 0, .pdelayRespReceive 0 256 0, .cellProtectionRelease 4] : List Instr).all (fun i => !i.wellFormed) =
      true := by
  decide +kernel

/-- The same commands with every operand inside. -/
theorem test_wellFormed1 :
    ([.registerWrite 0 0#8 0 0#32, .rwcValueWrite 0 0 0#32, .errcodeWrite 0 0 0#32, .irqStatClear 0 0 0#32,
     .claim 0 0 0#24, .release 0 0 0#24, .breakClaim 0 0 0#24, .key 0 0 0#24, .keyExpiry 0 0, .modeRequestWatch 0,
     .modeRequestEnergize 0, .modeRequestFollow 0, .modeRequestForm 0, .modeRequestService 0, .holdRequest 0 0#32,
     .holdLatchClear 0 0#32, .scheduleEntryFire 0, .blankWindowEnd 0, .scheduleEntryWrite 0 0 0 0#32,
     .cellReport 0 (List.replicate 32 0#8) 0, .cellCharged 0, .cellAbsent 0, .joinStepRepeat 0, .devtimeSet 0 0#32,
     .ptpSyncReceive 0 0 0, .angDivWrite 0 0#32, .angCfgWrite 0 0#32, .adcSwtrig 0 0#32, .sequenceDelayExpiry 0,
     .entryHold 0, .conversionEnd 0 0 0#16 true, .calsetLoad 0, .calsetDataWrite 0 0#32, .calsetWrite 0,
     .comparatorAssert 0 0, .comparatorRelease 0 0, .comparatorSubstitute 0 16 0#32, .probeReturn 0 true 0,
     .portDown 0 0, .portSubstitute 0 0#32] : List Instr).all (fun i => i.wellFormed) =
      true := by
  decide +kernel

/-- The same commands with every operand inside. -/
theorem test_wellFormed2 :
    ([.lnkCtrlWrite 0 0 0#32, .cellTableWrite 0 0 0 0#32, .tripAssert 0, .tripClear 0, .tripSw 0 0#32,
     .lhbPeriodBoundary 0, .lhbCommit 0 0#32, .modulatorEvent 0, .counterClear 0 0#32, .forceLhb 0 0#32,
     .forceCell 0 0#32, .slotStagingWrite 0 0 0 0#32, .slotCommit 0 0 0#32, .setpointWrite 0 0 0#32,
     .loopRelease 0 0#32, .snapshotCapture 0, .snapshotRelease 0, .closeStart 0, .closeAbort 0, .grdOpen 0 0#32,
     .trackerPeriodEnd 0, .sweepStart 0, .sweepPointEnd 0, .globalSweepRequest 0 0#32, .storeDispatchWrite 0 0#32,
     .subFail 0, .bypassFail 0, .manualSubstitution 0 0#32, .profileTrip 1, .profileLoad 0 0,
     .profileStagingWrite 0 0 0 0#32, .profileCommit 0 0, .profileAbandon 0 0, .passiveIslandDetect 2,
     .heartbeat 0 0#32, .heartbeatMissing 0, .engineFault 0 0, .forcedSwitchover 0, .engineJoin 0 0 0,
     .engineReload 0 0 0] : List Instr).all (fun i => i.wellFormed) =
      true := by
  decide +kernel

/-- The same commands with every operand inside. -/
theorem test_wellFormed3 :
    ([.engineHalt 0 0, .engineOff 0 0, .rejoinStageEnd 0 true, .rejoinTimeout 0, .autojoin 0, .discrepancyFault 0,
     .channelFault 0, .groupCommand 0 0#32, .feedbackConfirm 0, .feedbackTimeout 0, .mirrorDisagree 0, .darkPulse 0,
     .darkPulseEnd 0 true true, .switchStuckOn 0, .testPulse 0, .crossfaultCheck 0 0#16, .sealChange 0, .sealFault 0,
     .envelopeCopy 0 [] 0, .envelopeUnpaired 0 0, .networkSilent 0, .permitWindowEnd 0, .safetyAck 0,
     .ringEnable 0 0 0#32, .ringDisable 0 0 0#32, .cmdDoorbell 0 0 0#32, .ringHeadWrite 0 0 0#32, .nop 0, .read 0,
     .write 0, .writePair 0, .imageOpen 0, .imageData 0, .imageClose 0, .logRead 0, .msixDeferred 0,
     .eventWindowClose 0 0 0, .versionNegotiate 0 0#32, .hostResetRequest 0, .releaseAll 0] : List Instr).all (fun i => i.wellFormed) =
      true := by
  decide +kernel

/-- The same commands with every operand inside. -/
theorem test_wellFormed4 :
    ([.hostPortReset 0 .hotReset, .pdelayReqSend 0, .pdelayReqAnswer 0 0, .ptpAnnounceTimeout 0,
     .prpFrameReceive 0 0 0 true, .prpPath 0 true, .networkLinkChange 0 true, .gooseReceive (frameAt 3), .subTimeout 0,
     .gooseRetransmit 0, .svSample 0, .recorderManualTrigger 0 0#32, .recorderVersionNegotiate 0 0#32,
     .sramScrub 0 0 0, .uncorrectableError 0 0 0#32, .complementScan 0 0 0#32 0#32, .ciWrite 0 0, .ciApply 0 0,
     .ciErase 0 0, .lifecycleChange 0 0, .railPowerGood 0, .softStartEnd 0 true, .coreRailPgLoss 0, .currentLimit 0,
     .bstuv 0, .bootstrapRecover 0, .outputOvervoltage 0 true, .driverSupplyUv 0 true, .railLatch 0 0,
     .voltageCommand 0 0 0#32, .burstEntry 0, .burstExit 0, .referenceGood 0, .referenceLost 0, .loopLock 0 0,
     .loopLockLoss 0 0 true, .dllLost 0, .sentinelReadingChange 0, .cellProtection 0, .tamperConfigWrite 0 0#32] : List Instr).all (fun i => i.wellFormed) =
      true := by
  decide +kernel

/-- The same commands with every operand inside. -/
theorem test_wellFormed5 :
    ([.senStatRead 0, .softwareReset 0, .blockReady 0, .readinessTimeout 0, .hostLinkUp 0, .bypass 0xFF#8,
     .switchingCycle 0 true true true, .reverseCurrentLimit 0, .ringPortSync 0,
     .ptpAnnounceReceive 0 0 0#64 0#8 0#16 0, .pdelayRespReceive 0 0 0, .cellProtectionRelease 0] : List Instr).all (fun i => i.wellFormed) =
      true := by
  decide +kernel

/-! ## One command each; what is expected is the manual's, by the rule named -/

/-- What a field of the next state is. -/
def after {α : Type} (a : Answer) (f : State → α) : Option α := match a with | .next t => some (f t) | _ => none

/-- R456: the fields of IDCODE below the revision. -/
theorem test_idcode : base.idcode &&& 0x0FFFFFFF#32 = 0x0938458B#32 := by decide +kernel

/-- R348: a claim of a page that no host holds is the host's. -/
theorem test_claim : after (exec (.claim 2 0x90 0) base) (fun t => t.holderOf 0x90) = some (some 2) := by decide +kernel

/-- R46, R47: WATCH asked of a SERVICE that may be left is under way at the complement, and CUR is still SERVICE. -/
theorem test_modeRequest :
    after (exec (.modeRequestWatch 0) (held A.DEV_MODE_REQ 2#32 { base with
      lcy := { base.lcy with state := .field }, gaf := { base.gaf with served := true } }))
      (fun t => (t.modes.cur, t.modes.tgt, t.modes.trans)) = some (.service, .watch, true) := by decide +kernel

/-- R15: a complement with nothing pending. -/
theorem test_complement : ((own 0x90 base).hostWrite 0 (A.BPT_STORE_P + 4) 0#32).2 = .complementMismatch := by decide +kernel

/-- R418: the thirty-second limited cycle of VDD_IO's channel latches the rails with cause 1. -/
theorem test_thirtySecondLimit :
    after (exec (.currentLimit 2) (withChannel 2 { railChReset 3300 2 with consec := 31 } base)) (fun t => t.rail.last) =
      some (some (2, 1)) := by decide +kernel

/-- R414: with enable and pulse high the high side is on, with enable alone the low side. -/
theorem test_driver :
    after (exec (.switchingCycle 1 false true true) base) (fun t => t.railSwitches 1) = some (true, false) ∧
    after (exec (.switchingCycle 1 false false true) base) (fun t => t.railSwitches 1) = some (false, true) ∧
    after (exec (.switchingCycle 1 false true false) base) (fun t => t.railSwitches 1) = some (false, false) := by
  decide +kernel

/-- R459: a pin-driving instruction drives the pins of the outputs with the levels shifted in. -/
theorem test_scanPins :
    after (exec (.extest [true, false, false, true]) (tapBase true)) (fun t => (t.lhbPins 0, t.lhbPins 1, t.lhbPins 11)) =
      some (some (true, false), some (false, true), some (false, false)) := by decide +kernel

/-- R399: a correctable error of ring DRAM is counted up to 65,535. -/
theorem test_dramCount :
    after (exec (.dramScrub 5) { base with mem := { base.mem with dramC := 65533 } }) (fun t => t.mem.dramC) =
      some 65535 := by decide +kernel

/-! ## The hypotheses of the statements are met -/

/-- The hypotheses of HeaderAndClaimsComplete are met, clause by clause. -/
theorem witness_HeaderAndClaimsComplete :
    (let s : State := base
    let h : Nat := 3
    let page : Nat := 0xD3
    let v : Word := 5#32
    s.Canon ∧ s.live = true ∧ h < 4 ∧ listed page = true ∧ s.wiping = false ∧ s.fencedPage page = false) ∧
    (let s : State := { base with ev := { base.ev with irq := [(0x20, 3#32)] } }
    let h : Nat := 0
    let page : Nat := 0x20
    let v : Word := 1#32
    s.Canon ∧ s.live = true ∧ h < 4 ∧ listed page = true ∧ s.wiping = false ∧ s.fencedPage page = false) ∧
    (let s : State := base
    let h : Nat := 3
    let page : Nat := 0x70
    s.live = true ∧ h < 4 ∧ listed page = true ∧ s.fusedPage page = false ∧ s.holderOf page = none ∧
    s.bootApplying = false ∧ s.wiping = false) ∧
    (let s : State := own 0x70 base
    let h : Nat := 0
    let page : Nat := 0x70
    s.live = true ∧ h < 4 ∧ listed page = true ∧ s.Claimed ∧ s.owns h page = true ∧
    (¬ (0xD0 ≤ page ∧ page < 0xD4)) ∧ s.wiping = false) ∧
    (let s : State := { base with hosts := { base.hosts with claims := [(0x70, 2)] } }
    let x : Nat := 2
    let page : Nat := 0x70
    s.live = true ∧ listed page = true ∧ s.Claimed ∧ s.holderOf page = some x ∧ (¬ (0xD0 ≤ page ∧ page < 0xD4)) ∧
    s.modes.cur = .service ∧ s.wiping = false) ∧
    (let s : State := own 0x70 base
    let h : Nat := 0
    let page : Nat := 0x70
    s.live = true ∧ h < 4 ∧ listed page = true ∧ s.owns h page = true ∧ s.wiping = false) ∧
    (let s : State := { base with hosts := { base.hosts with keys := [(0x70, 5)] } }
    let h : Nat := 0
    let page : Nat := 0x70
    let u : Nat := 5
    s.live = true ∧ h < 4 ∧ page < 0x1000 ∧ Map.rising s.hosts.keys = true ∧ s.keyUntil h page = some u) := by
  refine ⟨?_, ?_, ?_, ?_, ?_, ?_, ?_⟩ <;> decide +kernel

/-- The hypotheses of RegisterWriteStoresOneWord are met, clause by clause. -/
theorem witness_RegisterWriteStoresOneWord :
    (let s : State := own 0xB8 base
    let h : Nat := 0
    let way : BitVec 8 := 0xF#8
    let o : Nat := A.GAF_CFG
    let v : Word := 0xA80003#32
    let r : Row := rowOf A.GAF_CFG
    wholeWord h way = true ∧ s.Canon ∧ o < 0x1000000 ∧ o % 4 = 0 ∧ 0x40 ≤ o % 0x1000 ∧ (rowAt o).isSome = true ∧
    r.cls = .rw ∧ actsBeside o = false ∧ r.ok v = true ∧ s.fits o v = true ∧ s.admits h (o / 0x1000) r.modes = true) ∧
    (let s : State := own 0x32 base
    let h : Nat := 0
    let way : BitVec 8 := 0xF#8
    let o : Nat := 0x32040
    let v : Word := 0#32
    let r : Row := rowOf 0x32040
    wholeWord h way = true ∧ s.Canon ∧ o < 0x1000000 ∧ o % 4 = 0 ∧ (rowAt o).isSome = true ∧ r.cls = .rw ∧
    0x32000 ≤ o ∧ o < 0x33000 ∧ r.ok v = true ∧ s.admits h (o / 0x1000) r.modes = true) ∧
    (let s : State := own 0x30 base
    let h : Nat := 0
    let q : Nat := 15
    let e : Nat := 31
    let way : BitVec 8 := 0xF#8
    let v : Word := 0x950000#32
    wholeWord h way = true ∧ s.Canon ∧ q < 16 ∧ e < 32 ∧ v &&& 0xFF000000#32 = 0#32 ∧
    entryOk (fld (s.reg (A.ADC_SEQ_CFG q)) 4 1) v = true ∧ s.admits h 0x30 mStop = true) ∧
    (let s : State := own 0x11 base
    let h : Nat := 0
    let c : Nat := 1
    let way : BitVec 8 := 0xF#8
    let v : Word := s.reg (A.RAIL_CH_CFG 1)
    let r : Row := rowOf (A.RAIL_CH_CFG 1)
    wholeWord h way = true ∧ s.Canon ∧ c < 4 ∧ (rowAt (A.RAIL_CH_CFG c)).isSome = true ∧ r.ok v = true ∧
    ((c = 1 → fld v 0 2 = s.phaseOf 1 ∧ fld v 8 8 = fld (s.chCfg 0) 8 8)) ∧ s.admits h 0x11 r.modes = true) ∧
    (let s : State := own 0xF8 base
    let h : Nat := 0
    let way : BitVec 8 := 0xF#8
    let v : Word := 0xF#32
    let r : Row := rowOf A.MEM_CI_BOOT
    wholeWord h way = true ∧ s.Canon ∧ (rowAt A.MEM_CI_BOOT).isSome = true ∧ r.ok v = true ∧
    s.admits h 0xF8 r.modes = true) ∧
    (let s : State := own 0xE0 base
    let h : Nat := 0
    let n : Nat := 63
    let b : Nat := 16
    let way : BitVec 8 := 0xF#8
    let v : Word := 5#32
    let r : Row := rowOf (A.NET_SUB 63 16)
    wholeWord h way = true ∧ s.Canon ∧ n < 64 ∧ (b = 0 ∨ b = 4 ∨ b = 16) ∧ (rowAt (A.NET_SUB n b)).isSome = true ∧
    s.admits h 0xE0 r.modes = true ∧ firstOf (s.subChecks n b v r.mask) = .ok) ∧
    (let s : State := own 0x31 base
    let h : Nat := 0
    let n : Nat := 63
    let way : BitVec 8 := 0xF#8
    let v : Word := 0x7FFF8000#32
    let r : Row := rowOf (A.ADC_WMON_CFG 0 + 252)
    wholeWord h way = true ∧ s.Canon ∧ n < 64 ∧ (rowAt (A.ADC_WMON_CFG 0 + 4 * n)).isSome = true ∧ r.ok v = true ∧
    ((n % 2 = 0 → fld v 4 5 ≤ lastEntry (fld (s.reg (A.ADC_SEQ_CFG (fld v 0 4))) 4 1) ((List.range 32).map fun e => s.reg (A.ADC_GATHER (fld v 0 4) e)))) ∧
    s.admits h 0x31 r.modes = true) ∧
    (let s : State := own 1 { base with lcy := { base.lcy with state := .blank } }
    let h : Nat := 0
    let i : Nat := 11
    let way : BitVec 8 := 0xF#8
    let v : Word := 5#32
    let d : Word := 0#32
    let r : Row := rowOf (A.LCY_KEYHASH 11)
    wholeWord h way = true ∧ s.Canon ∧ 1 ≤ i ∧ i < 12 ∧ (rowAt (A.LCY_KEYHASH i)).isSome = true ∧
    s.lcy.state = .blank ∧ s.admits h 1 r.modes = true) ∧
    (let s : State := own 1 { base with lcy := { base.lcy with state := .blank } }
    let h : Nat := 0
    let way : BitVec 8 := 0xF#8
    let v : Word := 5#32
    let r : Row := rowOf (A.LCY_KEYHASH 0)
    wholeWord h way = true ∧ s.Canon ∧ (rowAt (A.LCY_KEYHASH 0)).isSome = true ∧ s.lcy.state = .blank ∧
    s.admits h 1 r.modes = true) ∧
    (let s : State := own 0xE0 base
    let h : Nat := 0
    let o : Nat := A.NET_PUB 15 12
    let way : BitVec 8 := 0xF#8
    let v : Word := 5#32
    let d : Word := 0#32
    let r : Row := rowOf (A.NET_PUB 15 12)
    wholeWord h way = true ∧ s.Canon ∧ 0xE0000 ≤ o ∧ o < A.NET_SUB 0 0 ∧ dstHigh o = true ∧
    (rowAt o).isSome = true ∧ r.ok v = true ∧ s.fits o v = true ∧ s.admits h 0xE0 r.modes = true) ∧
    (let s : State := own 0xE0 base
    let h : Nat := 0
    let o : Nat := A.NET_SV 1 8
    let way : BitVec 8 := 0xF#8
    let v : Word := 5#32
    let r : Row := rowOf (A.NET_SV 1 8)
    wholeWord h way = true ∧ s.Canon ∧ 0xE0000 ≤ o ∧ o < A.NET_SUB 0 0 ∧ dstHigh (o + 4) = true ∧
    (rowAt o).isSome = true ∧ r.ok v = true ∧ s.fits o v = true ∧ s.admits h 0xE0 r.modes = true) ∧
    (let s : State := own 0xE0 base
    let h : Nat := 0
    let way : BitVec 8 := 0xF#8
    let v : Word := 5#32
    let d : Word := 0#32
    wholeWord h way = true ∧ s.Canon ∧ s.admits h 0xE0 mStop = true) ∧
    (let s : State := own 0xE0 base
    let h : Nat := 0
    let way : BitVec 8 := 0xF#8
    let v : Word := 5#32
    wholeWord h way = true ∧ s.Canon ∧ s.admits h 0xE0 mStop = true) ∧
    (let s : State := own 0x90 base
    let h : Nat := 0
    let o : Nat := A.BPT_STORE_P
    let v : Word := 1#32
    let r : Row := rowOf A.BPT_STORE_P
    o < 0x1000000 ∧ o % 4 = 0 ∧ 0x40 ≤ o % 0x1000 ∧ (rowAt o).isSome = true ∧ r.cls = .rwc ∧ r.ok v = true ∧
    v &&& ~~~ r.mask = 0#32 ∧ s.fusedPage (o / 0x1000) = false ∧ s.live = true ∧ h < 4 ∧
    s.owns h (o / 0x1000) = true ∧ s.wiping = false) ∧
    (let s : State := held A.GAF_BOOT 0#32 { base with gaf := { base.gaf with slots := [{ slotErased with signed := true, format := 1 }] } }
    let h : Nat := 0
    let way : BitVec 8 := 0xF#8
    let o : Nat := A.GAF_BOOT
    let v : Word := 0#32
    let r : Row := rowOf A.GAF_BOOT
    wholeWord h way = true ∧ s.Canon ∧ (rowAt o).isSome = true ∧ r.cls = .rwc ∧ storesPair o = true ∧
    s.admits h (o / 0x1000) r.modes = true ∧ s.pendingOf h o = some v ∧ s.pairFits o v = true) ∧
    (let s : State := held A.GRD_PLIM 5#32 (inMode .ride base)
    let h : Nat := 0
    let way : BitVec 8 := 0xF#8
    let o : Nat := A.GRD_PLIM
    let v : Word := 5#32
    let r : Row := rowOf A.GRD_PLIM
    wholeWord h way = true ∧ s.Canon ∧ (rowAt o).isSome = true ∧ r.cls = .rwc ∧ storesSet o = true ∧
    s.admits h (o / 0x1000) r.modes = true ∧ s.pendingOf h o = some v) ∧
    (let s : State := held A.GRD_PLIM 5#32 base
    let h : Nat := 0
    let way : BitVec 8 := 0xF#8
    let o : Nat := A.GRD_PLIM
    let v : Word := 5#32
    let vn : Word := 5#32
    let r : Row := rowOf A.GRD_PLIM
    wholeWord h way = true ∧ s.live = true ∧ h < 4 ∧ (rowAt o).isSome = true ∧ r.cls = .rwc ∧
    s.pendingOf h o = some v ∧ vn ≠ ~~~ v ∧ s.fusedPage (o / 0x1000) = false) ∧
    (let s : State := own 0x50 base
    let h : Nat := 0
    let c : Nat := 383
    let v : Word := 5#32
    s.Canon ∧ c < s.part.cells ∧ c < 384 ∧ s.admits h 0x50 mStop = true ∧ s.cellEntryOk c 12 v = true) ∧
    (let s : State := own 0x50 base
    let h : Nat := 0
    let c : Nat := 383
    let v : Word := 5#32
    s.Canon ∧ c < 384 ∧ s.admits h 0x50 mStop = true ∧ s.cellEntryOk c 8 v = true) := by
  refine ⟨?_, ?_, ?_, ?_, ?_, ?_, ?_, ?_, ?_, ?_, ?_, ?_, ?_, ?_, ?_, ?_, ?_, ?_, ?_⟩ <;> decide +kernel

/-- The hypotheses of ModesAndHoldFollowRequests are met, clause by clause. -/
theorem witness_ModesAndHoldFollowRequests :
    (let s : State := held A.DEV_MODE_REQ 2#32 { base with lcy := { base.lcy with state := .field }, gaf := { base.gaf with served := true } }
    let h : Nat := 0
    s.asksFor h .watch = true ∧ s.modes.cur ≠ .energize ∧ s.modes.cur ≠ .follow ∧ s.modes.cur ≠ .form) ∧
    (let s : State := inMode .energize (held A.DEV_MODE_REQ 2#32 base)
    let h : Nat := 0
    s.asksFor h .watch = true ∧ s.modes.cur = .energize) ∧
    (let s : State := inMode .form (held A.DEV_MODE_REQ 2#32 base)
    let h : Nat := 0
    s.asksFor h .watch = true ∧ ((s.modes.cur = .follow ∨ s.modes.cur = .form)) ∧ s.grd.stop ≠ .main ∧
    s.grd.stop ≠ .series) ∧
    (let s : State := inMode .watch (held A.DEV_MODE_REQ 3#32 (sealsKnown (confirmedAs 1 (rolesSet { base with rti := { base.rti with act := some 0 } }))))
    let h : Nat := 0
    s.asksFor h .energize = true) ∧
    (let s : State := inMode .energize (held A.DEV_MODE_REQ 4#32 (confirmedAs 2 base))
    let h : Nat := 0
    s.asksFor h .follow = true ∧ s.modes.cur ≠ .form) ∧
    (let s : State := inMode .form (held A.DEV_MODE_REQ 4#32 base)
    let h : Nat := 0
    s.asksFor h .follow = true ∧ s.modes.cur = .form) ∧
    (let s : State := inMode .energize (held A.DEV_MODE_REQ 5#32 (confirmedAs 2 (rolesSet base)))
    let h : Nat := 0
    s.asksFor h .form = true ∧ s.modes.cur ≠ .follow) ∧
    (let s : State := inMode .follow (held A.DEV_MODE_REQ 5#32 (rolesSet base))
    let h : Nat := 0
    s.asksFor h .form = true ∧ s.modes.cur = .follow) ∧
    (let s : State := inMode .watch (held A.DEV_MODE_REQ 8#32 (confirmedAs 1 base))
    let h : Nat := 0
    s.asksFor h .service = true) ∧
    (let s : State := inMode .follow base
    let h : Nat := 3
    s.live = true ∧ h < 4 ∧ s.wiping = false ∧ s.modes.cur ≠ .hold ∧ s.modes.cond.testBit cHost = false ∧
    s.modes.latch.testBit cHost = false) ∧
    (let s : State := own 0 { base with modes := { base.modes with latch := 6, cond := 2 } }
    let h : Nat := 0
    let v : Word := 7#32
    s.live = true ∧ h < 4 ∧ s.owns h 0 = true ∧ s.wiping = false) := by
  refine ⟨?_, ?_, ?_, ?_, ?_, ?_, ?_, ?_, ?_, ?_, ?_⟩ <;> decide +kernel

/-- The hypotheses of BeatStartAdvancesTheBeat are met, clause by clause. -/
theorem witness_BeatStartAdvancesTheBeat :
    (let s : State := base
    s.live = true ∧ s.ang.beats = true) ∧
    (let s : State := { base with ang := { base.ang with divPend := true, idx := 399 } }
    s.live = true ∧ s.ang.beats = true ∧ s.ang.divPend = true ∧ s.ang.div ≤ s.ang.idx + 1 ∧ A.ANG_DIV ∉ s.rideWait) := by
  refine ⟨?_, ?_⟩ <;> decide +kernel

/-- The hypotheses of ScheduleEntriesAct are met, clause by clause. -/
theorem witness_ScheduleEntriesAct :
    (let s : State := word (A.SCHED 1023 12) 1#32 (word (A.SCHED 1023 8) 0x1FE#32 base)
    let n : Nat := 1023
    s.live = true ∧ s.fires n = true ∧ n ∉ s.ang.fired ∧ schedAction (s.ureg (A.SCHED n 4)) ≠ 1) ∧
    (let s : State := word (A.SCHED 1023 12) 1#32 (word (A.SCHED 1023 8) 0x1FE#32 (word (A.SCHED 1023 4) 1#32 base))
    let n : Nat := 1023
    s.live = true ∧ s.fires n = true ∧ n ∉ s.ang.fired ∧ schedAction (s.ureg (A.SCHED n 4)) = 1 ∧
    s.adc.seqs.length = 16) ∧
    (let s : State := { base with adc := { base.adc with blank := [(3, 7)] } }
    let n : Nat := 3
    let p : Nat × Nat := (3, 7)
    s.live = true ∧ Map.rising s.adc.blank = true ∧ s.adc.blank.find? (fun p => p.1 == n) = some p) ∧
    (let s : State := own 0x20 base
    let h : Nat := 0
    let n : Nat := 1023
    let w : Nat := 3
    let v : Word := 0#32
    s.Canon ∧ n < 1024 ∧ w < 4 ∧ s.admits h 0x20 mStop = true ∧ s.schedOk n (4 * w) v = true) := by
  refine ⟨?_, ?_, ?_, ?_⟩ <;> decide +kernel

/-- The hypotheses of BeatRunsItsCourse are met, clause by clause. -/
theorem witness_BeatRunsItsCourse :
    (let s : State := base
    s.live = true ∧ s.ang.beats = true ∧ s.rings.cutoff = false) ∧
    (let s : State := withEngine 0 serving base
    s.live = true ∧ s.ang.beats = true ∧ s.computing = true ∧ s.loop.done = false ∧ s.reportsIn = true) ∧
    (let s : State := { base with loop := { base.loop with done := true, handed := true } }
    s.live = true ∧ s.ang.beats = true ∧ s.loop.handed = true ∧ s.loop.copied = false) ∧
    (let s : State := withEngine 0 serving base
    let a : Bool := true
    let b : Bool := false
    s.live = true ∧ s.ang.beats = true ∧ (s.engine 0).consec = 0 ∧ (s.engine 1).consec = 0) ∧
    (let s : State := withEngine 0 { serving with consec := 1 } { base with gaf := { base.gaf with engines := [engineReset, engineReset] } }
    let e : Nat := 0
    let a : Bool := true
    let b : Bool := false
    s.live = true ∧ s.ang.beats = true ∧ e < 2 ∧ s.gaf.engines.length = 2 ∧ (s.engine e).inStep = true ∧
    (s.engine e).flag = false ∧ (s.engine e).mute = false ∧ (s.engine e).cut = false ∧ 1 ≤ (s.engine e).consec ∧
    (if e = 0 then a else b) = true ∧ (if e = 0 then b else a) = false) := by
  refine ⟨?_, ?_, ?_, ?_, ?_⟩ <;> decide +kernel

/-- The hypotheses of CellsReportAndJoin are met, clause by clause. -/
theorem witness_CellsReportAndJoin :
    (let s : State := word (A.LNK 0 A.LNK_CTRL) 1#32 (withCell 0 0x80000000#32 { cellLinkReset with st := .linked } base)
    let p : Nat := 0
    let c : Nat := 0
    let n : Nat := 3
    let b : List Byte := [129, 0, 0, 0, 0, 0, 0, 0, 0, 0, 0, 0, 0, 0, 0, 0, 0, 0, 0, 0, 0, 0, 0, 0, 255, 255, 255, 255, 53, 177, 91, 205]
    s.live = true ∧ p < 34 ∧ s.serves p < 32 ∧ s.Canon ∧ s.ringEn (s.serves p / 2) = true ∧
    ((s.ringCells (s.serves p / 2)).find? fun d => s.cellPos d == byteFld b 1 1) = some c) ∧
    (let s : State := withCell 383 0x80000000#32 { cellLinkReset with st := .linked, charged := 16 } base
    let c : Nat := 383
    s.live = true ∧ s.Canon ∧ s.chargedDue c = true) ∧
    (let s : State := withCell 383 0x80000000#32 { cellLinkReset with st := .linked, known := true, run := 3 } base
    let c : Nat := 383
    s.live = true ∧ s.Canon ∧ (s.cell c).known = true ∧ 3 ≤ (s.cell c).run) ∧
    (let s : State := word (A.LNK 0 A.LNK_CTRL) 1#32 (withCell 0 0x80000000#32 { cellLinkReset with st := .linked, join := .offer, joinAge := 16 } { base with rings := { base.rings with cutoff := true } })
    let c : Nat := 0
    s.live = true ∧ s.Canon ∧ s.joinStale c = true) := by
  refine ⟨?_, ?_, ?_, ?_⟩ <;> decide +kernel

/-- The hypotheses of TableWritesStore are met, clause by clause. -/
theorem witness_TableWritesStore :
    (let s : State := own 0x50 base
    let h : Nat := 0
    let c : Nat := 383
    let b : Nat := 0
    let v : Word := 0#32
    s.Canon ∧ c < 384 ∧ b < 0x100 ∧ b % 4 = 0 ∧ cellRo b = false ∧ b ≠ 8 ∧ b ≠ 12 ∧ s.admits h 0x50 mStop = true ∧
    s.cellEntryOk c b v = true ∧
    ((s.returns c b v = true → s.unseen c = false ∧ s.strange c = false ∧ s.cellFailed c = false))) ∧
    (let s : State := { base with part := { base.part with cells := 192 } }
    let h : Nat := 3
    let c : Nat := 383
    let b : Nat := 0xFC
    let v : Word := 0#32
    s.live = true ∧ h < 4 ∧ c < 384 ∧ s.part.cells ≤ c ∧ b < 0x100 ∧ b % 4 = 0) ∧
    (let s : State := { base with part := { base.part with cells := 192 } }
    let h : Nat := 3
    let c : Nat := 0
    let b : Nat := 0
    let v : Word := 0x800F0000#32
    s.live = true ∧ h < 4 ∧ c < 384 ∧ b < 0x100 ∧ b % 4 = 0 ∧ cellRo b = false ∧
    bitAt (s.entryWith c b v 0) 31 = true ∧ s.present (fld (s.entryWith c b v 0) 16 4) = false) ∧
    (let s : State := base
    let h : Nat := 0
    let c : Nat := 383
    let b : Nat := 0xFC
    let v : Word := 5#32
    s.live = true ∧ h < 4 ∧ c < 384 ∧ b < 0x100 ∧ b % 4 = 0 ∧ cellRo b = true) := by
  refine ⟨?_, ?_, ?_, ?_⟩ <;> decide +kernel

/-- The hypotheses of DevtimeIsDisciplined are met, clause by clause. -/
theorem witness_DevtimeIsDisciplined :
    (let s : State := own 0x20 (word A.DEVTIME_CFG 0#32 base)
    let h : Nat := 0
    let v : Word := 0xFFFFFFFF#32
    s.admits h 0x20 mStop = true ∧ bitAt (s.reg A.DEVTIME_CFG) 0 = false ∧ s.clock.step = none ∧
    s.switchingSoon = false) ∧
    (let s : State := word A.DEVTIME_CFG 1#32 (word A.NET_CFG 1#32 (word A.NET_PTP_CFG 0x100#32 { base with net := { base.net with link := 1, ptp := 3, masters := [some { gm := 1, cls := 6, utc := 37, rank := 0, heard := 0 }, none] } }))
    let p : Nat := 0
    let d : Nat := 0
    let ofs : Int := 100
    s.live = true ∧ p < 4 ∧ s.ptpBest = some p ∧ s.ptpTakes p d = true ∧ bitAt (s.ureg A.DEVTIME_CFG) 0 = true ∧
    s.clock.step = none) ∧
    (let s : State := word A.DEVTIME_CFG 1#32 { base with net := { base.net with syncAt := some 5 } }
    let a : Nat := 5
    s.live = true ∧ s.net.syncAt = some a ∧ bitAt (s.ureg A.DEVTIME_CFG) 0 = true) ∧
    (let s : State := word A.DEVTIME_CFG 0#32 { base with net := { base.net with syncAt := some 5 } }
    s.live = true ∧ bitAt (s.ureg A.DEVTIME_CFG) 0 = false) := by
  refine ⟨?_, ?_, ?_, ?_⟩ <;> decide +kernel

/-- The hypotheses of AngleUnitFollowsItsInputs are met, clause by clause. -/
theorem witness_AngleUnitFollowsItsInputs :
    (let s : State := { base with ang := { base.ang with lock := false, lockRun := 255 } }
    s.live = true ∧ s.lockDue = true) ∧
    (let s : State := { base with ang := { base.ang with lossRun := 2 } }
    s.live = true ∧ s.lossDue = true) ∧
    (let s : State := word A.ANG_FLY 0x0BB80019#32 { base with ang := { base.ang with ever := true, dOk := true } }
    s.live = true ∧ s.flyDue = true) ∧
    (let s : State := { base with ang := { base.ang with fly := true, flyOk := 200 } }
    s.live = true ∧ s.flyEndDue = true) ∧
    (let s : State := word A.ANG_LOCK 0x320AE1#32 { base with ang := { base.ang with slew := true } }
    s.live = true ∧ s.slewEndDue = true) ∧
    (let s : State := own 0x20 base
    let h : Nat := 0
    let v : Word := 400#32
    let r : Row := rowOf A.ANG_DIV
    s.Canon ∧ (rowAt A.ANG_DIV).isSome = true ∧ r.ok v = true ∧ s.admits h 0x20 r.modes = true ∧
    s.bandFits (fld v 0 11) (fld (s.reg A.ANG_FBAND) 0 16) (fld (s.reg A.ANG_FBAND) 16 16) = true ∧
    4 * fld (s.reg A.MOD_CFG) 0 6 ≤ fld v 0 11) ∧
    (let s : State := own 0x20 base
    let h : Nat := 0
    let v : Word := resetWord A.ANG_CFG
    let r : Row := rowOf A.ANG_CFG
    s.Canon ∧ (rowAt A.ANG_CFG).isSome = true ∧ r.ok v = true ∧ s.admits h 0x20 r.modes = true ∧
    ((bitAt v 0 = bitAt (s.reg A.ANG_CFG) 0 ∨ s.bandFits (fld (s.reg A.ANG_DIV) 0 11) (if bitAt v 0 then 5400 else 4500) (if bitAt v 0 then 6600 else 5500) = true))) := by
  refine ⟨?_, ?_, ?_, ?_, ?_, ?_, ?_⟩ <;> decide +kernel

/-- The hypotheses of GatherSequencesDeliver are met, clause by clause. -/
theorem witness_GatherSequencesDeliver :
    (let s : State := own 0x30 (word (A.ADC_SEQ_CFG 15) 0x8200#32 base)
    let h : Nat := 0
    let q : Nat := 15
    let r : Row := rowOf A.ADC_SWTRIG
    q < 16 ∧ s.adc.seqs.length = 16 ∧ (rowAt A.ADC_SWTRIG).isSome = true ∧ s.admits h 0x30 r.modes = true ∧
    bitAt (s.ureg (A.ADC_SEQ_CFG q)) 15 = true ∧ fld (s.ureg (A.ADC_SEQ_CFG q)) 8 2 = 2 ∧
    runEntries (fld (s.ureg (A.ADC_SEQ_CFG q)) 4 1) (s.seqEntries q) ≠ []) ∧
    (let s : State := { base with adc := { base.adc with seqs := base.adc.seqs.set 15 { seqReset with phase := .delay, cfg := 0x13#32, due := 7 } } }
    let q : Nat := 15
    s.live = true ∧ q < 16 ∧ s.adc.seqs.length = 16 ∧ s.adc.slots.length = 20 ∧ (s.seq q).phase = .delay ∧
    seqSlot (s.seq q).cfg < 20) ∧
    (let s : State := { base with adc := { base.adc with seqs := base.adc.seqs.set 15 { seqReset with phase := .running, cfg := 0x13#32, entries := List.replicate 32 0#32, next := 2 }, slots := base.adc.slots.set 13 { slice := 3, acq := some (15, 2, 9), conv := none, lastChan := none } } }
    let q : Nat := 15
    let k : Nat := 13
    let e : Nat := 2
    let d : Nat := 9
    s.live = true ∧ q < 16 ∧ s.adc.seqs.length = 16 ∧ s.adc.slots.length = 20 ∧ s.acquiring q = some (k, e, d) ∧
    (s.seq q).phase = .running ∧ seqSlot (s.seq q).cfg = k) ∧
    (let s : State := { base with adc := { base.adc with slots := base.adc.slots.set 19 { slice := 9, acq := none, conv := some { seq := 3, entry := 31, word := 0#32, slice := 9, newChan := false, newGain := false, short := false, inj := false, last := true, ends := 5 }, lastChan := none } } }
    let b : Nat := 1
    let k : Nat := 9
    let raw : BitVec 16 := 0x8000#16
    let ov : Bool := false
    let c : Conv := { seq := 3, entry := 31, word := 0#32, slice := 9, newChan := false, newGain := false, short := false, inj := false, last := true, ends := 5 }
    s.live = true ∧ b < 2 ∧ k < 10 ∧ s.adc.slots.length = 20 ∧ (s.svc (10 * b + k)).conv = some c) ∧
    (let s : State := { base with adc := { base.adc with flight := [{ seq := 15, entry := 31, word := 7#32, due := 3, last := true, gain := 1 }] } }
    let d : Delivery := { seq := 15, entry := 31, word := 7#32, due := 3, last := true, gain := 1 }
    let l : List Delivery := []
    s.live = true ∧ s.adc.flight = d :: l ∧ Map.rising s.adc.results = true) := by
  refine ⟨?_, ?_, ?_, ?_, ?_⟩ <;> decide +kernel

set_option maxRecDepth 1000000 in
/-- The hypotheses of CalibrationRuns are met, clause by clause. -/
theorem witness_CalibrationRuns :
    (let s : State := { base with adc := { base.adc with rotSlot := 19 } }
    s.live = true ∧ s.ready 6 = true ∧ s.adc.rot = .idle ∧ s.adc.slices.length = 24 ∧ s.adc.nocal.length = 2 ∧
    s.adc.rotSlot < 20) ∧
    (let s : State := { base with adc := { base.adc with rot := .spareCal, rotSpare := 23 } }
    let offset : Int := -64
    let gain : Int := 5242
    s.live = true ∧ s.adc.rot = .spareCal ∧ absI offset ≤ 64 ∧ 200 * absI gain ≤ 1048576) ∧
    (let s : State := { base with adc := { base.adc with rot := .spareCal, rotSpare := 23 } }
    let offset : Int := 65
    let gain : Int := 0
    let converged : Bool := true
    s.live = true ∧ s.adc.rot = .spareCal ∧ s.adc.slices.length = 24 ∧ s.adc.rotSpare < 24 ∧
    ((64 < absI offset ∨ 1048576 < 200 * absI gain ∨ converged = false))) ∧
    (let s : State := { base with adc := { base.adc with rot := .takeOver, rotSpare := 23, rotSlot := 19 } }
    s.live = true ∧ s.adc.rot = .takeOver ∧ s.slotFree s.adc.rotSlot = true ∧ s.adc.slots.length = 20 ∧
    s.adc.rotSlot < 20) ∧
    (let s : State := { base with adc := { base.adc with rot := .takeBack, rotSpare := 23, rotSlot := 19 } }
    s.live = true ∧ s.adc.rot = .takeBack ∧ s.slotFree s.adc.rotSlot = true ∧ s.adc.slots.length = 20 ∧
    s.adc.rotSlot < 20 ∧ s.adc.slices.length = 24 ∧ s.adc.rotSpare < 24) ∧
    (let s : State := { base with adc := { base.adc with rot := .takeOver, rotSpare := 23, rotSlot := 0, seqs := base.adc.seqs.set 0 { seqReset with phase := .running } } }
    s.live = true ∧ s.adc.rot = .takeOver ∧ s.slotFree s.adc.rotSlot = false ∧ s.adc.slices.length = 24 ∧
    s.adc.rotSpare < 24) ∧
    (let s : State := { base with adc := { base.adc with rot := .takeBack, rotSpare := 23, rotSlot := 0, seqs := base.adc.seqs.set 0 { seqReset with phase := .running } } }
    s.live = true ∧ s.adc.rot = .takeBack ∧ s.slotFree s.adc.rotSlot = false) ∧
    (let s : State := { base with adc := { base.adc with rot := .sliceCal, rotSpare := 23, rotOwn := 9 } }
    let offset : Int := 64
    let gain : Int := -5242
    s.live = true ∧ s.adc.rot = .sliceCal ∧ absI offset ≤ 64 ∧ 200 * absI gain ≤ 1048576) ∧
    (let s : State := { base with adc := { base.adc with rot := .sliceCal, rotSpare := 23, rotOwn := 9 } }
    let offset : Int := 0
    let gain : Int := 0
    let converged : Bool := false
    s.live = true ∧ s.adc.rot = .sliceCal ∧ s.adc.slices.length = 24 ∧ s.adc.rotSpare < 24 ∧ s.adc.rotOwn < 24 ∧
    s.adc.rotSpare ≠ s.adc.rotOwn ∧ ((64 < absI offset ∨ 1048576 < 200 * absI gain ∨ converged = false))) ∧
    (let s : State := held A.ADC_CALSET_CMD 1#32 base
    let h : Nat := 0
    s.Canon ∧ s.pends h A.ADC_CALSET_CMD mService 1#32 = true ∧ s.adc.calsetBusy = false) ∧
    (let s : State := own 0x31 (word A.ADC_CALSET_IDX 1023#32 base)
    let h : Nat := 0
    let v : Word := 9#32
    s.Canon ∧ Map.rising s.adc.staging = true ∧ s.admits h 0x31 mService = true) ∧
    (let s : State := held A.ADC_CALSET_CMD 2#32 { base with adc := { base.adc with staging := [(0, 1#32), (1, 2#32), (1023, 0xA246E81D#32)] } }
    let h : Nat := 0
    s.Canon ∧ s.pends h A.ADC_CALSET_CMD mService 2#32 = true ∧ s.adc.calsetBusy = false ∧
    s.mem.flashFail = false ∧ calsetOk s.adc.staging = true) ∧
    (let s : State := { base with adc := { base.adc with calsetBusy := true } }
    s.live = true ∧ s.adc.calsetBusy = true) := by
  refine ⟨?_, ?_, ?_, ?_, ?_, ?_, ?_, ?_, ?_, ?_, ?_, ?_, ?_⟩ <;> decide +kernel

/-- The hypotheses of ComparatorsFollow are met, clause by clause. -/
theorem witness_ComparatorsFollow :
    (let s : State := word (A.CMP_CFG 15) 0x80000000#32 base
    let n : Nat := 15
    let uv : Int := 1000000
    s.live = true ∧ s.ready 7 = true ∧ n < 16) ∧
    (let s : State := word (A.CMP_CFG 15) 0x80000000#32 { base with adc := { base.adc with cmpRaw := 0x8000 } }
    let n : Nat := 15
    let uv : Int := -3000000
    s.live = true ∧ s.ready 7 = true ∧ n < 16) ∧
    (let s : State := inMode .watch (word A.CMP_CFG_G 1#32 base)
    let live : Bool := true
    s.live = true ∧ s.ready 7 = true ∧ s.sampled = true ∧ s.adc.cmpLive = !live) ∧
    (let s : State := held A.CMP_SUB17 0x1F#32 base
    let h : Nat := 0
    let v : Word := 0x1F#32
    let k : Nat := 17
    let o : Nat := A.CMP_SUB17
    let o' : Nat := A.CMP_SUB16
    ((k = 16 ∧ o = A.CMP_SUB16 ∧ o' = A.CMP_SUB17) ∨ (k = 17 ∧ o = A.CMP_SUB17 ∧ o' = A.CMP_SUB16)) ∧ s.Canon ∧
    s.pends h o mService v = true ∧ (fld v 0 5 = 0x1F ∨ fld (s.reg o') 0 5 ≠ fld v 0 5)) := by
  refine ⟨?_, ?_, ?_, ?_⟩ <;> decide +kernel

/-- The hypotheses of RingPortsServeRings are met, clause by clause. -/
theorem witness_RingPortsServeRings :
    (let s : State := word (A.LNK 15 A.LNK_CTRL) 1#32 base
    let k : Nat := 15
    let d : Nat := 100
    s.live = true ∧ s.probing k = true ∧ s.rings.rings.length = 16) ∧
    (let s : State := { base with rings := { base.rings with ports := base.rings.ports.set 33 { portReset 0x3F with sync := true } } }
    let p : Nat := 33
    let x : Nat := 2
    s.live = true ∧ s.Canon ∧ p < 34 ∧ x < 3 ∧ s.rings.ports.length = 34 ∧ s.rings.rings.length = 16) ∧
    (let s : State := base
    let p : Nat := 33
    s.live = true ∧ p < 34 ∧ s.rings.ports.length = 34 ∧ (s.port p).sync = false) ∧
    (let s : State := held A.LNKC_SUB 0x1F#32 (word A.LNKC_SUB_SEL 0x21#32 base)
    let h : Nat := 0
    let v : Word := 0x1F#32
    s.pends h A.LNKC_SUB mService v = true ∧ s.rings.ports.length = 34 ∧
    let p := fld (s.reg A.LNKC_SUB_SEL) 0 6
    let r := fld v 0 6
    s.sparePort p = true ∧
    p < 34 ∧ ((r = 0x3F ∨ (r < 0x20 ∧ s.sparePort r = false ∧ ∀ q, q < 34 → q ≠ p → q ≠ r → s.serves q ≠ r)))) ∧
    (let s : State := own 0x4F base
    let h : Nat := 0
    let k : Nat := 15
    let v : Word := 0x11#32
    let r : Row := rowOf (A.LNK 15 A.LNK_CTRL)
    s.Canon ∧ k < 16 ∧ (rowAt (A.LNK k A.LNK_CTRL)).isSome = true ∧ r.ok v = true ∧
    s.admits h (0x40 + k) r.modes = true ∧
    ((bitAt v 0 = true ∨ (s.ringCells k).all (fun c => (s.cell c).st != .active) = true)) ∧
    s.rings.ports.length = 34) := by
  refine ⟨?_, ?_, ?_, ?_, ?_⟩ <;> decide +kernel

/-- The hypotheses of TripLinesCut are met, clause by clause. -/
theorem witness_TripLinesCut :
    (let s : State := word A.MOD_TRIP_SW 0x80#32 base
    let l : Nat := 7
    s.live = true ∧ s.Canon ∧ s.rings.rings.length = 16 ∧ s.modu.lhb.length = 12 ∧ s.lineRaw l = true ∧
    s.lineOn l = false) ∧
    (let s : State := { base with modu := { base.modu with lines := 128 } }
    let l : Nat := 7
    s.live = true ∧ l < 8 ∧ s.lineRaw l = false ∧ s.lineOn l = true) ∧
    (let s : State := held A.MOD_TRIP_SW 0x80#32 base
    let h : Nat := 0
    let v : Word := 0x80#32
    s.Canon ∧ s.pends h A.MOD_TRIP_SW mService v = true) := by
  refine ⟨?_, ?_, ?_⟩ <;> decide +kernel

/-- The hypotheses of LocalOutputsAndModulatorAct are met, clause by clause. -/
theorem witness_LocalOutputsAndModulatorAct :
    (let s : State := base
    let k : Nat := 11
    s.live = true ∧ k < 12 ∧ s.modu.lhb.length = 12) ∧
    (let s : State := own 0x60 base
    let h : Nat := 0
    let v : Word := 0x800#32
    s.admits h 0x60 0x1FE = true ∧ s.modu.lhb.length = 12 ∧
    ((∀ k, k < 12 → bitAt v k = true → 2000 ≤ fld (s.reg (A.LHB k 8)) 0 22 ∧ fld (s.reg (A.LHB k 8)) 0 22 ≤ 4000000 ∧
    2 * (fld (s.reg (A.LHB k 4)) 0 16 + fld (s.reg (A.LHB k 4)) 16 16) ≤ fld (s.reg (A.LHB k 8)) 0 22))) ∧
    (let s : State := { base with modu := { base.modu with src := 0xA } }
    s.live = true ∧ s.modu.src ≠ 0 ∧ s.streamGone = true) ∧
    (let s : State := base
    s.live = true) ∧
    (let s : State := word (A.MOD_MEV 15) 3#32 { base with modu := { base.modu with mev := [(15, 40)] } }
    let n : Nat := 15
    let a : Nat := 40
    s.live = true ∧ n < 16 ∧ s.ready 9 = true ∧ s.mevAt n = some a ∧ s.adc.seqs.length = 16) ∧
    (let s : State := own 0x60 base
    let h : Nat := 0
    let r : Row := rowOf A.MOD_CNT_CLR
    (rowAt A.MOD_CNT_CLR).isSome = true ∧ s.admits h 0x60 r.modes = true) ∧
    (let s : State := held A.MOD_FORCE_LHB 1#32 base
    let h : Nat := 0
    let v : Word := 1#32
    s.Canon ∧ s.pends h A.MOD_FORCE_LHB mService v = true ∧ noThree 12 v.toNat = true ∧ s.modu.lhb.length = 12) ∧
    (let s : State := held A.MOD_FORCE_CELL 0#32 base
    let h : Nat := 0
    let v : Word := 0#32
    s.Canon ∧ s.pends h A.MOD_FORCE_CELL mService v = true ∧ noThree 2 v.toNat = true ∧
    ((v = 0#32 ∨ ((s.cell (fld (s.reg A.MOD_FORCE_CSEL) 0 9)).st ≠ .absent ∧
    (s.cell (fld (s.reg A.MOD_FORCE_CSEL) 0 9)).st ≠ .stale)))) := by
  refine ⟨?_, ?_, ?_, ?_, ?_, ?_, ?_, ?_⟩ <;> decide +kernel

/-- The hypotheses of LoopSlotsCommit are met, clause by clause. -/
theorem witness_LoopSlotsCommit :
    (let s : State := own 0x70 base
    let h : Nat := 0
    let i : Nat := 1023
    let b : Nat := 0x3C
    let v : Word := 5#32
    s.admits h 0x70 0x1FE = true ∧ i < 1024 ∧ 4 ≤ b ∧ b < 0x40 ∧ b % 4 = 0) ∧
    (let s : State := own 0x70 { base with hosts := { base.hosts with staging := [(1023 * 0x20 + 10, 1#32)] } }
    let h : Nat := 0
    let i : Nat := 1023
    let v : Word := 0#32
    s.admits h 0x70 mStop = true ∧ i < 1024 ∧ s.slotEntryOk (s.slotRegs h i v) i = true) ∧
    (let s : State := inMode .watch (held (A.SLOT 1023 0x40) 5#32 base)
    let h : Nat := 0
    let i : Nat := 1023
    let v : Word := 5#32
    s.Canon ∧ i < 1024 ∧ s.pends h (A.SLOT i 0x40) mSet v = true) ∧
    (let s : State := own 0x70 { base with loop := { base.loop with slots := [(1023, { loopSlotReset with st := .outHold, hcause := 2 })] } }
    let h : Nat := 0
    let v : Word := 1023#32
    let r : Row := rowOf A.LPE_RELEASE
    (rowAt A.LPE_RELEASE).isSome = true ∧ r.ok v = true ∧ s.admits h 0x70 0x1FE = true ∧
    Map.rising s.loop.slots = true ∧ (s.slot (fld v 0 10)).st = .outHold ∧
    (((s.slot (fld v 0 10)).hcause = 1 → s.inputsOk (fld v 0 10) = true))) ∧
    (let s : State := own 0x70 base
    let h : Nat := 0
    let v : Word := 1023#32
    let r : Row := rowOf A.LPE_RELEASE
    (rowAt A.LPE_RELEASE).isSome = true ∧ r.ok v = true ∧ s.admits h 0x70 0x1FE = true ∧
    (s.slot (fld v 0 10)).st ≠ .outHold) ∧
    (let s : State := own 0x70 (withEngine 0 serving (withEngine 1 serving base))
    let h : Nat := 0
    s.admits h 0x70 0x1FE = true ∧ (s.engine 0).inStep = true ∧ (s.engine 1).inStep = true ∧ s.loop.snap = none ∧
    s.loop.snapReq = false ∧ s.loop.snapArm = false) ∧
    (let s : State := own 0x70 { base with loop := { base.loop with snapReq := true } }
    let h : Nat := 0
    s.admits h 0x70 0x1FE = true) := by
  refine ⟨?_, ?_, ?_, ?_, ?_, ?_, ?_⟩ <;> decide +kernel

/-- The hypotheses of CloseSequenceAndOpening are met, clause by clause. -/
theorem witness_CloseSequenceAndOpening :
    (let s : State := inMode .energize (held A.GRD_CLOSE 1#32 base)
    let h : Nat := 0
    s.Canon ∧ s.pends h A.GRD_CLOSE 0x008 1#32 = true ∧ s.closing = false ∧ s.confirmed 0 2 = false ∧
    (s.permit = false ∨ s.ang.beats = true)) ∧
    (let s : State := permitted (inMode .energize (held A.GRD_CLOSE 1#32 { base with ang := { base.ang with beats := false } }))
    let h : Nat := 0
    s.Canon ∧ s.pends h A.GRD_CLOSE 0x008 1#32 = true ∧ s.closing = false ∧ s.confirmed 0 2 = false ∧
    s.permit = true ∧ s.ang.beats = false ∧ s.modes.next ≠ some .hold ∧ s.grd.stop = .none) ∧
    (let s : State := inMode .energize (held A.GRD_CLOSE 2#32 { base with grd := { base.grd with step := 4 } })
    let h : Nat := 0
    s.pends h A.GRD_CLOSE 0x008 2#32 = true ∧ s.closing = true ∧ s.grd.stop = .none) ∧
    (let s : State := permitted (inMode .energize { base with grd := { base.grd with step := 1 } })
    s.live = true ∧ s.closing = true ∧ s.modes.cur = .energize ∧ s.grd.startHeld = false ∧ s.grd.step = 1 ∧
    s.permit = true ∧ s.modes.next ≠ some .hold ∧ s.grd.stop = .none) ∧
    (let s : State := inMode .energize { base with grd := { base.grd with step := 2 } }
    s.live = true ∧ s.modes.cur = .energize ∧ s.grd.startHeld = false ∧
    ((s.grd.step = 2 ∨ s.grd.step = 3 ∨ s.grd.step = 4)) ∧ s.permit = false) ∧
    (let s : State := permitted (inMode .energize { base with grd := { base.grd with step := 2, scFrom := some 0 }, clock := { base.clock with mono := 100000000000 * ns } })
    let a : Nat := 0
    s.live = true ∧ s.modes.cur = .energize ∧ s.grd.startHeld = false ∧ s.grd.step = 2 ∧ s.permit = true ∧
    s.modes.next ≠ some .hold ∧ s.grd.stop = .none ∧ s.grd.scFrom = some a ∧ a + s.scTime ≤ s.now) ∧
    (let s : State := permitted (confirmedAs 2 (inMode .energize { base with grd := { base.grd with step := 3 } }))
    s.live = true ∧ s.modes.cur = .energize ∧ s.grd.startHeld = false ∧ s.grd.step = 3 ∧ s.permit = true ∧
    s.modes.next ≠ some .hold ∧ s.grd.stop = .none ∧ s.confirmed 1 2 = true) ∧
    (let s : State := permitted (confirmedAs 2 (inMode .energize { base with grd := { base.grd with step := 4 } }))
    s.live = true ∧ s.modes.cur = .energize ∧ s.grd.startHeld = false ∧ s.grd.step = 4 ∧ s.permit = true ∧
    s.modes.next ≠ some .hold ∧ s.grd.stop = .none ∧ s.confirmed 0 2 = true) ∧
    (let s : State := inMode .energize { base with grd := { base.grd with step := 4 } }
    s.live = true ∧ s.closeWaits = true) ∧
    (let s : State := own 0x80 (inMode .energize base)
    let h : Nat := 0
    s.admits h 0x80 0x1FE = true ∧ s.modes.cur = .energize) ∧
    (let s : State := own 0x80 (inMode .ride base)
    let h : Nat := 0
    s.admits h 0x80 0x1FE = true ∧ s.modes.cur = .ride ∧ s.modes.cond.testBit cHost = false) ∧
    (let s : State := own 0x80 (inMode .follow base)
    let h : Nat := 0
    s.admits h 0x80 0x1FE = true ∧ ((s.modes.cur = .follow ∨ s.modes.cur = .form)) ∧ s.modes.next = none ∧
    s.grd.stop ≠ .main ∧ s.grd.stop ≠ .series) ∧
    (let s : State := own 0x80 (inMode .watch base)
    let h : Nat := 0
    s.admits h 0x80 0x1FE = true ∧ s.modes.cur.within mStop = true) ∧
    (let s : State := inMode .follow { base with grd := { base.grd with stop := .ramp 5, lowBeats := 800 } }
    let a : Int := 5
    s.live = true ∧ s.grd.stop = .ramp a ∧ 2 * s.ang.div ≤ s.grd.lowBeats) ∧
    (let s : State := confirmedAs 1 (inMode .follow { base with grd := { base.grd with stop := .main } })
    s.live = true ∧ s.grd.stop = .main ∧ s.confirmed 0 1 = true) ∧
    (let s : State := confirmedAs 1 (inMode .follow { base with grd := { base.grd with stop := .series } })
    s.live = true ∧ s.grd.stop = .series ∧ s.confirmed 1 1 = true) := by
  refine ⟨?_, ?_, ?_, ?_, ?_, ?_, ?_, ?_, ?_, ?_, ?_, ?_, ?_, ?_, ?_, ?_⟩ <;> decide +kernel

/-- The hypotheses of TransfersAndNeutral are met, clause by clause. -/
theorem witness_TransfersAndNeutral :
    (let s : State := inMode .follow { base with ang := { base.ang with src := 2 }, grd := { base.grd with xfer := .toForm false, xferAt := 5 } }
    s.live = true ∧ s.toFormDue = true) ∧
    (let s : State := inMode .form (word A.ANG_LOCK 0x320AE1#32 { base with ang := { base.ang with src := 1 }, grd := { base.grd with xfer := .toFollow, xferAt := 5 } })
    s.live = true ∧ s.toFollowDue = true) ∧
    (let s : State := { base with grd := { base.grd with neutRun := 8 } }
    s.live = true ∧ s.Canon ∧ s.neutralDue = true) ∧
    (let s : State := { base with grd := { base.grd with neut := true, neutLow := some 5 } }
    let a : Nat := 5
    s.live = true ∧ s.grd.neut = true ∧ s.grd.neutLow = some a) := by
  refine ⟨?_, ?_, ?_, ?_⟩ <;> decide +kernel

/-- The hypotheses of TrackersSweepAndDispatch are met, clause by clause. -/
theorem witness_TrackersSweepAndDispatch :
    (let s : State := inMode .follow (withCell 383 0x80000000#32 { cellLinkReset with st := .active } (withTracker 383 { trackerReset with st := .track, cycles := 255 } base))
    let c : Nat := 383
    s.live = true ∧ s.Canon ∧ s.periodDue c = true) ∧
    (let s : State := inMode .follow (withCell 383 0x80000000#32 { cellLinkReset with st := .active } (withTracker 383 { trackerReset with st := .queued } base))
    let c : Nat := 383
    s.live = true ∧ s.Canon ∧ s.sweepDue c = true) ∧
    (let s : State := inMode .follow (withCell 383 0x80000000#32 { cellLinkReset with st := .active } (withTracker 383 { trackerReset with st := .start, cycles := 2 } base))
    let c : Nat := 383
    s.live = true ∧ s.Canon ∧ s.pointDue c = true) ∧
    (let s : State := inMode .follow (word A.BPT_CFG 0x10001#32 { base with bpt := { base.bpt with sweepRun := ms 60000 } })
    s.live = true ∧ s.globalDue = true) ∧
    (let s : State := own 0x90 (inMode .follow base)
    let h : Nat := 0
    s.admits h 0x90 0x030 = true ∧ s.sweepsOn = false) ∧
    (let s : State := inMode .follow { base with bpt := { base.bpt with histRun := ms 3600000 } }
    s.live = true ∧ s.historyDue = true ∧ s.mem.flashFail = false) ∧
    (let s : State := inMode .watch (held A.BPT_STORE_P 0#32 (word A.GRD_VBASE 10000#32 (word A.GRD_IBASE 100#32 base)))
    let h : Nat := 0
    let v : Word := 0#32
    s.Canon ∧ s.pends h A.BPT_STORE_P mSet v = true ∧ v.toInt ≤ s.plantPu (s.sumAff : Nat) 0x2805 ∧
    -v.toInt ≤ s.plantPu (s.sumAffC : Nat) 0x2806) := by
  refine ⟨?_, ?_, ?_, ?_, ?_, ?_, ?_⟩ <;> decide +kernel

/-- The hypotheses of SubstitutionsSettle are met, clause by clause. -/
theorem witness_SubstitutionsSettle :
    (let s : State := { base with bpt := { base.bpt with waiting := [{ failed := 0, spare := 383, phase := 0, due := 5 }] } }
    let c : Nat := 383
    let w : Subst := { failed := 0, spare := 383, phase := 0, due := 5 }
    s.live = true ∧ s.Canon ∧ s.waitingSpare c = some w) ∧
    (let s : State := { base with bpt := { base.bpt with closing := [(383, 5)] } }
    let c : Nat := 383
    let a : Nat := 5
    s.live = true ∧ s.Canon ∧ s.closingUntil c = some a) ∧
    (let s : State := word (A.CELL 0 0) 0x80000000#32 (word (A.CELL 383 0) 0x80000001#32 (held A.BPT_SUBST 0x17F0000#32 { base with rings := { base.rings with cells := [(0, { cellLinkReset with st := .bypassed }), (383, { cellLinkReset with st := .spare })] } }))
    let h : Nat := 0
    let f : Nat := 0
    let p : Nat := 383
    let v : Word := 0x17F0000#32
    s.Canon ∧ s.pends h A.BPT_SUBST mService v = true ∧ f = fld v 0 9 ∧ p = fld v 16 9 ∧ (s.cell p).st = .spare ∧
    s.cellPhase p = s.cellPhase f ∧
    (((s.cell f).st = .active ∨ (s.cell f).st = .charged ∨ (s.cell f).st = .bypassed)) ∧
    ((∀ w ∈ s.bpt.waiting, w.phase ≠ s.cellPhase f))) := by
  refine ⟨?_, ?_, ?_⟩ <;> decide +kernel

/-- The hypotheses of RideAndIslandingAct are met, clause by clause. -/
theorem witness_RideAndIslandingAct :
    (let s : State := inMode .ride { base with rti := { base.rti with bandFrom := some 0 } }
    s.live = true ∧ s.returning = true) ∧
    (let s : State := inMode .follow base
    let row : Nat := 9
    s.live = true ∧ s.rowMet = some row ∧ s.modes.cond.testBit cProfile = false) ∧
    (let s : State := inMode .follow { base with rti := { base.rti with chipDue := true, validN := 63 } }
    s.live = true ∧ s.rti.chipDue = true ∧ s.rti.validN ≤ 63) ∧
    (let s : State := inMode .follow { base with rti := { base.rti with detect := some 1 } }
    let w : Nat := 1
    s.live = true ∧ s.toAct = some w ∧
    ((s.rti.islact = 0 ∨ s.modes.cur = .follow ∧ s.rti.islact = 1 ∧ s.modes.next ≠ some .form ∧
    (s.grd.stop ≠ .none ∨ s.modes.next = some .watch))) ∧ s.modes.cond.testBit cIsland = false) ∧
    (let s : State := inMode .follow (rolesSet { base with rti := { base.rti with detect := some 1, islact := 1 } })
    let w : Nat := 1
    s.live = true ∧ s.toAct = some w ∧ s.modes.cur = .follow ∧ s.rti.islact = 1 ∧ s.modes.next ≠ some .hold ∧
    s.modes.next ≠ some .watch ∧ s.modes.next ≠ some .form ∧ s.grd.stop = .none ∧ s.formRoles = true) ∧
    (let s : State := inMode .form { base with rti := { base.rti with detect := some 1, islact := 1 } }
    let w : Nat := 1
    s.live = true ∧ s.toAct = some w ∧ ((s.rti.islact = 2 ∨ s.modes.cur = .form ∧ s.rti.islact ≠ 0))) ∧
    (let s : State := inMode .follow { base with rti := { base.rti with sinceRide := 4000, timers := base.rti.timers.set 10 { since := some 0, lapse := 0 } } }
    let w : Nat := 2
    s.live = true ∧ s.passiveFires w = true ∧ s.rti.detect = none) ∧
    (let s : State := inMode .form { base with rti := { base.rti with isl := true, zUnder := 63 } }
    s.live = true ∧ s.Canon ∧ s.gridBackDue = true) ∧
    (let s : State := inMode .hold { base with modes := { base.modes with cond := 2 ^ cProfile, latch := 2 ^ cProfile }, rti := { base.rti with reconFrom := some 0 } }
    s.live = true ∧ s.reconRuns = true) := by
  refine ⟨?_, ?_, ?_, ?_, ?_, ?_, ?_, ?_, ?_⟩ <;> decide +kernel

set_option maxRecDepth 1000000 in
/-- The hypotheses of ProfilesAreEdited are met, clause by clause. -/
theorem witness_ProfilesAreEdited :
    (let s : State := held A.RTI_PEDIT 0x701#32 (withSeal 3 { sealReset with known := true } base)
    let h : Nat := 0
    let p : Nat := 7
    p < 8 ∧ s.pends h A.RTI_PEDIT mEdit (wd (1 + 0x100 * p)) = true ∧ s.sealClosed 3 = false ∧ s.rti.edit = none ∧
    s.rti.busy = none) ∧
    (let s : State := own 0xA0 { base with rti := { base.rti with edit := some 7 } }
    let h : Nat := 0
    let p : Nat := 7
    let b : Nat := 0x3FC
    let v : Word := 9#32
    p < 8 ∧ b < 0x400 ∧ b % 4 = 0 ∧ s.admits h 0xA0 mEdit = true ∧ s.rti.edit = some p ∧
    Map.rising s.rti.staging = true) ∧
    (let s : State := held A.RTI_PEDIT 0x702#32 (withSeal 3 { sealReset with known := true } { base with rti := { base.rti with edit := some 7, staging := profileWhole } })
    let h : Nat := 0
    let p : Nat := 7
    p < 8 ∧ s.pends h A.RTI_PEDIT mEdit (wd (2 + 0x100 * p)) = true ∧ s.sealClosed 3 = false ∧ s.rti.busy = none ∧
    s.commitStatus p = .ok) ∧
    (let s : State := held A.RTI_PEDIT 0x703#32 { base with rti := { base.rti with edit := some 7 } }
    let h : Nat := 0
    let p : Nat := 7
    p < 8 ∧ s.pends h A.RTI_PEDIT mEdit (wd (3 + 0x100 * p)) = true ∧ s.rti.busy = none ∧ s.rti.edit = some p) ∧
    (let s : State := { base with rti := { base.rti with edit := some 7, busy := some 7, staging := [(0, 1#32), (255, 3#32)] } }
    let p : Nat := 7
    s.live = true ∧ s.rti.busy = some p ∧ Map.rising s.rti.store = true ∧
    Map.wf (fun _ => 0#32) s.rti.staging = true ∧ ((∀ e ∈ s.rti.staging, e.1 < 256))) := by
  refine ⟨?_, ?_, ?_, ?_, ?_⟩ <;> decide +kernel

/-- The hypotheses of PontilIsLeased are met, clause by clause. -/
theorem witness_PontilIsLeased :
    (let s : State := withEngine 1 serving { base with gaf := { base.gaf with holder := some 1 } }
    let e : Nat := 1
    let q : BitVec 32 := 0#32
    s.live = true ∧ e < 2 ∧ s.gaf.engines.length = 2 ∧ (s.engine e).inStep = true ∧ (s.engine e).mute = false ∧
    (s.engine e).flag = false ∧ s.gaf.frozen = false) ∧
    (let s : State := withEngine 1 { serving with hbAt := some 5 } base
    let e : Nat := 1
    let a : Nat := 5
    s.live = true ∧ e < 2 ∧ s.gaf.engines.length = 2 ∧ (s.engine e).inStep = true ∧ (s.engine e).hbAt = some a) ∧
    (let s : State := withEngine 1 serving { base with gaf := { base.gaf with holder := some 1 } }
    let e : Nat := 1
    s.live = true ∧ s.gaf.holder = some e ∧ s.gaf.frozen = false) ∧
    (let s : State := withEngine 1 serving { base with gaf := { base.gaf with guard := some 7, judging := true } }
    let g : Nat := 7
    s.live = true ∧ s.gaf.guard = some g ∧ s.gaf.frozen = false ∧ s.gaf.former < 2 ∧ s.gaf.engines.length = 2) := by
  refine ⟨?_, ?_, ?_, ?_⟩ <;> decide +kernel

/-- The hypotheses of EngineFaultsStop are met, clause by clause. -/
theorem witness_EngineFaultsStop :
    (let s : State := withEngine 1 serving base
    let e : Nat := 1
    let c : Nat := 15
    s.live = true ∧ e < 2 ∧ c < 16 ∧ s.gaf.engines.length = 2 ∧ (s.engine e).inStep = true ∧
    (s.engine e).flag = false ∧ (s.engine e).mute = false ∧ (s.engine e).cut = false) ∧
    (let s : State := base
    s.live = true ∧ s.Canon ∧ s.gaf.frozen = false) ∧
    (let s : State := base
    s.live = true ∧ s.Canon ∧ s.testDue = true) := by
  refine ⟨?_, ?_, ?_⟩ <;> decide +kernel

/-- The hypotheses of SwitchoversAreJudged are met, clause by clause. -/
theorem witness_SwitchoversAreJudged :
    (let s : State := held A.GAF_FORCE 1#32 (withEngine 0 serving (withEngine 1 { serving with st := .standby } { base with gaf := { base.gaf with holder := some 0 } }))
    let h : Nat := 0
    s.pends h A.GAF_FORCE 0x1B4 1#32 = true ∧ (s.engine 0).inStep = true ∧ (s.engine 1).inStep = true ∧
    s.gaf.frozen = false ∧ s.forcingNow = false) ∧
    (let s : State := { base with gaf := { base.gaf with forcing := true, judging := true, granted := true, judged := (17, 17), holder := some 1 } }
    s.live = true ∧ s.judgeDue = true ∧ s.newHolder < 2) := by
  refine ⟨?_, ?_⟩ <;> decide +kernel

/-- The hypotheses of EnginesAreCommandedAndRejoin are met, clause by clause. -/
theorem witness_EnginesAreCommandedAndRejoin :
    (let s : State := held (0xB1000 + A.ENG_CTRL) 1#32 (withEngine 1 { engineReset with st := .fenced } base)
    let h : Nat := 0
    let e : Nat := 1
    let k : Nat := 0
    e < 2 ∧ k < 2 ∧ s.gaf.engines.length = 2 ∧
    s.pends h (0xB0000 + 0x1000 * e + A.ENG_CTRL) 0x1FE (wd (1 + 0x100 * k)) = true ∧ s.slotFits k = true ∧
    s.forcingNow = false ∧ (((s.engine e).st = .off ∨ (s.engine e).st = .fenced ∨ (s.engine e).st = .halted)) ∧
    (((s.engine e).st = .halted → (s.engine e).cut = true ∨ (s.gaf.holder ≠ some e ∧ (s.gaf.guard = none ∨ s.gaf.former ≠ e))))) ∧
    (let s : State := held (0xB1000 + A.ENG_CTRL) 1#32 (withEngine 1 { engineReset with st := .halted, ver := (base.imgSlot 0).version } { base with gaf := { base.gaf with holder := some 1 } })
    let h : Nat := 0
    let e : Nat := 1
    let k : Nat := 0
    e < 2 ∧ k < 2 ∧ s.gaf.engines.length = 2 ∧
    s.pends h (0xB0000 + 0x1000 * e + A.ENG_CTRL) 0x1FE (wd (1 + 0x100 * k)) = true ∧ s.slotFits k = true ∧
    s.forcingNow = false ∧ (s.engine e).st = .halted ∧ (s.engine e).cut = false ∧
    ((s.gaf.holder = some e ∨ (s.gaf.guard.isSome = true ∧ s.gaf.former = e)))) ∧
    (let s : State := held (0xB1000 + A.ENG_CTRL) 2#32 (withEngine 1 { engineReset with st := .halted, cut := true } (inMode .watch base))
    let h : Nat := 0
    let e : Nat := 1
    let k : Nat := 0
    e < 2 ∧ k < 2 ∧ s.gaf.engines.length = 2 ∧
    s.pends h (0xB0000 + 0x1000 * e + A.ENG_CTRL) 0x1FE (wd (2 + 0x100 * k)) = true ∧ s.slotFits k = true ∧
    s.modes.cur.within 0x1B4 = true ∧ s.forcingNow = false ∧ s.gaf.holder ≠ some e ∧
    (((s.engine e).st = .off ∨ (s.engine e).st = .fenced ∨ (s.engine e).st = .halted ∨ (s.engine e).st = .standby)) ∧
    (((s.engine e).st = .halted → (s.engine e).cut = true ∨ s.gaf.guard = none ∨ s.gaf.former ≠ e))) ∧
    (let s : State := held (0xB1000 + A.ENG_CTRL) 3#32 (withEngine 0 serving (withEngine 1 { serving with st := .standby } base))
    let h : Nat := 0
    let e : Nat := 1
    e < 2 ∧ s.gaf.engines.length = 2 ∧ s.pends h (0xB0000 + 0x1000 * e + A.ENG_CTRL) 0x1FE 3#32 = true ∧
    s.modes.cur = .service ∧ (s.engine e).inStep = true ∧ (s.engine (1 - e)).inStep = true ∧ s.forcingNow = false) ∧
    (let s : State := held (0xB1000 + A.ENG_CTRL) 4#32 (withEngine 1 { engineReset with st := .fenced } base)
    let h : Nat := 0
    let e : Nat := 1
    e < 2 ∧ s.gaf.engines.length = 2 ∧ s.pends h (0xB0000 + 0x1000 * e + A.ENG_CTRL) 0x1FE 4#32 = true ∧
    s.forcingNow = false ∧ s.gaf.holder ≠ some e ∧
    (((s.engine e).st = .standby ∨ (s.engine e).st = .fenced ∨ (s.engine e).st = .halted))) ∧
    (let s : State := withEngine 1 { engineReset with st := .test } base
    let e : Nat := 1
    s.live = true ∧ e < 2 ∧ s.gaf.engines.length = 2 ∧ (s.engine e).st = .test) ∧
    (let s : State := withEngine 1 { engineReset with st := .load } base
    let e : Nat := 1
    s.live = true ∧ e < 2 ∧ s.gaf.engines.length = 2 ∧ (s.engine e).st = .load ∧ s.slotFits (s.engine e).slot = true) ∧
    (let s : State := withEngine 1 { engineReset with st := .sync } { base with gaf := { base.gaf with holder := some 0 } }
    let e : Nat := 1
    s.live = true ∧ e < 2 ∧ s.gaf.engines.length = 2 ∧ (s.engine e).st = .sync ∧ s.gaf.holder.isSome = true ∧
    s.mem.dramFail = false ∧ s.ang.beats = true) ∧
    (let s : State := withEngine 1 { engineReset with st := .sync } { base with gaf := { base.gaf with holder := some 0 }, ang := { base.ang with beats := false } }
    let e : Nat := 1
    s.live = true ∧ e < 2 ∧ s.gaf.engines.length = 2 ∧ (s.engine e).st = .sync ∧ s.gaf.holder.isSome = true ∧
    s.mem.dramFail = false ∧ s.ang.beats = false) ∧
    (let s : State := withEngine 1 { engineReset with st := .load } base
    let e : Nat := 1
    s.live = true ∧ e < 2 ∧ s.gaf.engines.length = 2 ∧ (s.engine e).joins = true) ∧
    (let s : State := withEngine 1 { engineReset with st := .sync } base
    let e : Nat := 1
    s.live = true ∧ e < 2 ∧ s.gaf.engines.length = 2 ∧ (s.engine e).st = .sync) ∧
    (let s : State := word A.GAF_CFG 0xA80003#32 (withEngine 1 { engineReset with st := .fenced, autoAt := some 5 } base)
    let e : Nat := 1
    let a : Nat := 5
    s.live = true ∧ e < 2 ∧ s.gaf.engines.length = 2 ∧ (s.engine e).st = .fenced ∧ (s.engine e).autoAt = some a ∧
    (s.engine e).autoLast = none ∧ bitAt (s.reg A.GAF_CFG) 1 = true ∧ s.slotFits (s.engine e).slot = true ∧
    s.forcingNow = false) ∧
    (let s : State := base
    s.live = true ∧ s.gaf.booted = false ∧ s.gaf.engines.length = 2 ∧ s.noImage = false ∧ s.gaf.frozen = false) ∧
    (let s : State := { base with hosts := { base.hosts with taken := [{ ring := 0, host := 0, opcode := 0x12, tag := 0, pair := 1, echo := 0, copy := none, done := none }], session := some { host := 0, slot := 1, written := 0 } } }
    let x : Taken := { ring := 0, host := 0, opcode := 0x12, tag := 0, pair := 1, echo := 0, copy := none, done := none }
    let q : ImageSession := { host := 0, slot := 1, written := 0 }
    let m : BitVec 8 := 0#8
    let v : Word := 0x01000000#32
    let hv : BitVec 16 := 0x0201#16
    s.live = true ∧ s.mem.flashFail = false ∧
    (s.hosts.taken.find? fun t => decide (0x10 ≤ t.opcode) && decide (t.opcode ≤ 0x12) && t.done.isNone) = some x ∧
    x.opcode = 0x12 ∧ s.hosts.session = some q ∧ q.slot < s.gaf.slots.length ∧ m.toNat ≤ s.part.srev) := by
  refine ⟨?_, ?_, ?_, ?_, ?_, ?_, ?_, ?_, ?_, ?_, ?_, ?_, ?_, ?_⟩ <;> decide +kernel

/-- The hypotheses of ChannelsSampleAndFault are met, clause by clause. -/
theorem witness_ChannelsSampleAndFault :
    (let s : State := base
    let si : BitVec 16 := 0xFFFF#16
    let m : BitVec 8 := 0xFF#8
    let rb : BitVec 8 := 0#8
    s.safOn = true ∧ s.saf.xOk = true ∧ s.saf.yOk = true ∧ s.saf.groups.length = 4) ∧
    (let s : State := { base with saf := { base.saf with used := [(A.SAF_SIP_CFG 7, 0xA0001#32)], sips := base.saf.sips.set 7 { sipReset with a := true } } }
    let p : Nat := 7
    s.sampling = true ∧ s.saf.sips.length = 8 ∧ s.disagreeing p = true) ∧
    (let s : State := { base with saf := { base.saf with tpUntil := [0, 0, 0, 10] } }
    let l : Nat := 3
    let si : BitVec 16 := 0xFFFF#16
    s.sampling = true ∧ s.saf.sips.length = 8 ∧ l < 4 ∧ s.now < s.saf.tpUntil.getD l 0) ∧
    (let s : State := base
    let l : Nat := 3
    s.safOn = true ∧ (if l < 2 then s.saf.xOk = true else s.saf.yOk = true) ∧ l < 4 ∧ s.saf.tpUntil.length = 4) ∧
    (let s : State := base
    let x : BitVec 4 := 5#4
    s.sampling = true ∧ s.saf.groups.length = 4) ∧
    (let s : State := { base with saf := { base.saf with differ := 7 } }
    let x : BitVec 4 := 5#4
    let y : BitVec 4 := 1#4
    s.sampling = true ∧ s.saf.groups.length = 4 ∧ s.saf.latch.testBit lChannel = false) ∧
    (let s : State := { base with saf := { base.saf with missing := 3 } }
    let d : Bool := true
    let x : BitVec 4 := 5#4
    let y : BitVec 4 := 1#4
    s.sampling = true) ∧
    (let s : State := base
    let c : Nat := 1
    s.sampling = true ∧ c < 2) := by
  refine ⟨?_, ?_, ?_, ?_, ?_, ?_, ?_, ?_⟩ <;> decide +kernel

/-- The hypotheses of GroupsFollowCommands are met, clause by clause. -/
theorem witness_GroupsFollowCommands :
    (let s : State := held A.SAF_GRP_CMD 1#32 base
    let h : Nat := 0
    let v : Word := 1#32
    s.Canon ∧ s.pends h A.SAF_GRP_CMD (if v &&& ~~~ s.reg A.SAF_GRP_CMD = 0#32 then 0x1FE else 0x13C) v = true ∧
    s.saf.groups.length = 4 ∧ s.groupOf 2 ≠ s.groupOf 3) ∧
    (let s : State := withGroup 3 { groupReset with cmd := true, conf := 3 } base
    let g : Nat := 3
    s.sampling = true ∧ s.saf.groups.length = 4 ∧ s.closing = false ∧ s.grd.stop = .none ∧ s.confirming g = true) ∧
    (let s : State := withGroup 3 { groupReset with cmd := true, conf := 3, fba := true } base
    let g : Nat := 3
    s.sampling = true ∧ s.saf.groups.length = 4 ∧ s.closing = false ∧ s.unconfirmed g = true) ∧
    (let s : State := withGroup 3 { groupReset with conf := 1 } base
    let g : Nat := 3
    s.sampling = true ∧ s.mirrorsWrong g = true) ∧
    (let s : State := withGroup 3 { groupReset with cmd := true, h := true, l := true, conf := 2 } { base with clock := { base.clock with mono := ms 2000 } }
    let n : Nat := 7
    s.sampling = true ∧ s.saf.groups.length = 4 ∧ s.closing = false ∧ s.grd.stop = .none ∧ n < 8 ∧
    (s.group (switchGroup n)).cmd = true ∧ (s.saf.groups.all fun q => q.pulse.isNone) = true) ∧
    (let s : State := withGroup 3 { groupReset with cmd := true, h := true, pulse := some (false, 0) } base
    let n : Nat := 7
    let off : Bool := true
    let on : Bool := true
    s.sampling = true ∧ s.saf.groups.length = 4 ∧ s.closing = false ∧ s.grd.stop = .none ∧ s.pulsing n = true) ∧
    (let s : State := base
    let n : Nat := 7
    s.sampling = true ∧ s.saf.groups.length = 4 ∧ n < 8 ∧ (s.group (switchGroup n)).cmd = false) := by
  refine ⟨?_, ?_, ?_, ?_, ?_, ?_, ?_⟩ <;> decide +kernel

/-- The hypotheses of SealsAndIntertripSupervise are met, clause by clause. -/
theorem witness_SealsAndIntertripSupervise :
    (let s : State := withSeal 7 { sealReset with cand := some true } base
    let a : BitVec 8 := 0x80#8
    let b : BitVec 8 := 0#8
    let c : BitVec 8 := 0x80#8
    let d : BitVec 8 := 0#8
    let k : Nat := 7
    let v : Bool := true
    s.sampling = true ∧ s.saf.seals.length = 8 ∧ k < 8 ∧ sealRead (a.getLsbD k) (b.getLsbD k) = some v ∧
    sealRead (c.getLsbD k) (d.getLsbD k) = some v ∧ (s.seal k).cand = some v) ∧
    (let s : State := withSeal 7 { sealReset with known := true, equal := 2 } base
    let a : BitVec 8 := 0x80#8
    let b : BitVec 8 := 0x80#8
    let c : BitVec 8 := 0x80#8
    let d : BitVec 8 := 0x80#8
    let k : Nat := 7
    s.sampling = true ∧ s.saf.seals.length = 8 ∧ k < 8 ∧ sealRead (a.getLsbD k) (b.getLsbD k) = none ∧
    s.saf.xOk = true ∧ 2 ≤ (s.seal k).equal) ∧
    (let s : State := withSeal 7 { sealReset with cand := some true } base
    let k : Nat := 7
    let v : Bool := true
    s.sampling = true ∧ s.saf.seals.length = 8 ∧ s.sealPending k = true ∧ (s.seal k).cand = some v) ∧
    (let s : State := withSeal 7 { sealReset with known := true, equal := 1 } base
    let k : Nat := 7
    s.sampling = true ∧ s.saf.seals.length = 8 ∧ s.sealFailing k = true) ∧
    (let s : State := { base with net := { base.net with handed := [(1, [], 0, 0)] } }
    let n : Nat := 1
    let rx : Nat := 0
    let b : List Byte := []
    s.sampling = true ∧ n < 2 ∧ s.saf.itCnt.length = 2 ∧ s.net.handed.any (handedIs n b rx) = true ∧
    s.copyOk b rx = none) ∧
    (let s : State := { base with net := { base.net with handed := [(1, [1, 0, 1, 254, 9] ++ List.replicate 39 0 ++ [200, 193, 255, 116], 0, 0)] }, saf := { base.saf with used := [(A.SAF_IT_SRC_CTRL 7, 0x11#32), (A.SAF_IT_SRC_ID 7, 9#32)] } }
    let n : Nat := 1
    let rx : Nat := 0
    let i : Nat := 7
    let b : List Byte := [1, 0, 1, 254, 9] ++ List.replicate 39 0 ++ [200, 193, 255, 116]
    s.sampling = true ∧ n < 2 ∧ s.saf.itCnt.length = 2 ∧ s.saf.lastOk.length = 2 ∧ s.saf.silent.length = 2 ∧
    s.saf.sources.length = 8 ∧ s.net.handed.any (handedIs n b rx) = true ∧ s.copyOk b rx = some i ∧
    (if n = 0 then (s.source i).seqA else (s.source i).seqB) = none) ∧
    (let s : State := { base with saf := { base.saf with copies := [{ net := 1, src := 7, seq := 3, cmd := 1, bytes := [], at_ := 0, acted := false, age := 0 }] } }
    let n : Nat := 1
    let i : Nat := 7
    let c : Copy := { net := 1, src := 7, seq := 3, cmd := 1, bytes := [], at_ := 0, acted := false, age := 0 }
    s.sampling = true ∧ s.heldCopy n i = some c) ∧
    (let s : State := base
    let n : Nat := 1
    s.sampling = true ∧ n < 2 ∧ s.saf.silent.length = 2 ∧ s.saf.silent.getD n false = false) ∧
    (let s : State := { base with saf := { base.saf with sources := base.saf.sources.set 7 { sourceReset with window := some 9 } } }
    let i : Nat := 7
    let a : Nat := 9
    s.sampling = true ∧ i < 8 ∧ s.saf.sources.length = 8 ∧ (s.source i).window = some a) ∧
    (let s : State := base
    s.sampling = true ∧ s.sealClosed 5 = true) ∧
    (let s : State := held A.SAF_ACK 1#32 { base with saf := { base.saf with latch := 2 } }
    let h : Nat := 0
    s.pends h A.SAF_ACK 0x1FE 1#32 = true) := by
  refine ⟨?_, ?_, ?_, ?_, ?_, ?_, ?_, ?_, ?_, ?_, ?_⟩ <;> decide +kernel

/-- The hypotheses of RingsAreDriven are met, clause by clause. -/
theorem witness_RingsAreDriven :
    (let s : State := base
    let h : Nat := 3
    let n : Nat := 63
    let v : Word := 0x10#32
    s.live = true ∧ h < 4 ∧ n < 64 ∧ s.ev.rings.length = 64 ∧ s.ringOwner n = h ∧ s.ready 22 = true ∧
    s.wiping = false ∧ (s.hw n).en = false ∧ fld v 0 4 ≤ 10 ∧
    ((∀ p ∈ s.enableChecks n ((s.hw n).withCfg (v ||| 0x40#32)), p.1 = false))) ∧
    (let s : State := withRing 63 { ringReset with type := 1, en := true } base
    let h : Nat := 3
    let n : Nat := 63
    let v : Word := 0x10#32
    s.live = true ∧ h < 4 ∧ n < 64 ∧ s.ev.rings.length = 64 ∧ s.ringOwner n = h ∧ s.ready 22 = true ∧
    s.wiping = false ∧ (s.hw n).en = true ∧ (s.hw n).size = fld v 0 4 ∧ (s.hw n).size ≤ 10 ∧
    (s.hw n).type = fld v 4 2 ∧ (s.hw n).pair = fld v 8 6 ∧ (((s.hw n).type = 1 → s.ringPaired n = false))) ∧
    (let s : State := withRing 63 { ringReset with type := 0, en := true } base
    let h : Nat := 3
    let n : Nat := 63
    let v : Word := 63#32
    s.live = true ∧ h < 4 ∧ n < 64 ∧ s.ev.rings.length = 64 ∧ s.ringOwner n = h ∧ s.ready 22 = true ∧
    s.wiping = false ∧ (s.hw n).en = true ∧ (s.hw n).type = 0 ∧ fld v 0 16 < (s.hw n).entries ∧
    (fld v 0 16 + 2 * (s.hw n).entries - (s.hw n).tail) % (s.hw n).entries ≤ ((s.hw n).head + (s.hw n).entries - 1 + 2 * (s.hw n).entries - (s.hw n).tail) % (s.hw n).entries) ∧
    (let s : State := withRing 63 { ringReset with type := 2, en := true, tail := 63 } base
    let h : Nat := 3
    let n : Nat := 63
    let v : Word := 63#32
    s.live = true ∧ h < 4 ∧ n < 64 ∧ s.ev.rings.length = 64 ∧ s.ringOwner n = h ∧ s.ready 22 = true ∧
    s.wiping = false ∧ (s.hw n).en = true ∧ (s.hw n).type ≠ 0 ∧ fld v 0 16 < (s.hw n).entries ∧
    (fld v 0 16 + 2 * (s.hw n).entries - (s.hw n).head) % (s.hw n).entries ≤ ((s.hw n).tail + 2 * (s.hw n).entries - (s.hw n).head) % (s.hw n).entries) := by
  refine ⟨?_, ?_, ?_, ?_⟩ <;> decide +kernel

/-- The hypotheses of CommandsAreAnswered are met, clause by clause. -/
theorem witness_CommandsAreAnswered :
    (let s : State := commanded 1 [] base
    let n : Nat := 0
    s.Canon ∧ s.ev.rings.length = 64 ∧ s.canRun n 1 1 = true) ∧
    (let s : State := commanded 0x7777 [] base
    let n : Nat := 0
    let op : Nat := 0x7777
    s.Canon ∧ s.ev.rings.length = 64 ∧ s.canRun n op 0 = true ∧ opcodeFrom op = none) ∧
    (let s : State := commanded 2 (leBytes 4 A.DEV_MODE_REQ ++ leBytes 4 8) base
    let n : Nat := 0
    s.Canon ∧ s.ev.rings.length = 64 ∧ s.canRun n 2 1 = true ∧
    let o := byteFld (s.cmdBytes n) 8 4
    let k := byteFld (s.cmdBytes n) 12 1
    let a := (s.takeCmd n).readWords (s.ringOwner n) o k
    1 ≤ k ∧
    k ≤ 8 ∧ o % 4 = 0 ∧ o + 4 * k ≤ 0x2000000) ∧
    (let s : State := commanded 3 (leBytes 4 A.SAF_GRP_CFG ++ leBytes 4 0xE4) base
    let n : Nat := 0
    s.Canon ∧ s.ev.rings.length = 64 ∧ s.canRun n 3 1 = true ∧
    let o := byteFld (s.cmdBytes n) 8 4
    let u := s.takeCmd n
    let a := u.hostWrite (s.ringOwner n) o (wd (byteFld (s.cmdBytes n) 12 4))
    windowOffset o = true ∧
    a.1.ev.holding = false ∧ a.1.hosts.taken = u.hosts.taken ∧ a.1.ev.rings.length = 64 ∧
    (a.1.hw n).head = (u.hw n).head ∧ a.1.hw (s.hw n).pair = u.hw (s.hw n).pair ∧ Memory.wf a.1.ev.mem = true) ∧
    (let s : State := own 0xC0 (commanded 3 (leBytes 4 A.SAF_GRP_CFG ++ leBytes 4 0xE4) base)
    let n : Nat := 0
    let r : Row := rowOf A.SAF_GRP_CFG
    s.Canon ∧ s.ev.rings.length = 64 ∧ s.canRun n 3 1 = true ∧
    let o := byteFld (s.cmdBytes n) 8 4
    let v := wd (byteFld (s.cmdBytes n) 12 4)
    o % 4 = 0 ∧
    0x70000 ≤ o ∧ o < 0xC1000 ∧ (rowAt o).isSome = true ∧ r.cls = .rw ∧ r.ok v = true ∧
    s.admits (s.ringOwner n) (o / 0x1000) r.modes = true) ∧
    (let s : State := own 0x80 (inMode .watch (commanded 4 (leBytes 4 A.GRD_FORM_P ++ leBytes 4 0 ++ leBytes 4 0xFFFFFFFF) base))
    let n : Nat := 0
    s.Canon ∧ s.ev.rings.length = 64 ∧ s.canRun n 4 1 = true ∧
    let o := byteFld (s.cmdBytes n) 8 4
    let u := s.takeCmd n
    let a := u.hostWrite (s.ringOwner n) o (wd (byteFld (s.cmdBytes n) 12 4))
    let c := a.1.hostWrite (s.ringOwner n) (o + 4) (wd (byteFld (s.cmdBytes n) 16 4))
    windowOffset o = true ∧
    waitsForPair o = true ∧ a.2 = .ok ∧ c.1.ev.holding = false ∧ c.1.hosts.taken = u.hosts.taken ∧
    c.1.ev.rings.length = 64 ∧ (c.1.hw n).head = (u.hw n).head ∧ c.1.hw (s.hw n).pair = u.hw (s.hw n).pair ∧
    Memory.wf c.1.ev.mem = true) ∧
    (let s : State := own 0x80 (inMode .watch (commanded 4 (leBytes 4 A.GRD_FORM_P ++ leBytes 4 0 ++ leBytes 4 0xFFFFFFFF) base))
    let n : Nat := 0
    s.Canon ∧ s.ev.rings.length = 64 ∧ s.canRun n 4 1 = true ∧
    let o := byteFld (s.cmdBytes n) 8 4
    let v := wd (byteFld (s.cmdBytes n) 12 4)
    (o = A.GRD_PLIM ∨ o = A.GRD_FORM_P ∨ o = A.GRD_FORM_Q) ∧
    ((rowAt o).all (fun r : Row => decide (r.ok v = true ∧ s.admits (s.ringOwner n) 0x80 r.modes = true)) = true) ∧
    wd (byteFld (s.cmdBytes n) 16 4) = ~~~ v) ∧
    (let s : State := commanded 0x20 (leBytes 4 0 ++ leBytes 4 1 ++ leBytes 4 0x40000) base
    let n : Nat := 0
    s.canRun n 0x20 2 = true ∧ s.Canon ∧ s.ev.rings.length = 64 ∧
    let b := s.cmdBytes n
    let p := s.ev.log.span (byteFld b 8 4) (byteFld b 12 2)
    1 ≤ byteFld b 12 2 ∧
    byteFld b 12 2 ≤ 1024 ∧ byteFld b 16 4 % 4 = 0) := by
  refine ⟨?_, ?_, ?_, ?_, ?_, ?_, ?_, ?_⟩ <;> decide +kernel

/-- The hypotheses of ImageCommandsAreTaken are met, clause by clause. -/
theorem witness_ImageCommandsAreTaken :
    (let s : State := own 0xB8 (commanded 0x10 [1, 254] base)
    let n : Nat := 0
    s.ev.rings.length = 64 ∧ s.canRun n 0x10 1 = true ∧
    let b := s.cmdBytes n
    byteFld b 8 1 ≤ 1 ∧
    byteFld b 9 1 = 255 - byteFld b 8 1 ∧ ((∀ p ∈ s.imgCommon (s.ringOwner n), p.1 = false)) ∧
    s.hosts.session = none ∧ s.slotRunning (byteFld b 8 1) = false ∧ s.gaf.slots.length = 2) ∧
    (let s : State := own 0xB8 { commanded 0x11 (leBytes 4 0 ++ leBytes 4 256 ++ leBytes 4 0x40000) base with hosts := { base.hosts with sel := [2, 0, 0, 0], claims := [(0xB8, 0)], session := some { host := 0, slot := 1, written := 0 } } }
    let n : Nat := 0
    let q : ImageSession := { host := 0, slot := 1, written := 0 }
    s.ev.rings.length = 64 ∧ s.canRun n 0x11 1 = true ∧
    let b := s.cmdBytes n
    let len := byteFld b 12 4
    (∀ p ∈ s.imgCommon (s.ringOwner n), p.1 = false) ∧
    s.hosts.session = some q ∧ 256 ≤ len ∧ len ≤ 0x10000 ∧ len % 256 = 0 ∧ byteFld b 8 4 = q.written ∧
    q.written + len ≤ 0x800000 ∧ byteFld b 16 4 % 64 = 0 ∧ byteFld b 16 4 + len ≤ 0x2000000 ∧
    ((∀ m, m < 64 → (s.hw m).en = true → overlap (byteFld b 16 4) len (s.hw m).base (s.hw m).bytes = false))) ∧
    (let s : State := { commanded 0x12 [] base with hosts := { base.hosts with sel := [2, 0, 0, 0], claims := [(0xB8, 0)], session := some { host := 0, slot := 1, written := 0 } } }
    let n : Nat := 0
    s.ev.rings.length = 64 ∧ s.canRun n 0x12 1 = true ∧ s.hosts.session.isSome = true ∧
    ((∀ p ∈ s.imgCommon (s.ringOwner n), p.1 = false))) := by
  refine ⟨?_, ?_, ?_⟩ <;> decide +kernel

/-- The hypotheses of HostPortsAndLog are met, clause by clause. -/
theorem witness_HostPortsAndLog :
    (let s : State := withEngine 0 serving base
    let h : Nat := 3
    let x : Nat := 1
    let v : Word := 0x101#32
    let r : Row := rowOf (A.HST 3 A.HST_VER)
    s.Canon ∧ h < 4 ∧ s.hosts.sel.length = 4 ∧ (rowAt (A.HST h A.HST_VER)).isSome = true ∧ r.ok v = true ∧
    s.admits h (0xD0 + h) r.modes = true ∧ s.common_ (fld v 0 8) (fld v 8 8) = some x ∧ s.cmdRings h = false) ∧
    (let s : State := base
    let h : Nat := 3
    h < 4 ∧ s.hosts.sel.length = 4 ∧ s.admits h (0xD0 + h) 0x1FE = true) ∧
    (let s : State := { base with hosts := { base.hosts with claims := [(0x70, 3), (0x80, 1)] } }
    let h : Nat := 3
    h < 4 ∧ s.Claimed ∧ ((∀ p ∈ s.hosts.claims, blockOf p.1 = p.1)) ∧ s.admits h (0xD0 + h) 0x1FE = true) ∧
    (let s : State := base
    let h : Nat := 1
    let what : PortReset := .perst true
    s.live = true ∧ h < 2 ∧ s.hosts.sel.length = 4 ∧ s.hosts.link.length = 4 ∧ s.hosts.perst.length = 2 ∧
    s.hosts.train.length = 2 ∧ what ≠ .perst false ∧ ((what = .perst true → s.hosts.perst.getD h true = false))) ∧
    (let s : State := { base with hosts := { base.hosts with perst := [false, true] } }
    let h : Nat := 1
    s.live = true ∧ h < 2 ∧ s.hosts.train.length = 2 ∧ s.hosts.perst.getD h false = true) ∧
    (let s : State := { base with pwr := { base.pwr with held := true } }
    let h : Nat := 1
    let low : Bool := true
    s.pwr.dark = false ∧ s.pwr.held = true ∧ h < 2 ∧ s.hosts.perst.length = 2) ∧
    (let s : State := { base with ev := { base.ev with msixHeld := [133] } }
    let h : Nat := 1
    let k : Nat := 133
    s.live = true ∧ h < 2 ∧ s.ev.msixHeld = [k] ∧ k / 128 = h) ∧
    (let s : State := { base with ev := { base.ev with windows := [{ host := 3, code := 0x1200, subject := 5, opened := 0, count := 0, first := 0, last := 0, status := .ok, detail := [] }] } }
    let h : Nat := 3
    let c : Nat := 0x1200
    let x : Nat := 5
    let w : EvWindow := { host := 3, code := 0x1200, subject := 5, opened := 0, count := 0, first := 0, last := 0, status := .ok, detail := [] }
    s.live = true ∧ h < 5 ∧ s.ev.window h c x = some w) ∧
    (let s : State := { base with pwr := { base.pwr with ready := 0x3FFFFEF }, ev := { base.ev with log := { base.ev.log with queue := [{ code := 0x1200, subject := 0, status := .ok, src := 0, count := 1, time := 0, detail := [] }] } } }
    s.live = true ∧ s.ev.log.queue ≠ [] ∧ s.mem.flashFail = false ∧ s.ev.log.gapLost = 0 ∧
    s.ev.log.places s.now ≠ 0 ∧ s.senOn = false) := by
  refine ⟨?_, ?_, ?_, ?_, ?_, ?_, ?_, ?_, ?_⟩ <;> decide +kernel

/-- The hypotheses of NetworksSendAndFollowLinks are met, clause by clause. -/
theorem witness_NetworksSendAndFollowLinks :
    (let s : State := onNet base
    let p : Nat := 1
    s.ptpPort p = true ∧ s.net.pdelayAt.length = 2 ∧ s.net.txStamp.length = 2) ∧
    (let s : State := onNet base
    let p : Nat := 1
    let d : Nat := 0
    s.ptpTakes p d = true ∧ s.net.txStamp.length = 2) ∧
    (let s : State := onNet base
    s.netOn = true) ∧
    (let s : State := word (A.NET_PUB 15 0) 1#32 (onNet { base with net := { base.net with pubs := [(15, { pubReset with sent := true })] } })
    let n : Nat := 15
    s.netOn = true ∧ n < 16 ∧ (s.pub n).sent = true ∧ bitAt (s.pubw n 0) 0 = true ∧ Map.rising s.net.pubs = true) ∧
    (let s : State := word (A.NET_SV 1 0) 1#32 (onNet { base with net := { base.net with smpVals := [(300000, 0, []), (1, 0, [])] } })
    let m : Nat := 1
    let t0 : Nat := 1
    let a1 : Nat := 300000
    let sum0 : Int := 0
    let sum1 : Int := 0
    let old : List (Validity × Int) := []
    let new : List (Validity × Int) := []
    s.netOn = true ∧ m < 2 ∧ s.net.smpLast.length = 2 ∧ bitAt (s.reg (A.NET_SV m 0)) 0 = true ∧
    s.net.smpVals = [(a1, sum1, new), (t0, sum0, old)] ∧
    let t1 := ((a1 : Int) - (sum1 - sum0)).toNat
    t0 ≤ t1 ∧
    (svNext s.svRate (max (t0 - 1) (s.net.smpLast.getD m 0))).1 ≤ t1) ∧
    (let s : State := onNet base
    let p : Nat := 1
    let src : Nat := 5
    let seq : Nat := 6
    s.portOn p = true ∧ p < 2 ∧ s.net.prpOk.length = 2) ∧
    (let s : State := onNet { base with net := { base.net with prpOk := [false, true] } }
    let lan : Nat := 1
    let lost : Bool := true
    s.Canon ∧ s.netOn = true ∧ lan < 2 ∧ s.net.prpOk.length = 2 ∧ s.net.prpOk.getD lan false = lost) ∧
    (let s : State := onNet base
    let p : Nat := 3
    let up : Bool := false
    s.Canon ∧ s.netOn = true ∧ p < 4 ∧ s.net.link.testBit p ≠ up) := by
  refine ⟨?_, ?_, ?_, ?_, ?_, ?_, ?_, ?_⟩ <;> decide +kernel

/-- The hypotheses of MastersAreFollowed are met, clause by clause. -/
theorem witness_MastersAreFollowed :
    (let s : State := onNet base
    let p : Nat := 1
    let d : Nat := 0
    let gm : BitVec 64 := 2#64
    let cls : BitVec 8 := 6#8
    let utc : BitVec 16 := 37#16
    let rank : Nat := 5
    s.ptpTakes p d = true ∧ s.net.masters.length = 2) ∧
    (let s : State := onNet base
    let p : Nat := 0
    let m : Master := { gm := 1, cls := 6, utc := 37, rank := 0, heard := 0 }
    s.masterOf p = some m) ∧
    (let s : State := onNet base
    let p : Nat := 1
    let d : Nat := 0
    let v : Nat := 0xFFFFFFFF
    s.ptpTakes p d = true ∧ s.net.delay.length = 2 ∧ s.net.rxStamp.length = 4 ∧ v < 2 ^ 32) := by
  refine ⟨?_, ?_, ?_⟩ <;> decide +kernel

/-- The hypotheses of SubscriptionsFollow are met, clause by clause. -/
theorem witness_SubscriptionsFollow :
    (let s : State := word (A.NET_SUB 63 0) 1#32 (onNet base)
    let f : GooseFrame := frame
    s.portOn f.port = true ∧ f.port < 2 ∧ Map.rising s.net.subs = true ∧ s.net.cnt.length = 4) ∧
    (let s : State := word (A.NET_SUB 63 0) 3#32 (onNet base)
    let f : GooseFrame := { frame with port := 3 }
    s.Canon ∧ s.portOn f.port = true ∧ 2 ≤ f.port ∧ s.net.cnt.length = 4 ∧ Map.rising s.net.subs = true) ∧
    (let s : State := { base with net := { base.net with subs := [(63, { subReset with valid := true, due := some 9 })] } }
    let n : Nat := 63
    let a : Nat := 9
    s.Canon ∧ s.live = true ∧ Map.rising s.net.subs = true ∧ (s.sub n).due = some a) := by
  refine ⟨?_, ?_, ?_⟩ <;> decide +kernel

/-- The hypotheses of RecordsAreTaken are met, clause by clause. -/
theorem witness_RecordsAreTaken :
    (let s : State := own 0xF0 (word A.REC_TRIGMASK 1#32 base)
    let h : Nat := 0
    s.admits h 0xF0 0x1FE = true ∧ s.ready 24 = true ∧ s.mem.dramFail = false ∧
    (s.reg A.REC_TRIGMASK).getLsbD 0 = true) ∧
    (let s : State := { base with reco := { base.reco with opened := some { no := 1, start := 0, stop := 0, short := false, cap := false, trigs := [(0, 0)], count := 1, hosts := [], omitted := 0 } } }
    let c : Rec := { no := 1, start := 0, stop := 0, short := false, cap := false, trigs := [(0, 0)], count := 1, hosts := [], omitted := 0 }
    s.live = true ∧ s.Canon ∧ s.reco.opened = some c) ∧
    (let s : State := withRing 5 { ringReset with type := 3, en := true } { base with reco := { base.reco with sel := [1, 0, 0, 0], held := [{ no := 1, start := 0, stop := 0, short := false, cap := false, trigs := [(0, 0)], count := 1, hosts := [{ host := 0, next := 1, sent := [] }], omitted := 0 }] } }
    let c : Rec := { no := 1, start := 0, stop := 0, short := false, cap := false, trigs := [(0, 0)], count := 1, hosts := [{ host := 0, next := 1, sent := [] }], omitted := 0 }
    let d : RecHost := { host := 0, next := 1, sent := [] }
    let n : Nat := 5
    let e : List Byte := (base.reco.entryAt { no := 1, start := 0, stop := 0, short := false, cap := false, trigs := [(0, 0)], count := 1, hosts := [{ host := 0, next := 1, sent := [] }], omitted := 0 } { host := 0, next := 1, sent := [] }).1
    s.live = true ∧ s.Canon ∧ d.host < 4 ∧ s.reco.held = [c] ∧ c.hosts = [d] ∧ s.reco.entryAt c d = (e, none) ∧
    s.ringOf s.ev d.host 3 = some n ∧ s.ev.rings.length = 64 ∧ (s.hw n).full = false ∧ s.ev.holding = false ∧
    s.reco.sel.getD d.host 0 ≠ 0) ∧
    (let s : State := withRing 5 { ringReset with type := 3, en := true, tail := 62 } { base with reco := { base.reco with sel := [1, 0, 0, 0], held := [{ no := 1, start := 0, stop := 0, short := false, cap := false, trigs := [(0, 0)], count := 1, hosts := [{ host := 0, next := 0, sent := [] }], omitted := 0 }] } }
    let c : Rec := { no := 1, start := 0, stop := 0, short := false, cap := false, trigs := [(0, 0)], count := 1, hosts := [{ host := 0, next := 0, sent := [] }], omitted := 0 }
    let d : RecHost := { host := 0, next := 0, sent := [] }
    let d' : RecHost := { host := 0, next := 1, sent := [] }
    let n : Nat := 5
    let e : List Byte := (base.reco.entryAt { no := 1, start := 0, stop := 0, short := false, cap := false, trigs := [(0, 0)], count := 1, hosts := [{ host := 0, next := 0, sent := [] }], omitted := 0 } { host := 0, next := 0, sent := [] }).1
    s.live = true ∧ s.Canon ∧ d.host < 4 ∧ s.reco.held = [c] ∧ c.hosts = [d] ∧ s.reco.entryAt c d = (e, some d') ∧
    s.ringOf s.ev d.host 3 = some n ∧ s.ev.rings.length = 64 ∧ (s.hw n).full = false ∧
    ((s.hw n).tail + 2) % (s.hw n).entries = (s.hw n).head ∧ s.ev.holding = false ∧ s.reco.sel.getD d.host 0 ≠ 0) ∧
    (let s : State := withRing 5 { ringReset with type := 3, en := true, tail := 62 } { base with reco := { base.reco with sel := [1, 0, 0, 0], held := [{ no := 1, start := 0, stop := 0, short := false, cap := false, trigs := [(0, 0)], count := 1, hosts := [{ host := 0, next := 0, sent := [] }], omitted := 0 }] } }
    s.live = true ∧ s.Canon ∧ s.ev.rings.length = 64 ∧ (s.reco.held.map (·.no)).Nodup ∧
    ((∀ c ∈ s.reco.held, (c.hosts.map (·.host)).Nodup))) ∧
    (let s : State := base
    (s.live = true) ∧ (s.reco.held = [])) ∧
    (let s : State := own 0xF0 base
    let h : Nat := 0
    let v : Word := 0x101#32
    s.Canon ∧ s.reco.sel.length = 4 ∧ s.admits h 0xF0 0x1FE = true) := by
  refine ⟨?_, ?_, ?_, ?_, ?_, ?_, ?_⟩ <;> decide +kernel

/-- The hypotheses of MemoryErrorsAreHandled are met, clause by clause. -/
theorem witness_MemoryErrorsAreHandled :
    (let s : State := base
    let bank : Nat := 23
    let row : Nat := 5
    let n : Nat := 3
    s.Canon ∧ s.live = true ∧ bank < 24 ∧ s.mem.rows.length = 24) ∧
    (let s : State := base
    let n : Nat := 3
    s.live = true) ∧
    (let s : State := base
    let loc : Nat := 7
    let a : Nat := 0
    let addr : Word := 0x100#32
    s.Canon ∧ s.live = true ∧ loc < 8) ∧
    (let s : State := base
    let loc : Nat := 4
    let off : Nat := A.DEV_MODE_REQ
    let x : Word := 1#32
    let xn : Word := 1#32
    s.Canon ∧ s.live = true ∧ loc < 5) := by
  refine ⟨?_, ?_, ?_, ?_⟩ <;> decide +kernel

/-- The hypotheses of ConfigurationImagesRun are met, clause by clause. -/
theorem witness_ConfigurationImagesRun :
    (let s : State := held A.MEM_CI_CMD 0x71#32 base
    let h : Nat := 0
    let k : Nat := 7
    s.Canon ∧ k < 8 ∧ s.mem.ci.length = 8 ∧ s.mem.ciOp = none ∧
    s.pends h A.MEM_CI_CMD mStop (wd (1 + 0x10 * k)) = true) ∧
    (let s : State := held A.MEM_CI_CMD 0x72#32 base
    let h : Nat := 0
    let k : Nat := 7
    s.Canon ∧ k < 8 ∧ s.mem.ci.length = 8 ∧ s.mem.ciOp = none ∧
    s.pends h A.MEM_CI_CMD mBase (wd (2 + 0x10 * k)) = true) ∧
    (let s : State := held A.MEM_CI_CMD 0x73#32 base
    let h : Nat := 0
    let k : Nat := 7
    s.Canon ∧ k < 8 ∧ s.mem.ci.length = 8 ∧ s.mem.ciOp = none ∧
    s.pends h A.MEM_CI_CMD mStop (wd (3 + 0x10 * k)) = true) ∧
    (let s : State := { base with mem := { base.mem with ciOp := some (1, 7, 0, []) } }
    let v : Bool := false
    let g : Bool := true
    let k : Nat := 7
    let h : Nat := 0
    let b : List Byte := []
    s.Canon ∧ s.live = true ∧ k < 8 ∧ s.mem.ci.length = 8 ∧ s.mem.ciOp = some (1, k, h, b)) ∧
    (let s : State := { base with mem := { base.mem with ciOp := some (2, 7, 0, []) } }
    let v : Bool := true
    let g : Bool := true
    let k : Nat := 7
    let h : Nat := 0
    let b : List Byte := []
    s.live = true ∧ s.mem.ciOp = some (2, k, h, b)) ∧
    (let s : State := { base with mem := { base.mem with ciOp := some (3, 7, 0, []) } }
    let v : Bool := true
    let g : Bool := true
    let k : Nat := 7
    let h : Nat := 0
    let b : List Byte := []
    s.live = true ∧ s.mem.ciOp = some (3, k, h, b) ∧ s.mem.flashFail = false) ∧
    (let s : State := { base with mem := { base.mem with bootPend := true } }
    s.live = true ∧ s.mem.bootPend = true ∧ s.allReady = true) := by
  refine ⟨?_, ?_, ?_, ?_, ?_, ?_, ?_⟩ <;> decide +kernel

/-- The hypotheses of LifecycleAndDies are met, clause by clause. -/
theorem witness_LifecycleAndDies :
    (let s : State := held A.LCY_CMD 1#32 (word 0x1080 1#32 base)
    let h : Nat := 0
    let k : Nat := 1
    k < 4 ∧ s.pends h A.LCY_CMD mService (wd k) = true ∧ s.lcyLegal (lifecycleOf k) = true ∧
    ((s.lcy.state = .blank → ∃ o ∈ keyFuses, s.reg o ≠ 0#32))) ∧
    (let s : State := { base with lcy := { base.lcy with target := some .provisioned } }
    let k : Lifecycle := .provisioned
    s.Canon ∧ s.pwr.dark = false ∧ s.lcy.target = some k) ∧
    (let s : State := base
    s.live = true) ∧
    (let s : State := base
    s.pwr.dark = false) := by
  refine ⟨?_, ?_, ?_, ?_⟩ <;> decide +kernel

/-- The hypotheses of RailsStartAndStop are met, clause by clause. -/
theorem witness_RailsStartAndStop :
    (let s : State := { base with rail := { base.rail with aux := false } }
    let r : Bool := true
    s.rail.aux = false ∧ s.rail.ch.length = 4) ∧
    (let s : State := base
    s.rail.aux = true ∧ s.rail.ch.length = 4) ∧
    (let s : State := withChannel 3 { railChReset 3300 3 with st := .soft } base
    let c : Nat := 3
    let p : Bool := true
    c < 4 ∧ s.rail.ch.length = 4 ∧ s.railOn = true ∧ (s.railCh c).st = .soft) ∧
    (let s : State := withChannel 3 { railChReset 3300 3 with pg := false } base
    let c : Nat := 3
    c < 4 ∧ s.rail.ch.length = 4 ∧ s.railOn = true ∧ (s.railCh c).st = .on ∧ (s.railCh c).pg = false) ∧
    (let s : State := base
    let c : Nat := 2
    c < 3 ∧ s.rail.ch.length = 4 ∧ s.railOn = true ∧ (s.railCh c).st = .on ∧ (s.railCh c).pg = true) ∧
    (let s : State := base
    s.Canon ∧ s.rail.ch.length = 4 ∧ s.railOn = true ∧ (s.railCh 3).st = .on ∧ (s.railCh 3).pg = true) ∧
    (let s : State := base
    let c : Nat := 3
    let k : Nat := 6
    s.rail.ch.length = 4 ∧ s.latchDue c k = true) ∧
    (let s : State := { base with rail := { base.rail with latch := some (3, 6) } }
    s.rail.aux = true ∧ s.rail.latch.isSome = true ∧ s.rail.ch.length = 4) := by
  refine ⟨?_, ?_, ?_, ?_, ?_, ?_, ?_, ?_⟩ <;> decide +kernel

/-- The hypotheses of RailsProtectAndFollowCommands are met, clause by clause. -/
theorem witness_RailsProtectAndFollowCommands :
    (let s : State := withChannel 3 { railChReset 3300 3 with consec := 31 } base
    let c : Nat := 3
    s.rail.ch.length = 4 ∧ s.chRuns c = true ∧ (s.railCh c).bstuv = false ∧ (s.railCh c).ilimNow = false) ∧
    (let s : State := base
    let c : Nat := 3
    s.rail.ch.length = 4 ∧ s.chRuns c = true) ∧
    (let s : State := base
    let c : Nat := 3
    s.Canon ∧ s.rail.ch.length = 4 ∧ s.chRuns c = true ∧ (s.railCh c).bstuv = false) ∧
    (let s : State := withChannel 3 { railChReset 3300 3 with bstuv := true } base
    let c : Nat := 3
    s.rail.ch.length = 4 ∧ s.chRuns c = true ∧ (s.railCh c).bstuv = true) ∧
    (let s : State := base
    let c : Nat := 3
    let a : Bool := true
    s.Canon ∧ s.rail.ch.length = 4 ∧ s.chRuns c = true ∧ (s.railCh c).ov ≠ a) ∧
    (let s : State := base
    let c : Nat := 3
    let l : Bool := true
    s.rail.ch.length = 4 ∧ s.chRuns c = true) ∧
    (let s : State := withChannel 3 { railChReset 3300 3 with ilimNow := true, consec := 3 } base
    let c : Nat := 3
    let p : Bool := true
    let e : Bool := true
    s.rail.ch.length = 4 ∧ s.chRuns c = true) ∧
    (let s : State := base
    let c : Nat := 3
    let p : Bool := false
    let e : Bool := true
    s.rail.ch.length = 4 ∧ s.chRuns c = true) ∧
    (let s : State := held (A.RAIL_VSET 0) 760#32 base
    let h : Nat := 0
    let c : Nat := 0
    let v : Word := 760#32
    s.Canon ∧ c < 4 ∧ s.rail.ch.length = 4 ∧ s.pends h (A.RAIL_VSET c) mStop v = true ∧ s.vsetOk c v = true) ∧
    (let s : State := word (A.RAIL_CH_CFG 0) 0x10#32 (word (A.RAIL_CH_CFG 1) 0x210#32 base)
    let c : Nat := 1
    s.rail.ch.length = 4 ∧ s.chRuns c = true ∧ (s.railCh c).pg = true ∧
    ((∀ d ∈ railOf c, bitAt (s.chCfg d) 4 = true))) ∧
    (let s : State := withChannel 3 { railChReset 3300 3 with burst := true } base
    let c : Nat := 3
    s.Canon ∧ c < 4 ∧ s.rail.ch.length = 4 ∧ (s.railCh c).burst = true) ∧
    (let s : State := base
    let k : Nat := 2200
    s.Canon ∧ s.railOn = true ∧ 400 ≤ k ∧ k ≤ 2200) ∧
    (let s : State := { base with rail := { base.rail with sync := some 1000, follow := true } }
    s.Canon ∧ s.railOn = true ∧ s.rail.sync.isSome = true) := by
  refine ⟨?_, ?_, ?_, ?_, ?_, ?_, ?_, ?_, ?_, ?_, ?_, ?_, ?_⟩ <;> decide +kernel

/-- The hypotheses of ClocksAreSelectedAndLock are met, clause by clause. -/
theorem witness_ClocksAreSelectedAndLock :
    (let s : State := { base with clk := { base.clk with good := [true, false] } }
    let r : Nat := 1
    s.clkOn = true ∧ r < 2 ∧ s.clk.good.length = 2 ∧ s.clk.goodAt.length = 2) ∧
    (let s : State := base
    let r : Nat := 0
    s.Canon ∧ s.clkOn = true ∧ r < 2 ∧ s.clk.good.length = 2 ∧ s.clk.good.getD r false = true) ∧
    (let s : State := { base with clk := { base.clk with hold := some 5 } }
    let a : Nat := 5
    s.clkOn = true ∧ s.live = true ∧ s.clk.hold = some a) ∧
    (let s : State := word A.CLK_REFCFG 3#32 base
    s.clkOn = true ∧ bitAt (s.reg A.CLK_REFCFG) 1 = true ∧ s.clk.use ≠ s.prefRef ∧ s.clk.hold = none ∧
    s.clk.good.getD s.prefRef false = true) ∧
    (let s : State := base
    let x : Int := -500
    s.Canon ∧ s.clkOn = true) ∧
    (let s : State := base
    let l : Nat := 1
    let n : Nat := 70
    s.lockFits l n = false) ∧
    (let s : State := { base with clk := { base.clk with lock := [true, true, true, false] } }
    let l : Nat := 3
    let n : Nat := 8185
    s.lockFits l n = true ∧ s.clk.lock.length = 4 ∧ s.clk.counts.length = 4) ∧
    (let s : State := base
    let l : Nat := 1
    let n : Nat := 7
    let fast : Bool := true
    s.Canon ∧ s.lockGoes l n fast = true ∧ s.clk.lock.length = 4 ∧ s.clk.losses.length = 2 ∧
    s.gaf.engines.length = 2 ∧ s.clk.fab < 2) ∧
    (let s : State := { base with clk := { base.clk with retry := true } }
    let b : Bool := true
    s.clkOn = true ∧ s.clk.retry = true ∧ s.clk.lock.length = 4 ∧ s.clk.fab < 2) ∧
    (let s : State := { base with rings := { base.rings with ports := base.rings.ports.set 33 { portReset 0x3F with dll := true } } }
    let p : Nat := 33
    s.Canon ∧ s.live = true ∧ p < 34 ∧ (s.port p).dll = true) := by
  refine ⟨?_, ?_, ?_, ?_, ?_, ?_, ?_, ?_, ?_, ?_⟩ <;> decide +kernel

/-- The hypotheses of SentinelWatchesAndAlerts are met, clause by clause. -/
theorem witness_SentinelWatchesAndAlerts :
    (let s : State := word A.SEN_TAMP_CFG 2#32 base
    let no : BitVec 8 := 0xFF#8
    let nc : BitVec 8 := 0#8
    let tamp : BitVec 2 := 3#2
    let i : Nat := 9
    s.sen.alive = true ∧ s.sen.cand.length = 10 ∧ i < 10) ∧
    (let s : State := word A.SEN_TAMP_CFG 2#32 { base with sen := { base.sen with cand := base.sen.cand.set 9 (1, 1) } }
    let i : Nat := 9
    s.sen.alive = true ∧ s.sen.cand.length = 10 ∧ s.senPending i = true ∧
    (s.sen.cand.getD i (0, 0)).1 ≤ (if i < 8 then 2 else 1)) ∧
    (let s : State := word A.SEN_CFG 0xFF01#32 { base with sen := { base.sen with log := [(0, 0xFC#8 :: 8#8 :: List.replicate 30 0)], next := 1 } }
    let i : Nat := 0
    let b : List Byte := 0xFC#8 :: 8#8 :: List.replicate 30 0
    let l : List (Nat × List Byte) := []
    s.sen.alive = true ∧ bitAt (s.reg A.SEN_CFG) 0 = true ∧ s.sen.frame = none ∧ s.sen.txSusp = false ∧
    s.sen.prot.testBit 3 = false ∧ s.sen.retryAt = none ∧ ((s.rail.aux = true ∨ 2 ≤ s.sen.band)) ∧
    s.alertsPending = (i, b) :: l) ∧
    (let s : State := { base with sen := { base.sen with log := [(0, 0xFC#8 :: 8#8 :: List.replicate 30 0)], next := 1, frame := some { entry := 0, start := 0, bytes := [1] } } }
    let f : AlertFrame := { entry := 0, start := 0, bytes := [1] }
    s.sen.alive = true ∧ s.sen.frame = some f) ∧
    (let s : State := { base with rail := { base.rail with aux := false }, sen := { base.sen with log := [(0, 0xFC#8 :: 8#8 :: List.replicate 30 0)], next := 1, frame := some { entry := 0, start := 0, bytes := [1] } } }
    let f : AlertFrame := { entry := 0, start := 0, bytes := [1] }
    s.Canon ∧ s.sen.alive = true ∧ s.rail.aux = false ∧ s.sen.frame = some f) ∧
    (let s : State := { base with sen := { base.sen with retryAt := some 9 } }
    let a : Nat := 9
    s.sen.alive = true ∧ s.sen.retryAt = some a) := by
  refine ⟨?_, ?_, ?_, ?_, ?_, ?_⟩ <;> decide +kernel

/-- The hypotheses of SentinelLives are met, clause by clause. -/
theorem witness_SentinelLives :
    (let s : State := base
    s.senWorks = true ∧ s.sen.rtc ≤ s.sen.stampDue * ns) ∧
    (let s : State := base
    let v : Nat := 3000
    s.sen.alive = true) ∧
    (let s : State := { base with rail := { base.rail with aux := false } }
    let mid : Bool := true
    s.sen.alive = true) ∧
    (let s : State := base
    let k : Nat := 3
    s.Canon ∧ s.sen.alive = true ∧ k < 4 ∧ (k ≠ 0 ∨ 4200 ≤ s.sen.vcell)) ∧
    (let s : State := { base with sen := { base.sen with prot := 8 } }
    let k : Nat := 3
    s.sen.alive = true ∧ k < 4 ∧ s.sen.prot.testBit k = true) ∧
    (let s : State := { base with sen := { base.sen with alive := false } }
    s.sen.alive = false ∧ s.rail.aux = true) ∧
    (let s : State := { base with pwr := { base.pwr with ready := 0x3FFFFEF } }
    s.Canon ∧ s.live = true ∧ s.sen.alive = true ∧ s.ready 4 = false) ∧
    (let s : State := own 0x12 (withSeal 3 { sealReset with known := true } base)
    let h : Nat := 0
    let v : Word := 1#32
    let r : Row := rowOf A.SEN_TAMP_CFG
    s.Canon ∧ (rowAt A.SEN_TAMP_CFG).isSome = true ∧ r.ok v = true ∧ s.admits h 0x12 mService = true ∧
    s.sealClosed 3 = false) ∧
    (let s : State := { base with sen := { base.sen with cellFlt := true } }
    let h : Nat := 3
    s.live = true ∧ h < 4) := by
  refine ⟨?_, ?_, ?_, ?_, ?_, ?_, ?_, ?_, ?_⟩ <;> decide +kernel

/-- The hypotheses of ResetAndReadiness are met, clause by clause. -/
theorem witness_ResetAndReadiness :
    (let s : State := base
    s.Canon ∧ s.pwr.dark = false) ∧
    (let s : State := { base with pwr := { base.pwr with sources := 2, held := true } }
    s.pwr.dark = false ∧ s.pwr.scan = none) ∧
    (let s : State := held A.DBG_SWRST 1#32 base
    let h : Nat := 0
    s.pends h A.DBG_SWRST 0x182 1#32 = true) ∧
    (let s : State := { base with pwr := { base.pwr with held := true } }
    let failed : List Nat := [0x32, 0x4F, 0x18]
    s.releaseDue = true ∧ s.rings.ports.length = 34 ∧ s.adc.slices.length = 24 ∧ s.mem.rows.length = 24) ∧
    (let s : State := { base with pwr := { base.pwr with ready := 0x3FFFFFE } }
    let b : Nat := 0
    s.live = true ∧ b < 26 ∧ b ≠ 4 ∧ s.ready b = false ∧ s.pwr.late.testBit b = false ∧ s.blockMay b = true) ∧
    (let s : State := { base with pwr := { base.pwr with late := 32, ready := 0x3FFFFDF } }
    let b : Nat := 5
    s.live = true ∧ b < 26 ∧ s.pwr.late.testBit b = true) ∧
    (let s : State := { base with pwr := { base.pwr with ready := 0x1FFFFFF, released := 0 } }
    let b : Nat := 25
    let u : Nat := ms (readyLimit 25)
    s.Canon ∧ s.live = true ∧ b < 26 ∧ s.ready b = false ∧ s.pwr.late.testBit b = false ∧ s.readyBy b = some u) ∧
    (let s : State := { base with hosts := { base.hosts with train := [some 0, some 0] } }
    let h : Nat := 1
    s.live = true ∧ h < 2 ∧ s.hosts.link.length = 4 ∧ s.hosts.train.length = 2 ∧ s.training h = true) := by
  refine ⟨?_, ?_, ?_, ?_, ?_, ?_, ?_, ?_⟩ <;> decide +kernel

/-- The hypotheses of BoundaryScanInstructions are met, clause by clause. -/
theorem witness_BoundaryScanInstructions :
    (let s : State := base
    s.tapOn = true ∧ s.pwr.scan = none) ∧
    (let s : State := base
    s.tapOn = true ∧ s.pwr.scan = none) ∧
    (let s : State := base
    let c : List Bool := [true]
    s.tapOn = true ∧ s.pwr.scan = none) ∧
    (let s : State := tapBase true
    let c : List Bool := [true, false, true]
    s.tapOn = true ∧ s.pwr.scan = none ∧ s.scanAllowed = true ∧ c ≠ []) ∧
    (let s : State := tapBase false
    let c : List Bool := [true]
    s.tapOn = true ∧ s.pwr.scan = none ∧ s.scanAllowed = false) ∧
    (let s : State := tapBase true
    let c : List Bool := [false, true]
    s.tapOn = true ∧ s.pwr.scan = none ∧ s.scanAllowed = true ∧ c ≠ []) ∧
    (let s : State := tapBase false
    let c : List Bool := []
    s.tapOn = true ∧ s.pwr.scan = none ∧ s.scanAllowed = false) ∧
    (let s : State := tapBase true
    let c : List Bool := [true]
    s.tapOn = true ∧ s.pwr.scan = none ∧ s.scanAllowed = true ∧ c ≠ []) ∧
    (let s : State := tapBase false
    let c : List Bool := [true]
    s.tapOn = true ∧ s.pwr.scan = none ∧ s.scanAllowed = false) ∧
    (let s : State := tapBase true
    s.tapOn = true ∧ s.pwr.scan = none ∧ s.scanAllowed = true) ∧
    (let s : State := tapBase true
    s.tapOn = true ∧ s.pwr.scan = none ∧ s.scanAllowed = true) ∧
    (let s : State := tapBase false
    s.tapOn = true ∧ s.pwr.scan = none ∧ s.scanAllowed = false) ∧
    (let s : State := tapBase false
    s.tapOn = true ∧ s.pwr.scan = none ∧ s.scanAllowed = false) ∧
    (let s : State := base
    let c : BitVec 8 := 0xFF#8
    s.tapOn = true ∧ s.pwr.scan = none ∧ ((c = 0#8 ∨ 7 < c.toNat))) ∧
    (let s : State := { base with pwr := { base.pwr with scan := some 3, held := true } }
    let i : Nat := 3
    s.tapOn = true ∧ s.pwr.scan = some i) := by
  refine ⟨?_, ?_, ?_, ?_, ?_, ?_, ?_, ?_, ?_, ?_, ?_, ?_, ?_, ?_, ?_⟩ <;> decide +kernel

/-- The hypotheses of RingSpaceReadsBack are met, clause by clause. -/
theorem witness_RingSpaceReadsBack :
    (let s : State := base
    let h : Nat := 3
    let a : Nat := 0x1FFFFFC
    let way : BitVec 8 := 0x38#8
    let v : Word := 5#32
    s.live = true ∧ h < 4 ∧ wholeWord h way = true ∧ Memory.wf s.ev.mem = true ∧ s.spaceBarred h a = false) ∧
    (let s : State := base
    let h : Nat := 3
    let a : Nat := 0x2000000
    let way : BitVec 8 := 0x38#8
    let v : Word := 5#32
    s.live = true ∧ h < 4 ∧ wholeWord h way = true ∧ s.spaceBarred h a = true) ∧
    (let s : State := base
    let h : Nat := 1
    let o : Nat := 0x70050
    let way : BitVec 8 := 0x7#8
    let v : Word := 5#32
    s.live = true ∧ h < 2 ∧ wholeWord h way = false) := by
  refine ⟨?_, ?_, ?_⟩ <;> decide +kernel

/-- An empty queue, and one whose command is carried out. -/
theorem witness_StepTakesTheFrontCommand : base.pending = [] := rfl

theorem witness_InvariantsAreKept :
    base.Canon ∧ base.Claimed ∧ (∃ t, step base = .next t) ∧
    ∃ t, step { base with pending := [.claim 1 0x70 0, .beatStart] } = .next t := by
  refine ⟨by decide +kernel, by decide +kernel, ⟨_, rfl⟩, ⟨_, rfl⟩⟩

theorem witness_SettleChangesLittle :
    ({ base with pwr := { base.pwr with held := true } } : State).live = false ∧ base.ang.beats = true ∧ base.ang.lock = true := by decide +kernel

theorem witness_EventsSetFlags :
    let s : State := { base with ev := { base.ev with irq := [(0x2000 + 0xFFF, 0x80000000#32)] } }
    s.Canon ∧ 0xFFF < 0x1000 ∧ 31 < 32 ∧ bitAt (s.ev.flags 2 0xFFF) 31 = true := by decide +kernel

theorem witness_ErrcodeHoldsTheLastRefusal :
    (base.Canon ∧ A.ANG_FLY < 0x1000000 ∧ A.ANG_FLY % 4 = 0 ∧ listed (A.ANG_FLY / 0x1000) = true ∧
      (base.hostWrite 3 A.ANG_FLY 0#32).2 ≠ .ok) ∧
    ((own 0x20 base).Canon ∧ ((own 0x20 base).hostWrite 0 A.ANG_FLY (resetWord A.ANG_FLY)).2 = .ok ∧
      A.ANG_FLY % 0x1000 ≠ 0x28 ∧ A.ANG_FLY ≠ A.DBG_SWRST + 4) ∧
    (listed 0xF8 = true ∧ base.wiping = false) := by decide +kernel

theorem witness_PendingPairsAreNotRead :
    (A.BPT_STORE_P % 4 = 0 ∧ listed (A.BPT_STORE_P / 0x1000) = true ∧ 0x40 ≤ A.BPT_STORE_P % 0x1000 ∧
      (rowAt A.BPT_STORE_P).isSome = true ∧ (rowOf A.BPT_STORE_P).cls = .rwc ∧
      ((inMode .watch (own 0x90 base)).hostWrite 0 A.BPT_STORE_P 0#32).2 = .ok) ∧
    (0x40 ≤ (A.BPT_STORE_P + 4) % 0x1000 ∧ (rowAt (A.BPT_STORE_P + 4)).isNone = true ∧
      (own 0x90 base).pendingOf 0 A.BPT_STORE_P = none) := by decide +kernel

theorem witness_RefusedWritesStoreNothing :
    (A.BPT_CFG % 4 = 0 ∧ listed (A.BPT_CFG / 0x1000) = true ∧ 0x40 ≤ A.BPT_CFG % 0x1000 ∧
      (rowAt A.BPT_CFG).isSome = true ∧ (rowOf A.BPT_CFG).cls ≠ .rwc ∧ (base.hostWrite 0 A.BPT_CFG 0#32).2 ≠ .ok) ∧
    (A.BPT_STORE_P % 4 = 0 ∧ listed (A.BPT_STORE_P / 0x1000) = true ∧ 0x40 ≤ A.BPT_STORE_P % 0x1000 ∧
      (rowAt A.BPT_STORE_P).isSome = true ∧ (rowOf A.BPT_STORE_P).cls = .rwc ∧ (rowAt (A.BPT_STORE_P + 4)).isNone = true ∧
      (base.hostWrite 3 (A.BPT_STORE_P + 0) 0#32).2 ≠ .ok ∧ (base.hostWrite 3 (A.BPT_STORE_P + 4) 0#32).2 ≠ .ok) := by
  decide +kernel

/-- Slot 7 runs every beat in SERVICE, as a type says. -/
def slotted (ty : Nat) : State := word (A.SLOT 7 0) (wd (ty + 0xFF00010)) base

/-- Two storage cells of the first phase, on duty, which have reported a voltage and no state of charge. -/
def twoCells : State :=
  let x : CellLink := { cellLinkReset with st := .active, last := List.replicate 64 3#8 }
  { word (A.CELL 6 0) 0x80000000#32 (word (A.CELL 5 0) 0x80000000#32 base) with
    rings := { base.rings with cells := [(5, x), (6, { x with last := 0#8 :: List.replicate 63 3#8 })] } }

/-- The last beat of a low voltage that brings RIDE. -/
def rideEntry : State :=
  let s := (List.range 3).foldl (fun (s : State) q => s.setQuant q { ok := true, val := 5, lsb := 1 }) (inMode .follow base)
  let w := Map.put (fun _ => 0#32) 48 2000#32 (Map.put (fun _ => 0#32) 2 0x7D003E8#32 profileWhole)
  { s with rti := { s.rti with words := w, ulow := 0xC000000, uhigh := 0x10000000, entLow := 40 } }

/-- A pair about to be declared and one declared, a due slot of each type, a phase of two storage cells, and an entry of RIDE
by low voltage. -/
theorem witness_PipelineStagesCompute :
    (∃ p : Pair, p.declared = false ∧ p.valid ≠ .invalid ∧ p.carried < 2 ∧ p.dis + 1 < 2 ∧ 1 ≤ p.dis + 1 ∧
      absI ((3, 1).1 - (5, 1).1 : Int) ≤ 2 ∧ 1 < absI ((3, 1).1 - (5, 1).1 : Int)) ∧
    (∃ p : Pair, p.declared = true ∧ p.agree + 1 < 4 ∧ 3 ≤ p.agree + 1 ∧ 2 ≤ p.carried) ∧
    (∀ ty, ty ∈ [1, 3, 4, 5] →
      let s := slotted ty
      Map.rising s.loop.slots = true ∧ s.slotDue 7 = true ∧ s.loop.fresh.contains 7 = false ∧ (s.slot 7).st ≠ .outHold ∧
      s.inputsOk 7 = true ∧ slotType (s.sw 7 0) = ty ∧ fld (s.sw 7 4) 16 8 = 0 ∧ (s.slot 7).released = false ∧
      s.withheld (slotRole (s.sw 7 4)) 0 = false) ∧
    base.slotDue 7 = false ∧
    (let s := twoCells
     s.Canon ∧ Map.wf (fun _ => cellModReset) s.modu.cells = true ∧ 6 ∈ s.cellsIn 0 .active ∧
       ((s.cellsIn 0 .active).all fun c => (s.trk c).share == 0) = true ∧
       isum ((s.cellsIn 0 .active).map fun c => (s.vdc c : Int)) ≠ 0 ∧ 0 ≤ (s.trk 6).share ∧
       isum ([].map s.vdcPu) < absI 1 ∧ s.socKnown 6 = false) ∧
    ((inMode .follow base).modes.cur ≠ .service ∧ base.modes.cur.within 0x70 = false ∧
      (inMode .follow base).modes.cur.within 0x70 = true) ∧
    (let s := rideEntry
     s.modes.next ≠ some .hold ∧ s.gridOk = true ∧ s.rti.ulow < milli (fld (s.pw 8) 0 16) ∧
       fld (s.pw 0x10) 0 5 ≤ s.rti.entLow + 1 ∧ (s.entryCounts.decideRide 1).tripRow true = none) := by
  refine ⟨⟨{ pairReset with valid := .valid }, ?_⟩, ⟨{ pairReset with declared := true, agree := 2, carried := 2 }, ?_⟩, ?_⟩ <;> decide +kernel

theorem witness_NothingActsInReset :
    ({ base with pwr := { base.pwr with held := true } } : State).live = false := by decide +kernel

end Sys2Proof.Tests
end

section
/-! PROOFS. The queue, the part, the lifecycle state, the monotone time and the hosts' own words: what no unit of the device
changes. One lemma per operation of the model says that it keeps all five (`_lasting`); the operations at whose instant time
passes, that reset the device or that record a refusal keep all but the last two, and time does not go back (`_before`). -/

namespace Sys2Proof.Machine

/-! ## What lasts -/

/-- The queue, the part, the lifecycle state, the monotone time and the words of the host windows. -/
structure Lasting where
  pending : List Instr
  part : Part
  life : Lifecycle
  now : Nat
  win : List (Nat × Word)

/-- What lasts of a state. -/
def State.lasting (s : State) : Lasting := ⟨s.pending, s.part, s.lcy.state, s.clock.mono, s.hosts.win⟩

/-- What lasts of a later state: the queue, the part and the lifecycle state are the same, and time has not gone back. -/
def Lasting.before (a b : Lasting) : Prop :=
  a.pending = b.pending ∧ a.part = b.part ∧ a.life = b.life ∧ a.now ≤ b.now

/- The two equations below are proved by `simp only` and not by `rfl`: a rewriting by definitional unfolding would make the
kernel compare whole states, field by field. -/

@[simp] theorem State.mk_lasting (free : Nat) (part : Part) (regs : List (Nat × Word)) (used : List (Nat × Word)) (rideWait :
    List Nat) (pwr : Reset) (lcy : Lcy) (clock : Clock) (hosts : Hosts) (modes : Modes) (ang : Angle) (adc : Adc) (rings :
    Rings) (modu : Modulator) (loop : Loop) (grd : Grd) (bpt : Bpt) (rti : Rti) (gaf : Gaffer) (saf : Safety) (net : Net)
    (reco : Recorder) (mem : Memories) (rail : Rail) (clk : Clk) (sen : Sentinel) (ev : Fabric) (pending : List Instr) :
    (State.mk free part regs used rideWait pwr lcy clock hosts modes ang adc rings modu loop grd bpt rti gaf saf net reco mem
      rail clk sen ev pending).lasting = ⟨pending, part, lcy.state, clock.mono, hosts.win⟩ := by
  simp only [State.lasting]

@[simp] theorem Lasting.mk_eq_lasting (s : State) :
    (⟨s.pending, s.part, s.lcy.state, s.clock.mono, s.hosts.win⟩ : Lasting) = s.lasting := by
  simp only [State.lasting]

@[simp] theorem State.lasting_ite (c : Prop) [Decidable c] (s t : State) :
    (if c then s else t).lasting = if c then s.lasting else t.lasting := by split <;> rfl

@[simp] theorem fst_lasting_ite {α : Type} (c : Prop) [Decidable c] (s t : State × α) :
    (if c then s else t).1.lasting = if c then s.1.lasting else t.1.lasting := by split <;> rfl

@[simp] theorem foldl_lasting {α : Type} {f : State → α → State} (h : ∀ s a, (f s a).lasting = s.lasting) (l : List α)
    (s : State) : (l.foldl f s).lasting = s.lasting := by
  induction l generalizing s with
  | nil => rfl
  | cons a l ih => rw [List.foldl_cons, ih, h]

/-! ## Operations that keep all that lasts -/

/-! ### Ops -/

@[simp] theorem State.putReg_lasting (s : State) (o : Nat) (v : Word) : (s.putReg o v).lasting = s.lasting := by
  simp [State.putReg]
@[simp] theorem State.putBoth_lasting (s : State) (o : Nat) (v : Word) : (s.putBoth o v).lasting = s.lasting := by
  simp [State.putBoth]
@[simp] theorem State.send_lasting (s : State) (o : Out) : (s.send o).lasting = s.lasting := by simp [State.send]
@[simp] theorem State.sendAll_lasting (s : State) (os : List Out) : (s.sendAll os).lasting = s.lasting := by
  simp [State.sendAll]
@[simp] theorem State.took_lasting (s : State) (n : Nat) : (s.took n).lasting = s.lasting := by simp [State.took]

/-! ### Flags -/

@[simp] theorem State.raiseAs_lasting (s : State) (settled : Option Bool) (e : Event) :
    (s.raiseAs settled e).lasting = s.lasting := by simp [State.raiseAs]
@[simp] theorem State.raise_lasting (s : State) (e : Event) : (s.raise e).lasting = s.lasting := by simp [State.raise]

@[simp] theorem State.flushOwn_lasting (n : Nat) (s : State) : (s.flushOwn n).lasting = s.lasting := by
  induction n generalizing s with
  | zero => rfl
  | succ n ih => simp [State.flushOwn, ih]
@[simp] theorem State.event_lasting (s : State) (page num : Nat) (subject : Nat) (detail : List Nat) (st : Status) :
    (s.event page num subject detail st).lasting = s.lasting := by simp [State.event]
@[simp] theorem State.eventTo_lasting (s : State) (whom page num : Nat) (subject : Nat) (detail : List Nat) :
    (s.eventTo whom page num subject detail).lasting = s.lasting := by simp [State.eventTo]
@[simp] theorem State.eventIf_lasting (s : State) (c : Bool) (page num : Nat) (subject : Nat) (detail : List Nat) :
    (s.eventIf c page num subject detail).lasting = s.lasting := by simp [State.eventIf]
@[simp] theorem State.trigger_lasting (s : State) (src : Nat) (force : Bool) : (s.trigger src force).lasting = s.lasting := by
  unfold State.trigger
  (repeat' split) <;> simp

/-! ### Hold -/

@[simp] theorem State.modCell_lasting (s : State) (c : Nat) (f : CellLink → CellLink) :
    (s.modCell c f).lasting = s.lasting := by simp [State.modCell]
@[simp] theorem State.modCmod_lasting (s : State) (c : Nat) (f : CellMod → CellMod) :
    (s.modCmod c f).lasting = s.lasting := by simp [State.modCmod]
@[simp] theorem State.modRing_lasting (s : State) (k : Nat) (f : RingSt → RingSt) : (s.modRing k f).lasting = s.lasting := by
  simp [State.modRing]
@[simp] theorem State.cutCell_lasting (s : State) (first : Bool) (c : Nat) : (s.cutCell first c).lasting = s.lasting := by
  simp [State.cutCell]
@[simp] theorem State.sendFrame_lasting (s : State) (k : Nat) (b : List Byte) : (s.sendFrame k b).lasting = s.lasting := by
  simp [State.sendFrame]
@[simp] theorem State.sendCut_lasting (s : State) (k lines : Nat) : (s.sendCut k lines).lasting = s.lasting := by
  simp [State.sendCut]
@[simp] theorem State.cutAll_lasting (s : State) : s.cutAll.lasting = s.lasting := by simp [State.cutAll]
@[simp] theorem State.modGroup_lasting (s : State) (g : Nat) (f : Group → Group) : (s.modGroup g f).lasting = s.lasting := by
  simp [State.modGroup]
@[simp] theorem State.groupOn_lasting (s : State) (g : Nat) : (s.groupOn g).lasting = s.lasting := by simp [State.groupOn]
@[simp] theorem State.groupOff_lasting (s : State) (g : Nat) : (s.groupOff g).lasting = s.lasting := by simp [State.groupOff]
@[simp] theorem State.groupsOff_lasting (s : State) : s.groupsOff.lasting = s.lasting := by simp [State.groupsOff]
@[simp] theorem State.holdActs_lasting (s : State) : s.holdActs.lasting = s.lasting := by simp [State.holdActs]
@[simp] theorem State.latched_lasting (s : State) (bit : Nat) : (s.latched bit).lasting = s.lasting := by
  unfold State.latched
  split <;> simp
@[simp] theorem State.causeOn_lasting (s : State) (bit : Nat) : (s.causeOn bit).lasting = s.lasting := by simp [State.causeOn]
@[simp] theorem State.causeOff_lasting (s : State) (bit : Nat) : (s.causeOff bit).lasting = s.lasting := by
  simp [State.causeOff]
@[simp] theorem State.causeIs_lasting (s : State) (bit : Nat) (on : Bool) : (s.causeIs bit on).lasting = s.lasting := by
  simp [State.causeIs]
@[simp] theorem State.causePulse_lasting (s : State) (bit : Nat) : (s.causePulse bit).lasting = s.lasting := by
  simp [State.causePulse]

/-! ### Access -/

@[simp] theorem State.putUpper_lasting (s : State) (h o : Nat) (v : Word) : (s.putUpper h o v).lasting = s.lasting := by
  simp [State.putUpper]
@[simp] theorem State.dropUpper_lasting (s : State) (h o : Nat) : (s.dropUpper h o).lasting = s.lasting := by
  simp [State.dropUpper]
@[simp] theorem State.applyUpper_lasting (s : State) (h o : Nat) (mask : Word) :
    (s.applyUpper h o mask).lasting = s.lasting := by simp [State.applyUpper]
@[simp] theorem State.pairLow_lasting (s : State) (h o : Nat) (mask v : Word) :
    (s.pairLow h o mask v).lasting = s.lasting := by simp [State.pairLow]
@[simp] theorem State.disarm_lasting (s : State) (h page : Nat) : (s.disarm h page).lasting = s.lasting := by
  simp [State.disarm]

@[simp] theorem State.judged_lasting {s : State} {checks : List (Bool × Status)} {act : State → State}
    (hact : (act s).lasting = s.lasting) : (s.judged checks act).1.lasting = s.lasting := by
  simp [State.judged, hact]
@[simp] theorem State.ignored_lasting (s : State) (h page : Nat) : (s.ignored h page).1.lasting = s.lasting := by
  simp [State.ignored]
@[simp] theorem State.rwStore_lasting (s : State) (h o : Nat) (v : Word) (r : Row) (extra : List (Bool × Status)) :
    (s.rwStore h o v r extra).1.lasting = s.lasting := by simp [State.rwStore]
@[simp] theorem State.emptied_lasting (s : State) (h o : Nat) : (s.emptied h o).lasting = s.lasting := by simp [State.emptied]
@[simp] theorem State.placed_lasting (s : State) (h o : Nat) (v : Word) : (s.placed h o v).lasting = s.lasting := by
  simp [State.placed]
@[simp] theorem State.rwcValue_lasting (s : State) (h o : Nat) (v mask : Word) (ok : Bool) :
    (s.rwcValue h o v mask ok).1.lasting = s.lasting := by simp [State.rwcValue]

@[simp] theorem State.rwcComplement_lasting {s : State} {h o : Nat} {vn : Word}
    {checks : Word → State → List (Bool × Status)} {act : Word → State → State}
    (hact : ∀ v t, (act v t).lasting = t.lasting) : (s.rwcComplement h o vn checks act).1.lasting = s.lasting := by
  unfold State.rwcComplement
  split <;> simp [hact]

@[simp] theorem State.rwcComplementAcc_lasting {s : State} {h o : Nat} {vn : Word}
    {checks : Word → State → List (Bool × Status)} {act : Word → State → Acc}
    (hact : ∀ v t, (act v t).1.lasting = t.lasting) : (s.rwcComplementAcc h o vn checks act).1.lasting = s.lasting := by
  unfold State.rwcComplementAcc
  split <;> simp [hact]
@[simp] theorem State.claimEnds_lasting (s : State) (h page : Nat) : (s.claimEnds h page).lasting = s.lasting := by
  simp [State.claimEnds]
@[simp] theorem State.claim_lasting (s : State) (h page : Nat) (arg : Nat) : (s.claim h page arg).1.lasting = s.lasting := by
  simp [State.claim]
@[simp] theorem State.release_lasting (s : State) (h page : Nat) (arg : Nat) :
    (s.release h page arg).1.lasting = s.lasting := by simp [State.release]
@[simp] theorem State.breakOp_lasting (s : State) (h page : Nat) (arg : Nat) :
    (s.breakOp h page arg).1.lasting = s.lasting := by
  unfold State.breakOp
  split <;> simp
@[simp] theorem State.keyOp_lasting (s : State) (h page : Nat) (arg : Nat) : (s.keyOp h page arg).1.lasting = s.lasting := by
  simp [State.keyOp]
@[simp] theorem State.lockWrite_lasting (s : State) (h page : Nat) (v : Word) :
    (s.lockWrite h page v).1.lasting = s.lasting := by simp [State.lockWrite]

/-! ### Cullet -/

@[simp] theorem State.leavePool_lasting (s : State) (c : Nat) : (s.leavePool c).lasting = s.lasting := by
  simp [State.leavePool]
@[simp] theorem State.poolEmptied_lasting (s : State) (old : Nat) (kind : Nat) : (s.emptied_ old kind).lasting = s.lasting := by
  simp [State.emptied_]
@[simp] theorem State.wear_lasting (s : State) (i : Nat) : (s.wear i).lasting = s.lasting := by simp [State.wear]
@[simp] theorem State.joinPool_lasting (s : State) (c : Nat) : (s.joinPool c).lasting = s.lasting := by
  unfold State.joinPool
  split <;> simp

/-! ### CellOps -/

@[simp] theorem State.modTrk_lasting (s : State) (c : Nat) (f : Tracker → Tracker) : (s.modTrk c f).lasting = s.lasting := by
  simp [State.modTrk]
@[simp] theorem State.clearTracker_lasting (s : State) (c : Nat) (role : Bool) :
    (s.clearTracker c role).lasting = s.lasting := by simp [State.clearTracker]
@[simp] theorem State.judgeCells_lasting (s : State) : s.judgeCells.lasting = s.lasting := by simp [State.judgeCells]
@[simp] theorem State.wantBypass_lasting (s : State) (c : Nat) (latch : Bool) :
    (s.wantBypass c latch).lasting = s.lasting := by simp [State.wantBypass]
@[simp] theorem State.setRole_lasting (s : State) (c role : Nat) : (s.setRole c role).lasting = s.lasting := by
  simp [State.setRole]
@[simp] theorem State.standIn_lasting (s : State) (failed spare : Nat) (was : CellState) :
    (s.standIn failed spare was).lasting = s.lasting := by
  simp [State.standIn]
  split <;> simp
@[simp] theorem State.substitute_lasting (s : State) (failed : Nat) (was : CellState) :
    (s.substitute failed was).lasting = s.lasting := by
  unfold State.substitute
  split <;> simp
@[simp] theorem State.trackOff_lasting (s : State) (c : Nat) : (s.trackOff c).lasting = s.lasting := by simp [State.trackOff]
@[simp] theorem State.takeOut_lasting (s : State) (c reason : Nat) : (s.takeOut c reason).lasting = s.lasting := by
  simp [State.takeOut]
@[simp] theorem State.failCell_lasting (s : State) (c reason : Nat) : (s.failCell c reason).lasting = s.lasting := by
  simp [State.failCell]
@[simp] theorem State.spareFails_lasting (s : State) (c : Nat) : (s.spareFails c).lasting = s.lasting := by
  simp [State.spareFails]
@[simp] theorem State.subFailed_lasting (s : State) (w : Subst) : (s.subFailed w).lasting = s.lasting := by
  simp only [State.subFailed]
  (repeat' split) <;> simp
@[simp] theorem State.staleCell_lasting (s : State) (c reason : Nat) : (s.staleCell c reason).lasting = s.lasting := by
  simp [State.staleCell]
@[simp] theorem State.lostInWindow_lasting (s : State) : s.lostInWindow.lasting = s.lasting := by simp [State.lostInWindow]
@[simp] theorem State.cellGone_lasting (s : State) (c : Nat) : (s.cellGone c).lasting = s.lasting := by
  simp [State.cellGone]
  split <;> simp
@[simp] theorem State.cellsActive_lasting (s : State) : s.cellsActive.lasting = s.lasting := by simp [State.cellsActive]
@[simp] theorem State.cellsFollow_lasting (s : State) : s.cellsFollow.lasting = s.lasting := by simp [State.cellsFollow]

/-! ### RingOps -/

@[simp] theorem State.judgeRing_lasting (s : State) (k : Nat) : (s.judgeRing k).lasting = s.lasting := by
  simp [State.judgeRing]
@[simp] theorem State.judgeRings_lasting (s : State) : s.judgeRings.lasting = s.lasting := by simp [State.judgeRings]
@[simp] theorem State.modPort_lasting (s : State) (p : Nat) (f : Port → Port) : (s.modPort p f).lasting = s.lasting := by
  simp [State.modPort]
@[simp] theorem State.portDown_lasting (s : State) (p cause : Nat) : (s.portDown p cause).lasting = s.lasting := by
  simp [State.portDown]
@[simp] theorem State.portUp_lasting (s : State) (p : Nat) : (s.portUp p).lasting = s.lasting := by simp [State.portUp]
@[simp] theorem State.probeBack_lasting (s : State) (k : Nat) (ccw : Bool) (delay : Nat) :
    (s.probeBack k ccw delay).lasting = s.lasting := by simp [State.probeBack]
@[simp] theorem State.judgeBreaks_lasting (s : State) (k : Nat) : (s.judgeBreaks k).lasting = s.lasting := by
  simp [State.judgeBreaks]
@[simp] theorem State.probeLost_lasting (s : State) (k : Nat) : (s.probeLost k).lasting = s.lasting := by
  simp [State.probeLost]
@[simp] theorem State.timeRecord_lasting (s : State) (k : Nat) : (s.timeRecord k).lasting = s.lasting := by
  simp [State.timeRecord]
@[simp] theorem State.bypassRecord_lasting (s : State) (c : Nat) : (s.bypassRecord c).lasting = s.lasting := by
  simp [State.bypassRecord]
  split <;> simp
@[simp] theorem State.negotiateRecord_lasting (s : State) (c op arg tag : Nat) :
    (s.negotiate_ c op arg tag).lasting = s.lasting := by simp [State.negotiate_]
@[simp] theorem State.joinRequest_lasting (s : State) (c : Nat) : (s.joinRequest c).lasting = s.lasting := by
  simp [State.joinRequest]
  split <;> simp
@[simp] theorem State.joinWindow_lasting (s : State) (c : Nat) : (s.joinWindow c).lasting = s.lasting := by
  simp [State.joinWindow]
  split <;> simp
@[simp] theorem State.countMissing_lasting (s : State) (k c : Nat) : (s.countMissing k c).lasting = s.lasting := by
  simp [State.countMissing]
@[simp] theorem State.cellsCutoff_lasting (s : State) (k : Nat) : (s.cellsCutoff k).lasting = s.lasting := by
  simp [State.cellsCutoff]
@[simp] theorem State.window_lasting (s : State) (k : Nat) : (s.window k).lasting = s.lasting := by simp [State.window]
@[simp] theorem State.cutoff_lasting (s : State) : s.cutoff.lasting = s.lasting := by simp [State.cutoff]
@[simp] theorem State.joinStops_lasting (s : State) (c reason : Nat) : (s.joinStops c reason).lasting = s.lasting := by
  simp [State.joinStops]
@[simp] theorem State.joinDone_lasting (s : State) (c : Nat) : (s.joinDone c).lasting = s.lasting := by simp [State.joinDone]
@[simp] theorem State.identified_lasting (s : State) (c serial : Nat) : (s.identified c serial).lasting = s.lasting := by
  simp [State.identified]
@[simp] theorem State.unlink_lasting (s : State) (c : Nat) : (s.unlink c).lasting = s.lasting := by simp [State.unlink]
@[simp] theorem State.probeReply_lasting (s : State) (k c : Nat) (data : Nat) :
    (s.probeReply k c data).lasting = s.lasting := by simp [State.probeReply]
@[simp] theorem State.reply_lasting (s : State) (k c : Nat) (rtype tag data : Nat) :
    (s.reply k c rtype tag data).lasting = s.lasting := by
  simp [State.reply]
  (repeat' split) <;> simp
@[simp] theorem State.reserveCell_lasting (s : State) (c : Nat) : (s.reserveCell c).lasting = s.lasting := by
  simp [State.reserveCell]
@[simp] theorem State.bypassSeen_lasting (s : State) (c : Nat) : (s.bypassSeen c).lasting = s.lasting := by
  simp [State.bypassSeen]
@[simp] theorem State.takeReport_lasting (s : State) (k c : Nat) (b : List Byte) :
    (s.takeReport k c b).lasting = s.lasting := by simp [State.takeReport]
@[simp] theorem State.codeErrors_lasting (s : State) (p n : Nat) : (s.codeErrors p n).lasting = s.lasting := by
  simp [State.codeErrors]
@[simp] theorem State.cellReport_lasting (s : State) (p : Nat) (b : List Byte) (errs : Nat) :
    (s.cellReport p b errs).lasting = s.lasting := by
  simp [State.cellReport]
  (repeat' split) <;> simp

/-! ### LoopOps -/

@[simp] theorem State.modSlot_lasting (s : State) (i : Nat) (f : LoopSlot → LoopSlot) :
    (s.modSlot i f).lasting = s.lasting := by simp [State.modSlot]
@[simp] theorem State.enterHold_lasting (s : State) (i cause : Nat) : (s.enterHold i cause).lasting = s.lasting := by
  simp [State.enterHold]
@[simp] theorem State.execPi_lasting (s : State) (i : Nat) (ref : Int) (hold : Int → Bool) :
    (s.execPi i ref hold).lasting = s.lasting := by simp [State.execPi]
@[simp] theorem State.execRamp_lasting (s : State) (i : Nat) (ref : Int) (hold : Int → Bool) :
    (s.execRamp i ref hold).lasting = s.lasting := by simp [State.execRamp]
@[simp] theorem State.execFilter_lasting (s : State) (i : Nat) (ref : Int) (hold : Int → Bool) :
    (s.execFilter i ref hold).lasting = s.lasting := by simp [State.execFilter]
@[simp] theorem State.execSum_lasting (s : State) (i : Nat) (ref : Int) : (s.execSum i ref).lasting = s.lasting := by
  simp [State.execSum]
@[simp] theorem State.execSlot_lasting (supply : State → Nat → Option Int) (hold : State → Nat → Int → Bool) (s : State)
    (i : Nat) : (State.execSlot supply hold s i).lasting = s.lasting := by simp [State.execSlot]
@[simp] theorem State.judgeLoop_lasting (s : State) : s.judgeLoop.lasting = s.lasting := by simp [State.judgeLoop]
@[simp] theorem State.releaseSlot_lasting (s : State) (i : Nat) : (s.releaseSlot i).lasting = s.lasting := by
  simp [State.releaseSlot]
@[simp] theorem State.slotsEnter_lasting (s : State) (old new : Mode) : (s.slotsEnter old new).lasting = s.lasting := by
  simp [State.slotsEnter]
@[simp] theorem State.commitSlot_lasting (s : State) (h i : Nat) (regs : List (Nat × Word)) :
    (s.commitSlot h i regs).lasting = s.lasting := by simp [State.commitSlot]
@[simp] theorem State.commitActs_lasting (s : State) (i : Nat) (clears : Bool) :
    (s.commitActs i clears).lasting = s.lasting := by simp [State.commitActs]
@[simp] theorem State.commitBeat_lasting (s : State) : s.commitBeat.lasting = s.lasting := by simp [State.commitBeat]

/-! ### ModulatorOps -/

@[simp] theorem State.modCellBeat_lasting (s : State) (n r c : Nat) (m0 m1 : Int) (on : Bool) :
    (s.modCellBeat n r c m0 m1 on).lasting = s.lasting := by simp [State.modCellBeat]
@[simp] theorem State.modPhase_lasting (s : State) (x : Nat) (on : Bool) : (s.modPhase x on).lasting = s.lasting := by
  simp [State.modPhase]
@[simp] theorem State.modulate_lasting (s : State) : s.modulate.lasting = s.lasting := by simp [State.modulate]
@[simp] theorem State.modLhb_lasting (s : State) (k : Nat) (f : Lhb → Lhb) : (s.modLhb k f).lasting = s.lasting := by
  simp [State.modLhb]
@[simp] theorem State.lhbEvents_lasting (s : State) (k : Nat) (runs : Bool) (falls : List Int) :
    (s.lhbEvents k runs falls).lasting = s.lasting := by simp [State.lhbEvents]
@[simp] theorem State.applyForce_lasting (s : State) (k code : Nat) : (s.applyForce k code).lasting = s.lasting := by
  simp [State.applyForce]
@[simp] theorem State.applyForces_lasting (s : State) (old new : Word) : (s.applyForces old new).lasting = s.lasting := by
  simp [State.applyForces]
@[simp] theorem State.streamStops_lasting (s : State) : s.streamStops.lasting = s.lasting := by simp [State.streamStops]
@[simp] theorem State.tripCut_lasting (s : State) (k lines : Nat) : (s.tripCut k lines).lasting = s.lasting := by
  simp [State.tripCut]
@[simp] theorem State.tripOn_lasting (s : State) (line : Nat) : (s.tripOn line).lasting = s.lasting := by simp [State.tripOn]
@[simp] theorem State.tripOff_lasting (s : State) (line : Nat) : (s.tripOff line).lasting = s.lasting := by
  simp [State.tripOff]
@[simp] theorem State.beatCuts_lasting (s : State) : s.beatCuts.lasting = s.lasting := by simp [State.beatCuts]
@[simp] theorem State.mevBeat_lasting (s : State) (start : Nat) : (s.mevBeat start).lasting = s.lasting := by
  simp [State.mevBeat]
@[simp] theorem State.clearCounters_lasting (s : State) : s.clearCounters.lasting = s.lasting := by simp [State.clearCounters]

/-! ### SafetyOps -/

@[simp] theorem State.safLatch_lasting (s : State) (bit : Nat) : (s.safLatch bit).lasting = s.lasting := by
  simp [State.safLatch]
@[simp] theorem State.safClear_lasting (s : State) (bit : Nat) : (s.safClear bit).lasting = s.lasting := by
  simp [State.safClear]
@[simp] theorem State.modSip_lasting (s : State) (p : Nat) (f : Sip → Sip) : (s.modSip p f).lasting = s.lasting := by
  simp [State.modSip]
@[simp] theorem State.judgeStop_lasting (s : State) : s.judgeStop.lasting = s.lasting := by simp [State.judgeStop]
@[simp] theorem State.discFault_lasting (s : State) (p : Nat) : (s.discFault p).lasting = s.lasting := by
  simp [State.discFault]
@[simp] theorem State.crossFault_lasting (s : State) (p : Nat) : (s.crossFault p).lasting = s.lasting := by
  simp [State.crossFault]
@[simp] theorem State.sipLatches_lasting (s : State) : s.sipLatches.lasting = s.lasting := by simp [State.sipLatches]
@[simp] theorem State.sipTick_lasting (s : State) (si : BitVec 16) (p : Nat) : (s.sipTick si p).lasting = s.lasting := by
  simp [State.sipTick]
@[simp] theorem State.contactorOn_lasting (s : State) (g : Nat) : (s.contactorOn g).lasting = s.lasting := by
  simp [State.contactorOn]
@[simp] theorem State.judgeContactor_lasting (s : State) : s.judgeContactor.lasting = s.lasting := by
  unfold State.judgeContactor
  split <;> simp
@[simp] theorem State.fbFail_lasting (s : State) (g : Nat) : (s.fbFail g).lasting = s.lasting := by simp [State.fbFail]
@[simp] theorem State.fbLate_lasting (s : State) (g : Nat) : (s.fbLate g).lasting = s.lasting := by simp [State.fbLate]
@[simp] theorem State.fbConfirm_lasting (s : State) (g : Nat) : (s.fbConfirm g).lasting = s.lasting := by
  simp [State.fbConfirm]
@[simp] theorem State.groupTick_lasting (s : State) (mirrors readback : BitVec 8) (g : Nat) :
    (s.groupTick mirrors readback g).lasting = s.lasting := by simp [State.groupTick]
@[simp] theorem State.modSeal_lasting (s : State) (k : Nat) (f : Seal → Seal) : (s.modSeal k f).lasting = s.lasting := by
  simp [State.modSeal]
@[simp] theorem State.sealMoved_lasting (s : State) (k : Nat) (old new : Seal) :
    (s.sealMoved k old new).lasting = s.lasting := by simp [State.sealMoved]
@[simp] theorem State.sealStep_lasting (s : State) (noX ncX noY ncY : BitVec 8) (k : Nat) :
    (s.sealStep noX ncX noY ncY k).lasting = s.lasting := by simp [State.sealStep]
@[simp] theorem State.modSource_lasting (s : State) (i : Nat) (f : Source → Source) :
    (s.modSource i f).lasting = s.lasting := by simp [State.modSource]
@[simp] theorem State.itCount_lasting (s : State) (n : Nat) (ok : Bool) : (s.itCount n ok).lasting = s.lasting := by
  simp [State.itCount]
@[simp] theorem State.dropUnpaired_lasting (s : State) (net src : Nat) : (s.dropUnpaired net src).lasting = s.lasting := by
  simp [State.dropUnpaired]
@[simp] theorem State.dropAllUnpaired_lasting (s : State) : s.dropAllUnpaired.lasting = s.lasting := by
  simp [State.dropAllUnpaired]
@[simp] theorem State.envelopeActs_lasting (s : State) (i cmd : Nat) : (s.envelopeActs i cmd).lasting = s.lasting := by
  simp [State.envelopeActs]
@[simp] theorem State.pairCopy_lasting (s : State) (c : Copy) : (s.pairCopy c).lasting = s.lasting := by
  simp [State.pairCopy]
  split <;> simp
@[simp] theorem State.envelope_lasting (s : State) (net : Nat) (bytes : List Byte) (rx : Nat) :
    (s.envelope net bytes rx).lasting = s.lasting := by
  simp [State.envelope]
  split <;> simp
@[simp] theorem State.itsupOn_lasting (s : State) : s.itsupOn.lasting = s.lasting := by simp [State.itsupOn]
@[simp] theorem State.itsup_lasting (s : State) : s.itsup.lasting = s.lasting := by simp [State.itsup]
@[simp] theorem State.channelFault_lasting (s : State) : s.channelFault.lasting = s.lasting := by simp [State.channelFault]
@[simp] theorem State.channelStops_lasting (s : State) (c : Nat) : (s.channelStops c).lasting = s.lasting := by
  simp [State.channelStops]

/-! ### SentinelOps -/

@[simp] theorem State.modSen_lasting (s : State) (f : Sentinel → Sentinel) : (s.modSen f).lasting = s.lasting := by
  simp [State.modSen]
@[simp] theorem State.senPosted_lasting (s : State) : s.senPosted.lasting = s.lasting := by simp [State.senPosted]
@[simp] theorem State.senPost_lasting (s : State) (n : Nat) (b : List Byte) : (s.senPost n b).lasting = s.lasting := by
  simp [State.senPost]
@[simp] theorem State.alertStart_lasting (s : State) : s.alertStart.lasting = s.lasting := by
  unfold State.alertStart
  split <;> simp
@[simp] theorem State.senCommit_lasting (s : State) (type subject detail time flags : Nat) :
    (s.senCommit type subject detail time flags).lasting = s.lasting := by simp [State.senCommit]
@[simp] theorem State.senEntryAt_lasting (s : State) (type subject detail time : Nat) (bound : Bool) :
    (s.senEntryAt type subject detail time bound).lasting = s.lasting := by simp [State.senEntryAt]
@[simp] theorem State.senEntry_lasting (s : State) (type subject detail : Nat) :
    (s.senEntry type subject detail).lasting = s.lasting := by simp [State.senEntry]
@[simp] theorem State.senFlush_lasting (s : State) : s.senFlush.lasting = s.lasting := by simp [State.senFlush]
@[simp] theorem State.senChange_lasting (s : State) (i : Nat) : (s.senChange i).lasting = s.lasting := by
  simp [State.senChange]
@[simp] theorem State.senSample_lasting (s : State) (no nc : BitVec 8) (tamp : BitVec 2) :
    (s.senSample no nc tamp).lasting = s.lasting := by simp [State.senSample]
@[simp] theorem State.senTakes_lasting (s : State) : s.senTakes.lasting = s.lasting := by simp [State.senTakes]
@[simp] theorem State.tampConfig_lasting (s : State) (old new : Word) : (s.tampConfig old new).lasting = s.lasting := by
  simp [State.tampConfig]
@[simp] theorem State.stampNow_lasting (s : State) : s.stampNow.lasting = s.lasting := by simp [State.stampNow]
@[simp] theorem State.endBlind_lasting (s : State) : s.endBlind.lasting = s.lasting := by
  unfold State.endBlind
  split <;> simp
@[simp] theorem State.senDies_lasting (s : State) : s.senDies.lasting = s.lasting := by simp [State.senDies]
@[simp] theorem State.senCharge_lasting (s : State) : s.senCharge.lasting = s.lasting := by simp [State.senCharge]
@[simp] theorem State.cellCutoff_lasting (s : State) (midWrite : Bool) : (s.cellCutoff midWrite).lasting = s.lasting := by
  simp [State.cellCutoff]
@[simp] theorem State.cellReleases_lasting (s : State) (kind : Nat) : (s.cellReleases kind).lasting = s.lasting := by
  simp [State.cellReleases]
@[simp] theorem State.coldStart_lasting (s : State) : s.coldStart.lasting = s.lasting := by simp [State.coldStart]
@[simp] theorem State.senAuxUp_lasting (s : State) : s.senAuxUp.lasting = s.lasting := by simp [State.senAuxUp]
@[simp] theorem State.senSync_lasting (s : State) : s.senSync.lasting = s.lasting := by simp [State.senSync]
@[simp] theorem State.senHandover_lasting (s : State) : s.senHandover.lasting = s.lasting := by simp [State.senHandover]
@[simp] theorem State.senWipe_lasting (s : State) (new : Nat) : (s.senWipe new).lasting = s.lasting := by simp [State.senWipe]

/-! ### AngleOps -/

@[simp] theorem State.modClock_lasting {s : State} {f : Clock → Clock} (hf : ∀ q, (f q).mono = q.mono) :
    (s.modClock f).lasting = s.lasting := by
  simp [State.modClock, hf]
@[simp] theorem State.setSync_lasting (s : State) (y : Sync) : (s.setSync y).lasting = s.lasting := by simp [State.setSync]
@[simp] theorem State.decideStep_lasting (s : State) (ofs : Int) (y : Sync) : (s.decideStep ofs y).lasting = s.lasting := by
  simp [State.decideStep]
@[simp] theorem State.applyStep_lasting (s : State) (ofs : Int) (y : Sync) : (s.applyStep ofs y).lasting = s.lasting := by
  simp [State.applyStep]
@[simp] theorem State.stepBeat_lasting (s : State) : s.stepBeat.lasting = s.lasting := by
  unfold State.stepBeat
  split <;> simp
@[simp] theorem State.ptpOffset_lasting (s : State) (ofs : Int) : (s.ptpOffset ofs).lasting = s.lasting := by
  simp [State.ptpOffset]
@[simp] theorem State.ptpLost_lasting (s : State) : s.ptpLost.lasting = s.lasting := by simp [State.ptpLost]
@[simp] theorem State.modAng_lasting (s : State) (f : Angle → Angle) : (s.modAng f).lasting = s.lasting := by
  simp [State.modAng]
@[simp] theorem State.lockOn_lasting (s : State) : s.lockOn.lasting = s.lasting := by simp [State.lockOn]
@[simp] theorem State.lockOff_lasting (s : State) : s.lockOff.lasting = s.lasting := by simp [State.lockOff]
@[simp] theorem State.judgeLock_lasting (s : State) : s.judgeLock.lasting = s.lasting := by simp [State.judgeLock]
@[simp] theorem State.flyOn_lasting (s : State) : s.flyOn.lasting = s.lasting := by simp [State.flyOn]
@[simp] theorem State.phaseJump_lasting (s : State) (size : Int) : (s.phaseJump size).lasting = s.lasting := by
  simp [State.phaseJump]
@[simp] theorem State.flyOff_lasting (s : State) : s.flyOff.lasting = s.lasting := by simp [State.flyOff]
@[simp] theorem State.slewOff_lasting (s : State) : s.slewOff.lasting = s.lasting := by simp [State.slewOff]
@[simp] theorem State.anglePipe_lasting (s : State) : s.anglePipe.lasting = s.lasting := by simp [State.anglePipe]
@[simp] theorem State.cycleEnd_lasting (s : State) : s.cycleEnd.lasting = s.lasting := by simp [State.cycleEnd]
@[simp] theorem State.newRate_lasting (s : State) : s.newRate.lasting = s.lasting := by simp [State.newRate]
@[simp] theorem State.takeDiv_lasting (s : State) : s.takeDiv.lasting = s.lasting := by simp [State.takeDiv]
@[simp] theorem State.fixBeat_lasting (s : State) : s.fixBeat.lasting = s.lasting := by simp [State.fixBeat]
@[simp] theorem State.startBeats_lasting (s : State) : s.startBeats.lasting = s.lasting := by simp [State.startBeats]

/-! ### GatherOps -/

@[simp] theorem State.modAdc_lasting (s : State) (f : Adc → Adc) : (s.modAdc f).lasting = s.lasting := by simp [State.modAdc]
@[simp] theorem State.modSeq_lasting (s : State) (q : Nat) (f : Seq → Seq) : (s.modSeq q f).lasting = s.lasting := by
  simp [State.modSeq]
@[simp] theorem State.modSvc_lasting (s : State) (k : Nat) (f : Slot → Slot) : (s.modSvc k f).lasting = s.lasting := by
  simp [State.modSvc]
@[simp] theorem State.trigSeq_lasting (s : State) (src sel q : Nat) : (s.trigSeq src sel q).lasting = s.lasting := by
  simp [State.trigSeq]
@[simp] theorem State.trigAll_lasting (s : State) (src sel : Nat) : (s.trigAll src sel).lasting = s.lasting := by
  simp [State.trigAll]
@[simp] theorem State.acquire_lasting (s : State) (q : Nat) : (s.acquire q).lasting = s.lasting := by simp [State.acquire]
@[simp] theorem State.wmonStep_lasting (s : State) (d : Delivery) (n : Nat) : (s.wmonStep d n).lasting = s.lasting := by
  simp [State.wmonStep]
@[simp] theorem State.modSlice_lasting (s : State) (n : Nat) (p : Pool) : (s.modSlice n p).lasting = s.lasting := by
  simp [State.modSlice]
@[simp] theorem State.rotEnds_lasting (s : State) : s.rotEnds.lasting = s.lasting := by simp [State.rotEnds]
@[simp] theorem State.suspend_lasting (s : State) : s.suspend.lasting = s.lasting := by simp [State.suspend]
@[simp] theorem State.spareCal_lasting (s : State) : s.spareCal.lasting = s.lasting := by
  simp [State.spareCal]
  split <;> simp
@[simp] theorem State.calFail_lasting (s : State) (failed by_ : Nat) : (s.calFail failed by_).lasting = s.lasting := by
  simp [State.calFail]
@[simp] theorem State.calsetCheck_lasting (s : State) : s.calsetCheck.lasting = s.lasting := by simp [State.calsetCheck]
@[simp] theorem State.calsetBegin_lasting (s : State) : s.calsetBegin.lasting = s.lasting := by simp [State.calsetBegin]
@[simp] theorem State.calsetDone_lasting (s : State) : s.calsetDone.lasting = s.lasting := by simp [State.calsetDone]
@[simp] theorem State.calsetBeat_lasting (s : State) : s.calsetBeat.lasting = s.lasting := by simp [State.calsetBeat]
@[simp] theorem State.cmpFollow_lasting (s : State) (was : List Nat) : (s.cmpFollow was).lasting = s.lasting := by
  simp [State.cmpFollow]
@[simp] theorem State.cmpInput_lasting (s : State) (n : Nat) (uv : Int) : (s.cmpInput n uv).lasting = s.lasting := by
  simp [State.cmpInput]
@[simp] theorem State.cmpBeat_lasting (s before : State) : (s.cmpBeat before).lasting = s.lasting := by simp [State.cmpBeat]
@[simp] theorem State.blankOpen_lasting (s : State) (n width : Nat) : (s.blankOpen n width).lasting = s.lasting := by
  simp [State.blankOpen]
@[simp] theorem State.gatherBeat_lasting (s before : State) : (s.gatherBeat before).lasting = s.lasting := by
  simp [State.gatherBeat]

/-! ### MeasureOps -/

@[simp] theorem State.setQuant_lasting (s : State) (q : Nat) (x : Quant) : (s.setQuant q x).lasting = s.lasting := by
  simp [State.setQuant]
@[simp] theorem State.formPair_lasting (s : State) (q : Nat) : (s.formPair q).lasting = s.lasting := by simp [State.formPair]
@[simp] theorem State.formPairs_lasting (s : State) : s.formPairs.lasting = s.lasting := by simp [State.formPairs]
@[simp] theorem State.putDq_lasting (s : State) (q : Nat) (ok : Bool) (p : Int × Int) :
    (s.putDq q ok p).lasting = s.lasting := by simp [State.putDq]
@[simp] theorem State.formVdc_lasting (s : State) : s.formVdc.lasting = s.lasting := by simp [State.formVdc]
@[simp] theorem State.formDq_lasting (s : State) : s.formDq.lasting = s.lasting := by simp [State.formDq]
@[simp] theorem State.formRate_lasting (s : State) : s.formRate.lasting = s.lasting := by simp [State.formRate]
@[simp] theorem State.measure_lasting (s : State) : s.measure.lasting = s.lasting := by simp [State.measure]

/-! ### RtiOps -/

@[simp] theorem State.modRti_lasting (s : State) (f : Rti → Rti) : (s.modRti f).lasting = s.lasting := by simp [State.modRti]
@[simp] theorem State.refreshProfile_lasting (s : State) : s.refreshProfile.lasting = s.lasting := by
  unfold State.refreshProfile
  split <;> simp
@[simp] theorem State.selectProfile_lasting (s : State) : s.selectProfile.lasting = s.lasting := by simp [State.selectProfile]
@[simp] theorem State.dropEdit_lasting (s : State) : s.dropEdit.lasting = s.lasting := by simp [State.dropEdit]
@[simp] theorem State.commitProfile_lasting (s : State) (p : Nat) : (s.commitProfile p).lasting = s.lasting := by
  simp [State.commitProfile]
@[simp] theorem State.profileDone_lasting (s : State) : s.profileDone.lasting = s.lasting := by
  unfold State.profileDone
  split <;> simp
@[simp] theorem State.rtiMeasure_lasting (s : State) : s.rtiMeasure.lasting = s.lasting := by simp [State.rtiMeasure]
@[simp] theorem State.rtiCycle_lasting (s : State) : s.rtiCycle.lasting = s.lasting := by simp [State.rtiCycle]
@[simp] theorem State.rtiBeat_lasting (s : State) : s.rtiBeat.lasting = s.lasting := by simp [State.rtiBeat]
@[simp] theorem State.upBeat_lasting (s : State) : s.upBeat.lasting = s.lasting := by simp [State.upBeat]
@[simp] theorem State.rtiTimers_lasting (s : State) : s.rtiTimers.lasting = s.lasting := by simp [State.rtiTimers]
@[simp] theorem State.profileTrip_lasting (s : State) (row : Nat) : (s.profileTrip row).lasting = s.lasting := by
  simp [State.profileTrip]
@[simp] theorem State.decideRide_lasting (s : State) (cause : Nat) : (s.decideRide cause).lasting = s.lasting := by
  simp [State.decideRide]
@[simp] theorem State.decideReturn_lasting (s : State) : s.decideReturn.lasting = s.lasting := by simp [State.decideReturn]
@[simp] theorem State.returnBand_lasting (s : State) : s.returnBand.lasting = s.lasting := by simp [State.returnBand]
@[simp] theorem State.entryCounts_lasting (s : State) : s.entryCounts.lasting = s.lasting := by simp [State.entryCounts]
@[simp] theorem State.beginXfer_lasting (s : State) (x : Xfer) (tgt : Mode) (asked : Bool) :
    (s.beginXfer x tgt asked).lasting = s.lasting := by simp [State.beginXfer]
@[simp] theorem State.islandAct_lasting (s : State) (why : Nat) : (s.islandAct why).lasting = s.lasting := by
  unfold State.islandAct
  (repeat' split) <;> simp
@[simp] theorem State.sigStart_lasting (s : State) : s.sigStart.lasting = s.lasting := by simp [State.sigStart]
@[simp] theorem State.sigBeat_lasting (s : State) (scaled : Bool) : (s.sigBeat scaled).lasting = s.lasting := by
  simp [State.sigBeat]
@[simp] theorem State.chipEnd_lasting (s : State) : s.chipEnd.lasting = s.lasting := by simp [State.chipEnd]
@[simp] theorem State.reconEnds_lasting (s : State) : s.reconEnds.lasting = s.lasting := by simp [State.reconEnds]
@[simp] theorem State.reconBeat_lasting (s : State) : s.reconBeat.lasting = s.lasting := by simp [State.reconBeat]
@[simp] theorem State.ceilings_lasting (s : State) : s.ceilings.lasting = s.lasting := by simp [State.ceilings]
@[simp] theorem State.rtiRun_lasting (s : State) : s.rtiRun.lasting = s.lasting := by
  simp [State.rtiRun]
  (repeat' split) <;> simp
@[simp] theorem State.rtiRide_lasting (s : State) : s.rtiRide.lasting = s.lasting := by
  simp [State.rtiRide]
  split <;> simp
@[simp] theorem State.rtiPipe_lasting (s : State) : s.rtiPipe.lasting = s.lasting := by simp [State.rtiPipe]
@[simp] theorem State.rtiHold_lasting (s : State) : s.rtiHold.lasting = s.lasting := by simp [State.rtiHold]

/-! ### BptOps -/

@[simp] theorem State.modBpt_lasting (s : State) (f : Bpt → Bpt) : (s.modBpt f).lasting = s.lasting := by simp [State.modBpt]
@[simp] theorem State.queueCell_lasting (s : State) (c : Nat) : (s.queueCell c).lasting = s.lasting := by
  simp [State.queueCell]
@[simp] theorem State.queueNew_lasting (s : State) : s.queueNew.lasting = s.lasting := by simp [State.queueNew]
@[simp] theorem State.queueAll_lasting (s : State) : s.queueAll.lasting = s.lasting := by simp [State.queueAll]
@[simp] theorem State.freezeTrackers_lasting (s : State) : s.freezeTrackers.lasting = s.lasting := by
  simp [State.freezeTrackers]
@[simp] theorem State.thawTrackers_lasting (s : State) : s.thawTrackers.lasting = s.lasting := by simp [State.thawTrackers]
@[simp] theorem State.beginSweep_lasting (s : State) (c : Nat) : (s.beginSweep c).lasting = s.lasting := by
  simp [State.beginSweep]
@[simp] theorem State.judgeSweeps_lasting (s : State) : s.judgeSweeps.lasting = s.lasting := by simp [State.judgeSweeps]
@[simp] theorem State.beginGlobal_lasting (s : State) : s.beginGlobal.lasting = s.lasting := by simp [State.beginGlobal]
@[simp] theorem State.periodEnd_lasting (s : State) (c : Nat) : (s.periodEnd c).lasting = s.lasting := by
  simp [State.periodEnd]
@[simp] theorem State.pointEnd_lasting (s : State) (c : Nat) : (s.pointEnd c).lasting = s.lasting := by simp [State.pointEnd]
@[simp] theorem State.globalTurn_lasting (s : State) : s.globalTurn.lasting = s.lasting := by simp [State.globalTurn]
@[simp] theorem State.writeHistory_lasting (s : State) : s.writeHistory.lasting = s.lasting := by simp [State.writeHistory]
@[simp] theorem State.closeCycles_lasting (s : State) : s.closeCycles.lasting = s.lasting := by simp [State.closeCycles]
@[simp] theorem State.trackTime_lasting (s : State) (dt : Nat) : (s.trackTime dt).lasting = s.lasting := by
  simp [State.trackTime]

@[simp] theorem State.fillSweeps_lasting (s : State) (x n : Nat) : (s.fillSweeps x n).lasting = s.lasting := by
  induction n generalizing s with
  | zero => rfl
  | succ n ih => unfold State.fillSweeps; split <;> simp [ih]

@[simp] theorem State.trackers_lasting (s : State) : s.trackers.lasting = s.lasting := by
  unfold State.trackers
  split
  · rfl
  · simp
@[simp] theorem State.budgetCell_lasting (s : State) (c : Nat) : (s.budgetCell c).lasting = s.lasting := by
  simp [State.budgetCell]
@[simp] theorem State.headrooms_lasting (s : State) : s.headrooms.lasting = s.lasting := by simp [State.headrooms]
@[simp] theorem State.budgets_lasting (s : State) : s.budgets.lasting = s.lasting := by simp [State.budgets]

/-! ### GridOps -/

@[simp] theorem State.modGrd_lasting (s : State) (f : Grd → Grd) : (s.modGrd f).lasting = s.lasting := by simp [State.modGrd]

@[simp] theorem State.stopFrom_lasting (s t : State) : (s.stopFrom t).lasting = t.lasting := by
  simp [State.stopFrom]
@[simp] theorem State.recordRefs_lasting (s : State) : s.recordRefs.lasting = s.lasting := by simp [State.recordRefs]
@[simp] theorem State.preset_lasting (s : State) (role : Nat) (x : Int) : (s.preset role x).lasting = s.lasting := by
  unfold State.preset
  split <;> simp
@[simp] theorem State.rotor_lasting (s : State) : s.rotor.lasting = s.lasting := by simp [State.rotor]
@[simp] theorem State.chase_lasting (s : State) : s.chase.lasting = s.lasting := by simp [State.chase]
@[simp] theorem State.captureForm_lasting (s : State) (isl : Bool) : (s.captureForm isl).lasting = s.lasting := by
  simp [State.captureForm]
@[simp] theorem State.captureFollow_lasting (s : State) : s.captureFollow.lasting = s.lasting := by simp [State.captureFollow]
@[simp] theorem State.toFormDone_lasting (s : State) : s.toFormDone.lasting = s.lasting := by simp [State.toFormDone]
@[simp] theorem State.toFollowDone_lasting (s : State) : s.toFollowDone.lasting = s.lasting := by simp [State.toFollowDone]
@[simp] theorem State.dropXfer_lasting (s : State) : s.dropXfer.lasting = s.lasting := by
  unfold State.dropXfer
  split <;> simp
@[simp] theorem State.transfers_lasting (s : State) : s.transfers.lasting = s.lasting := by
  simp [State.transfers]
  (repeat' split) <;> simp
@[simp] theorem State.openMain_lasting (s : State) : s.openMain.lasting = s.lasting := by simp [State.openMain]
@[simp] theorem State.stopStep_lasting (s : State) : s.stopStep.lasting = s.lasting := by
  unfold State.stopStep
  split <;> simp
@[simp] theorem State.stopRun_lasting (s : State) : s.stopRun.lasting = s.lasting := by simp [State.stopRun]
@[simp] theorem State.beginStop_lasting (s : State) (rate : Int) : (s.beginStop rate).lasting = s.lasting := by
  simp [State.beginStop]
@[simp] theorem State.lowCurrent_lasting (s : State) : s.lowCurrent.lasting = s.lasting := by simp [State.lowCurrent]
@[simp] theorem State.closeEnds_lasting (s : State) (step result : Nat) : (s.closeEnds step result).lasting = s.lasting := by
  simp [State.closeEnds]
@[simp] theorem State.closeFails_lasting (s : State) (result : Nat) : (s.closeFails result).lasting = s.lasting := by
  simp [State.closeFails]
@[simp] theorem State.closeOpens_lasting (s : State) (result : Nat) : (s.closeOpens result).lasting = s.lasting := by
  simp [State.closeOpens]
@[simp] theorem State.closeAborts_lasting (s : State) (result : Nat) : (s.closeAborts result).lasting = s.lasting := by
  simp [State.closeAborts]
@[simp] theorem State.closeBegin_lasting (s : State) : s.closeBegin.lasting = s.lasting := by simp [State.closeBegin]
@[simp] theorem State.closeStep_lasting (s : State) : s.closeStep.lasting = s.lasting := by
  simp [State.closeStep]
  split <;> simp
@[simp] theorem State.closeRun_lasting (s : State) : s.closeRun.lasting = s.lasting := by simp [State.closeRun]
@[simp] theorem State.synchro_lasting (s : State) : s.synchro.lasting = s.lasting := by simp [State.synchro]
@[simp] theorem State.trim_lasting (s : State) : s.trim.lasting = s.lasting := by simp [State.trim]
@[simp] theorem State.afterLock_lasting (s : State) : s.afterLock.lasting = s.lasting := by simp [State.afterLock]
@[simp] theorem State.neutralOn_lasting (s : State) : s.neutralOn.lasting = s.lasting := by simp [State.neutralOn]
@[simp] theorem State.neutralOff_lasting (s : State) : s.neutralOff.lasting = s.lasting := by simp [State.neutralOff]
@[simp] theorem State.neutral_lasting (s : State) : s.neutral.lasting = s.lasting := by simp [State.neutral]
@[simp] theorem State.gridPipe_lasting (s : State) : s.gridPipe.lasting = s.lasting := by simp [State.gridPipe]
@[simp] theorem State.giveShare_lasting (s : State) (c : Nat) (str batt : Int) :
    (s.giveShare c str batt).lasting = s.lasting := by simp [State.giveShare]
@[simp] theorem State.allocPhase_lasting (s : State) (x : Nat) (disp : List (Nat × Int)) (target r : Int) :
    (s.allocPhase x disp target r).lasting = s.lasting := by simp [State.allocPhase]
@[simp] theorem State.noShares_lasting (s : State) (all : Bool) : (s.noShares all).lasting = s.lasting := by
  simp [State.noShares]
@[simp] theorem State.balance_lasting (s : State) : s.balance.lasting = s.lasting := by simp [State.balance]
@[simp] theorem State.weighPhase_lasting (s : State) (x : Nat) : (s.weighPhase x).lasting = s.lasting := by
  simp [State.weighPhase]
@[simp] theorem State.phasePower_lasting (s : State) : s.phasePower.lasting = s.lasting := by simp [State.phasePower]
@[simp] theorem State.phaseRefs_lasting (s : State) : s.phaseRefs.lasting = s.lasting := by simp [State.phaseRefs]
@[simp] theorem State.gridAlloc_lasting (s : State) : s.gridAlloc.lasting = s.lasting := by simp [State.gridAlloc]

/-! ### RecorderOps -/

@[simp] theorem State.modReco_lasting (s : State) (f : Recorder → Recorder) : (s.modReco f).lasting = s.lasting := by
  simp [State.modReco]
@[simp] theorem State.modMem_lasting (s : State) (f : Memories → Memories) : (s.modMem f).lasting = s.lasting := by
  simp [State.modMem]
@[simp] theorem State.recFrame_lasting (s : State) (cls : Nat) : (s.recFrame cls).lasting = s.lasting := by
  simp [State.recFrame]
@[simp] theorem State.deliverOne_lasting (s : State) (h : Nat) : (s.deliverOne h).lasting = s.lasting := by
  unfold State.deliverOne
  split <;> simp

@[simp] theorem State.deliverTo_lasting (s : State) (h n : Nat) : (s.deliverTo h n).lasting = s.lasting := by
  induction n generalizing s with
  | zero => rfl
  | succ n ih => simp [State.deliverTo, ih]

@[simp] theorem State.recordDelivery_lasting (s : State) : s.recordDelivery.lasting = s.lasting := by
  simp only [State.recordDelivery, State.deliverTo_lasting]
@[simp] theorem State.recAbandon_lasting (s : State) (h : Nat) : (s.recAbandon h).lasting = s.lasting := by
  simp [State.recAbandon]
@[simp] theorem State.recVersion_lasting (s : State) (h o : Nat) (v : Word) : (s.recVersion h o v).1.lasting = s.lasting := by
  simp [State.recVersion]
@[simp] theorem State.sramScrub_lasting (s : State) (bank row corrected : Nat) :
    (s.sramScrub bank row corrected).lasting = s.lasting := by simp [State.sramScrub]
@[simp] theorem State.dramScrub_lasting (s : State) (corrected : Nat) : (s.dramScrub corrected).lasting = s.lasting := by
  simp [State.dramScrub]

/-! ### QueueOps -/

@[simp] theorem State.modHosts_lasting {s : State} {f : Hosts → Hosts} (hf : ∀ q, (f q).win = q.win) :
    (s.modHosts f).lasting = s.lasting := by
  simp [State.modHosts, hf]
@[simp] theorem State.modGaf_lasting (s : State) (f : Gaffer → Gaffer) : (s.modGaf f).lasting = s.lasting := by
  simp [State.modGaf]
@[simp] theorem State.modHwRing_lasting (s : State) (n : Nat) (f : Ring → Ring) : (s.modHwRing n f).lasting = s.lasting := by
  simp [State.modHwRing]
@[simp] theorem State.spaceWrite_lasting (s : State) (h a : Nat) (v : Word) : (s.spaceWrite h a v).lasting = s.lasting := by
  simp [State.spaceWrite]

@[simp] theorem State.spaceCopy_lasting (s : State) (h a : Nat) (bs : List Byte) :
    (s.spaceCopy h a bs).lasting = s.lasting := by
  induction s, a, bs using State.spaceCopy.induct h with
  | case1 s a b0 b1 b2 b3 rest ih => rw [State.spaceCopy, ih, State.spaceWrite_lasting]
  | case2 s a bs hbs => rw [State.spaceCopy]; exact hbs

@[simp] theorem State.postDone_lasting (s : State) (t : Taken) : (s.postDone t).lasting = s.lasting := by
  unfold State.postDone
  split
  · rfl
  · split
    · rfl
    · dsimp only
      split <;> simp
@[simp] theorem State.postOwed_lasting (s : State) : s.postOwed.lasting = s.lasting := by simp [State.postOwed]
@[simp] theorem State.complete_lasting (s : State) (ring : Nat) (st : Status) (result : List Byte) :
    (s.complete ring st result).lasting = s.lasting := by simp [State.complete]
@[simp] theorem State.ringCfg_lasting (s : State) (h n : Nat) (v : Word) : (s.ringCfg h n v).1.lasting = s.lasting := by
  simp [State.ringCfg]
@[simp] theorem State.ringBase_lasting (s : State) (h n : Nat) (v : Word) : (s.ringBase h n v).1.lasting = s.lasting := by
  simp [State.ringBase]
@[simp] theorem State.ringIndex_lasting (s : State) (h n : Nat) (head : Bool) (v : Word) :
    (s.ringIndex h n head v).1.lasting = s.lasting := by simp [State.ringIndex]
@[simp] theorem State.ringWrite_lasting (s : State) (h o : Nat) (v : Word) : (s.ringWrite h o v).1.lasting = s.lasting := by
  simp [State.ringWrite]
@[simp] theorem State.queOwner_lasting (s : State) (h o : Nat) (v : Word) (r : Row) :
    (s.queOwner h o v r).1.lasting = s.lasting := by simp [State.queOwner]
@[simp] theorem State.takeCmd_lasting (s : State) (n : Nat) : (s.takeCmd n).lasting = s.lasting := by simp [State.takeCmd]

@[simp] theorem State.runCmd_lasting {s : State} {n op : Nat}
    {body : State → Nat → List Byte → State × Option (Status × List Byte)}
    (hbody : ∀ t h b, (body t h b).1.lasting = t.lasting) : (s.runCmd n op body).lasting = s.lasting := by
  have hb := hbody (s.takeCmd n) (s.ringOwner n) (s.cmdBytes n)
  rw [State.takeCmd_lasting] at hb
  simp only [State.runCmd, State.lasting_ite, State.complete_lasting, State.takeCmd_lasting]
  rw [← hb]
  obtain ⟨t, _ | ⟨st, result⟩⟩ := body (s.takeCmd n) (s.ringOwner n) (s.cmdBytes n)
  all_goals simp
@[simp] theorem State.runNop_lasting (s : State) (n : Nat) : (s.runNop n).lasting = s.lasting := by
  unfold State.runNop
  split <;> simp

@[simp] theorem accept_lasting {s : State} {checks : List (Bool × Status)} {act : State → State}
    (hact : (act s).lasting = s.lasting) : (accept s checks act).1.lasting = s.lasting := by
  simp [accept, hact]
@[simp] theorem State.imageOpen_lasting (s : State) (h : Nat) (b : List Byte) : (s.imageOpen h b).1.lasting = s.lasting := by
  simp [State.imageOpen]
@[simp] theorem State.imageData_lasting (s : State) (h : Nat) (b : List Byte) : (s.imageData h b).1.lasting = s.lasting := by
  simp [State.imageData]
@[simp] theorem State.imageClose_lasting (s : State) (h : Nat) : (s.imageClose h).1.lasting = s.lasting := by
  simp [State.imageClose]
@[simp] theorem State.imageDone_lasting (s : State) (signed : Bool) (format minsrev : BitVec 8) (version : Word) (hstv :
    BitVec 16) :
    (s.imageDone signed format minsrev version hstv).lasting = s.lasting := by
  unfold State.imageDone
  (repeat' split) <;> simp
@[simp] theorem State.logRead_lasting (n : Nat) (s : State) (z : Nat) (b : List Byte) :
    (State.logRead n s z b).1.lasting = s.lasting := by simp [State.logRead]
@[simp] theorem State.negotiate_lasting (s : State) (h o : Nat) (v : Word) (r : Row) :
    (s.negotiate h o v r).1.lasting = s.lasting := by simp [State.negotiate]
@[simp] theorem State.ringsOff_lasting (s : State) (h : Nat) (all : Bool) : (s.ringsOff h all).lasting = s.lasting := by
  simp [State.ringsOff]
@[simp] theorem State.versionLost_lasting (s : State) (h : Nat) : (s.versionLost h).lasting = s.lasting := by
  simp [State.versionLost]
@[simp] theorem State.versionsFollow_lasting (s : State) : s.versionsFollow.lasting = s.lasting := by
  simp [State.versionsFollow]
@[simp] theorem State.portReset_lasting (s : State) (h : Nat) : (s.portReset_ h).lasting = s.lasting := by
  simp [State.portReset_]
@[simp] theorem State.linkDown_lasting (s : State) (h : Nat) (train : Option Nat) :
    (s.linkDown h train).lasting = s.lasting := by simp [State.linkDown]
@[simp] theorem State.portLost_lasting (s : State) (h : Nat) (what : PortReset) :
    (s.portLost h what).lasting = s.lasting := by
  unfold State.portLost
  split <;> simp
@[simp] theorem State.releaseAll_lasting (s : State) (h : Nat) : (s.releaseAll h).lasting = s.lasting := by
  simp [State.releaseAll]
@[simp] theorem State.hstCtrl_lasting (s : State) (h o : Nat) (v : Word) (r : Row) :
    (s.hstCtrl h o v r).1.lasting = s.lasting := by simp [State.hstCtrl]

/-! ### EngineOps -/

@[simp] theorem State.modEng_lasting (s : State) (e : Nat) (f : Engine → Engine) : (s.modEng e f).lasting = s.lasting := by
  simp [State.modEng]
@[simp] theorem State.diffFollow_lasting (s : State) : s.diffFollow.lasting = s.lasting := by simp [State.diffFollow]
@[simp] theorem State.dueFollow_lasting (s : State) : s.dueFollow.lasting = s.lasting := by simp [State.dueFollow]
@[simp] theorem State.judgeWrite_lasting (s : State) (result reason : Nat) :
    (s.judgeWrite result reason).lasting = s.lasting := by simp [State.judgeWrite]
@[simp] theorem State.judgeEnd_lasting (s : State) : s.judgeEnd.lasting = s.lasting := by simp [State.judgeEnd]
@[simp] theorem State.judgeAbort_lasting (s : State) : s.judgeAbort.lasting = s.lasting := by simp [State.judgeAbort]
@[simp] theorem State.fence_lasting (s : State) (e cause : Nat) : (s.fence e cause).lasting = s.lasting := by
  simp [State.fence]
@[simp] theorem State.joinFails_lasting (s : State) (e cause : Nat) : (s.joinFails_ e cause).lasting = s.lasting := by
  simp [State.joinFails_]
@[simp] theorem State.joinsFail_lasting (s : State) : s.joinsFail.lasting = s.lasting := by simp [State.joinsFail]
@[simp] theorem State.engineLost_lasting (s : State) : s.engineLost.lasting = s.lasting := by simp [State.engineLost]
@[simp] theorem State.streamFollow_lasting (s : State) : s.streamFollow.lasting = s.lasting := by simp [State.streamFollow]
@[simp] theorem State.engineFault_lasting (s : State) (e cause : Nat) : (s.engineFault e cause).lasting = s.lasting := by
  simp [State.engineFault]

@[simp] theorem State.ringsOpen_lasting {s : State} {first : State → State}
    (hfirst : ∀ t, (first t).lasting = t.lasting) : (s.ringsOpen first).lasting = s.lasting := by
  simp [State.ringsOpen, hfirst]
@[simp] theorem State.grant_lasting (s : State) (e why : Nat) : (s.grant e why).lasting = s.lasting := by simp [State.grant]
@[simp] theorem State.switchoverPosts_lasting (s : State) (former e why : Nat) :
    (s.switchoverPosts former e why).lasting = s.lasting := by simp [State.switchoverPosts]
@[simp] theorem State.rejoin_lasting (s : State) (e slot : Nat) : (s.rejoin e slot).lasting = s.lasting := by
  simp [State.rejoin]
@[simp] theorem State.lateJoin_lasting (s : State) (e : Nat) : (s.lateJoin e).lasting = s.lasting := by
  unfold State.lateJoin
  split <;> simp
@[simp] theorem State.joinOut_lasting (s : State) (e slot : Nat) : (s.joinOut e slot).lasting = s.lasting := by
  simp [State.joinOut]
@[simp] theorem State.gafferFrozen_lasting (s : State) : s.gafferFrozen.lasting = s.lasting := by simp [State.gafferFrozen]
@[simp] theorem State.forceStart_lasting (s : State) : s.forceStart.lasting = s.lasting := by simp [State.forceStart]
@[simp] theorem State.judgeForced_lasting (s : State) : s.judgeForced.lasting = s.lasting := by simp [State.judgeForced]
@[simp] theorem State.joined_lasting (s : State) (e : Nat) : (s.joined e).lasting = s.lasting := by simp [State.joined]
@[simp] theorem State.rejoinStage_lasting (s : State) (e : Nat) (pass : Bool) :
    (s.rejoinStage e pass).lasting = s.lasting := by simp [State.rejoinStage]
@[simp] theorem State.imageOpens_lasting (s : State) (h : Nat) (b : List Byte) :
    (s.imageOpens h b).1.lasting = s.lasting := by simp [State.imageOpens]
@[simp] theorem State.engAct_lasting (s : State) (e : Nat) (v : Word) : (s.engAct e v).lasting = s.lasting := by
  simp [State.engAct]
@[simp] theorem State.haltsEnd_lasting (s : State) : s.haltsEnd.lasting = s.lasting := by simp [State.haltsEnd]
@[simp] theorem State.haltBeat_lasting (s : State) (e : Nat) : (s.haltBeat e).lasting = s.lasting := by simp [State.haltBeat]
@[simp] theorem State.txBeat_lasting (s : State) (e : Nat) : (s.txBeat e).lasting = s.lasting := by simp [State.txBeat]
@[simp] theorem State.syncBeat_lasting (s : State) (e : Nat) : (s.syncBeat e).lasting = s.lasting := by simp [State.syncBeat]
@[simp] theorem State.engineBeat_lasting (s : State) : s.engineBeat.lasting = s.lasting := by simp [State.engineBeat]
@[simp] theorem State.bootEngine_lasting (s : State) (e slot : Nat) (pass : Bool) :
    (s.bootEngine e slot pass).lasting = s.lasting := by simp [State.bootEngine]
@[simp] theorem State.engineBoot_lasting (s : State) (passA passB : Bool) :
    (s.engineBoot passA passB).lasting = s.lasting := by
  simp [State.engineBoot]
  split <;> simp
@[simp] theorem State.deadline_lasting (s : State) (e : Nat) (late : Bool) : (s.deadline e late).lasting = s.lasting := by
  simp [State.deadline]

/-! ### NetOps -/

@[simp] theorem State.modNet_lasting (s : State) (f : Net → Net) : (s.modNet f).lasting = s.lasting := by simp [State.modNet]
@[simp] theorem State.linkChange_lasting (s : State) (p : Nat) (up : Bool) : (s.linkChange p up).lasting = s.lasting := by
  simp [State.linkChange]
@[simp] theorem State.rxFrame_lasting (s : State) (p : Nat) : (s.rxFrame p).lasting = s.lasting := by simp [State.rxFrame]
@[simp] theorem State.txEvent_lasting (s : State) (p : Nat) : (s.txEvent p).lasting = s.lasting := by simp [State.txEvent]
@[simp] theorem State.prpSend_lasting (s : State) (dst appid : Nat) (pdu : Pdu) :
    (s.prpSend dst appid pdu).lasting = s.lasting := by simp [State.prpSend]
@[simp] theorem State.ptpFollow_lasting (s : State) : s.ptpFollow.lasting = s.lasting := by simp [State.ptpFollow]
@[simp] theorem State.announce_lasting (s : State) (p domain : Nat) (gm cls utc rank : Nat) :
    (s.announce p domain gm cls utc rank).lasting = s.lasting := by simp [State.announce]
@[simp] theorem State.ptpSync_lasting (s : State) (p domain : Nat) (offset : Int) :
    (s.ptpSync p domain offset).lasting = s.lasting := by simp [State.ptpSync]
@[simp] theorem State.sendPdelay_lasting (s : State) (p : Nat) (parts : List Nat) :
    (s.sendPdelay p parts).lasting = s.lasting := by simp [State.sendPdelay]
@[simp] theorem State.pdelayAnswer_lasting (s : State) (p domain : Nat) : (s.pdelayAnswer p domain).lasting = s.lasting := by
  simp [State.pdelayAnswer]
@[simp] theorem State.pdelayResp_lasting (s : State) (p domain d : Nat) : (s.pdelayResp p domain d).lasting = s.lasting := by
  simp [State.pdelayResp]
@[simp] theorem State.modSub_lasting (s : State) (n : Nat) (f : Sub → Sub) : (s.modSub n f).lasting = s.lasting := by
  simp [State.modSub]
@[simp] theorem State.portCount_lasting (s : State) (p : Nat) (ok : Bool) : (s.portCount p ok).lasting = s.lasting := by
  simp [State.portCount]
@[simp] theorem State.subTakes_lasting (s : State) (n : Nat) (f : GooseFrame) : (s.subTakes n f).lasting = s.lasting := by
  simp [State.subTakes]
@[simp] theorem State.gooseStation_lasting (s : State) (f : GooseFrame) : (s.gooseStation f).lasting = s.lasting := by
  simp [State.gooseStation]
@[simp] theorem State.proTakes_lasting (s : State) (n : Nat) (f : GooseFrame) : (s.proTakes n f).lasting = s.lasting := by
  simp [State.proTakes]
@[simp] theorem State.gooseProtection_lasting (s : State) (f : GooseFrame) : (s.gooseProtection f).lasting = s.lasting := by
  simp [State.gooseProtection]
@[simp] theorem State.envelopeIn_lasting (s : State) (net : Nat) (bytes : List Byte) (rx : Nat) :
    (s.envelopeIn net bytes rx).lasting = s.lasting := by simp [State.envelopeIn]
@[simp] theorem State.subsBeat_lasting (s : State) : s.subsBeat.lasting = s.lasting := by simp [State.subsBeat]
@[simp] theorem State.netStore_lasting (s : State) (h o : Nat) (v : Word) (mask : Word) :
    (s.netStore h o v mask).lasting = s.lasting := by simp [State.netStore]
@[simp] theorem State.subWrite_lasting (s : State) (h o : Nat) (v : Word) (r : Row) :
    (s.subWrite h o v r).1.lasting = s.lasting := by simp [State.subWrite]
@[simp] theorem State.modPub_lasting (s : State) (n : Nat) (f : Pub → Pub) : (s.modPub n f).lasting = s.lasting := by
  simp [State.modPub]
@[simp] theorem State.pubWrite_lasting (s : State) (h o : Nat) (v : Word) (r : Row) :
    (s.pubWrite h o v r).1.lasting = s.lasting := by simp [State.pubWrite]
@[simp] theorem State.svKeep_lasting (s : State) : s.svKeep.lasting = s.lasting := by simp [State.svKeep]
@[simp] theorem State.svSample_lasting (s : State) (m : Nat) : (s.svSample m).lasting = s.lasting := by
  unfold State.svSample
  split <;> simp
@[simp] theorem State.stringsBeat_lasting (s : State) : s.stringsBeat.lasting = s.lasting := by
  unfold State.stringsBeat
  split <;> simp
@[simp] theorem State.netWrite_lasting (s : State) (h o : Nat) (v : Word) (r : Row) :
    (s.netWrite h o v r).1.lasting = s.lasting := by simp [State.netWrite]

/-! ### ResetOps -/

@[simp] theorem State.modPwr_lasting (s : State) (f : Reset → Reset) : (s.modPwr f).lasting = s.lasting := by
  simp [State.modPwr]
@[simp] theorem State.modRail_lasting (s : State) (f : Rail → Rail) : (s.modRail f).lasting = s.lasting := by
  simp [State.modRail]
@[simp] theorem State.modClk_lasting (s : State) (f : Clk → Clk) : (s.modClk f).lasting = s.lasting := by simp [State.modClk]
@[simp] theorem State.foundFailed_lasting (s : State) (failed : List Nat) : (s.foundFailed failed).lasting = s.lasting := by
  simp [State.foundFailed]
@[simp] theorem State.resetSource_lasting (s : State) (bit : Nat) (on : Bool) :
    (s.resetSource bit on).lasting = s.lasting := by simp [State.resetSource]

@[simp] theorem State.resetRelease_lasting (s : State) (failed : List Nat) :
    (s.resetRelease failed).lasting = s.lasting := by
  simp [State.resetRelease, State.foundFailed]
@[simp] theorem State.readyActs_lasting (s : State) (b : Nat) : (s.readyActs b).lasting = s.lasting := by
  simp [State.readyActs]
@[simp] theorem State.blockReady_lasting (s : State) (b : Nat) : (s.blockReady b).lasting = s.lasting := by
  simp [State.blockReady]
@[simp] theorem State.readyTime_lasting (s : State) : s.readyTime.lasting = s.lasting := by simp [State.readyTime]
@[simp] theorem State.hostLinkUp_lasting (s : State) (h : Nat) : (s.hostLinkUp h).lasting = s.lasting := by
  simp [State.hostLinkUp]

/-! ### RailOps -/

@[simp] theorem State.modCh_lasting (s : State) (c : Nat) (f : RailCh → RailCh) : (s.modCh c f).lasting = s.lasting := by
  simp [State.modCh]
@[simp] theorem State.modRailOf_lasting (s : State) (c : Nat) (f : RailCh → RailCh) :
    (s.modRailOf c f).lasting = s.lasting := by simp [State.modRailOf]
@[simp] theorem State.railStart_lasting (s : State) (c : Nat) : (s.railStart c).lasting = s.lasting := by
  simp [State.railStart]
@[simp] theorem State.railsDown_lasting (s : State) : s.railsDown.lasting = s.lasting := by simp [State.railsDown]
@[simp] theorem State.railGood_lasting (s : State) (c : Nat) : (s.railGood c).lasting = s.lasting := by simp [State.railGood]
@[simp] theorem State.pgLost_lasting (s : State) : s.pgLost.lasting = s.lasting := by simp [State.pgLost]
@[simp] theorem State.syncGone_lasting (s : State) : s.syncGone.lasting = s.lasting := by simp [State.syncGone]
@[simp] theorem State.syncValid_lasting (s : State) (kHz : Nat) : (s.syncValid kHz).lasting = s.lasting := by
  simp [State.syncValid]
@[simp] theorem State.syncLost_lasting (s : State) : s.syncLost.lasting = s.lasting := by simp [State.syncLost]
@[simp] theorem State.drive_lasting (s : State) (c : Nat) (pulse enable : Bool) :
    (s.drive c pulse enable).lasting = s.lasting := by simp [State.drive]
@[simp] theorem State.burstLeaves_lasting (s : State) (c : Nat) : (s.burstLeaves c).lasting = s.lasting := by
  simp [State.burstLeaves]
@[simp] theorem State.switchCycle_lasting (s : State) (c : Nat) : (s.switchCycle c).lasting = s.lasting := by
  simp [State.switchCycle]
@[simp] theorem State.reverseActs_lasting (s : State) (c : Nat) : (s.reverseActs c).lasting = s.lasting := by
  simp [State.reverseActs]
@[simp] theorem State.bootLow_lasting (s : State) (c : Nat) : (s.bootLow c).lasting = s.lasting := by simp [State.bootLow]
@[simp] theorem State.bootBack_lasting (s : State) (c : Nat) : (s.bootBack c).lasting = s.lasting := by simp [State.bootBack]
@[simp] theorem State.overVolt_lasting (s : State) (c : Nat) (above : Bool) : (s.overVolt c above).lasting = s.lasting := by
  simp [State.overVolt]
@[simp] theorem State.driverUv_lasting (s : State) (c : Nat) (low : Bool) : (s.driverUv c low).lasting = s.lasting := by
  simp [State.driverUv]
@[simp] theorem State.burstExit_lasting (s : State) (c : Nat) : (s.burstExit c).lasting = s.lasting := by
  simp [State.burstExit]
@[simp] theorem State.burstEntry_lasting (s : State) (c : Nat) : (s.burstEntry c).lasting = s.lasting := by
  simp [State.burstEntry]
@[simp] theorem State.railMove_lasting (s : State) (c tgt : Nat) : (s.railMove c tgt).lasting = s.lasting := by
  simp [State.railMove]
@[simp] theorem State.vset_lasting (s : State) (c : Nat) (v : Word) : (s.vset c v).lasting = s.lasting := by simp [State.vset]
@[simp] theorem State.chCfgWrite_lasting (s : State) (h o : Nat) (v : Word) (r : Row) :
    (s.chCfgWrite h o v r).1.lasting = s.lasting := by simp [State.chCfgWrite]

/-! ### ClkOps -/

@[simp] theorem State.clockEnds_lasting (s : State) : s.clockEnds.lasting = s.lasting := by simp [State.clockEnds]
@[simp] theorem State.selectRef_lasting (s : State) (r : Nat) : (s.selectRef r).lasting = s.lasting := by
  unfold State.selectRef
  split <;> simp
@[simp] theorem State.refGood_lasting (s : State) (r : Nat) : (s.refGood r).lasting = s.lasting := by simp [State.refGood]
@[simp] theorem State.refLost_lasting (s : State) (r : Nat) : (s.refLost r).lasting = s.lasting := by simp [State.refLost]
@[simp] theorem State.refDiffers_lasting (s : State) (tenthPpm : Int) : (s.refDiffers tenthPpm).lasting = s.lasting := by
  simp [State.refDiffers]
@[simp] theorem State.dllLost_lasting (s : State) (p : Nat) : (s.dllLost p).lasting = s.lasting := by
  unfold State.dllLost
  (repeat' split) <;> simp

/-! ### MemoryOps -/

@[simp] theorem State.countUe_lasting (s : State) (sram : Bool) (addr : Word) :
    (s.countUe sram addr).lasting = s.lasting := by simp [State.countUe]
@[simp] theorem State.engineUe_lasting (s : State) (e : Nat) : (s.engineUe e).lasting = s.lasting := by simp [State.engineUe]
@[simp] theorem State.dramDies_lasting (s : State) : s.dramDies.lasting = s.lasting := by simp [State.dramDies]
@[simp] theorem State.complementScan_lasting (s : State) (loc off : Nat) (x xn : Word) :
    (s.complementScan loc off x xn).lasting = s.lasting := by simp [State.complementScan]
@[simp] theorem State.analogDies_lasting (s : State) : s.analogDies.lasting = s.lasting := by simp [State.analogDies]
@[simp] theorem State.flashDies_lasting (s : State) : s.flashDies.lasting = s.lasting := by simp [State.flashDies]
@[simp] theorem State.lcyStart_lasting (s : State) (t : Lifecycle) : (s.lcyStart t).lasting = s.lasting := by
  simp [State.lcyStart]
@[simp] theorem State.lcyWiped_lasting (s : State) : s.lcyWiped.lasting = s.lasting := by simp [State.lcyWiped]

/-! ### ModeOps -/

@[simp] theorem State.leaveService_lasting (s : State) : s.leaveService.lasting = s.lasting := by simp [State.leaveService]
@[simp] theorem State.sourceFor_lasting (s : State) (m : Mode) : (s.sourceFor m).lasting = s.lasting := by
  simp [State.sourceFor]
@[simp] theorem State.enterHoldMode_lasting (s : State) : s.enterHoldMode.lasting = s.lasting := by simp [State.enterHoldMode]
@[simp] theorem State.enterRide_lasting (s : State) : s.enterRide.lasting = s.lasting := by simp [State.enterRide]
@[simp] theorem State.leaveRide_lasting (s : State) (m : Mode) : (s.leaveRide m).lasting = s.lasting := by
  simp [State.leaveRide]
@[simp] theorem State.enterRun_lasting (s : State) (m : Mode) : (s.enterRun m).lasting = s.lasting := by simp [State.enterRun]
@[simp] theorem State.closeLeft_lasting (s : State) : s.closeLeft.lasting = s.lasting := by simp [State.closeLeft]
@[simp] theorem State.modeActs_lasting (s : State) (old m : Mode) : (s.modeActs old m).lasting = s.lasting := by
  unfold State.modeActs
  split <;> simp
@[simp] theorem State.setMode_lasting (s : State) (m : Mode) : (s.setMode m).lasting = s.lasting := by simp [State.setMode]
@[simp] theorem State.enterMode_lasting (s : State) (m : Mode) : (s.enterMode m).lasting = s.lasting := by
  simp [State.enterMode]
@[simp] theorem State.modeNext_lasting (s : State) : s.modeNext.lasting = s.lasting := by
  unfold State.modeNext
  split <;> simp
@[simp] theorem State.modeBegin_lasting (s : State) (t : Mode) : (s.modeBegin t).lasting = s.lasting := by
  unfold State.modeBegin
  (repeat' split) <;> simp
@[simp] theorem State.holdRequest_lasting (s : State) (v : Word) : (s.holdRequest v).1.lasting = s.lasting := by
  simp [State.holdRequest]
@[simp] theorem State.latchClear_lasting (s : State) (h : Nat) (v : Word) : (s.latchClear h v).1.lasting = s.lasting := by
  simp [State.latchClear]
@[simp] theorem State.openNow_lasting (s : State) : s.openNow.lasting = s.lasting := by
  unfold State.openNow
  split <;> simp
@[simp] theorem State.grdOpenWrite_lasting (s : State) (h : Nat) (v : Word) : (s.grdOpenWrite h v).1.lasting = s.lasting := by
  simp [State.grdOpenWrite]

/-! ### BeatOps -/

@[simp] theorem State.modLoop_lasting (s : State) (f : Loop → Loop) : (s.modLoop f).lasting = s.lasting := by
  simp [State.modLoop]
@[simp] theorem State.freeCell_lasting (s : State) (c : Nat) : (s.freeCell c).lasting = s.lasting := by simp [State.freeCell]
@[simp] theorem State.roleActs_lasting (s : State) (c : Nat) (old new : Word) :
    (s.roleActs c old new).lasting = s.lasting := by simp [State.roleActs]
@[simp] theorem State.versionActs_lasting (s : State) (c : Nat) (old new : Word) :
    (s.versionActs c old new).lasting = s.lasting := by simp [State.versionActs]
@[simp] theorem State.serialActs_lasting (s : State) (c : Nat) : (s.serialActs c).lasting = s.lasting := by
  simp [State.serialActs]
@[simp] theorem State.cellActs_lasting (s : State) (was : Nat) : (s.cellActs was).lasting = s.lasting := by
  simp [State.cellActs]
@[simp] theorem State.copyWords_lasting (s : State) : s.copyWords.lasting = s.lasting := by simp [State.copyWords]
@[simp] theorem State.copyForces_lasting (s : State) : s.copyForces.lasting = s.lasting := by simp [State.copyForces]
@[simp] theorem State.beatFlags_lasting (s : State) : s.beatFlags.lasting = s.lasting := by simp [State.beatFlags]
@[simp] theorem State.cycleStart_lasting (s : State) : s.cycleStart.lasting = s.lasting := by simp [State.cycleStart]
@[simp] theorem State.handOver_lasting (s : State) (e : Nat) : (s.handOver e).lasting = s.lasting := by simp [State.handOver]
@[simp] theorem State.handOvers_lasting (s : State) (lead : Bool) : (s.handOvers lead).lasting = s.lasting := by
  simp [State.handOvers]
@[simp] theorem State.leadCopies_lasting (s : State) : s.leadCopies.lasting = s.lasting := by simp [State.leadCopies]
@[simp] theorem State.shadowCopies_lasting (s : State) : s.shadowCopies.lasting = s.lasting := by simp [State.shadowCopies]
@[simp] theorem State.runLoop_lasting (s : State) : s.runLoop.lasting = s.lasting := by simp [State.runLoop]
@[simp] theorem State.loopEnds_lasting (s : State) : s.loopEnds.lasting = s.lasting := by simp [State.loopEnds]
@[simp] theorem State.loads_lasting (s : State) : s.loads.lasting = s.lasting := by simp [State.loads]
@[simp] theorem State.pipeline_lasting (s : State) : s.pipeline.lasting = s.lasting := by simp [State.pipeline]
@[simp] theorem State.snapAsk_lasting (s : State) : s.snapAsk.lasting = s.lasting := by simp [State.snapAsk]
@[simp] theorem State.snapFree_lasting (s : State) : s.snapFree.lasting = s.lasting := by simp [State.snapFree]

/-! ### TableOps -/

@[simp] theorem State.cellWrite_lasting (s : State) (h c b : Nat) (v : Word) :
    (s.cellWrite h c b v).1.lasting = s.lasting := by simp [State.cellWrite]
@[simp] theorem State.slotWrite_lasting (s : State) (h i b : Nat) (v : Word) :
    (s.slotWrite h i b v).1.lasting = s.lasting := by simp [State.slotWrite]
@[simp] theorem State.schedWrite_lasting (s : State) (h n b : Nat) (v : Word) :
    (s.schedWrite h n b v).1.lasting = s.lasting := by simp [State.schedWrite]
@[simp] theorem State.profileWrite_lasting (s : State) (h p b : Nat) (v : Word) :
    (s.profileWrite h p b v).1.lasting = s.lasting := by simp [State.profileWrite]

/-! ### WriteOps -/

@[simp] theorem State.putCmp_lasting (s : State) (o : Nat) (v : Word) : (s.putCmp o v).lasting = s.lasting := by
  simp [State.putCmp]
@[simp] theorem State.putSet_lasting (s : State) (o : Nat) (v : Word) : (s.putSet o v).lasting = s.lasting := by
  simp [State.putSet]
@[simp] theorem State.angCfg_lasting (s : State) (h o : Nat) (v : Word) (r : Row) :
    (s.angCfg h o v r).1.lasting = s.lasting := by simp [State.angCfg]

@[simp] theorem State.angDiv_lasting (s : State) (h o : Nat) (v : Word) (r : Row) :
    (s.angDiv h o v r).1.lasting = s.lasting :=
  State.judged_lasting (by dsimp only; split <;> simp)
@[simp] theorem State.angBand_lasting (s : State) (h o : Nat) (v : Word) (r : Row) :
    (s.angBand h o v r).1.lasting = s.lasting := by simp [State.angBand]
@[simp] theorem State.devtimeSet_lasting (s : State) (h : Nat) (v : Word) : (s.devtimeSet h v).1.lasting = s.lasting := by
  simp [State.devtimeSet]
@[simp] theorem State.seqCfg_lasting (s : State) (h o : Nat) (v : Word) (r : Row) :
    (s.seqCfg h o v r).1.lasting = s.lasting := by simp [State.seqCfg]
@[simp] theorem State.gatherWrite_lasting (s : State) (h o : Nat) (v : Word) (r : Row) :
    (s.gatherWrite h o v r).1.lasting = s.lasting := by simp [State.gatherWrite]
@[simp] theorem State.wmonWrite_lasting (s : State) (h o : Nat) (v : Word) (r : Row) :
    (s.wmonWrite h o v r).1.lasting = s.lasting := by simp [State.wmonWrite]
@[simp] theorem State.calsetData_lasting (s : State) (h : Nat) (v : Word) : (s.calsetData h v).1.lasting = s.lasting := by
  simp [State.calsetData]
@[simp] theorem State.calsetCmd_lasting (s : State) (h : Nat) (vn : Word) : (s.calsetCmd h vn).1.lasting = s.lasting := by
  simp [State.calsetCmd]
@[simp] theorem State.cmpSub_lasting (s : State) (h o : Nat) (vn : Word) : (s.cmpSub h o vn).1.lasting = s.lasting := by
  simp [State.cmpSub]
@[simp] theorem State.linesSet_lasting (s : State) (k : Nat) (on : Bool) : (s.linesSet k on).lasting = s.lasting := by
  simp [State.linesSet]
@[simp] theorem State.lnkCtrl_lasting (s : State) (h o : Nat) (v : Word) (r : Row) :
    (s.lnkCtrl h o v r).1.lasting = s.lasting := by simp [State.lnkCtrl]
@[simp] theorem State.serve_lasting (s : State) (p t : Nat) : (s.serve p t).lasting = s.lasting := by simp [State.serve]
@[simp] theorem State.portSub_lasting (s : State) (h : Nat) (vn : Word) : (s.portSub h vn).1.lasting = s.lasting := by
  simp [State.portSub]
@[simp] theorem State.lhbCommit_lasting (s : State) (h : Nat) (v : Word) : (s.lhbCommit h v).1.lasting = s.lasting := by
  simp [State.lhbCommit]
@[simp] theorem State.forceLhbs_lasting (s : State) (h : Nat) (vn : Word) : (s.forceLhbs h vn).1.lasting = s.lasting := by
  simp [State.forceLhbs]
@[simp] theorem State.forceCells_lasting (s : State) (h : Nat) (vn : Word) : (s.forceCells h vn).1.lasting = s.lasting := by
  simp [State.forceCells]
@[simp] theorem State.lpeRelease_lasting (s : State) (h : Nat) (v : Word) (r : Row) :
    (s.lpeRelease h v r).1.lasting = s.lasting := by simp [State.lpeRelease]
@[simp] theorem State.lpeSnap_lasting (s : State) (h : Nat) (v : Word) (r : Row) :
    (s.lpeSnap h v r).1.lasting = s.lasting := by simp [State.lpeSnap]
@[simp] theorem State.closeCmd_lasting (s : State) (h : Nat) (vn : Word) : (s.closeCmd h vn).1.lasting = s.lasting := by
  simp [State.closeCmd]
@[simp] theorem State.storeDispatch_lasting (s : State) (h : Nat) (vn : Word) :
    (s.storeDispatch h vn).1.lasting = s.lasting := by simp [State.storeDispatch]
@[simp] theorem State.bptSubst_lasting (s : State) (h : Nat) (vn : Word) : (s.bptSubst h vn).1.lasting = s.lasting := by
  simp [State.bptSubst]

@[simp] theorem State.pedit_lasting (s : State) (h : Nat) (vn : Word) : (s.pedit h vn).1.lasting = s.lasting := by
  refine State.rwcComplementAcc_lasting fun v t => ?_
  dsimp only
  (repeat' split) <;> simp
@[simp] theorem State.engCtrl_lasting (s : State) (h o : Nat) (vn : Word) : (s.engCtrl h o vn).1.lasting = s.lasting := by
  simp [State.engCtrl]
@[simp] theorem State.gafForce_lasting (s : State) (h : Nat) (vn : Word) : (s.gafForce h vn).1.lasting = s.lasting := by
  simp [State.gafForce]
@[simp] theorem State.groupBit_lasting (s : State) (role : Nat) (old new : Bool) :
    (s.groupBit role old new).lasting = s.lasting := by simp [State.groupBit]
@[simp] theorem State.groupCmd_lasting (s : State) (h : Nat) (vn : Word) : (s.groupCmd h vn).1.lasting = s.lasting := by
  simp [State.groupCmd]
@[simp] theorem State.acknowledge_lasting (s : State) : s.acknowledge.1.lasting = s.lasting := by simp [State.acknowledge]
@[simp] theorem State.safAck_lasting (s : State) (h : Nat) (vn : Word) : (s.safAck h vn).1.lasting = s.lasting := by
  simp [State.safAck]
@[simp] theorem State.ciBoot_lasting (s : State) (h o : Nat) (v : Word) (r : Row) :
    (s.ciBoot h o v r).1.lasting = s.lasting := by simp [State.ciBoot]
@[simp] theorem State.ciCmd_lasting (s : State) (h : Nat) (vn : Word) : (s.ciCmd h vn).1.lasting = s.lasting := by
  simp [State.ciCmd]
@[simp] theorem State.lcyCmd_lasting (s : State) (h : Nat) (vn : Word) : (s.lcyCmd h vn).1.lasting = s.lasting := by
  simp [State.lcyCmd]

/-! ### HostAccess -/

@[simp] theorem State.rwLow_lasting (s : State) (h o : Nat) (v : Word) (r : Row) :
    (s.rwLow h o v r).1.lasting = s.lasting := by simp [State.rwLow]
@[simp] theorem State.rwMeasure_lasting (s : State) (h o : Nat) (v : Word) (r : Row) :
    (s.rwMeasure h o v r).1.lasting = s.lasting := by simp [State.rwMeasure]

@[simp] theorem State.rwCells_lasting (s : State) (h o : Nat) (v : Word) (r : Row) :
    (s.rwCells h o v r).1.lasting = s.lasting := by
  unfold State.rwCells
  (repeat' split) <;> simp [State.judged]
@[simp] theorem State.rwControl_lasting (s : State) (h o : Nat) (v : Word) (r : Row) :
    (s.rwControl h o v r).1.lasting = s.lasting := by simp [State.rwControl]
@[simp] theorem State.rwHosts_lasting (s : State) (h o : Nat) (v : Word) (r : Row) :
    (s.rwHosts h o v r).1.lasting = s.lasting := by simp [State.rwHosts]
@[simp] theorem State.rwWrite_lasting (s : State) (h o : Nat) (v : Word) (r : Row) :
    (s.rwWrite h o v r).1.lasting = s.lasting := by simp [State.rwWrite]
@[simp] theorem State.valueWrite_lasting (s : State) (h o : Nat) (v : Word) (r : Row) :
    (s.valueWrite h o v r).1.lasting = s.lasting := by simp [State.valueWrite]
@[simp] theorem State.mended_lasting (s : State) (o : Nat) : (s.mended o).lasting = s.lasting := by simp [State.mended]

/-! ### Pins -/

@[simp] theorem State.capture_lasting (s : State) : s.capture.lasting = s.lasting := by simp [State.capture]
@[simp] theorem State.shiftCells_lasting (s : State) (cells : List Bool) : (s.shiftCells cells).lasting = s.lasting := by
  simp [State.shiftCells]

/-! ### BeatCmds -/

@[simp] theorem State.fireAct_lasting (s : State) (act target width : Nat) :
    (s.fireAct act target width).lasting = s.lasting := by simp [State.fireAct]
@[simp] theorem State.fireEntry_lasting (s : State) (n : Nat) : (s.fireEntry n).lasting = s.lasting := by
  simp [State.fireEntry]

/-! ### MemoryCmds -/

@[simp] theorem State.ciVerified_lasting (s : State) (slot : Nat) (image : List Byte) (verified signed : Bool) :
    (s.ciVerified slot image verified signed).1.lasting = s.lasting := by simp [State.ciVerified]

/-! ### ModulatorCmds -/

@[simp] theorem State.clockStops_lasting (s : State) : s.clockStops.lasting = s.lasting := by simp [State.clockStops]

/-! ### RtiCmds -/

@[simp] theorem State.profileMended_lasting (s : State) (p : Nat) : (s.profileMended p).lasting = s.lasting := by
  simp [State.profileMended]

/-! ### SafetyCmds -/

@[simp] theorem State.verdicts_lasting (s : State) (x y : BitVec 4) : (s.verdicts x y).lasting = s.lasting := by
  simp [State.verdicts]
@[simp] theorem State.exchange_lasting (s : State) (good differ : Bool) (x y : BitVec 4) :
    (s.exchange good differ x y).lasting = s.lasting := by simp [State.exchange]
@[simp] theorem State.sealSample_lasting (s : State) (noX ncX noY ncY : BitVec 8) :
    (s.sealSample noX ncX noY ncY).lasting = s.lasting := by simp [State.sealSample]
@[simp] theorem State.sealTakes_lasting (s : State) (k : Nat) : (s.sealTakes k).lasting = s.lasting := by
  simp [State.sealTakes]
@[simp] theorem State.sealFails_lasting (s : State) (k : Nat) : (s.sealFails k).lasting = s.lasting := by
  simp [State.sealFails]

/-! ### SentinelCmds -/

@[simp] theorem State.senConfirm_lasting (s : State) (i : Nat) : (s.senConfirm i).lasting = s.lasting := by
  simp [State.senConfirm]

/-! ## Operations that take time, reset the device or answer a host -/

@[simp] theorem Lasting.before_refl (a : Lasting) : a.before a := ⟨rfl, rfl, rfl, Nat.le_refl _⟩

@[simp] theorem Lasting.before_ite {a x y : Lasting} (c : Prop) [Decidable c] :
    a.before (if c then x else y) ↔ (c → a.before x) ∧ (¬ c → a.before y) := by
  split <;> simp_all

@[simp] theorem State.advance_before {a : Lasting} {s : State} {t : Nat} (h : a.before s.lasting) :
    a.before (s.advance t).lasting := by
  obtain ⟨hq, hp, hl, hn⟩ := h
  exact ⟨hq, hp, hl, Nat.le_trans hn (Nat.le_add_right _ _)⟩

@[simp] theorem State.putWin_before {a : Lasting} {s : State} {h o : Nat} {v : Word} (hs : a.before s.lasting) :
    a.before (s.putWin h o v).lasting := hs

@[simp] theorem State.wiped_before {a : Lasting} {s : State} (h : a.before s.lasting) : a.before s.wiped.lasting := h

/-! ### Access -/

@[simp] theorem State.refuse_before {a : Lasting} {s : State} {h page o : Nat} {st : Status} (hs : a.before s.lasting) :
    a.before (s.refuse h page o st).lasting := by simp [State.refuse, hs]

@[simp] theorem State.access_before {a : Lasting} {s : State} {h o : Nat} {body : State → Acc}
    (hbody : ∀ t, a.before t.lasting → a.before (body t).1.lasting) (hs : a.before s.lasting) :
    a.before (s.access h o body).1.lasting := by
  have hb := hbody (s.disarm h (pageOf o)) (by simpa using hs)
  simp only [State.access]
  split
  · exact hb
  · exact State.refuse_before hb

@[simp] theorem State.headerWrite_before {a : Lasting} {s : State} {h page off : Nat} {v : Word} (hs : a.before s.lasting) :
    a.before (s.headerWrite h page off v).1.lasting := by
  have hw (p : Nat) (w : Word) := State.putWin_before (h := h) (o := p) (v := w) hs
  unfold State.headerWrite
  (repeat' split) <;>
    simp only [State.mk_lasting, Lasting.mk_eq_lasting, State.lockWrite_lasting, State.ignored_lasting, hw, hs]

/-! ### ModulatorOps -/

@[simp] theorem State.lhbBoundary_before {a : Lasting} {s : State} {k : Nat} (hs : a.before s.lasting) :
    a.before (s.lhbBoundary k).lasting := by
  have ht := State.advance_before (t := (s.lhb k).start + half25 (s.lhb k).aper * halfNs) hs
  simp only [State.lhbBoundary, State.eventIf_lasting, State.lhbEvents_lasting]
  generalize s.advance _ = t at *
  simp only [State.mk_lasting, Lasting.mk_eq_lasting, State.modLhb_lasting]
  exact ht

/-! ### SafetyOps -/

@[simp] theorem State.safetyTick_before {a : Lasting} {s : State} {si : BitVec 16} {mirrors readback : BitVec 8}
    (hs : a.before s.lasting) : a.before (s.safetyTick si mirrors readback).lasting := by
  have ht := State.advance_before (t := s.saf.tickAt + ms 1) hs
  unfold State.safetyTick
  generalize s.advance _ = t at *
  simpa using ht

/-! ### SentinelOps -/

@[simp] theorem State.alertComplete_before {a : Lasting} {s : State} (hs : a.before s.lasting) :
    a.before s.alertComplete.lasting := by
  unfold State.alertComplete
  split <;> simp [hs]
@[simp] theorem State.alertAbort_before {a : Lasting} {s : State} (hs : a.before s.lasting) :
    a.before s.alertAbort.lasting := by
  unfold State.alertAbort
  split <;> simp [hs]
@[simp] theorem State.alertRetry_before {a : Lasting} {s : State} (hs : a.before s.lasting) :
    a.before s.alertRetry.lasting := by
  unfold State.alertRetry
  split <;> simp [hs]
@[simp] theorem State.aliveStamp_before {a : Lasting} {s : State} (hs : a.before s.lasting) :
    a.before s.aliveStamp.lasting := by simp [State.aliveStamp, hs]
@[simp] theorem State.goBlind_before {a : Lasting} {s : State} (hs : a.before s.lasting) : a.before s.goBlind.lasting := by
  simp [State.goBlind, hs]
@[simp] theorem State.cellProtects_before {a : Lasting} {s : State} {kind : Nat} (hs : a.before s.lasting) :
    a.before (s.cellProtects kind).lasting := by simp [State.cellProtects, hs]
@[simp] theorem State.overVolts_before {a : Lasting} {s : State} (hs : a.before s.lasting) :
    a.before s.overVolts.lasting := by simp [State.overVolts, hs]
@[simp] theorem State.bandChange_before {a : Lasting} {s : State} {mV : Nat} (hs : a.before s.lasting) :
    a.before (s.bandChange mV).lasting := by simp [State.bandChange, hs]
@[simp] theorem State.senAuxDown_before {a : Lasting} {s : State} (hs : a.before s.lasting) :
    a.before s.senAuxDown.lasting := by simp [State.senAuxDown, hs]

/-! ### AngleOps -/

@[simp] theorem State.toBeat_before {a : Lasting} {s : State} (hs : a.before s.lasting) : a.before s.toBeat.lasting := by
  simp [State.toBeat, hs]

/-! ### GatherOps -/

@[simp] theorem State.delayEnds_before {a : Lasting} {s : State} {q : Nat} (hs : a.before s.lasting) :
    a.before (s.delayEnds q).lasting := by
  simp [State.delayEnds]
  split <;> simp [hs]
@[simp] theorem State.holdEntry_before {a : Lasting} {s : State} {k q e t : Nat} (hs : a.before s.lasting) :
    a.before (s.holdEntry k q e t).lasting := by
  simp [State.holdEntry, hs]
  split <;> simp [hs]
@[simp] theorem State.convEnds_before {a : Lasting} {s : State} {k : Nat} {c : Conv} {raw : BitVec 16} {over_ : Bool} (hs :
    a.before s.lasting) :
    a.before (s.convEnds k c raw over_).lasting := by simp [State.convEnds, hs]
@[simp] theorem State.deliver_before {a : Lasting} {s : State} {d : Delivery} (hs : a.before s.lasting) :
    a.before (s.deliver d).lasting := by simp [State.deliver, hs]
@[simp] theorem State.calStep_before {a : Lasting} {s : State} (hs : a.before s.lasting) : a.before s.calStep.lasting := by
  simp [State.calStep, hs]
@[simp] theorem State.spareCalEnds_before {a : Lasting} {s : State} {pass : Bool} (hs : a.before s.lasting) :
    a.before (s.spareCalEnds pass).lasting := by simp [State.spareCalEnds, hs]
@[simp] theorem State.handover_before {a : Lasting} {s : State} (hs : a.before s.lasting) : a.before s.handover.lasting := by
  unfold State.handover
  split <;> simp [hs]
@[simp] theorem State.sliceCalEnds_before {a : Lasting} {s : State} {pass : Bool} (hs : a.before s.lasting) :
    a.before (s.sliceCalEnds pass).lasting := by simp [State.sliceCalEnds, hs]
@[simp] theorem State.calStarves_before {a : Lasting} {s : State} (hs : a.before s.lasting) :
    a.before s.calStarves.lasting := by
  unfold State.calStarves
  split <;> simp [hs]
@[simp] theorem State.blankClose_before {a : Lasting} {s : State} {n : Nat} (hs : a.before s.lasting) :
    a.before (s.blankClose n).lasting := by
  unfold State.blankClose
  split <;> simp [hs]
@[simp] theorem State.windowLive_before {a : Lasting} {s : State} (hs : a.before s.lasting) :
    a.before s.windowLive.lasting := by simp [State.windowLive, hs]
@[simp] theorem State.windowEnds_before {a : Lasting} {s : State} (hs : a.before s.lasting) :
    a.before s.windowEnds.lasting := by simp [State.windowEnds, hs]

/-! ### RecorderOps -/

@[simp] theorem State.recordEnd_before {a : Lasting} {s : State} (hs : a.before s.lasting) :
    a.before s.recordEnd.lasting := by
  unfold State.recordEnd
  split <;> simp [hs]

/-! ### QueueOps -/

@[simp] theorem State.runCmd_before {a : Lasting} {s : State} {n op : Nat}
    {body : State → Nat → List Byte → State × Option (Status × List Byte)}
    (hbody : ∀ t h b, a.before t.lasting → a.before (body t h b).1.lasting) (hs : a.before s.lasting) :
    a.before (s.runCmd n op body).lasting := by
  unfold State.runCmd
  split
  · extract_lets h b ok t served
    have ht : a.before t.lasting := by simpa [t] using hs
    have hb := hbody t h b ht
    generalize body t h b = r at *
    obtain ⟨u, _ | ⟨st, result⟩⟩ := r
    all_goals simp only [Lasting.before_ite, State.lasting_ite, State.complete_lasting]
    all_goals exact ⟨fun _ => ht, fun _ => ⟨fun _ => ht, fun _ => hb⟩⟩
  · exact hs

@[simp] theorem State.msixDue_before {a : Lasting} {s : State} {h : Nat} (hs : a.before s.lasting) :
    a.before (s.msixDue h).lasting := by
  unfold State.msixDue
  dsimp only
  split
  next => exact hs
  next k ks hk =>
    have ht := State.advance_before (t := Map.get (fun _ => 0) k s.ev.msixSent + us 20) hs
    generalize s.advance _ = t at *
    simpa using ht

@[simp] theorem State.windowClose_before {a : Lasting} {s : State} {h code subject : Nat} (hs : a.before s.lasting) :
    a.before (s.windowClose h code subject).lasting := by
  unfold State.windowClose
  split
  next => exact hs
  next w hw =>
    have ht := State.advance_before (t := w.opened + ms 1) hs
    generalize s.advance _ = t at *
    simpa using ht

@[simp] theorem State.logDrain_before {a : Lasting} {s : State} (hs : a.before s.lasting) :
    a.before s.logDrain.lasting := by
  unfold State.logDrain
  split
  · exact hs
  · extract_lets due t u
    have ht : a.before t.lasting := State.advance_before hs
    have hu : u.lasting = t.lasting := by simp only [u, State.mk_lasting, Lasting.mk_eq_lasting]
    split
    · rw [State.senPosted_lasting, hu]; exact ht
    · rw [hu]; exact ht

/-! ### EngineOps -/

@[simp] theorem State.heartbeat_before {a : Lasting} {s : State} {e : Nat} {seq : Word} (hs : a.before s.lasting) :
    a.before (s.heartbeat e seq).lasting := by
  simp [State.heartbeat, hs]
  (repeat' split) <;> simp [hs]
@[simp] theorem State.heartbeatMissing_before {a : Lasting} {s : State} {e : Nat} (hs : a.before s.lasting) :
    a.before (s.heartbeatMissing e).lasting := by
  simp only [State.heartbeatMissing]
  (repeat' split) <;> simp [hs]

@[simp] theorem State.leaseExpiry_before {a : Lasting} {s : State} (hs : a.before s.lasting) :
    a.before s.leaseExpiry.lasting := by
  have ht := State.advance_before (t := s.gaf.lease) hs
  unfold State.leaseExpiry
  split
  next => exact hs
  next e he =>
    generalize s.advance _ = t at *
    split
    · exact hs
    · dsimp only
      split <;> simpa using ht

@[simp] theorem State.guardEnd_before {a : Lasting} {s : State} (hs : a.before s.lasting) : a.before s.guardEnd.lasting := by
  unfold State.guardEnd
  split <;> simp [hs]
@[simp] theorem State.testRaise_before {a : Lasting} {s : State} (hs : a.before s.lasting) :
    a.before s.testRaise.lasting := by
  unfold State.testRaise
  split <;> simp [hs]
@[simp] theorem State.rejoinTimeout_before {a : Lasting} {s : State} {e : Nat} (hs : a.before s.lasting) :
    a.before (s.rejoinTimeout e).lasting := by simp [State.rejoinTimeout, hs]
@[simp] theorem State.autojoin_before {a : Lasting} {s : State} {e : Nat} (hs : a.before s.lasting) :
    a.before (s.autojoin e).lasting := by
  simp [State.autojoin]
  split <;> simp [hs]
@[simp] theorem State.computeDeadline_before {a : Lasting} {s : State} {lateA lateB : Bool} (hs : a.before s.lasting) :
    a.before (s.computeDeadline lateA lateB).lasting := by simp [State.computeDeadline, hs]

/-! ### NetOps -/

@[simp] theorem State.prpPath_before {a : Lasting} {s : State} {lan : Nat} {lost : Bool} (hs : a.before s.lasting) :
    a.before (s.prpPath lan lost).lasting := by simp [State.prpPath, hs]
@[simp] theorem State.prpFrame_before {a : Lasting} {s : State} {p source seq : Nat} {trailer : Bool} (hs : a.before
    s.lasting) :
    a.before (s.prpFrame p source seq trailer).lasting := by simp [State.prpFrame, hs]
@[simp] theorem State.every_before {a : Lasting} {s : State} {last : Option Nat} {d : Nat} (hs : a.before s.lasting) :
    a.before (s.every last d).lasting := by
  unfold State.every
  split <;> simp [hs]
@[simp] theorem State.prpSupervision_before {a : Lasting} {s : State} (hs : a.before s.lasting) :
    a.before s.prpSupervision.lasting := by simp [State.prpSupervision, hs]
@[simp] theorem State.announceTimeout_before {a : Lasting} {s : State} {p : Nat} (hs : a.before s.lasting) :
    a.before (s.announceTimeout p).lasting := by
  unfold State.announceTimeout
  split <;> simp [hs]
@[simp] theorem State.ptpHoldover_before {a : Lasting} {s : State} (hs : a.before s.lasting) :
    a.before s.ptpHoldover.lasting := by
  unfold State.ptpHoldover
  split <;> simp [hs]
@[simp] theorem State.pdelayAsk_before {a : Lasting} {s : State} {p : Nat} (hs : a.before s.lasting) :
    a.before (s.pdelayAsk p).lasting := by simp [State.pdelayAsk, hs]
@[simp] theorem State.goose_before {a : Lasting} {s : State} {f : GooseFrame} (hs : a.before s.lasting) :
    a.before (s.goose f).lasting := by
  unfold State.goose
  (repeat' split) <;> simp [hs]
@[simp] theorem State.subTimeout_before {a : Lasting} {s : State} {n : Nat} (hs : a.before s.lasting) :
    a.before (s.subTimeout n).lasting := by
  unfold State.subTimeout
  split <;> simp [hs]
@[simp] theorem State.pubSend_lasting (s : State) (n : Nat) : (s.pubSend n).lasting = s.lasting := by simp [State.pubSend]
@[simp] theorem State.pubBeat_lasting (s : State) (n : Nat) : (s.pubBeat n).lasting = s.lasting := by simp [State.pubBeat]
@[simp] theorem State.pubsBeat_lasting (s : State) : s.pubsBeat.lasting = s.lasting := by simp [State.pubsBeat]
@[simp] theorem State.pubAgain_before {a : Lasting} {s : State} {n : Nat} (hs : a.before s.lasting) :
    a.before (s.pubAgain n).lasting := by simp [State.pubAgain, hs]

/-! ### ResetOps -/

@[simp] theorem State.intoReset_before {a : Lasting} {s : State} {bit : Nat} (hs : a.before s.lasting) :
    a.before (s.intoReset bit).lasting := by simp [State.intoReset, hs]
@[simp] theorem State.goDark_before {a : Lasting} {s : State} (hs : a.before s.lasting) : a.before s.goDark.lasting := by
  simp [State.goDark, hs]
@[simp] theorem State.readyLate_before {a : Lasting} {s : State} {b : Nat} (hs : a.before s.lasting) :
    a.before (s.readyLate b).lasting := by
  unfold State.readyLate
  split <;> simp [hs]
@[simp] theorem State.scanEnds_before {a : Lasting} {s : State} (hs : a.before s.lasting) : a.before s.scanEnds.lasting := by
  simp [State.scanEnds, hs]
@[simp] theorem State.tapPassive_before {a : Lasting} {s : State} {code : Nat} {byp : Bool} (hs : a.before s.lasting) :
    a.before (s.tapPassive code byp).lasting := by simp [State.tapPassive, hs]
@[simp] theorem State.scanFollow_before {a : Lasting} {s : State} (hs : a.before s.lasting) :
    a.before s.scanFollow.lasting := by simp [State.scanFollow, hs]
@[simp] theorem State.tapDrives_before {a : Lasting} {s : State} {code : Nat} (hs : a.before s.lasting) :
    a.before (s.tapDrives code).lasting := by simp [State.tapDrives, hs]
@[simp] theorem State.tapReset_before {a : Lasting} {s : State} (hs : a.before s.lasting) : a.before s.tapReset.lasting := by
  simp [State.tapReset, hs]
@[simp] theorem State.resetPin_before {a : Lasting} {s : State} {low : Bool} (hs : a.before s.lasting) :
    a.before (s.resetPin low).lasting := by simp [State.resetPin, hs]

/-! ### RailOps -/

@[simp] theorem State.powerUp_before {a : Lasting} {s : State} (hs : a.before s.lasting) : a.before s.powerUp.lasting := by
  simp [State.powerUp, hs]
@[simp] theorem State.auxRise_before {a : Lasting} {s : State} {rc3 : Bool} (hs : a.before s.lasting) :
    a.before (s.auxRise rc3).lasting := by simp [State.auxRise, hs]
@[simp] theorem State.auxFall_before {a : Lasting} {s : State} (hs : a.before s.lasting) : a.before s.auxFall.lasting := by
  simp [State.auxFall, hs]
@[simp] theorem State.latchOff_before {a : Lasting} {s : State} {c cause : Nat} (hs : a.before s.lasting) :
    a.before (s.latchOff c cause).lasting := by simp [State.latchOff, hs]
@[simp] theorem State.railLatch_before {a : Lasting} {s : State} {c cause : Nat} (hs : a.before s.lasting) :
    a.before (s.railLatch c cause).lasting := by
  unfold State.railLatch
  (repeat' split) <;> simp [hs]
@[simp] theorem State.railRestart_before {a : Lasting} {s : State} (hs : a.before s.lasting) :
    a.before s.railRestart.lasting := by simp [State.railRestart, hs]
@[simp] theorem State.softEnd_before {a : Lasting} {s : State} {c : Nat} {preb : Bool} (hs : a.before s.lasting) :
    a.before (s.softEnd c preb).lasting := by simp [State.softEnd, hs]
@[simp] theorem State.corePgLoss_before {a : Lasting} {s : State} {c : Nat} (hs : a.before s.lasting) :
    a.before (s.corePgLoss c).lasting := by simp [State.corePgLoss, hs]
@[simp] theorem State.limitActs_before {a : Lasting} {s : State} {c : Nat} (hs : a.before s.lasting) :
    a.before (s.limitActs c).lasting := by simp [State.limitActs, hs]

/-! ### ClkOps -/

@[simp] theorem State.holdoverEnds_before {a : Lasting} {s : State} (hs : a.before s.lasting) :
    a.before s.holdoverEnds.lasting := by
  unfold State.holdoverEnds
  split <;> simp [hs]
@[simp] theorem State.refRevert_before {a : Lasting} {s : State} (hs : a.before s.lasting) :
    a.before s.refRevert.lasting := by simp [State.refRevert, hs]
@[simp] theorem State.retryEnds_before {a : Lasting} {s : State} {locked : Bool} (hs : a.before s.lasting) :
    a.before (s.retryEnds locked).lasting := by simp [State.retryEnds, hs]
@[simp] theorem State.loopLocks_before {a : Lasting} {s : State} {l count : Nat} (hs : a.before s.lasting) :
    a.before (s.loopLocks l count).lasting := by simp [State.loopLocks, hs]
@[simp] theorem State.fabricLost_before {a : Lasting} {s : State} {l : Nat} (hs : a.before s.lasting) :
    a.before (s.fabricLost l).lasting := by simp [State.fabricLost, hs]
@[simp] theorem State.loopLost_before {a : Lasting} {s : State} {l count : Nat} {fast : Bool} (hs : a.before s.lasting) :
    a.before (s.loopLost l count fast).lasting := by simp [State.loopLost, hs]

/-! ### MemoryOps -/

@[simp] theorem State.itemLost_before {a : Lasting} {s : State} {item : Nat} (hs : a.before s.lasting) :
    a.before (s.itemLost item).lasting := by
  unfold State.itemLost
  dsimp only
  split
  · exact State.refuse_before hs
  · split <;> simp [hs]

@[simp] theorem State.uncorrectable_before {a : Lasting} {s : State} {loc item : Nat} {addr : Word} (hs : a.before s.lasting)
    :
    a.before (s.uncorrectable loc item addr).lasting := by simp [State.uncorrectable, hs]

/-! ### ModeOps -/

@[simp] theorem State.settle_before {a : Lasting} {s : State} (hs : a.before s.lasting) : a.before s.settle.lasting := by
  simp [State.settle, hs]

@[simp] theorem State.modeRequest_lasting (s : State) (h : Nat) (vn : Word) : (s.modeRequest h vn).1.lasting = s.lasting := by
  refine State.rwcComplementAcc_lasting fun v t => ?_
  dsimp only
  (repeat' split) <;> simp

/-! ### BeatOps -/

@[simp] theorem State.beatUnits_lasting (s : State) : s.beatUnits.lasting = s.lasting := by simp [State.beatUnits]
@[simp] theorem State.beatStart_before {a : Lasting} {s : State} (hs : a.before s.lasting) :
    a.before s.beatStart.lasting := by simp [State.beatStart, hs]
@[simp] theorem State.reportCutoff_before {a : Lasting} {s : State} (hs : a.before s.lasting) :
    a.before s.reportCutoff.lasting := by simp [State.reportCutoff, hs]

/-! ### TableOps -/

@[simp] theorem State.tableWrite_before {a : Lasting} {s : State} {h o : Nat} {v : Word} (hs : a.before s.lasting) :
    a.before (s.tableWrite h o v).1.lasting := by simp [State.tableWrite, hs]

/-! ### Views -/

@[simp] theorem State.hostRead_before {a : Lasting} {s : State} {h o : Nat} (hs : a.before s.lasting) :
    a.before (s.hostRead h o).1.lasting := by
  simp [State.hostRead, hs]
  split <;> simp [hs]

/-! ### HostAccess -/

@[simp] theorem State.rwcWrite_lasting {s : State} {h o : Nat} {vn : Word} {r : Row} (ho : o ≠ A.DBG_SWRST) :
    (s.rwcWrite h o vn r).1.lasting = s.lasting := by
  simp only [State.rwcWrite, ho, if_false]
  simp
theorem State.rwcComplement_before {a : Lasting} {s : State} {h o : Nat} {vn : Word}
    {checks : Word → State → List (Bool × Status)} {act : Word → State → State}
    (hact : ∀ v t, a.before t.lasting → a.before (act v t).lasting) (hs : a.before s.lasting) :
    a.before (s.rwcComplement h o vn checks act).1.lasting := by
  unfold State.rwcComplement
  split
  · exact hs
  · dsimp only
    split
    · simpa using hs
    · unfold State.judged
      dsimp only
      split
      · exact hact _ _ (by simpa using hs)
      · simpa using hs
@[simp] theorem State.rwcWrite_before {a : Lasting} {s : State} {h o : Nat} {vn : Word} {r : Row}
    (hs : a.before s.lasting) : a.before (s.rwcWrite h o vn r).1.lasting := by
  by_cases ho : o = A.DBG_SWRST
  · subst ho
    unfold State.rwcWrite
    rw [if_neg (by decide), if_neg (by decide), if_pos rfl]
    exact State.rwcComplement_before (fun v t ht => State.intoReset_before ht) hs
  · rwa [State.rwcWrite_lasting ho]

@[simp] theorem State.regWrite_before {a : Lasting} {s : State} {h o : Nat} {v : Word} (hs : a.before s.lasting) :
    a.before (s.regWrite h o v).1.lasting := by
  unfold State.regWrite
  (repeat' split) <;> simp [hs]
@[simp] theorem State.hostWrite_before {a : Lasting} {s : State} {h o : Nat} {v : Word} (hs : a.before s.lasting) :
    a.before (s.hostWrite h o v).1.lasting := by
  simp only [State.hostWrite]
  (repeat' split) <;> simp_all
@[simp] theorem State.hostPut_before {a : Lasting} {s : State} {h o : Nat} {v : Word} (hs : a.before s.lasting) :
    a.before (s.hostPut h o v).lasting := by simp [State.hostPut, hs]
@[simp] theorem State.hostGet_before {a : Lasting} {s : State} {h o : Nat} (hs : a.before s.lasting) :
    a.before (s.hostGet h o).1.lasting := by simp [State.hostGet, hs]
@[simp] theorem State.transfer_before {a : Lasting} {s : State} {h : Nat} {way : BitVec 8} {o : Nat} {v : Word} (hs : a.before
    s.lasting) :
    a.before (s.transfer h way o v).lasting := by simp [State.transfer, hs]
@[simp] theorem State.hostComplete_before {a : Lasting} {s : State} {h o : Nat} {v : Word} (hs : a.before s.lasting) :
    a.before (s.hostComplete h o v).lasting := by simp [State.hostComplete, hs]

/-! ### BptCmds -/

@[simp] theorem State.subEnds_before {a : Lasting} {s : State} {c : Nat} (hs : a.before s.lasting) :
    a.before (s.subEnds c).lasting := by
  unfold State.subEnds
  split <;> simp [hs]
@[simp] theorem State.bypassEnds_before {a : Lasting} {s : State} {c : Nat} (hs : a.before s.lasting) :
    a.before (s.bypassEnds c).lasting := by
  unfold State.bypassEnds
  split <;> simp [hs]

/-! ### GridCmds -/

@[simp] theorem State.closeTimeout_before {a : Lasting} {s : State} (hs : a.before s.lasting) :
    a.before s.closeTimeout.lasting := by simp [State.closeTimeout, hs]
@[simp] theorem State.neutralEnds_before {a : Lasting} {s : State} (hs : a.before s.lasting) :
    a.before s.neutralEnds.lasting := by
  unfold State.neutralEnds
  split <;> simp [hs]

/-! ### HostCmds -/

@[simp] theorem State.keyExpires_before {a : Lasting} {s : State} {h page : Nat} (hs : a.before s.lasting) :
    a.before (s.keyExpires h page).lasting := by
  unfold State.keyExpires
  split <;> simp [hs]

/-! ### MeasureCmds -/

@[simp] theorem State.holdNext_before {a : Lasting} {s : State} {q : Nat} (hs : a.before s.lasting) :
    a.before (s.holdNext q).lasting := by
  unfold State.holdNext
  split <;> simp [hs]
@[simp] theorem State.convDone_before {a : Lasting} {s : State} {k : Nat} {raw : BitVec 16} {over_ : Bool} (hs : a.before
    s.lasting) :
    a.before (s.convDone k raw over_).lasting := by
  unfold State.convDone
  split <;> simp [hs]
@[simp] theorem State.deliverNext_before {a : Lasting} {s : State} (hs : a.before s.lasting) :
    a.before s.deliverNext.lasting := by
  unfold State.deliverNext
  split <;> simp [hs]

/-! ### MemoryCmds -/

@[simp] theorem State.applyFrom_before {a : Lasting} {h i : Nat} {l : List (Nat × Word)} {s : State} (hs : a.before s.lasting) :
    a.before (s.applyFrom h i l).1.lasting := by
  induction l generalizing s i with
  | nil => exact hs
  | cons p l ih =>
    simp only [State.applyFrom]
    split
    · exact ih (State.hostWrite_before hs)
    · exact State.hostWrite_before hs

@[simp] theorem State.applyImage_before {a : Lasting} {s : State} {h slot : Nat} (hs : a.before s.lasting) :
    a.before (s.applyImage h slot).1.lasting := by simp [State.applyImage, hs]
@[simp] theorem State.ciResult_before {a : Lasting} {s : State} {verified signed : Bool} (hs : a.before s.lasting) :
    a.before (s.ciResult verified signed).1.lasting := by
  unfold State.ciResult
  split <;> simp [hs]
@[simp] theorem State.ciEnds_before {a : Lasting} {s : State} {verified signed : Bool} (hs : a.before s.lasting) :
    a.before (s.ciEnds verified signed).lasting := by simp [State.ciEnds, hs]

@[simp] theorem State.bootApply_before {a : Lasting} {s : State} (hs : a.before s.lasting) : a.before s.bootApply.lasting := by
  have hi : a.before ((s.modHosts fun h => { h with claims := allClaims }).applyImage 0
      (fld (s.reg A.MEM_CI_BOOT) 0 4)).1.lasting := State.applyImage_before (by simpa using hs)
  unfold State.bootApply
  dsimp only
  split
  · exact hs
  · split
    · exact hi
    · exact hs

/-! ### ModulatorCmds -/

@[simp] theorem State.mevFires_before {a : Lasting} {s : State} {n : Nat} (hs : a.before s.lasting) :
    a.before (s.mevFires n).lasting := by
  unfold State.mevFires
  split
  · extract_lets t
    have ht : a.before t.lasting := State.advance_before hs
    simpa only [State.trigAll_lasting, State.mk_lasting, Lasting.mk_eq_lasting] using ht
  · exact hs

/-! ### QueueCmds -/

@[simp] theorem State.readWords_before {a : Lasting} {h o n : Nat} {s : State} (hs : a.before s.lasting) :
    a.before (s.readWords h o n).1.lasting := by
  induction n generalizing s o with
  | zero => exact hs
  | succ n ih => exact ih (State.hostRead_before hs)

@[simp] theorem State.cmdRead_before {a : Lasting} {s : State} {h : Nat} {b : List Byte} (hs : a.before s.lasting) :
    a.before (s.cmdRead h b).1.lasting := by simp [State.cmdRead, hs]
@[simp] theorem State.cmdWrite_before {a : Lasting} {s : State} {h : Nat} {b : List Byte} (hs : a.before s.lasting) :
    a.before (s.cmdWrite h b).1.lasting := by simp [State.cmdWrite, hs]
@[simp] theorem State.cmdWritePair_before {a : Lasting} {s : State} {h : Nat} {b : List Byte} (hs : a.before s.lasting) :
    a.before (s.cmdWritePair h b).1.lasting := by simp [State.cmdWritePair, hs]

/-! ### SafetyCmds -/

@[simp] theorem State.discReached_before {a : Lasting} {s : State} {p : Nat} (hs : a.before s.lasting) :
    a.before (s.discReached p).lasting := by simp [State.discReached, hs]
@[simp] theorem State.mirrorFault_before {a : Lasting} {s : State} {g : Nat} (hs : a.before s.lasting) :
    a.before (s.mirrorFault g).lasting := by simp [State.mirrorFault, hs]
@[simp] theorem State.darkPulse_before {a : Lasting} {s : State} {n : Nat} (hs : a.before s.lasting) :
    a.before (s.darkPulse n).lasting := by simp [State.darkPulse, hs]
@[simp] theorem State.darkEnds_before {a : Lasting} {s : State} {n : Nat} {readOff readOn : Bool} (hs : a.before s.lasting) :
    a.before (s.darkEnds n readOff readOn).lasting := by simp [State.darkEnds, hs]

@[simp] theorem State.testPulse_before {a : Lasting} {s : State} {line : Nat} (hs : a.before s.lasting) :
    a.before (s.testPulse line).lasting := by
  unfold State.testPulse
  extract_lets t
  have ht : a.before t.lasting := State.advance_before hs
  simpa only [State.mk_lasting, Lasting.mk_eq_lasting] using ht

@[simp] theorem State.crossCheck_before {a : Lasting} {s : State} {line : Nat} {si : BitVec 16} (hs : a.before s.lasting) :
    a.before (s.crossCheck line si).lasting := by simp [State.crossCheck, hs]
@[simp] theorem State.copyEnds_before {a : Lasting} {s : State} {net src : Nat} (hs : a.before s.lasting) :
    a.before (s.copyEnds net src).lasting := by
  unfold State.copyEnds
  split <;> simp [hs]

@[simp] theorem State.fallsSilent_before {a : Lasting} {s : State} {net : Nat} (hs : a.before s.lasting) :
    a.before (s.fallsSilent net).lasting := by
  unfold State.fallsSilent
  extract_lets t
  have ht : a.before t.lasting := State.advance_before hs
  simpa only [State.mk_lasting, Lasting.mk_eq_lasting] using ht

@[simp] theorem State.permitEnds_before {a : Lasting} {s : State} {i : Nat} (hs : a.before s.lasting) :
    a.before (s.permitEnds i).lasting := by
  unfold State.permitEnds
  split <;> simp [hs]

/-! ## Commands -/

/-- A command is answered by a next state, before which nothing that lasts has gone. -/
def Answers (s : State) (a : Answer) : Prop := ∃ t, a = .next t ∧ s.lasting.before t.lasting
theorem answer_answers {s : State} {c : Bool} {f : State → State} (hf : s.lasting.before (f s).lasting) :
    Answers s (answer s c f) := by
  refine ⟨_, rfl, ?_⟩
  simp [hf]
theorem running_answers {s : State} {c : Bool} {f : State → State} (hf : s.lasting.before (f s).lasting) :
    Answers s (running s c f) := answer_answers hf
theorem byHost_answers {s : State} {h : Nat} {f : State → State} (hf : s.lasting.before (f s).lasting) :
    Answers s (byHost s h f) := answer_answers hf
theorem onChannel_answers {s : State} {ch : Nat} {f : State → State} (hf : s.lasting.before (f s).lasting) :
    Answers s (onChannel s ch f) := answer_answers hf
theorem onClocks_answers {s : State} {f : State → State} (hf : s.lasting.before (f s).lasting) :
    Answers s (onClocks s f) := answer_answers hf
theorem inDomain_answers {s : State} {f : State → State} (hf : s.lasting.before (f s).lasting) :
    Answers s (inDomain s f) := answer_answers hf
theorem channels_answers {s : State} {c : Bool} {f : State → State} (hf : s.lasting.before (f s).lasting) :
    Answers s (channels s c f) := running_answers (by simpa using hf)
theorem hostWord_answers (s : State) (h o : Nat) (v : Word) : Answers s (hostWord s h o v) :=
  byHost_answers (State.hostPut_before (Lasting.before_refl _))
theorem hostPair_answers (s : State) (h o : Nat) (v : Word) : Answers s (hostPair s h o v) :=
  byHost_answers (State.hostComplete_before (Lasting.before_refl _))
theorem header_answers (s : State) (h page off : Nat) (v : Word) : Answers s (header s h page off v) :=
  running_answers (State.hostPut_before (Lasting.before_refl _))
theorem slotPut_answers (s : State) (h slot byte : Nat) (v : Word) : Answers s (slotPut s h slot byte v) :=
  running_answers (State.hostPut_before (Lasting.before_refl _))
theorem engCmd_answers (s : State) (h eng : Nat) (v : Word) : Answers s (engCmd s h eng v) :=
  running_answers (State.hostComplete_before (Lasting.before_refl _))
theorem editCmd_answers (s : State) (h cmd profile : Nat) : Answers s (editCmd s h cmd profile) :=
  running_answers (State.hostComplete_before (Lasting.before_refl _))
theorem ciStart_answers (s : State) (h cmd slot : Nat) : Answers s (ciStart s h cmd slot) :=
  running_answers (State.hostComplete_before (Lasting.before_refl _))
theorem execRegisterWrite_answers (h : Nat) (way : BitVec 8) (off : Nat) (v : Word) (s : State) : Answers s (execRegisterWrite
    h way off v s) :=
  byHost_answers (by simp)
theorem execRwcValueWrite_answers (h off : Nat) (v : Word) (s : State) : Answers s (execRwcValueWrite h off v s) :=
  hostWord_answers ..
theorem execErrcodeWrite_answers (h page : Nat) (v : Word) (s : State) : Answers s (execErrcodeWrite h page v s) :=
  header_answers ..
theorem execIrqStatClear_answers (h page : Nat) (v : Word) (s : State) : Answers s (execIrqStatClear h page v s) :=
  header_answers ..
theorem execClaim_answers (h page : Nat) (arg : BitVec 24) (s : State) : Answers s (execClaim h page arg s) :=
  header_answers ..
theorem execRelease_answers (h page : Nat) (arg : BitVec 24) (s : State) : Answers s (execRelease h page arg s) :=
  header_answers ..
theorem execBreakClaim_answers (h page : Nat) (arg : BitVec 24) (s : State) : Answers s (execBreakClaim h page arg s) :=
  header_answers ..
theorem execKey_answers (h page : Nat) (arg : BitVec 24) (s : State) : Answers s (execKey h page arg s) := header_answers ..
theorem execKeyExpiry_answers (h page : Nat) (s : State) : Answers s (execKeyExpiry h page s) := running_answers (by simp)
theorem execModeRequestWatch_answers (h : Nat) (s : State) : Answers s (execModeRequestWatch h s) := hostPair_answers ..
theorem execModeRequestEnergize_answers (h : Nat) (s : State) : Answers s (execModeRequestEnergize h s) := hostPair_answers ..
theorem execModeRequestFollow_answers (h : Nat) (s : State) : Answers s (execModeRequestFollow h s) := hostPair_answers ..
theorem execModeRequestForm_answers (h : Nat) (s : State) : Answers s (execModeRequestForm h s) := hostPair_answers ..
theorem execModeRequestService_answers (h : Nat) (s : State) : Answers s (execModeRequestService h s) := hostPair_answers ..
theorem execHoldRequest_answers (h : Nat) (v : Word) (s : State) : Answers s (execHoldRequest h v s) := hostWord_answers ..
theorem execHoldLatchClear_answers (h : Nat) (v : Word) (s : State) : Answers s (execHoldLatchClear h v s) :=
  hostWord_answers ..
theorem execBeatStart_answers (s : State) : Answers s (execBeatStart s) := running_answers (by simp)
theorem execScheduleEntryFire_answers (entry : Nat) (s : State) : Answers s (execScheduleEntryFire entry s) :=
  running_answers (by simp)
theorem execBlankWindowEnd_answers (cmp : Nat) (s : State) : Answers s (execBlankWindowEnd cmp s) := running_answers (by simp)
theorem execScheduleEntryWrite_answers (h entry word : Nat) (v : Word) (s : State) : Answers s (execScheduleEntryWrite h entry
    word v s) :=
  running_answers (by simp)
theorem execCellReport_answers (port : Nat) (bytes : List Byte) (errs : Nat) (s : State) : Answers s (execCellReport port
    bytes errs s) :=
  running_answers (by simp)
theorem execCellCharged_answers (cell : Nat) (s : State) : Answers s (execCellCharged cell s) := running_answers (by simp)
theorem execCellAbsent_answers (cell : Nat) (s : State) : Answers s (execCellAbsent cell s) := running_answers (by simp)
theorem execReportCutoff_answers (s : State) : Answers s (execReportCutoff s) := running_answers (by simp)
theorem execJoinStepRepeat_answers (cell : Nat) (s : State) : Answers s (execJoinStepRepeat cell s) :=
  running_answers (by simp)
theorem execPipelineStart_answers (s : State) : Answers s (execPipelineStart s) := running_answers (by simp)
theorem execStandbyCopyHandover_answers (s : State) : Answers s (execStandbyCopyHandover s) := running_answers (by simp)
theorem execComputeDeadline_answers (lateA lateB : Bool) (s : State) : Answers s (execComputeDeadline lateA lateB s) :=
  running_answers (by simp)
theorem execDevtimeSet_answers (h : Nat) (v : Word) (s : State) : Answers s (execDevtimeSet h v s) := hostWord_answers ..
theorem execPtpSyncReceive_answers (port domain : Nat) (offset : Int) (s : State) : Answers s (execPtpSyncReceive port domain
    offset s) :=
  running_answers (by simp)
theorem execPtpHoldover_answers (s : State) : Answers s (execPtpHoldover s) := running_answers (by simp)
theorem execLockDeclared_answers (s : State) : Answers s (execLockDeclared s) := running_answers (by simp)
theorem execLockLost_answers (s : State) : Answers s (execLockLost s) := running_answers (by simp)
theorem execFlywheelEntry_answers (s : State) : Answers s (execFlywheelEntry s) := running_answers (by simp)
theorem execFlywheelEnd_answers (s : State) : Answers s (execFlywheelEnd s) := running_answers (by simp)
theorem execSlewEnd_answers (s : State) : Answers s (execSlewEnd s) := running_answers (by simp)
theorem execAngDivWrite_answers (h : Nat) (v : Word) (s : State) : Answers s (execAngDivWrite h v s) := hostWord_answers ..
theorem execDivTakeEffect_answers (s : State) : Answers s (execDivTakeEffect s) := running_answers (by simp)
theorem execAngCfgWrite_answers (h : Nat) (v : Word) (s : State) : Answers s (execAngCfgWrite h v s) := hostWord_answers ..
theorem execAdcSwtrig_answers (h : Nat) (v : Word) (s : State) : Answers s (execAdcSwtrig h v s) := hostWord_answers ..
theorem execSequenceDelayExpiry_answers (seq : Nat) (s : State) : Answers s (execSequenceDelayExpiry seq s) :=
  running_answers (by simp)
theorem execEntryHold_answers (seq : Nat) (s : State) : Answers s (execEntryHold seq s) := running_answers (by simp)
theorem execConversionEnd_answers (bank slot : Nat) (raw : BitVec 16) (overload : Bool) (s : State) : Answers s
    (execConversionEnd bank slot raw overload s) :=
  running_answers (by simp)
theorem execResultDelivery_answers (s : State) : Answers s (execResultDelivery s) := running_answers (by simp)
theorem execCalibrationStep_answers (s : State) : Answers s (execCalibrationStep s) := running_answers (by simp)
theorem execSpareCalibrationEnd_answers (offset gain : Int) (converged : Bool) (s : State) : Answers s
    (execSpareCalibrationEnd offset gain converged s) :=
  running_answers (by simp)
theorem execSlotHandover_answers (s : State) : Answers s (execSlotHandover s) := running_answers (by simp)
theorem execCalStarved_answers (s : State) : Answers s (execCalStarved s) := running_answers (by simp)
theorem execSliceCalibrationEnd_answers (offset gain : Int) (converged : Bool) (s : State) : Answers s
    (execSliceCalibrationEnd offset gain converged s) :=
  running_answers (by simp)
theorem execCalsetLoad_answers (h : Nat) (s : State) : Answers s (execCalsetLoad h s) := hostPair_answers ..
theorem execCalsetDataWrite_answers (h : Nat) (v : Word) (s : State) : Answers s (execCalsetDataWrite h v s) :=
  hostWord_answers ..
theorem execCalsetWrite_answers (h : Nat) (s : State) : Answers s (execCalsetWrite h s) := hostPair_answers ..
theorem execCalsetWritten_answers (s : State) : Answers s (execCalsetWritten s) := running_answers (by simp)
theorem execComparatorAssert_answers (cmp : Nat) (uv : Int) (s : State) : Answers s (execComparatorAssert cmp uv s) :=
  running_answers (by simp)
theorem execComparatorRelease_answers (cmp : Nat) (uv : Int) (s : State) : Answers s (execComparatorRelease cmp uv s) :=
  running_answers (by simp)
theorem execSampledWindow_answers (live : Bool) (s : State) : Answers s (execSampledWindow live s) :=
  running_answers (by simp)
theorem execComparatorSubstitute_answers (h circuit : Nat) (v : Word) (s : State) : Answers s (execComparatorSubstitute h
    circuit v s) :=
  running_answers (by simp)
theorem execProbeReturn_answers (ring : Nat) (counterClockwise : Bool) (delay : Nat) (s : State) : Answers s (execProbeReturn
    ring counterClockwise delay s) :=
  running_answers (by simp)
theorem execPortDown_answers (port cause : Nat) (s : State) : Answers s (execPortDown port cause s) :=
  running_answers (by simp)
theorem execPortSubstitute_answers (h : Nat) (v : Word) (s : State) : Answers s (execPortSubstitute h v s) :=
  hostPair_answers ..
theorem execLnkCtrlWrite_answers (h ring : Nat) (v : Word) (s : State) : Answers s (execLnkCtrlWrite h ring v s) :=
  running_answers (by simp)
theorem execCellTableWrite_answers (h cell byte : Nat) (v : Word) (s : State) : Answers s (execCellTableWrite h cell byte v s)
    :=
  running_answers (by simp)
theorem execTripAssert_answers (line : Nat) (s : State) : Answers s (execTripAssert line s) := running_answers (by simp)
theorem execTripClear_answers (line : Nat) (s : State) : Answers s (execTripClear line s) := running_answers (by simp)
theorem execTripSw_answers (h : Nat) (v : Word) (s : State) : Answers s (execTripSw h v s) := hostPair_answers ..
theorem execLhbPeriodBoundary_answers (out : Nat) (s : State) : Answers s (execLhbPeriodBoundary out s) :=
  running_answers (by simp)
theorem execLhbCommit_answers (h : Nat) (v : Word) (s : State) : Answers s (execLhbCommit h v s) := hostWord_answers ..
theorem execModulatorEvent_answers (ev : Nat) (s : State) : Answers s (execModulatorEvent ev s) := running_answers (by simp)
theorem execStreamStopped_answers (s : State) : Answers s (execStreamStopped s) := running_answers (by simp)
theorem execFabricClockStop_answers (s : State) : Answers s (execFabricClockStop s) := running_answers (by simp)
theorem execCounterClear_answers (h : Nat) (v : Word) (s : State) : Answers s (execCounterClear h v s) := hostWord_answers ..
theorem execForceLhb_answers (h : Nat) (v : Word) (s : State) : Answers s (execForceLhb h v s) := hostPair_answers ..
theorem execForceCell_answers (h : Nat) (v : Word) (s : State) : Answers s (execForceCell h v s) := hostPair_answers ..
theorem execSlotStagingWrite_answers (h slot byte : Nat) (v : Word) (s : State) : Answers s (execSlotStagingWrite h slot byte
    v s) :=
  slotPut_answers ..
theorem execSlotCommit_answers (h slot : Nat) (v : Word) (s : State) : Answers s (execSlotCommit h slot v s) :=
  slotPut_answers ..
theorem execSetpointWrite_answers (h slot : Nat) (v : Word) (s : State) : Answers s (execSetpointWrite h slot v s) :=
  running_answers (by simp)
theorem execLoopRelease_answers (h : Nat) (v : Word) (s : State) : Answers s (execLoopRelease h v s) := hostWord_answers ..
theorem execSnapshotCapture_answers (h : Nat) (s : State) : Answers s (execSnapshotCapture h s) := hostWord_answers ..
theorem execSnapshotRelease_answers (h : Nat) (s : State) : Answers s (execSnapshotRelease h s) := hostWord_answers ..
theorem execCloseStart_answers (h : Nat) (s : State) : Answers s (execCloseStart h s) := hostPair_answers ..
theorem execCloseAbort_answers (h : Nat) (s : State) : Answers s (execCloseAbort h s) := hostPair_answers ..
theorem execCloseStepAdvance_answers (s : State) : Answers s (execCloseStepAdvance s) := running_answers (by simp)
theorem execCloseWaitTimeout_answers (s : State) : Answers s (execCloseWaitTimeout s) := running_answers (by simp)
theorem execGrdOpen_answers (h : Nat) (v : Word) (s : State) : Answers s (execGrdOpen h v s) := hostWord_answers ..
theorem execStopZeroCurrent_answers (s : State) : Answers s (execStopZeroCurrent s) := running_answers (by simp)
theorem execTransferToFormComplete_answers (s : State) : Answers s (execTransferToFormComplete s) := running_answers (by simp)
theorem execTransferToFollowComplete_answers (s : State) : Answers s (execTransferToFollowComplete s) :=
  running_answers (by simp)
theorem execNeutralCurrent_answers (s : State) : Answers s (execNeutralCurrent s) := running_answers (by simp)
theorem execNeutralClear_answers (s : State) : Answers s (execNeutralClear s) := running_answers (by simp)
theorem execTrackerPeriodEnd_answers (cell : Nat) (s : State) : Answers s (execTrackerPeriodEnd cell s) :=
  running_answers (by simp)
theorem execSweepStart_answers (cell : Nat) (s : State) : Answers s (execSweepStart cell s) := running_answers (by simp)
theorem execSweepPointEnd_answers (cell : Nat) (s : State) : Answers s (execSweepPointEnd cell s) := running_answers (by simp)
theorem execGlobalSweepDue_answers (s : State) : Answers s (execGlobalSweepDue s) := running_answers (by simp)
theorem execGlobalSweepRequest_answers (h : Nat) (v : Word) (s : State) : Answers s (execGlobalSweepRequest h v s) :=
  hostWord_answers ..
theorem execHistoryWrite_answers (s : State) : Answers s (execHistoryWrite s) := running_answers (by simp)
theorem execStoreDispatchWrite_answers (h : Nat) (v : Word) (s : State) : Answers s (execStoreDispatchWrite h v s) :=
  hostPair_answers ..
theorem execSubFail_answers (cell : Nat) (s : State) : Answers s (execSubFail cell s) := running_answers (by simp)
theorem execBypassFail_answers (cell : Nat) (s : State) : Answers s (execBypassFail cell s) := running_answers (by simp)
theorem execManualSubstitution_answers (h : Nat) (v : Word) (s : State) : Answers s (execManualSubstitution h v s) :=
  hostPair_answers ..
theorem execRideReturn_answers (s : State) : Answers s (execRideReturn s) := running_answers (by simp)
theorem execProfileTrip_answers (row : Nat) (s : State) : Answers s (execProfileTrip row s) := running_answers (by simp)
theorem execProfileLoad_answers (h profile : Nat) (s : State) : Answers s (execProfileLoad h profile s) := editCmd_answers ..
theorem execProfileStagingWrite_answers (h profile byte : Nat) (v : Word) (s : State) : Answers s (execProfileStagingWrite h
    profile byte v s) :=
  running_answers (by simp)
theorem execProfileCommit_answers (h profile : Nat) (s : State) : Answers s (execProfileCommit h profile s) :=
  editCmd_answers ..
theorem execProfileAbandon_answers (h profile : Nat) (s : State) : Answers s (execProfileAbandon h profile s) :=
  editCmd_answers ..
theorem execProfileWritten_answers (s : State) : Answers s (execProfileWritten s) := running_answers (by simp)
theorem execChipEnd_answers (s : State) : Answers s (execChipEnd s) := running_answers (by simp)
theorem execIslandAction_answers (s : State) : Answers s (execIslandAction s) := running_answers (by simp)
theorem execPassiveIslandDetect_answers (why : Nat) (s : State) : Answers s (execPassiveIslandDetect why s) :=
  running_answers (by simp)
theorem execGridBack_answers (s : State) : Answers s (execGridBack s) := running_answers (by simp)
theorem execReconOk_answers (s : State) : Answers s (execReconOk s) := running_answers (by simp)
theorem execHeartbeat_answers (eng : Nat) (seq : BitVec 32) (s : State) : Answers s (execHeartbeat eng seq s) :=
  running_answers (by simp)
theorem execHeartbeatMissing_answers (eng : Nat) (s : State) : Answers s (execHeartbeatMissing eng s) :=
  running_answers (by simp)
theorem execLeaseExpiry_answers (s : State) : Answers s (execLeaseExpiry s) := running_answers (by simp)
theorem execGuardEnd_answers (s : State) : Answers s (execGuardEnd s) := running_answers (by simp)
theorem execEngineFault_answers (eng cause : Nat) (s : State) : Answers s (execEngineFault eng cause s) :=
  running_answers (by simp)
theorem execGafferFrozen_answers (s : State) : Answers s (execGafferFrozen s) := running_answers (by simp)
theorem execForcedSwitchover_answers (h : Nat) (s : State) : Answers s (execForcedSwitchover h s) := hostPair_answers ..
theorem execSwitchoverJudgementEnd_answers (s : State) : Answers s (execSwitchoverJudgementEnd s) := running_answers (by simp)
theorem execTestDue_answers (s : State) : Answers s (execTestDue s) := running_answers (by simp)
theorem execEngineJoin_answers (h eng slot : Nat) (s : State) : Answers s (execEngineJoin h eng slot s) := engCmd_answers ..
theorem execEngineReload_answers (h eng slot : Nat) (s : State) : Answers s (execEngineReload h eng slot s) :=
  engCmd_answers ..
theorem execEngineHalt_answers (h eng : Nat) (s : State) : Answers s (execEngineHalt h eng s) := engCmd_answers ..
theorem execEngineOff_answers (h eng : Nat) (s : State) : Answers s (execEngineOff h eng s) := engCmd_answers ..
theorem execRejoinStageEnd_answers (eng : Nat) (pass : Bool) (s : State) : Answers s (execRejoinStageEnd eng pass s) :=
  running_answers (by simp)
theorem execRejoinTimeout_answers (eng : Nat) (s : State) : Answers s (execRejoinTimeout eng s) := running_answers (by simp)
theorem execAutojoin_answers (eng : Nat) (s : State) : Answers s (execAutojoin eng s) := running_answers (by simp)
theorem execSafetyTick_answers (si : BitVec 16) (mirrors readback : BitVec 8) (s : State) : Answers s (execSafetyTick si
    mirrors readback s) :=
  channels_answers (by simp)
theorem execDiscrepancyFault_answers (pair : Nat) (s : State) : Answers s (execDiscrepancyFault pair s) :=
  channels_answers (by simp)
theorem execCrossLinkExchange_answers (good differ : Bool) (x y : BitVec 4) (s : State) : Answers s (execCrossLinkExchange
    good differ x y s) :=
  channels_answers (by simp)
theorem execChannelFault_answers (channel : Nat) (s : State) : Answers s (execChannelFault channel s) :=
  channels_answers (by simp)
theorem execGroupCommand_answers (h : Nat) (v : Word) (s : State) : Answers s (execGroupCommand h v s) := hostPair_answers ..
theorem execFeedbackConfirm_answers (group : Nat) (s : State) : Answers s (execFeedbackConfirm group s) :=
  channels_answers (by simp)
theorem execFeedbackTimeout_answers (group : Nat) (s : State) : Answers s (execFeedbackTimeout group s) :=
  channels_answers (by simp)
theorem execMirrorDisagree_answers (group : Nat) (s : State) : Answers s (execMirrorDisagree group s) :=
  channels_answers (by simp)
theorem execDarkPulse_answers (switch : Nat) (s : State) : Answers s (execDarkPulse switch s) := channels_answers (by simp)
theorem execDarkPulseEnd_answers (switch : Nat) (readOff readOn : Bool) (s : State) : Answers s (execDarkPulseEnd switch
    readOff readOn s) :=
  channels_answers (by simp)
theorem execSwitchStuckOn_answers (switch : Nat) (s : State) : Answers s (execSwitchStuckOn switch s) :=
  channels_answers (by simp)
theorem execTestPulse_answers (line : Nat) (s : State) : Answers s (execTestPulse line s) := channels_answers (by simp)
theorem execCrossfaultCheck_answers (line : Nat) (si : BitVec 16) (s : State) : Answers s (execCrossfaultCheck line si s) :=
  channels_answers (by simp)
theorem execSealSample_answers (noX ncX noY ncY : BitVec 8) (s : State) : Answers s (execSealSample noX ncX noY ncY s) :=
  channels_answers (by simp)
theorem execSealChange_answers (sealIx : Nat) (s : State) : Answers s (execSealChange sealIx s) := channels_answers (by simp)
theorem execSealFault_answers (sealIx : Nat) (s : State) : Answers s (execSealFault sealIx s) := channels_answers (by simp)
theorem execEnvelopeCopy_answers (net : Nat) (bytes : List Byte) (rx : Nat) (s : State) : Answers s (execEnvelopeCopy net
    bytes rx s) :=
  channels_answers (by simp)
theorem execEnvelopeUnpaired_answers (net source : Nat) (s : State) : Answers s (execEnvelopeUnpaired net source s) :=
  channels_answers (by simp)
theorem execNetworkSilent_answers (net : Nat) (s : State) : Answers s (execNetworkSilent net s) := channels_answers (by simp)
theorem execPermitWindowEnd_answers (source : Nat) (s : State) : Answers s (execPermitWindowEnd source s) :=
  channels_answers (by simp)
theorem execItsupLatch_answers (s : State) : Answers s (execItsupLatch s) := channels_answers (by simp)
theorem execSafetyAck_answers (h : Nat) (s : State) : Answers s (execSafetyAck h s) := hostPair_answers ..
theorem execRingEnable_answers (h ring : Nat) (v : Word) (s : State) : Answers s (execRingEnable h ring v s) :=
  running_answers (by simp)
theorem execRingDisable_answers (h ring : Nat) (v : Word) (s : State) : Answers s (execRingDisable h ring v s) :=
  running_answers (by simp)
theorem execCmdDoorbell_answers (h ring : Nat) (v : Word) (s : State) : Answers s (execCmdDoorbell h ring v s) :=
  running_answers (by simp)
theorem execRingHeadWrite_answers (h ring : Nat) (v : Word) (s : State) : Answers s (execRingHeadWrite h ring v s) :=
  running_answers (by simp)
theorem execNop_answers (ring : Nat) (s : State) : Answers s (execNop ring s) := running_answers (by simp)
theorem execRead_answers (ring : Nat) (s : State) : Answers s (execRead ring s) :=
  running_answers (State.runCmd_before (fun _ _ _ ht => State.cmdRead_before ht) (Lasting.before_refl _))
theorem execWrite_answers (ring : Nat) (s : State) : Answers s (execWrite ring s) :=
  running_answers (State.runCmd_before (fun _ _ _ ht => State.cmdWrite_before ht) (Lasting.before_refl _))
theorem execWritePair_answers (ring : Nat) (s : State) : Answers s (execWritePair ring s) :=
  running_answers (State.runCmd_before (fun _ _ _ ht => State.cmdWritePair_before ht) (Lasting.before_refl _))
theorem execImageOpen_answers (ring : Nat) (s : State) : Answers s (execImageOpen ring s) := running_answers (by simp)
theorem execImageData_answers (ring : Nat) (s : State) : Answers s (execImageData ring s) := running_answers (by simp)
theorem execImageClose_answers (ring : Nat) (s : State) : Answers s (execImageClose ring s) := running_answers (by simp)
theorem execLogRead_answers (ring : Nat) (s : State) : Answers s (execLogRead ring s) := running_answers (by simp)
theorem execMsixDeferred_answers (h : Nat) (s : State) : Answers s (execMsixDeferred h s) := running_answers (by simp)
theorem execEventWindowClose_answers (h code subject : Nat) (s : State) : Answers s (execEventWindowClose h code subject s) :=
  running_answers (by simp)
theorem execVersionNegotiate_answers (h : Nat) (v : Word) (s : State) : Answers s (execVersionNegotiate h v s) :=
  hostWord_answers ..
theorem execHostResetRequest_answers (h : Nat) (s : State) : Answers s (execHostResetRequest h s) := hostWord_answers ..
theorem execReleaseAll_answers (h : Nat) (s : State) : Answers s (execReleaseAll h s) := hostWord_answers ..
theorem execHostPortReset_answers (h : Nat) (what : PortReset) (s : State) : Answers s (execHostPortReset h what s) :=
  answer_answers (by simp)
theorem execLogQueueDrain_answers (s : State) : Answers s (execLogQueueDrain s) := running_answers (by simp)
theorem execPdelayReqSend_answers (port : Nat) (s : State) : Answers s (execPdelayReqSend port s) := running_answers (by simp)
theorem execPdelayReqAnswer_answers (port domain : Nat) (s : State) : Answers s (execPdelayReqAnswer port domain s) :=
  running_answers (by simp)
theorem execPtpAnnounceTimeout_answers (port : Nat) (s : State) : Answers s (execPtpAnnounceTimeout port s) :=
  running_answers (by simp)
theorem execPrpFrameReceive_answers (port source seq : Nat) (trailer : Bool) (s : State) : Answers s (execPrpFrameReceive port
    source seq trailer s) :=
  running_answers (by simp)
theorem execPrpSupervisionSend_answers (s : State) : Answers s (execPrpSupervisionSend s) := running_answers (by simp)
theorem execPrpPath_answers (lan : Nat) (lost : Bool) (s : State) : Answers s (execPrpPath lan lost s) :=
  running_answers (by simp)
theorem execNetworkLinkChange_answers (port : Nat) (up : Bool) (s : State) : Answers s (execNetworkLinkChange port up s) :=
  running_answers (by simp)
theorem execGooseReceive_answers (frame : GooseFrame) (s : State) : Answers s (execGooseReceive frame s) :=
  running_answers (by simp)
theorem execSubTimeout_answers (entry : Nat) (s : State) : Answers s (execSubTimeout entry s) := running_answers (by simp)
theorem execGooseRetransmit_answers (pub : Nat) (s : State) : Answers s (execGooseRetransmit pub s) :=
  running_answers (by simp)
theorem execSvSample_answers (stream : Nat) (s : State) : Answers s (execSvSample stream s) := running_answers (by simp)
theorem execRecorderManualTrigger_answers (h : Nat) (v : Word) (s : State) : Answers s (execRecorderManualTrigger h v s) :=
  hostWord_answers ..
theorem execRecordEnd_answers (s : State) : Answers s (execRecordEnd s) := running_answers (by simp)
theorem execRecordDelivery_answers (s : State) : Answers s (execRecordDelivery s) := running_answers (by simp)
theorem execRecorderVersionNegotiate_answers (h : Nat) (v : Word) (s : State) : Answers s (execRecorderVersionNegotiate h v s)
    :=
  hostWord_answers ..
theorem execSramScrub_answers (bank row corrected : Nat) (s : State) : Answers s (execSramScrub bank row corrected s) :=
  running_answers (by simp)
theorem execDramScrub_answers (corrected : Nat) (s : State) : Answers s (execDramScrub corrected s) :=
  running_answers (by simp)
theorem execUncorrectableError_answers (location item : Nat) (addr : Word) (s : State) : Answers s (execUncorrectableError
    location item addr s) :=
  running_answers (by simp)
theorem execComplementScan_answers (location off : Nat) (x xn : Word) (s : State) : Answers s (execComplementScan location off
    x xn s) :=
  running_answers (by simp)
theorem execCiWrite_answers (h slot : Nat) (s : State) : Answers s (execCiWrite h slot s) := ciStart_answers ..
theorem execCiApply_answers (h slot : Nat) (s : State) : Answers s (execCiApply h slot s) := ciStart_answers ..
theorem execCiErase_answers (h slot : Nat) (s : State) : Answers s (execCiErase h slot s) := ciStart_answers ..
theorem execCiOperationEnd_answers (verified signed : Bool) (s : State) : Answers s (execCiOperationEnd verified signed s) :=
  running_answers (by simp)
theorem execBootApply_answers (s : State) : Answers s (execBootApply s) := running_answers (by simp)
theorem execLifecycleChange_answers (h target : Nat) (s : State) : Answers s (execLifecycleChange h target s) :=
  running_answers (by simp)
theorem execAuxRise_answers (rc3sel : Bool) (s : State) : Answers s (execAuxRise rc3sel s) := answer_answers (by simp)
theorem execAuxFall_answers (s : State) : Answers s (execAuxFall s) := answer_answers (by simp)
theorem execRailPowerGood_answers (ch : Nat) (s : State) : Answers s (execRailPowerGood ch s) := onChannel_answers (by simp)
theorem execSoftStartEnd_answers (ch : Nat) (preb : Bool) (s : State) : Answers s (execSoftStartEnd ch preb s) :=
  onChannel_answers (by simp)
theorem execCoreRailPgLoss_answers (ch : Nat) (s : State) : Answers s (execCoreRailPgLoss ch s) := onChannel_answers (by simp)
theorem execPgLost_answers (s : State) : Answers s (execPgLost s) := answer_answers (by simp)
theorem execRailSyncValid_answers (kHz : Nat) (s : State) : Answers s (execRailSyncValid kHz s) := answer_answers (by simp)
theorem execRailSyncLost_answers (s : State) : Answers s (execRailSyncLost s) := answer_answers (by simp)
theorem execCurrentLimit_answers (ch : Nat) (s : State) : Answers s (execCurrentLimit ch s) := onChannel_answers (by simp)
theorem execBstuv_answers (ch : Nat) (s : State) : Answers s (execBstuv ch s) := onChannel_answers (by simp)
theorem execBootstrapRecover_answers (ch : Nat) (s : State) : Answers s (execBootstrapRecover ch s) :=
  onChannel_answers (by simp)
theorem execOutputOvervoltage_answers (ch : Nat) (above : Bool) (s : State) : Answers s (execOutputOvervoltage ch above s) :=
  onChannel_answers (by simp)
theorem execDriverSupplyUv_answers (ch : Nat) (low : Bool) (s : State) : Answers s (execDriverSupplyUv ch low s) :=
  onChannel_answers (by simp)
theorem execRailLatch_answers (ch cause : Nat) (s : State) : Answers s (execRailLatch ch cause s) :=
  onChannel_answers (by simp)
theorem execRailEnRestart_answers (s : State) : Answers s (execRailEnRestart s) := answer_answers (by simp)
theorem execVoltageCommand_answers (h ch : Nat) (v : Word) (s : State) : Answers s (execVoltageCommand h ch v s) :=
  running_answers (by simp)
theorem execBurstEntry_answers (ch : Nat) (s : State) : Answers s (execBurstEntry ch s) := onChannel_answers (by simp)
theorem execBurstExit_answers (ch : Nat) (s : State) : Answers s (execBurstExit ch s) := onChannel_answers (by simp)
theorem execReferenceGood_answers (ref : Nat) (s : State) : Answers s (execReferenceGood ref s) := onClocks_answers (by simp)
theorem execReferenceLost_answers (ref : Nat) (s : State) : Answers s (execReferenceLost ref s) := onClocks_answers (by simp)
theorem execHoldoverTimeout_answers (s : State) : Answers s (execHoldoverTimeout s) := onClocks_answers (by simp)
theorem execReferenceRevert_answers (s : State) : Answers s (execReferenceRevert s) := onClocks_answers (by simp)
theorem execLoopLock_answers (loop count : Nat) (s : State) : Answers s (execLoopLock loop count s) :=
  onClocks_answers (by simp)
theorem execLoopLockLoss_answers (loop count : Nat) (fast : Bool) (s : State) : Answers s (execLoopLockLoss loop count fast s)
    :=
  onClocks_answers (by simp)
theorem execFabricRetryEnd_answers (locked : Bool) (s : State) : Answers s (execFabricRetryEnd locked s) :=
  onClocks_answers (by simp)
theorem execDllLost_answers (port : Nat) (s : State) : Answers s (execDllLost port s) := running_answers (by simp)
theorem execSentinelSample_answers (no nc : BitVec 8) (tamp : BitVec 2) (s : State) : Answers s (execSentinelSample no nc tamp
    s) :=
  inDomain_answers (by simp)
theorem execSentinelReadingChange_answers (input : Nat) (s : State) : Answers s (execSentinelReadingChange input s) :=
  answer_answers (by simp)
theorem execAlertFrameStart_answers (s : State) : Answers s (execAlertFrameStart s) := inDomain_answers (by simp)
theorem execAlertFrameAbort_answers (s : State) : Answers s (execAlertFrameAbort s) := answer_answers (by simp)
theorem execAlertFrameComplete_answers (s : State) : Answers s (execAlertFrameComplete s) := inDomain_answers (by simp)
theorem execAlertRetry_answers (s : State) : Answers s (execAlertRetry s) := inDomain_answers (by simp)
theorem execAliveStamp_answers (s : State) : Answers s (execAliveStamp s) := inDomain_answers (by simp)
theorem execBandChange_answers (mV : Nat) (s : State) : Answers s (execBandChange mV s) := inDomain_answers (by simp)
theorem execCellCutoff_answers (midWrite : Bool) (s : State) : Answers s (execCellCutoff midWrite s) :=
  inDomain_answers (by simp)
theorem execCellProtection_answers (kind : Nat) (s : State) : Answers s (execCellProtection kind s) :=
  answer_answers (by simp)
theorem execSentinelColdStart_answers (s : State) : Answers s (execSentinelColdStart s) := answer_answers (by simp)
theorem execSentinelHandover_answers (s : State) : Answers s (execSentinelHandover s) := running_answers (by simp)
theorem execTamperConfigWrite_answers (h : Nat) (v : Word) (s : State) : Answers s (execTamperConfigWrite h v s) :=
  hostWord_answers ..
theorem execSenStatRead_answers (h : Nat) (s : State) : Answers s (execSenStatRead h s) := byHost_answers (by simp)
theorem execResetPin_answers (low : Bool) (s : State) : Answers s (execResetPin low s) := answer_answers (by simp)
theorem execSoftwareReset_answers (h : Nat) (s : State) : Answers s (execSoftwareReset h s) := hostPair_answers ..
theorem execResetRelease_answers (failed : List Nat) (s : State) : Answers s (execResetRelease failed s) :=
  answer_answers (by simp)
theorem execBlockReady_answers (block : Nat) (s : State) : Answers s (execBlockReady block s) := running_answers (by simp)
theorem execReadinessTimeout_answers (block : Nat) (s : State) : Answers s (execReadinessTimeout block s) :=
  running_answers (by simp)
theorem execHostLinkUp_answers (h : Nat) (s : State) : Answers s (execHostLinkUp h s) := running_answers (by simp)
theorem execTapReset_answers (s : State) : Answers s (execTapReset s) := answer_answers (by simp)
theorem execIdcode_answers (s : State) : Answers s (execIdcode s) := answer_answers (by simp)
theorem execSamplePreload_answers (cells : List Bool) (s : State) : Answers s (execSamplePreload cells s) :=
  answer_answers (by simp)
theorem execExtest_answers (cells : List Bool) (s : State) : Answers s (execExtest cells s) := answer_answers (by simp)
theorem execExtestPulse_answers (cells : List Bool) (s : State) : Answers s (execExtestPulse cells s) :=
  answer_answers (by simp)
theorem execExtestTrain_answers (cells : List Bool) (s : State) : Answers s (execExtestTrain cells s) :=
  answer_answers (by simp)
theorem execHighz_answers (s : State) : Answers s (execHighz s) := answer_answers (by simp)
theorem execClamp_answers (s : State) : Answers s (execClamp s) := answer_answers (by simp)
theorem execBypass_answers (code : BitVec 8) (s : State) : Answers s (execBypass code s) := answer_answers (by simp)
theorem execSwitchingCycle_answers (ch : Nat) (start pulse enable : Bool) (s : State) : Answers s (execSwitchingCycle ch start
    pulse enable s) :=
  onChannel_answers (by simp)
theorem execReverseCurrentLimit_answers (ch : Nat) (s : State) : Answers s (execReverseCurrentLimit ch s) :=
  onChannel_answers (by simp)
theorem execRefDisagree_answers (tenthPpm : Int) (s : State) : Answers s (execRefDisagree tenthPpm s) :=
  onClocks_answers (by simp)
theorem execRingPortSync_answers (port : Nat) (s : State) : Answers s (execRingPortSync port s) := running_answers (by simp)
theorem execPtpAnnounceReceive_answers (port domain : Nat) (gm : BitVec 64) (cls : BitVec 8) (utcOfs : BitVec 16) (rank : Nat)
    (s : State) : Answers s (execPtpAnnounceReceive port domain gm cls utcOfs rank s) :=
  running_answers (by simp)
theorem execPdelayRespReceive_answers (port domain delay : Nat) (s : State) : Answers s (execPdelayRespReceive port domain
    delay s) :=
  running_answers (by simp)
theorem execEngineBoot_answers (passA passB : Bool) (s : State) : Answers s (execEngineBoot passA passB s) :=
  running_answers (by simp)
theorem execImageCommandComplete_answers (signed : Bool) (format minsrev : BitVec 8) (version : Word) (hstv : BitVec 16) (s :
    State) : Answers s (execImageCommandComplete signed format minsrev version hstv s) :=
  running_answers (by simp)
theorem execCellProtectionRelease_answers (kind : Nat) (s : State) : Answers s (execCellProtectionRelease kind s) :=
  answer_answers (by simp)
theorem execAnalogDieFault_answers (s : State) : Answers s (execAnalogDieFault s) := running_answers (by simp)
theorem execFlashDieFault_answers (s : State) : Answers s (execFlashDieFault s) := answer_answers (by simp)

/-- The end of a lifecycle wipe changes the lifecycle state, and of what lasts nothing else (R404). -/
theorem State.lcyEnd_before (s : State) :
    ∃ life, Lasting.before ⟨s.pending, s.part, life, s.clock.mono, s.hosts.win⟩ s.lcyEnd.lasting := by
  unfold State.lcyEnd
  split
  next => exact ⟨_, Lasting.before_refl s.lasting⟩
  next target htarget =>
    split
    · exact ⟨_, Lasting.before_refl s.lasting⟩
    · have hw := s.lcyWiped_lasting
      simp only [State.lasting, Lasting.mk.injEq] at hw
      obtain ⟨hq, hp, -, hn, -⟩ := hw
      refine ⟨target, ?_⟩
      rw [State.modPwr_lasting]
      exact State.intoReset_before ⟨hq.symm, hp.symm, rfl, hn.ge⟩

theorem exec_answers (i : Instr) (s : State) (hi : i ≠ .lifecycleWipeEnd) : Answers s (exec i s) := by
  cases i with
  | registerWrite h way off v => exact execRegisterWrite_answers ..
  | rwcValueWrite h off v => exact execRwcValueWrite_answers ..
  | errcodeWrite h page v => exact execErrcodeWrite_answers ..
  | irqStatClear h page v => exact execIrqStatClear_answers ..
  | claim h page arg => exact execClaim_answers ..
  | release h page arg => exact execRelease_answers ..
  | breakClaim h page arg => exact execBreakClaim_answers ..
  | key h page arg => exact execKey_answers ..
  | keyExpiry h page => exact execKeyExpiry_answers ..
  | modeRequestWatch h => exact execModeRequestWatch_answers ..
  | modeRequestEnergize h => exact execModeRequestEnergize_answers ..
  | modeRequestFollow h => exact execModeRequestFollow_answers ..
  | modeRequestForm h => exact execModeRequestForm_answers ..
  | modeRequestService h => exact execModeRequestService_answers ..
  | holdRequest h v => exact execHoldRequest_answers ..
  | holdLatchClear h v => exact execHoldLatchClear_answers ..
  | beatStart => exact execBeatStart_answers ..
  | scheduleEntryFire entry => exact execScheduleEntryFire_answers ..
  | blankWindowEnd cmp => exact execBlankWindowEnd_answers ..
  | scheduleEntryWrite h entry word v => exact execScheduleEntryWrite_answers ..
  | cellReport port bytes errs => exact execCellReport_answers ..
  | cellCharged cell => exact execCellCharged_answers ..
  | cellAbsent cell => exact execCellAbsent_answers ..
  | reportCutoff => exact execReportCutoff_answers ..
  | joinStepRepeat cell => exact execJoinStepRepeat_answers ..
  | pipelineStart => exact execPipelineStart_answers ..
  | standbyCopyHandover => exact execStandbyCopyHandover_answers ..
  | computeDeadline lateA lateB => exact execComputeDeadline_answers ..
  | devtimeSet h v => exact execDevtimeSet_answers ..
  | ptpSyncReceive port domain offset => exact execPtpSyncReceive_answers ..
  | ptpHoldover => exact execPtpHoldover_answers ..
  | lockDeclared => exact execLockDeclared_answers ..
  | lockLost => exact execLockLost_answers ..
  | flywheelEntry => exact execFlywheelEntry_answers ..
  | flywheelEnd => exact execFlywheelEnd_answers ..
  | slewEnd => exact execSlewEnd_answers ..
  | angDivWrite h v => exact execAngDivWrite_answers ..
  | divTakeEffect => exact execDivTakeEffect_answers ..
  | angCfgWrite h v => exact execAngCfgWrite_answers ..
  | adcSwtrig h v => exact execAdcSwtrig_answers ..
  | sequenceDelayExpiry seq => exact execSequenceDelayExpiry_answers ..
  | entryHold seq => exact execEntryHold_answers ..
  | conversionEnd bank slot raw overload => exact execConversionEnd_answers ..
  | resultDelivery => exact execResultDelivery_answers ..
  | calibrationStep => exact execCalibrationStep_answers ..
  | spareCalibrationEnd offset gain converged => exact execSpareCalibrationEnd_answers ..
  | slotHandover => exact execSlotHandover_answers ..
  | calStarved => exact execCalStarved_answers ..
  | sliceCalibrationEnd offset gain converged => exact execSliceCalibrationEnd_answers ..
  | calsetLoad h => exact execCalsetLoad_answers ..
  | calsetDataWrite h v => exact execCalsetDataWrite_answers ..
  | calsetWrite h => exact execCalsetWrite_answers ..
  | calsetWritten => exact execCalsetWritten_answers ..
  | comparatorAssert cmp uv => exact execComparatorAssert_answers ..
  | comparatorRelease cmp uv => exact execComparatorRelease_answers ..
  | sampledWindow live => exact execSampledWindow_answers ..
  | comparatorSubstitute h circuit v => exact execComparatorSubstitute_answers ..
  | probeReturn ring counterClockwise delay => exact execProbeReturn_answers ..
  | portDown port cause => exact execPortDown_answers ..
  | portSubstitute h v => exact execPortSubstitute_answers ..
  | lnkCtrlWrite h ring v => exact execLnkCtrlWrite_answers ..
  | cellTableWrite h cell byte v => exact execCellTableWrite_answers ..
  | tripAssert line => exact execTripAssert_answers ..
  | tripClear line => exact execTripClear_answers ..
  | tripSw h v => exact execTripSw_answers ..
  | lhbPeriodBoundary out => exact execLhbPeriodBoundary_answers ..
  | lhbCommit h v => exact execLhbCommit_answers ..
  | modulatorEvent ev => exact execModulatorEvent_answers ..
  | streamStopped => exact execStreamStopped_answers ..
  | fabricClockStop => exact execFabricClockStop_answers ..
  | counterClear h v => exact execCounterClear_answers ..
  | forceLhb h v => exact execForceLhb_answers ..
  | forceCell h v => exact execForceCell_answers ..
  | slotStagingWrite h slot byte v => exact execSlotStagingWrite_answers ..
  | slotCommit h slot v => exact execSlotCommit_answers ..
  | setpointWrite h slot v => exact execSetpointWrite_answers ..
  | loopRelease h v => exact execLoopRelease_answers ..
  | snapshotCapture h => exact execSnapshotCapture_answers ..
  | snapshotRelease h => exact execSnapshotRelease_answers ..
  | closeStart h => exact execCloseStart_answers ..
  | closeAbort h => exact execCloseAbort_answers ..
  | closeStepAdvance => exact execCloseStepAdvance_answers ..
  | closeWaitTimeout => exact execCloseWaitTimeout_answers ..
  | grdOpen h v => exact execGrdOpen_answers ..
  | stopZeroCurrent => exact execStopZeroCurrent_answers ..
  | transferToFormComplete => exact execTransferToFormComplete_answers ..
  | transferToFollowComplete => exact execTransferToFollowComplete_answers ..
  | neutralCurrent => exact execNeutralCurrent_answers ..
  | neutralClear => exact execNeutralClear_answers ..
  | trackerPeriodEnd cell => exact execTrackerPeriodEnd_answers ..
  | sweepStart cell => exact execSweepStart_answers ..
  | sweepPointEnd cell => exact execSweepPointEnd_answers ..
  | globalSweepDue => exact execGlobalSweepDue_answers ..
  | globalSweepRequest h v => exact execGlobalSweepRequest_answers ..
  | historyWrite => exact execHistoryWrite_answers ..
  | storeDispatchWrite h v => exact execStoreDispatchWrite_answers ..
  | subFail cell => exact execSubFail_answers ..
  | bypassFail cell => exact execBypassFail_answers ..
  | manualSubstitution h v => exact execManualSubstitution_answers ..
  | rideReturn => exact execRideReturn_answers ..
  | profileTrip row => exact execProfileTrip_answers ..
  | profileLoad h profile => exact execProfileLoad_answers ..
  | profileStagingWrite h profile byte v => exact execProfileStagingWrite_answers ..
  | profileCommit h profile => exact execProfileCommit_answers ..
  | profileAbandon h profile => exact execProfileAbandon_answers ..
  | profileWritten => exact execProfileWritten_answers ..
  | chipEnd => exact execChipEnd_answers ..
  | islandAction => exact execIslandAction_answers ..
  | passiveIslandDetect why => exact execPassiveIslandDetect_answers ..
  | gridBack => exact execGridBack_answers ..
  | reconOk => exact execReconOk_answers ..
  | heartbeat eng seq => exact execHeartbeat_answers ..
  | heartbeatMissing eng => exact execHeartbeatMissing_answers ..
  | leaseExpiry => exact execLeaseExpiry_answers ..
  | guardEnd => exact execGuardEnd_answers ..
  | engineFault eng cause => exact execEngineFault_answers ..
  | gafferFrozen => exact execGafferFrozen_answers ..
  | forcedSwitchover h => exact execForcedSwitchover_answers ..
  | switchoverJudgementEnd => exact execSwitchoverJudgementEnd_answers ..
  | testDue => exact execTestDue_answers ..
  | engineJoin h eng slot => exact execEngineJoin_answers ..
  | engineReload h eng slot => exact execEngineReload_answers ..
  | engineHalt h eng => exact execEngineHalt_answers ..
  | engineOff h eng => exact execEngineOff_answers ..
  | rejoinStageEnd eng pass => exact execRejoinStageEnd_answers ..
  | rejoinTimeout eng => exact execRejoinTimeout_answers ..
  | autojoin eng => exact execAutojoin_answers ..
  | safetyTick si mirrors readback => exact execSafetyTick_answers ..
  | discrepancyFault pair => exact execDiscrepancyFault_answers ..
  | crossLinkExchange good differ x y => exact execCrossLinkExchange_answers ..
  | channelFault channel => exact execChannelFault_answers ..
  | groupCommand h v => exact execGroupCommand_answers ..
  | feedbackConfirm group => exact execFeedbackConfirm_answers ..
  | feedbackTimeout group => exact execFeedbackTimeout_answers ..
  | mirrorDisagree group => exact execMirrorDisagree_answers ..
  | darkPulse switch => exact execDarkPulse_answers ..
  | darkPulseEnd switch readOff readOn => exact execDarkPulseEnd_answers ..
  | switchStuckOn switch => exact execSwitchStuckOn_answers ..
  | testPulse line => exact execTestPulse_answers ..
  | crossfaultCheck line si => exact execCrossfaultCheck_answers ..
  | sealSample noX ncX noY ncY => exact execSealSample_answers ..
  | sealChange sealIx => exact execSealChange_answers ..
  | sealFault sealIx => exact execSealFault_answers ..
  | envelopeCopy net bytes rx => exact execEnvelopeCopy_answers ..
  | envelopeUnpaired net source => exact execEnvelopeUnpaired_answers ..
  | networkSilent net => exact execNetworkSilent_answers ..
  | permitWindowEnd source => exact execPermitWindowEnd_answers ..
  | itsupLatch => exact execItsupLatch_answers ..
  | safetyAck h => exact execSafetyAck_answers ..
  | ringEnable h ring v => exact execRingEnable_answers ..
  | ringDisable h ring v => exact execRingDisable_answers ..
  | cmdDoorbell h ring v => exact execCmdDoorbell_answers ..
  | ringHeadWrite h ring v => exact execRingHeadWrite_answers ..
  | nop ring => exact execNop_answers ..
  | read ring => exact execRead_answers ..
  | write ring => exact execWrite_answers ..
  | writePair ring => exact execWritePair_answers ..
  | imageOpen ring => exact execImageOpen_answers ..
  | imageData ring => exact execImageData_answers ..
  | imageClose ring => exact execImageClose_answers ..
  | logRead ring => exact execLogRead_answers ..
  | msixDeferred h => exact execMsixDeferred_answers ..
  | eventWindowClose h code subject => exact execEventWindowClose_answers ..
  | versionNegotiate h v => exact execVersionNegotiate_answers ..
  | hostResetRequest h => exact execHostResetRequest_answers ..
  | releaseAll h => exact execReleaseAll_answers ..
  | hostPortReset h what => exact execHostPortReset_answers ..
  | logQueueDrain => exact execLogQueueDrain_answers ..
  | pdelayReqSend port => exact execPdelayReqSend_answers ..
  | pdelayReqAnswer port domain => exact execPdelayReqAnswer_answers ..
  | ptpAnnounceTimeout port => exact execPtpAnnounceTimeout_answers ..
  | prpFrameReceive port source seq trailer => exact execPrpFrameReceive_answers ..
  | prpSupervisionSend => exact execPrpSupervisionSend_answers ..
  | prpPath lan lost => exact execPrpPath_answers ..
  | networkLinkChange port up => exact execNetworkLinkChange_answers ..
  | gooseReceive frame => exact execGooseReceive_answers ..
  | subTimeout entry => exact execSubTimeout_answers ..
  | gooseRetransmit pub => exact execGooseRetransmit_answers ..
  | svSample stream => exact execSvSample_answers ..
  | recorderManualTrigger h v => exact execRecorderManualTrigger_answers ..
  | recordEnd => exact execRecordEnd_answers ..
  | recordDelivery => exact execRecordDelivery_answers ..
  | recorderVersionNegotiate h v => exact execRecorderVersionNegotiate_answers ..
  | sramScrub bank row corrected => exact execSramScrub_answers ..
  | dramScrub corrected => exact execDramScrub_answers ..
  | uncorrectableError location item addr => exact execUncorrectableError_answers ..
  | complementScan location off x xn => exact execComplementScan_answers ..
  | ciWrite h slot => exact execCiWrite_answers ..
  | ciApply h slot => exact execCiApply_answers ..
  | ciErase h slot => exact execCiErase_answers ..
  | ciOperationEnd verified signed => exact execCiOperationEnd_answers ..
  | bootApply => exact execBootApply_answers ..
  | lifecycleChange h target => exact execLifecycleChange_answers ..
  | lifecycleWipeEnd => exact absurd rfl hi
  | auxRise rc3sel => exact execAuxRise_answers ..
  | auxFall => exact execAuxFall_answers ..
  | railPowerGood ch => exact execRailPowerGood_answers ..
  | softStartEnd ch preb => exact execSoftStartEnd_answers ..
  | coreRailPgLoss ch => exact execCoreRailPgLoss_answers ..
  | pgLost => exact execPgLost_answers ..
  | railSyncValid kHz => exact execRailSyncValid_answers ..
  | railSyncLost => exact execRailSyncLost_answers ..
  | currentLimit ch => exact execCurrentLimit_answers ..
  | bstuv ch => exact execBstuv_answers ..
  | bootstrapRecover ch => exact execBootstrapRecover_answers ..
  | outputOvervoltage ch above => exact execOutputOvervoltage_answers ..
  | driverSupplyUv ch low => exact execDriverSupplyUv_answers ..
  | railLatch ch cause => exact execRailLatch_answers ..
  | railEnRestart => exact execRailEnRestart_answers ..
  | voltageCommand h ch v => exact execVoltageCommand_answers ..
  | burstEntry ch => exact execBurstEntry_answers ..
  | burstExit ch => exact execBurstExit_answers ..
  | referenceGood ref => exact execReferenceGood_answers ..
  | referenceLost ref => exact execReferenceLost_answers ..
  | holdoverTimeout => exact execHoldoverTimeout_answers ..
  | referenceRevert => exact execReferenceRevert_answers ..
  | loopLock loop count => exact execLoopLock_answers ..
  | loopLockLoss loop count fast => exact execLoopLockLoss_answers ..
  | fabricRetryEnd locked => exact execFabricRetryEnd_answers ..
  | dllLost port => exact execDllLost_answers ..
  | sentinelSample no nc tamp => exact execSentinelSample_answers ..
  | sentinelReadingChange input => exact execSentinelReadingChange_answers ..
  | alertFrameStart => exact execAlertFrameStart_answers ..
  | alertFrameAbort => exact execAlertFrameAbort_answers ..
  | alertFrameComplete => exact execAlertFrameComplete_answers ..
  | alertRetry => exact execAlertRetry_answers ..
  | aliveStamp => exact execAliveStamp_answers ..
  | bandChange mV => exact execBandChange_answers ..
  | cellCutoff midWrite => exact execCellCutoff_answers ..
  | cellProtection kind => exact execCellProtection_answers ..
  | sentinelColdStart => exact execSentinelColdStart_answers ..
  | sentinelHandover => exact execSentinelHandover_answers ..
  | tamperConfigWrite h v => exact execTamperConfigWrite_answers ..
  | senStatRead h => exact execSenStatRead_answers ..
  | resetPin low => exact execResetPin_answers ..
  | softwareReset h => exact execSoftwareReset_answers ..
  | resetRelease failed => exact execResetRelease_answers ..
  | blockReady block => exact execBlockReady_answers ..
  | readinessTimeout block => exact execReadinessTimeout_answers ..
  | hostLinkUp h => exact execHostLinkUp_answers ..
  | tapReset => exact execTapReset_answers ..
  | idcode => exact execIdcode_answers ..
  | samplePreload cells => exact execSamplePreload_answers ..
  | extest cells => exact execExtest_answers ..
  | extestPulse cells => exact execExtestPulse_answers ..
  | extestTrain cells => exact execExtestTrain_answers ..
  | highz => exact execHighz_answers ..
  | clamp => exact execClamp_answers ..
  | bypass code => exact execBypass_answers ..
  | switchingCycle ch start pulse enable => exact execSwitchingCycle_answers ..
  | reverseCurrentLimit ch => exact execReverseCurrentLimit_answers ..
  | refDisagree tenthPpm => exact execRefDisagree_answers ..
  | ringPortSync port => exact execRingPortSync_answers ..
  | ptpAnnounceReceive port domain gm cls utcOfs rank => exact execPtpAnnounceReceive_answers ..
  | pdelayRespReceive port domain delay => exact execPdelayRespReceive_answers ..
  | engineBoot passA passB => exact execEngineBoot_answers ..
  | imageCommandComplete signed format minsrev version hstv => exact execImageCommandComplete_answers ..
  | cellProtectionRelease kind => exact execCellProtectionRelease_answers ..
  | analogDieFault => exact execAnalogDieFault_answers ..
  | flashDieFault => exact execFlashDieFault_answers ..

end Sys2Proof.Machine

open Sys2Proof Sys2Proof.Machine

/-- Settles O50: every command but the end of a lifecycle wipe keeps what lasts (`exec_answers`), and that one changes only
the lifecycle state of it. -/
theorem everyCommandIsAnswered : Obligations.EveryCommandIsAnswered := by
  unfold Obligations.EveryCommandIsAnswered
  intro i s
  by_cases hi : i = .lifecycleWipeEnd
  · subst hi
    obtain ⟨life, hl⟩ := s.lcyEnd_before
    obtain ⟨hq, hp, -, hn⟩ := State.settle_before hl
    change ∃ t, answer s s.lcy.target.isSome State.lcyEnd = .next t ∧ _
    unfold answer
    split
    · exact ⟨_, rfl, hq.symm, hp.symm, hn, fun h => absurd rfl h⟩
    · exact ⟨s, rfl, rfl, rfl, Nat.le_refl _, fun h => absurd rfl h⟩
  · obtain ⟨t, ht, hq, hp, hl, hn⟩ := exec_answers i s hi
    exact ⟨t, ht, hq.symm, hp.symm, hn, fun _ => hl.symm⟩

/-- Settles O49: both clauses are `step` on a queue that is not empty and on an empty one. -/
theorem stepTakesTheFrontCommand : Obligations.StepTakesTheFrontCommand := by
  unfold Obligations.StepTakesTheFrontCommand
  refine ⟨fun s c q => rfl, fun s hs => ?_⟩
  simp [step, hs]

end

section
/-! PROOFS. Pending values, claims and keys as lists of pairs: what is found after an entry is put in or taken out. -/

namespace Sys2Proof.Map

variable {α : Type}

theorem find?_insert_self (k : Nat) (v : α) (m : List (Nat × α)) : (insert k v m).find? (fun p => p.1 == k) = some (k, v) := by
  induction m with
  | nil => simp [insert]
  | cons p m ih =>
    obtain ⟨j, w⟩ := p
    unfold insert
    split
    · simp
    · split
      · simp
      · rename_i hj; simp [Ne.symm hj, ih]

theorem find?_insert_other {k j : Nat} (v : α) (m : List (Nat × α)) (h : j ≠ k) :
    (insert k v m).find? (fun p => p.1 == j) = m.find? fun p => p.1 == j := by
  induction m with
  | nil => simp [insert, h.symm]
  | cons p m ih =>
    obtain ⟨i, w⟩ := p
    unfold insert
    split
    · simp [h.symm]
    · split
      · rename_i hi; subst hi; simp [h.symm]
      · simp [List.find?_cons, ih]

theorem find?_above {k : Nat} {m : List (Nat × α)} (hr : rising m = true) (h : above k m = true) :
    m.find? (fun p => p.1 == k) = none := by
  induction m with
  | nil => rfl
  | cons p m ih =>
    obtain ⟨j, w⟩ := p
    simp only [rising, Bool.and_eq_true] at hr
    have hj : k < j := by simpa [above] using h
    simp [show j ≠ k by omega, ih hr.2 (above_of_lt hr.1 hj)]

theorem find?_remove_self {k : Nat} {m : List (Nat × α)} (hr : rising m = true) :
    (remove k m).find? (fun p => p.1 == k) = none := by
  induction m with
  | nil => rfl
  | cons p m ih =>
    obtain ⟨j, w⟩ := p
    have hr' := hr
    simp only [rising, Bool.and_eq_true] at hr'
    unfold remove
    split
    · rename_i h; exact find?_above hr (by simpa [above] using h)
    · split
      · rename_i h1 h2; subst h2; exact find?_above hr'.2 hr'.1
      · rename_i h1 h2; simp [Ne.symm h2, ih hr'.2]

theorem find?_remove_other {k j : Nat} (m : List (Nat × α)) (h : j ≠ k) :
    (remove k m).find? (fun p => p.1 == j) = m.find? fun p => p.1 == j := by
  induction m with
  | nil => rfl
  | cons p m ih =>
    obtain ⟨i, w⟩ := p
    unfold remove
    split
    · rfl
    · split
      · rename_i hi; subst hi; simp [h.symm]
      · simp [List.find?_cons, ih]

end Sys2Proof.Map

namespace Sys2Proof.Machine

/-! ## The outcome of a host's write of a register -/

/-- What an access leaves, accepted or refused. -/
theorem access_eq (s : State) (h o : Nat) (body : State → Acc) :
    s.access h o body =
      let r := body (s.disarm h (pageOf o))
      if r.2 = .ok then r else (r.1.refuse h (pageOf o) o r.2, r.2) := rfl

/-- What a write of a word of a listed page does, before the access is recorded. -/
def State.listedWrite (s : State) (h o : Nat) (v : Word) : Acc :=
  if o % 0x1000 < 0x40 then s.headerWrite h (o / 0x1000) (o % 0x1000) v else s.regWrite h o v

/-- A host's write of a word of a listed page: the word's own rule decides, a refusal is recorded, and an accepted write mends
its pair. -/
theorem hostWrite_listed {s : State} {h o : Nat} {v : Word} (h4 : o % 4 = 0) (hlo : o < 0x1000000)
    (hl : listed (o / 0x1000) = true) :
    s.hostWrite h o v =
      let r := (s.disarm h (pageOf o)).listedWrite h o v
      if r.2 = .ok then (r.1.mended o, .ok) else (r.1.refuse h (pageOf o) o r.2, r.2) := by
  have h1 : ¬ (0x1000000 ≤ o) := by omega
  have h2 : s.hostWrite h o v =
      let a := s.access h o fun t => t.listedWrite h o v
      if a.2 = .ok then (a.1.mended o, .ok) else a := by
    by_cases hh : o % 0x1000 < 0x40 <;> simp [State.hostWrite, State.listedWrite, h4, h1, hl, hh]
  simp only [h2, access_eq]
  by_cases hr : ((s.disarm h (pageOf o)).listedWrite h o v).2 = .ok <;> simp [hr]

theorem listedWrite_register {s : State} {h o : Nat} {v : Word} (hh : 0x40 ≤ o % 0x1000) :
    s.listedWrite h o v = s.regWrite h o v := if_neg (by omega)

theorem hostWrite_register {s : State} {h o : Nat} {v : Word} (h4 : o % 4 = 0) (hlo : o < 0x1000000)
    (hl : listed (o / 0x1000) = true) (hh : 0x40 ≤ o % 0x1000) :
    s.hostWrite h o v =
      let r := (s.disarm h (pageOf o)).regWrite h o v
      if r.2 = .ok then (r.1.mended o, .ok) else (r.1.refuse h (pageOf o) o r.2, r.2) := by
  rw [hostWrite_listed h4 hlo hl, listedWrite_register hh]

theorem pageOf_window {o : Nat} (ho : o < 0x1000000) : pageOf o = o / 0x1000 := if_pos ho

/-! ## Pending values (R14, R15) -/

theorem pendingOf_placed (s : State) (h o : Nat) (v : Word) : (s.placed h o v).pendingOf h o = some v := by
  simp [State.pendingOf, State.placed, Map.find?_insert_self]

theorem rwcValue_accepted {s : State} {h o : Nat} {v mask : Word} {ok : Bool} (hok : (s.rwcValue h o v mask ok).2 = .ok) :
    s.rwcValue h o v mask ok = (s.placed h o v, .ok) := by
  revert hok
  unfold State.rwcValue
  (repeat' split) <;> simp

/-- An accepted value half goes to the pending holder, and nowhere else. -/
theorem valueWrite_accepted {s : State} {h o : Nat} {v : Word} {r : Row} (hok : (s.valueWrite h o v r).2 = .ok) :
    s.valueWrite h o v r = (s.placed h o v, .ok) := by
  have ha : (s.rwcValue h o v r.mask (r.ok v)).2 = .ok := by
    by_contra hne
    unfold State.valueWrite at hok
    dsimp only at hok
    split at hok <;> simp_all
  simp [State.valueWrite, rwcValue_accepted ha]

/-- The plain form of a completed pair is the one whose effect cannot be refused. -/
theorem rwcComplement_eq_acc (s : State) (h o : Nat) (vn : Word) (checks : Word → State → List (Bool × Status))
    (act : Word → State → State) :
    s.rwcComplement h o vn checks act = s.rwcComplementAcc h o vn checks fun v t => (act v t, .ok) := rfl

/-- A write that goes through the order of R14: the pending value, its complement, the checks, the effect. -/
def InPairOrder (s : State) (h o : Nat) (vn : Word) (a : Acc) : Prop :=
  ∃ checks act, a = s.rwcComplementAcc h o vn checks act

theorem inPairOrder_acc {s : State} {h o x : Nat} {vn : Word} {checks : Word → State → List (Bool × Status)}
    {act : Word → State → Acc} (ho : o = x) : InPairOrder s h o vn (s.rwcComplementAcc h x vn checks act) :=
  ⟨checks, act, by rw [ho]⟩

theorem inPairOrder_plain {s : State} {h o x : Nat} {vn : Word} {checks : Word → State → List (Bool × Status)}
    {act : Word → State → State} (ho : o = x) : InPairOrder s h o vn (s.rwcComplement h x vn checks act) :=
  ⟨checks, _, by rw [ho, rwcComplement_eq_acc]⟩

theorem inPairOrder_ite {s : State} {h o : Nat} {vn : Word} {c : Prop} [Decidable c] {a b : Acc}
    (ha : c → InPairOrder s h o vn a) (hb : InPairOrder s h o vn b) : InPairOrder s h o vn (if c then a else b) := by
  split
  · exact ha ‹_›
  · exact hb

/-- The second half of every RW-C register goes through the order of R14. -/
theorem rwcWrite_inPairOrder (s : State) (h o : Nat) (vn : Word) (r : Row) : InPairOrder s h o vn (s.rwcWrite h o vn r) := by
  unfold State.rwcWrite
  refine inPairOrder_ite inPairOrder_acc ?_
  refine inPairOrder_ite inPairOrder_plain ?_
  refine inPairOrder_ite (fun _ => inPairOrder_plain rfl) ?_
  refine inPairOrder_ite (fun _ => inPairOrder_plain rfl) ?_
  refine inPairOrder_ite inPairOrder_plain ?_
  refine inPairOrder_ite (fun _ => by unfold State.cmpSub; exact inPairOrder_plain rfl) ?_
  refine inPairOrder_ite (fun _ => inPairOrder_plain rfl) ?_
  refine inPairOrder_ite inPairOrder_plain ?_
  refine inPairOrder_ite inPairOrder_acc ?_
  refine inPairOrder_ite inPairOrder_acc ?_
  refine inPairOrder_ite inPairOrder_plain ?_
  refine inPairOrder_ite (fun ho => by unfold State.storeDispatch; exact inPairOrder_plain ho) ?_
  refine inPairOrder_ite (fun _ => inPairOrder_plain rfl) ?_
  refine inPairOrder_ite inPairOrder_plain ?_
  refine inPairOrder_ite inPairOrder_acc ?_
  refine inPairOrder_ite (fun _ => inPairOrder_plain rfl) ?_
  refine inPairOrder_ite (fun _ => by unfold State.engCtrl; exact inPairOrder_plain rfl) ?_
  refine inPairOrder_ite inPairOrder_plain ?_
  refine inPairOrder_ite (fun _ => inPairOrder_plain rfl) ?_
  refine inPairOrder_ite inPairOrder_acc ?_
  refine inPairOrder_ite inPairOrder_plain ?_
  refine inPairOrder_ite (fun _ => inPairOrder_plain rfl) ?_
  exact inPairOrder_ite inPairOrder_plain (inPairOrder_plain rfl)

/-- The second half of a pair of which no value is pending is refused, whatever the register, and changes nothing. -/
theorem rwcWrite_unpended {s : State} {h o : Nat} {vn : Word} {r : Row} (hp : s.pendingOf h o = none)
    (hf : s.fusedPage (pageOf o) = false) : s.rwcWrite h o vn r = (s, .complementMismatch) := by
  obtain ⟨checks, act, hw⟩ := rwcWrite_inPairOrder s h o vn r
  simp [hw, State.rwcComplementAcc, hp, hf]

/-- A second half that is not the complement of the pending value empties the holder and is refused, whatever the register. -/
theorem rwcWrite_mismatch {s : State} {h o : Nat} {v vn : Word} {r : Row} (hp : s.pendingOf h o = some v) (hv : vn ≠ ~~~ v) :
    s.rwcWrite h o vn r = (s.emptied h o, .complementMismatch) := by
  obtain ⟨checks, act, hw⟩ := rwcWrite_inPairOrder s h o vn r
  simp [hw, State.rwcComplementAcc, hp, hv]

/-- A register whose value waits for its complement is no word that a write mends. -/
theorem mended_value {s : State} {o : Nat} {r : Row} (hr : rowAt o = some r) (hc : r.cls = .rwc) : s.mended o = s := by
  simp [State.mended, waitsForPair, clsAt, hr, hc]

/-- The state with other armed keys and pending values. -/
def State.withPending (s : State) (keys : List (Nat × Nat)) (holder : List (Nat × Word)) : State :=
  { s with hosts := { s.hosts with keys := keys, holder := holder } }

/-- No register of a block shows an armed key or a pending value. -/
theorem pageWord_withPending (s : State) (keys : List (Nat × Nat)) (holder : List (Nat × Word)) (o : Nat) :
    (s.withPending keys holder).pageWord o = s.pageWord o := by
  have hb : (s.withPending keys holder).blockWord = s.blockWord := rfl
  have hw : (s.withPending keys holder).wiped = s.wiped := rfl
  have hu : (s.withPending keys holder).usable (o / 0x1000) = s.usable (o / 0x1000) := rfl
  cases hs : s.usable (o / 0x1000) <;> simp [State.pageWord, hu, hs, hb, hw]

/-- Of a host's window only LOCK shows an armed key, and no word a pending value. -/
theorem readWord_withPending (s : State) (keys : List (Nat × Nat)) (holder : List (Nat × Word)) {k o : Nat}
    (ho : o < 0x1000000) (hl : o % 0x1000 ≠ 0x24) : (s.withPending keys holder).readWord k o = s.readWord k o := by
  have hc : (s.withPending keys holder).corrupted o = s.corrupted o := rfl
  have hh : (s.withPending keys holder).headerWord k (o / 0x1000) (o % 0x1000) = s.headerWord k (o / 0x1000) (o % 0x1000) := by
    simp only [State.headerWord, hl, if_false]
    rfl
  have hlo : ¬ 0x1000000 ≤ o := by omega
  simp only [State.readWord, hc, hlo, if_false, hh, pageWord_withPending]

end Sys2Proof.Machine

open Sys2Proof Sys2Proof.Machine

/-- Settles O56: an accepted value half changes armed keys and pending values alone, which no register shows; a second half
without a first is refused whatever the register. -/
theorem pendingPairsAreNotRead : Obligations.PendingPairsAreNotRead := by
  unfold Obligations.PendingPairsAreNotRead
  refine ⟨fun s h o v r hh hlo h4 hl h40 hr hc hok => ?_, fun s h o vn r hh hlo h4 hl h40 hr hc hn hp hf => ?_⟩
  · rw [hostWrite_register h4 hlo hl h40] at hok ⊢
    have hv : (s.disarm h (pageOf o)).regWrite h o v = (s.disarm h (pageOf o)).valueWrite h o v r := by
      simp [State.regWrite, hr, hc]
    have hst : ((s.disarm h (pageOf o)).valueWrite h o v r).2 = .ok := by
      by_contra hne
      simp [hv, hne] at hok
    have hread (k x : Nat) := readWord_withPending (k := k) (o := x) s (Map.remove (h * 0x1000 + pageOf o) s.hosts.keys)
      (Map.insert (winKey h o) v s.hosts.holder)
    simp only [hv, valueWrite_accepted hst, if_true, mended_value hr hc]
    have hlast : o / 0x1000 ≠ 0xFFF := fun hpage => absurd (hpage ▸ hl) (by decide)
    exact ⟨pendingOf_placed .., rfl, fun k => ⟨hread k o hlo (by omega), hread k (o + 4) (by omega) (by omega)⟩⟩
  · rw [hostWrite_register (by omega) hlo hl h40]
    have hw : (s.disarm h (pageOf (o + 4))).regWrite h (o + 4) vn = (s.disarm h (pageOf (o + 4)), .complementMismatch) := by
      rw [regWrite_pair hn hr hc]
      exact rwcWrite_unpended hp (by rw [pageOf_window (o := o) (by omega)]; exact hf)
    simp [hw, State.refuse]

end

section
/-! PROOFS. ERRCODE (R17): what a host's accesses do to the words of the host windows. -/

namespace Sys2Proof.Machine

/-! ## The words of the host windows -/

theorem win_of_lasting {s t : State} (ht : t.lasting = s.lasting) : t.hosts.win = s.hosts.win := congrArg Lasting.win ht

theorem winKey_inj {h k o x : Nat} (ho : o < 0x2000000) (hx : x < 0x2000000) : winKey k x = winKey h o ↔ k = h ∧ x = o := by
  unfold winKey
  omega

theorem win_putWin {s : State} {h o : Nat} {v : Word} (hw : Map.wf (fun _ => 0#32) s.hosts.win = true) (ho : o < 0x2000000)
    {k x : Nat} (hx : x < 0x2000000) : (s.putWin h o v).win k x = if k = h ∧ x = o then v else s.win k x := by
  by_cases hk : winKey k x = winKey h o
  · rw [if_pos ((winKey_inj ho hx).mp hk)]
    simp [State.win, State.putWin, hk, Map.get_put_self hw]
  · rw [if_neg fun hc => hk ((winKey_inj ho hx).mpr hc)]
    exact Map.get_put_other hk

/-- A refusal leaves its status in ERRCODE, and every other word of the host windows as it was. -/
theorem refuse_lasting (s : State) (h page o : Nat) (st : Status) :
    (s.refuse h page o st).lasting = (s.putWin h (page * 0x1000 + 0x28) (wd st.code)).lasting := by
  unfold State.refuse
  dsimp only
  split
  · rw [State.event_lasting]
  · split
    · rw [State.event_lasting]
    · rfl

theorem errcode_refuse {s : State} {h page o : Nat} {st : Status} (hw : Map.wf (fun _ => 0#32) s.hosts.win = true)
    (hp : page < 0x1000) {k q : Nat} (hq : q < 0x1000) :
    (s.refuse h page o st).win k (q * 0x1000 + 0x28) =
      if k = h ∧ q = page then wd st.code else s.win k (q * 0x1000 + 0x28) := by
  have he := win_of_lasting (refuse_lasting s h page o st)
  have hput := win_putWin (v := wd st.code) (h := h) (k := k) hw (show page * 0x1000 + 0x28 < 0x2000000 by omega)
    (show q * 0x1000 + 0x28 < 0x2000000 by omega)
  have hi : (q * 0x1000 + 0x28 = page * 0x1000 + 0x28) ↔ q = page := by omega
  simp only [hi] at hput
  rw [← hput]
  simp only [State.win, he]

/-! ## Which writes leave them -/

/-- A second half that is refused changes no word of the host windows. -/
theorem rwcComplement_refused_lasting {s : State} {h o : Nat} {vn : Word} {checks : Word → State → List (Bool × Status)}
    {act : Word → State → State} (hr : (s.rwcComplement h o vn checks act).2 ≠ .ok) :
    (s.rwcComplement h o vn checks act).1.lasting = s.lasting := by
  revert hr
  unfold State.rwcComplement
  split
  · simp
  · dsimp only
    split
    · simp
    · unfold State.judged
      dsimp only
      split <;> simp

/-- Only the software reset, carried out, changes more of the windows than the access itself. -/
theorem rwcWrite_lasting_of_refused {s : State} {h o : Nat} {vn : Word} {r : Row} (hr : (s.rwcWrite h o vn r).2 ≠ .ok) :
    (s.rwcWrite h o vn r).1.lasting = s.lasting := by
  by_cases ho : o = A.DBG_SWRST
  · subst ho
    revert hr
    unfold State.rwcWrite
    rw [if_neg (by decide), if_neg (by decide), if_pos rfl]
    exact rwcComplement_refused_lasting
  · exact State.rwcWrite_lasting ho

theorem regWrite_lasting {s : State} {h o : Nat} {v : Word} (hr : (s.regWrite h o v).2 ≠ .ok ∨ o ≠ A.DBG_SWRST + 4) :
    (s.regWrite h o v).1.lasting = s.lasting := by
  revert hr
  unfold State.regWrite
  split
  next r hrow => split <;> simp
  next hrow =>
    split
    next r hprev =>
      split
      next hc =>
        have hpos : 0 < A.DBG_SWRST := by decide
        rintro (hr | ho)
        · exact rwcWrite_lasting_of_refused hr
        · exact State.rwcWrite_lasting fun hx => ho (by omega)
      next hc => simp
    next hprev => simp

theorem headerWrite_lasting_of_refused {s : State} {h page off : Nat} {v : Word} (hr : (s.headerWrite h page off v).2 ≠ .ok) :
    (s.headerWrite h page off v).1.lasting = s.lasting := by
  revert hr
  unfold State.headerWrite
  (repeat' split) <;> simp

/-- A write of the header changes ERRCODE only where it is the word written. -/
theorem headerWrite_errcode {s : State} {h page off : Nat} {v : Word} (hw : Map.wf (fun _ => 0#32) s.hosts.win = true)
    (hp : page < 0x1000) (hoff : off ≠ 0x28) {k q : Nat} (hq : q < 0x1000) :
    (s.headerWrite h page off v).1.win k (q * 0x1000 + 0x28) = s.win k (q * 0x1000 + 0x28) := by
  have hput : (s.putWin h (page * 0x1000 + 0x1C) v).win k (q * 0x1000 + 0x28) = s.win k (q * 0x1000 + 0x28) := by
    rw [win_putWin hw (by omega) (by omega), if_neg (by omega)]
  have hl := win_of_lasting (s.lockWrite_lasting h page v)
  have hi := win_of_lasting (s.ignored_lasting h page)
  unfold State.headerWrite
  split
  · rfl
  split
  · rfl
  split
  · rfl
  split
  · exact hput
  split
  · rfl
  split
  · simp only [State.win, hl]
  split
  · simp only [State.win, hi]
  · rfl

theorem listedWrite_lasting_of_refused {s : State} {h o : Nat} {v : Word} (hr : (s.listedWrite h o v).2 ≠ .ok) :
    (s.listedWrite h o v).1.lasting = s.lasting := by
  revert hr
  unfold State.listedWrite
  split
  · exact headerWrite_lasting_of_refused
  · exact fun hr => regWrite_lasting (.inl hr)

theorem listedWrite_errcode {s : State} {h o : Nat} {v : Word} (hw : Map.wf (fun _ => 0#32) s.hosts.win = true)
    (hlo : o < 0x1000000) (h28 : o % 0x1000 ≠ 0x28) (hsw : o ≠ A.DBG_SWRST + 4) {k q : Nat} (hq : q < 0x1000) :
    (s.listedWrite h o v).1.win k (q * 0x1000 + 0x28) = s.win k (q * 0x1000 + 0x28) := by
  unfold State.listedWrite
  split
  · exact headerWrite_errcode hw (by omega) h28 hq
  · simp only [State.win, win_of_lasting (regWrite_lasting (s := s) (h := h) (v := v) (.inr hsw))]

theorem mended_win (s : State) (o k x : Nat) : (s.mended o).win k x = s.win k x := by simp only [State.win, State.mended_hosts]

/-! ## ERRCODE after a write and after a read -/

theorem hostWrite_errcode_refused {s : State} {h o : Nat} {v : Word} (hw : Map.wf (fun _ => 0#32) s.hosts.win = true)
    (h4 : o % 4 = 0) (hlo : o < 0x1000000) (hl : listed (o / 0x1000) = true) (hr : (s.hostWrite h o v).2 ≠ .ok)
    {k q : Nat} (hq : q < 0x1000) :
    (s.hostWrite h o v).1.win k (q * 0x1000 + 0x28) =
      if k = h ∧ q = o / 0x1000 then wd (s.hostWrite h o v).2.code else s.win k (q * 0x1000 + 0x28) := by
  rw [hostWrite_listed h4 hlo hl] at hr ⊢
  dsimp only at hr ⊢
  by_cases hok : ((s.disarm h (pageOf o)).listedWrite h o v).2 = .ok
  · simp [hok] at hr
  · have hlast : ((s.disarm h (pageOf o)).listedWrite h o v).1.hosts.win = s.hosts.win :=
      win_of_lasting (listedWrite_lasting_of_refused hok)
    rw [if_neg hok, pageOf_window hlo] at *
    rw [errcode_refuse (by rw [hlast]; exact hw) (by omega) hq]
    simp only [State.win, hlast]

theorem hostWrite_errcode_accepted {s : State} {h o : Nat} {v : Word} (hw : Map.wf (fun _ => 0#32) s.hosts.win = true)
    (h4 : o % 4 = 0) (hlo : o < 0x1000000) (hl : listed (o / 0x1000) = true) (hr : (s.hostWrite h o v).2 = .ok)
    (h28 : o % 0x1000 ≠ 0x28) (hsw : o ≠ A.DBG_SWRST + 4) {k q : Nat} (hq : q < 0x1000) :
    (s.hostWrite h o v).1.win k (q * 0x1000 + 0x28) = s.win k (q * 0x1000 + 0x28) := by
  rw [hostWrite_listed h4 hlo hl] at hr ⊢
  dsimp only at hr ⊢
  by_cases hok : ((s.disarm h (pageOf o)).listedWrite h o v).2 = .ok
  · rw [if_pos hok, mended_win, listedWrite_errcode (s := s.disarm h (pageOf o)) hw hlo h28 hsw hq]
    rfl
  · simp [hok] at hr

/-- A write of ERRCODE that no lifecycle change and no fence refuses. -/
theorem hostWrite_errcode (s : State) {h page : Nat} (v : Word) (hp : page < 0x1000) (hl : listed page = true)
    (hwipe : s.wiping = false) (hf : s.fencedPage page = false) :
    s.hostWrite h (page * 0x1000 + 0x28) v =
      (((s.disarm h page).putWin h (page * 0x1000 + 0x28) 0#32).mended (page * 0x1000 + 0x28), .ok) := by
  have e1 : (page * 0x1000 + 0x28) / 0x1000 = page := by omega
  have e2 : (page * 0x1000 + 0x28) % 0x1000 = 0x28 := by omega
  have hpage : pageOf (page * 0x1000 + 0x28) = page := by rw [pageOf_window (by omega), e1]
  have hw : (s.disarm h page).wiping = false := hwipe
  rw [hostWrite_listed (by omega) (by omega) (by rw [e1]; exact hl), hpage]
  simp [State.listedWrite, e1, e2, State.headerWrite, hf, hw]

theorem hostRead_errcode {s : State} {h o : Nat} (hw : Map.wf (fun _ => 0#32) s.hosts.win = true) {k q : Nat} (hq : q < 0x1000) :
    (s.hostRead h o).1.win k (q * 0x1000 + 0x28) =
      if (s.hostRead h o).2.2 ≠ .ok ∧ k = h ∧ q = o / 0x1000 then wd (s.hostRead h o).2.2.code
      else s.win k (q * 0x1000 + 0x28) := by
  unfold State.hostRead
  dsimp only
  split
  next hdata =>
    obtain ⟨ho, hst⟩ := hdata
    have hpage : o / 0x1000 = 2 := by subst ho; decide
    rw [errcode_refuse hw (by decide) hq, hpage]
    simp
  next =>
    split
    · simp [State.win]
    · split
      · simp [State.win]
      · split <;> simp [State.win]

end Sys2Proof.Machine

open Sys2Proof Sys2Proof.Machine

/-- Settles O55: a refusal writes the ERRCODE of its host and page, an access that is accepted writes none but where ERRCODE
is the word written, and a read refuses only DBG_ENG_DATA. -/
theorem errcodeHoldsTheLastRefusal : Obligations.ErrcodeHoldsTheLastRefusal := by
  unfold Obligations.ErrcodeHoldsTheLastRefusal
  refine ⟨fun s h o v hs hh hlo h4 hl => ⟨fun hr k q hk hq => ?_, fun hr h28 hsw k q hk hq => ?_⟩,
    fun s h page v hs hh hp hl hwipe hf => ⟨?_, ?_, fun k q hk hq hne => ?_⟩, fun s h o hs hh hlo k q hk hq => ?_⟩
  all_goals obtain ⟨-, -, -, -, hw, -⟩ := hs
  · exact hostWrite_errcode_refused hw h4 hlo hl hr hq
  · exact hostWrite_errcode_accepted hw h4 hlo hl hr h28 hsw hq
  · rw [hostWrite_errcode s v hp hl hwipe hf]
  · rw [hostWrite_errcode s v hp hl hwipe hf, mended_win, win_putWin (s := s.disarm h page) hw (by omega) (by omega)]
    simp
  · rw [hostWrite_errcode s v hp hl hwipe hf, mended_win, win_putWin (s := s.disarm h page) hw (by omega) (by omega),
      if_neg (by omega)]
    rfl
  · exact hostRead_errcode hw hq

end

section
/-! PROOFS. A write of the cell table in WAKE (R59, R143): the case that refutes `TableWritesStore`. -/

namespace Sys2Proof.Machine

/-! ## What follows a command in WAKE leaves the written words -/

theorem raiseAs_regs (s : State) (settled : Option Bool) (e : Event) : (s.raiseAs settled e).regs = s.regs := rfl
theorem raiseAs_pwr (s : State) (settled : Option Bool) (e : Event) : (s.raiseAs settled e).pwr = s.pwr := rfl

theorem raiseAll_regs_pwr (l : List (Event × Option Bool)) (s : State) :
    (l.foldl (fun (s : State) x => s.raiseAs x.2 x.1) s).regs = s.regs ∧
      (l.foldl (fun (s : State) x => s.raiseAs x.2 x.1) s).pwr = s.pwr := by
  induction l generalizing s with
  | nil => exact ⟨rfl, rfl⟩
  | cons x l ih =>
    obtain ⟨hr, hp⟩ := ih (s.raiseAs x.2 x.1)
    exact ⟨hr, hp⟩

theorem flushOwn_regs_pwr (n : Nat) (s : State) : (s.flushOwn n).regs = s.regs ∧ (s.flushOwn n).pwr = s.pwr := by
  induction n generalizing s with
  | zero => exact ⟨rfl, rfl⟩
  | succ n ih =>
    obtain ⟨hr, hp⟩ := raiseAll_regs_pwr s.ev.own { s with ev := { s.ev with own := [] } }
    rw [State.flushOwn, (ih _).1, (ih _).2]
    exact ⟨hr, hp⟩

theorem ptpFollow_regs_pwr (s : State) : s.ptpFollow.regs = s.regs ∧ s.ptpFollow.pwr = s.pwr := by
  unfold State.ptpFollow
  dsimp only
  constructor <;> (repeat' split) <;> simp

/-- Neither a running beat, a decided mode, a close sequence, a transfer nor the boundary-scan port acts after a command. -/
structure State.AtRest (s : State) : Prop where
  live : s.live = true
  beats : s.ang.beats = false
  next : s.modes.next = none
  cur : s.modes.cur = .wake
  xfer : s.grd.xfer = .none
  scan : s.pwr.scan = none
  ir : s.pwr.ir = 1

theorem settle_regs_of_atRest {s : State} (hs : s.AtRest) : s.settle.regs = s.regs := by
  have hlock : s.afterLock = s := by simp [State.afterLock, hs.cur, hs.xfer]
  have hnext : s.modeNext = s := by simp [State.modeNext, hs.next]
  obtain ⟨hpr, hpp⟩ := ptpFollow_regs_pwr s
  have hrr : s.ptpFollow.readyTime.regs = s.regs := by unfold State.readyTime; split <;> simp [hpr]
  have hrp : s.ptpFollow.readyTime.pwr.scan = none ∧ s.ptpFollow.readyTime.pwr.ir = 1 := by
    unfold State.readyTime
    split <;> simp [hpp, hs.scan, hs.ir]
  obtain ⟨hfr, hfp⟩ := flushOwn_regs_pwr 3 s.ptpFollow.readyTime
  have hscan : (s.ptpFollow.readyTime.flushOwn 3).scanFollow = s.ptpFollow.readyTime.flushOwn 3 := by
    simp [State.scanFollow, State.scanWanted, hfp, hrp]
  simp [State.settle, hs.live, hs.beats, hnext, hlock, hscan, hfr, hrr]

/-- The device after reset, in WAKE, the block of the cell rings claimed by host 0: cell 0 stands in the role retired. -/
def wakeClaimed : State := { State.reset with hosts := { State.reset.hosts with claims := [(0x50, 0)] } }

theorem wakeClaimed_canon : wakeClaimed.Canon := by decide +kernel
theorem wakeClaimed_admits : wakeClaimed.admits 0 0x50 mStop = true := by decide +kernel
theorem wakeClaimed_entryOk : wakeClaimed.cellEntryOk 0 0 1#32 = true := by decide +kernel

/-- In WAKE the write of cell 0's role from retired to spare is NOT_IN_MODE, and stores nothing. -/
theorem wakeClaimed_refuses : (wakeClaimed.hostPut 0 (A.CELL 0 0) 1#32).settle.regs = [] := by decide +kernel

end Sys2Proof.Machine

open Sys2Proof Sys2Proof.Machine

/-- Refutes O8: its first clause admits a write of word 0x00 in every mode of `mStop`, WAKE among them, but a write that only
takes a role from retired to spare is judged by the modes of R59 alone, which leave WAKE out. -/
theorem not_tableWritesStore : ¬ Obligations.TableWritesStore := by
  unfold Obligations.TableWritesStore
  rintro ⟨hstore, -⟩
  obtain ⟨t, hnext, hword, -, hframe⟩ := hstore wakeClaimed 0 0 0 1#32 wakeClaimed_canon (by decide) (by decide) (by decide)
    (by decide) (by decide) (by decide) wakeClaimed_admits wakeClaimed_entryOk fun hreturns => absurd hreturns (by decide +kernel)
  have hsettle : (wakeClaimed.hostPut 0 (A.CELL 0 0) 1#32).settle = t.settle := Host.Outcome.next.inj hnext
  have hrest : t.AtRest := by
    rw [hframe]
    exact ⟨rfl, rfl, rfl, rfl, rfl, rfl, rfl⟩
  have hregs : t.regs = [] := by rw [← settle_regs_of_atRest hrest, ← hsettle, wakeClaimed_refuses]
  have hzero := hword (A.CELL 0 0)
  rw [if_pos rfl, State.reg, hregs] at hzero
  exact absurd hzero (by decide)

end

section
/-! PROOFS. The words of a page header, claims and keys (R17, R346 to R350). -/

namespace Sys2Proof.Machine

/-! ## Answers -/

/-- A command whose condition holds answers what it does. -/
theorem gives_running {s : State} {c : Bool} {f : State → State} {p : State → Prop} (hl : s.live = true) (hc : c = true)
    (hp : p (f s)) : Gives (running s c f) p :=
  ⟨f s, by simp [running, answer, hl, hc], hp⟩

theorem gives_byHost {s : State} {h : Nat} {f : State → State} {p : State → Prop} (hl : s.live = true) (hh : h < 4)
    (hp : p (f s)) : Gives (byHost s h f) p :=
  ⟨f s, by simp [byHost, answer, hl, hh], hp⟩

/-- A write of a word of a page header that is not refused. -/
theorem gives_header {s t : State} {h page off : Nat} {v : Word} {p : State → Prop} (hl : s.live = true) (hh : h < 4)
    (hpage : listed page = true) (hoff : off < 0x40) (h4 : off % 4 = 0)
    (hb : (s.disarm h page).headerWrite h page off v = (t, .ok)) (hp : p (t.mended (page * 0x1000 + off))) :
    Gives (header s h page off v) p :=
  ⟨_, header_ok hl hh (listed_lt hpage) hpage hoff h4 hb, hp⟩

theorem headerWrite_lock (s : State) (h page : Nat) (v : Word) : s.headerWrite h page 0x24 v = s.lockWrite h page v := by
  simp [State.headerWrite]

/-! ## IRQ_STAT -/

/-- Following the page interrupts sends messages and leaves the flags. -/
theorem followIrqs_irq (s : State) (f : Fabric) : (s.followIrqs f).irq = f.irq := by
  have hone (f : Fabric) (h : Nat) : (s.followIrq f h).irq = f.irq := by
    unfold State.followIrq
    dsimp only
    split
    · unfold Fabric.msix
      dsimp only
      (repeat' split) <;> rfl
    · rfl
  simp only [State.followIrqs, hone]

/-! ## Claims -/

theorem blockOf_hst {page : Nat} : 0xD0 ≤ blockOf page ∧ blockOf page < 0xD4 ↔ 0xD0 ≤ page ∧ page < 0xD4 := by
  unfold blockOf
  split
  · omega
  · split <;> omega

/-- A claim is held where the list of claims has its block, or by the host of the page itself. -/
theorem holderOf_eq (s : State) (page : Nat) :
    s.holderOf page = match s.hosts.claims.find? fun p => p.1 == blockOf page with
      | some p => some p.2
      | none => if 0xD0 ≤ blockOf page ∧ blockOf page < 0xD4 then some (blockOf page - 0xD0) else none := rfl

/-- Who holds a page depends on the entry of its block alone. -/
theorem holderOf_congr {s t : State} {page : Nat}
    (hf : (t.hosts.claims.find? fun p => p.1 == blockOf page) = s.hosts.claims.find? fun p => p.1 == blockOf page) :
    t.holderOf page = s.holderOf page := by
  rw [holderOf_eq, holderOf_eq, hf]

/-- A block nobody holds is claimed: the host holds it, and no other claim changes. -/
theorem claim_free {s : State} {h page : Nat} (hf : s.fusedPage page = false) (hn : s.holderOf page = none)
    (hb : s.bootApplying = false) (hw : s.wiping = false) :
    s.claim h page 0 =
      ({ s with hosts := { s.hosts with claims := Map.insert (blockOf page) h s.hosts.claims } }, .ok) := by
  simp [State.claim, hf, hn, hb, hw, firstOf]

theorem holderOf_insert {s t : State} {h page : Nat}
    (ht : t.hosts.claims = Map.insert (blockOf page) h s.hosts.claims) :
    t.holderOf page = some h ∧ ∀ p, blockOf p ≠ blockOf page → t.holderOf p = s.holderOf p := by
  refine ⟨?_, fun p hp => holderOf_congr ?_⟩
  · rw [holderOf_eq, ht, Map.find?_insert_self]
  · rw [ht, Map.find?_insert_other _ _ hp]

theorem holderOf_remove {s t : State} {page : Nat} (hr : Map.rising s.hosts.claims = true)
    (hhst : ¬ (0xD0 ≤ page ∧ page < 0xD4)) (ht : t.hosts.claims = Map.remove (blockOf page) s.hosts.claims) :
    t.holderOf page = none ∧ ∀ p, blockOf p ≠ blockOf page → t.holderOf p = s.holderOf p := by
  refine ⟨?_, fun p hp => holderOf_congr ?_⟩
  · rw [holderOf_eq, ht, Map.find?_remove_self hr]
    exact if_neg fun hc => hhst (blockOf_hst.mp hc)
  · rw [ht, Map.find?_remove_other _ hp]

/-- The end of a claim takes the block's entry out, and changes nothing but the host windows and an open profile edit. -/
theorem claimEnds_claims (s : State) (h page : Nat) :
    (s.claimEnds h page).hosts.claims = Map.remove (blockOf page) s.hosts.claims := by
  unfold State.claimEnds
  dsimp only
  split <;> rfl

theorem claimEnds_frame (s : State) (h page : Nat) :
    s.claimEnds h page = { s with hosts := (s.claimEnds h page).hosts, rti := (s.claimEnds h page).rti } := by
  unfold State.claimEnds
  dsimp only
  split <;> rfl

theorem release_held {s : State} {h page : Nat} (ho : s.owns h page = true) (hhst : ¬ (0xD0 ≤ page ∧ page < 0xD4))
    (hw : s.wiping = false) : s.release h page 0 = (s.claimEnds h page, .ok) := by
  have hd : (decide (0xD0 ≤ page) && decide (page < 0xD4)) = false := by simpa using hhst
  simp [State.release, ho, hd, hw, firstOf]

theorem breakOp_held {s : State} {x page : Nat} (hx : s.holderOf page = some x) (hhst : ¬ (0xD0 ≤ page ∧ page < 0xD4))
    (hm : s.modes.cur = .service) (hw : s.wiping = false) :
    s.breakOp 0 page 0 = ((s.claimEnds x page).eventTo (2 ^ x ||| 1) (0xD0 + x) 33 (blockOf page), .ok) := by
  have hd : (decide (0xD0 ≤ page) && decide (page < 0xD4)) = false := by simpa using hhst
  simp [State.breakOp, hx, hd, hm, hw, firstOf]

/-! ## Keys -/

theorem keyOp_owner {s : State} {h page : Nat} (ho : s.owns h page = true) (hw : s.wiping = false) :
    s.keyOp h page (0xFFFF - blockOf page) =
      ({ s with hosts := { s.hosts with keys := Map.insert (h * 0x1000 + page) (s.now + ms 10) s.hosts.keys } }, .ok) := by
  simp [State.keyOp, ho, hw, firstOf]

theorem lockWrite_claim (s : State) (h page : Nat) : s.lockWrite h page (lockWord 0xC1 0) = s.claim h page 0 := by
  unfold State.lockWrite
  exact if_pos (by decide)

theorem lockWrite_release (s : State) (h page : Nat) : s.lockWrite h page (lockWord 0xC2 0) = s.release h page 0 := by
  unfold State.lockWrite
  dsimp only
  rw [if_neg (by decide), if_pos (by decide)]
  rfl

theorem lockWrite_break (s : State) (h page : Nat) : s.lockWrite h page (lockWord 0xC3 0) = s.breakOp h page 0 := by
  unfold State.lockWrite
  dsimp only
  rw [if_neg (by decide), if_neg (by decide), if_pos (by decide)]
  rfl

theorem lockWrite_key (s : State) (h page : Nat) (arg : BitVec 24) :
    s.lockWrite h page (lockWord 0xC4 arg) = s.keyOp h page arg.toNat := by
  have hlt := arg.isLt
  have hword : (lockWord 0xC4 arg).toNat = 0xC4 * 0x1000000 + arg.toNat := by
    rw [lockWord, wd, BitVec.toNat_ofNat, Nat.mod_eq_of_lt (by omega)]
  have hop : fld (lockWord 0xC4 arg) 24 8 = 0xC4 := by rw [fld, hword]; omega
  have harg : fld (lockWord 0xC4 arg) 0 24 = arg.toNat := by rw [fld, hword]; omega
  simp [State.lockWrite, hop, harg]

end Sys2Proof.Machine

open Sys2Proof Sys2Proof.Machine

/-- Settles O1: each write of the header, looked up in its own rule, changes the host windows, the flags or the claim. -/
theorem headerAndClaimsComplete : Obligations.HeaderAndClaimsComplete := by
  unfold Obligations.HeaderAndClaimsComplete
  refine ⟨?_, ?_, ?_, ?_, ?_, ?_, ?_⟩
  · intro s h page v hs hlive hh hl hwipe hf
    obtain ⟨-, -, -, -, hwf, -⟩ := hs
    have hp := listed_lt hl
    refine gives_header (t := (s.disarm h page).putWin h (page * 0x1000 + 0x28) 0#32) hlive hh hl (by decide) (by decide)
      (by simp [State.headerWrite, hf, show (s.disarm h page).wiping = false from hwipe]) ⟨?_, ?_⟩
    · rw [mended_win, win_putWin (s := s.disarm h page) hwf (by omega) (by omega)]
      simp
    · rw [mended_eq]
      rfl
  · intro s h page v hs hlive hh hl hwipe hf
    obtain ⟨-, -, -, hwf, -⟩ := hs
    have hp := listed_lt hl
    refine gives_header (t := { s.disarm h page with ev := (s.disarm h page).followIrqs ({ s.ev with
        irq := Map.put (fun _ => 0#32) (h * 0x1000 + page) (s.ev.flags h page &&& ~~~ v) s.ev.irq } : Fabric) }) hlive hh hl (by decide) (by decide)
      (by simp [State.headerWrite, hf, show (s.disarm h page).wiping = false from hwipe]) ⟨?_, fun k hk => ?_, ?_⟩
    · rw [State.mended_ev, Fabric.flags, followIrqs_irq]
      exact Map.get_put_self hwf
    · rw [State.mended_ev, followIrqs_irq]
      exact Map.get_put_other hk
    · rw [mended_eq]
      rfl
  · intro s h page hlive hh hl hf hn hb hwipe
    obtain ⟨hself, hother⟩ := holderOf_insert (s := s) (h := h) (page := page)
      (t := ({ s.disarm h page with hosts := { (s.disarm h page).hosts with
        claims := Map.insert (blockOf page) h s.hosts.claims } } : State).mended (page * 0x1000 + 0x24))
      (by rw [State.mended_hosts])
    refine gives_header hlive hh hl (by decide) (by decide)
      (by rw [headerWrite_lock, lockWrite_claim, claim_free (s := s.disarm h page) hf hn hb hwipe]; rfl) ⟨hself, hother, ?_⟩
    rw [mended_eq]
    rfl
  · intro s h page hlive hh hl hc ho hhst hwipe
    obtain ⟨hself, hother⟩ := holderOf_remove (s := s) (page := page)
      (t := ((s.disarm h page).claimEnds h page).mended (page * 0x1000 + 0x24)) hc.1 hhst
      (by rw [State.mended_hosts, claimEnds_claims]; rfl)
    refine gives_header hlive hh hl (by decide) (by decide)
      (by rw [headerWrite_lock, lockWrite_release, release_held (s := s.disarm h page) ho hhst hwipe]) ⟨hself, hother, ?_⟩
    rw [mended_eq, claimEnds_frame]
    rfl
  · intro s x page hlive hl hc hx hhst hm hwipe
    obtain ⟨hself, hother⟩ := holderOf_remove (s := s) (page := page)
      (t := (((s.disarm 0 page).claimEnds x page).eventTo (2 ^ x ||| 1) (0xD0 + x) 33 (blockOf page)).mended
        (page * 0x1000 + 0x24)) hc.1 hhst
      (by rw [State.mended_hosts, State.eventTo_hosts, claimEnds_claims]; rfl)
    refine gives_header hlive (by decide) hl (by decide) (by decide)
      (by rw [headerWrite_lock, lockWrite_break, breakOp_held (s := s.disarm 0 page) hx hhst hm hwipe]) ⟨hself, hother, ?_⟩
    rw [mended_eq, claimEnds_frame]
    rfl
  · intro s h page hlive hh hl ho hwipe
    have harg : (BitVec.ofNat 24 (0xFFFF - blockOf page)).toNat = 0xFFFF - blockOf page := by
      rw [BitVec.toNat_ofNat]
      exact Nat.mod_eq_of_lt (by omega)
    refine gives_header hlive hh hl (by decide) (by decide)
      (by rw [headerWrite_lock, lockWrite_key, harg, keyOp_owner (s := s.disarm h page) ho hwipe]) ⟨?_, ?_⟩
    · rw [State.keyUntil, State.mended_hosts, Map.find?_insert_self]
      rfl
    · rw [mended_eq]
      rfl
  · intro s h page u hlive hh hp hr hu
    refine gives_running (c := decide (h < 4) && decide (page < 0x1000)) (f := fun s => s.keyExpires h page) hlive
      (by simp [hh, hp]) ?_
    simp only [State.keyExpires, hu]
    refine ⟨?_, rfl⟩
    rw [State.keyUntil, show ((s.advance u).disarm h page).hosts.keys = Map.remove (h * 0x1000 + page) s.hosts.keys from rfl,
      Map.find?_remove_self hr]
    rfl

end

section
/-! PROOFS. A gather entry whose reserved bits stand (R8, R95): the case that refutes `RegisterWriteStoresOneWord`. -/

namespace Sys2Proof.Machine

/-- What an accepted write may change besides its effect does not bear on what follows a command. -/
theorem atRest_of_keep {s t : State} (h : (s.keep t).AtRest) : t.AtRest := by
  obtain ⟨hlive, hbeats, hnext, hcur, hxfer, hscan, hir⟩ := h
  exact ⟨hlive, hbeats, hnext, hcur, hxfer, hscan, hir⟩

/-- The device in WAKE, every awaited block ready, the block of the converters claimed by host 0: in the first gather entry the
eight reserved bits are set. No write sets them, but the canonical form of the tables does not rule them out. -/
def gatherReserved : State :=
  { State.reset with
    regs := [(A.ADC_GATHER 0 0, 0xFF800000#32)]
    pwr := { State.reset.pwr with ready := awaited }
    hosts := { State.reset.hosts with claims := [(0x30, 0)] } }

theorem gatherReserved_canon : gatherReserved.Canon := by decide +kernel
theorem gatherReserved_admits : gatherReserved.admits 0 0x30 mStop = true := by decide +kernel
theorem gatherReserved_entryOk : entryOk (fld (gatherReserved.reg (A.ADC_SEQ_CFG 0)) 4 1) 0x800000#32 = true := by decide +kernel

/-- A write of the entry, accepted, leaves its reserved bits as they were. -/
theorem gatherReserved_keeps : (gatherReserved.transfer 0 0xF#8 (A.ADC_GATHER 0 0) 0x800000#32).settle.regs = gatherReserved.regs := by
  decide +kernel

end Sys2Proof.Machine

open Sys2Proof Sys2Proof.Machine

/-- Refutes O2: its third clause gives an accepted gather entry the whole word written, but the reserved bits of the entry keep
their value (R8), and no hypothesis says that they are 0. -/
theorem not_registerWriteStoresOneWord : ¬ Obligations.RegisterWriteStoresOneWord := by
  unfold Obligations.RegisterWriteStoresOneWord
  rintro ⟨-, -, hgather, -⟩
  obtain ⟨t, hnext, hword, -, -, -, hframe⟩ := hgather gatherReserved 0 0 0 0xF#8 0x800000#32 (by decide) gatherReserved_canon
    (by decide) (by decide) (by decide) gatherReserved_entryOk gatherReserved_admits
  have hsettle : (gatherReserved.transfer 0 0xF#8 (A.ADC_GATHER 0 0) 0x800000#32).settle = t.settle := Host.Outcome.next.inj hnext
  have hrest : t.AtRest := by
    refine atRest_of_keep (s := gatherReserved) ?_
    rw [hframe]
    exact ⟨rfl, rfl, rfl, rfl, rfl, rfl, rfl⟩
  have hregs : t.regs = gatherReserved.regs := by rw [← settle_regs_of_atRest hrest, ← hsettle, gatherReserved_keeps]
  rw [State.reg, hregs] at hword
  exact absurd hword (by decide)

end

section
/-! PROOFS. Facts the architecture proofs share: a filtered table, one bit of a word, and what entering reset leaves
(R403, R405, R450). -/

namespace Sys2Proof.Map
variable {α : Type}

/-- Filtering a table keeps the entry of a key whose every pair passes. -/
theorem get_filter_keep {d : Nat → α} {k : Nat} {p : Nat × α → Bool} (m : List (Nat × α)) (h : ∀ v, p (k, v) = true) :
    get d k (m.filter p) = get d k m := by
  induction m with
  | nil => rfl
  | cons q m ih =>
    obtain ⟨j, w⟩ := q
    by_cases hj : j = k
    · subst hj
      simp [h, get]
    · cases hp : p (j, w) <;> simp [hp, get, hj, ih]

/-- A key whose every pair is filtered out reads as if never entered. -/
theorem get_filter_drop {d : Nat → α} {k : Nat} {p : Nat × α → Bool} (m : List (Nat × α)) (h : ∀ v, p (k, v) = false) :
    get d k (m.filter p) = d k := by
  induction m with
  | nil => rfl
  | cons q m ih =>
    obtain ⟨j, w⟩ := q
    by_cases hj : j = k
    · subst hj
      simp [h, ih]
    · cases hp : p (j, w) <;> simp [hp, get, hj, ih]

end Sys2Proof.Map

namespace Sys2Proof.Machine

/-- Adding `2 ^ i` to a number whose bit `i` is clear sets that bit and no other. -/
theorem testBit_add_two_pow {w i : Nat} (hw : w.testBit i = false) (k : Nat) :
    (w + 2 ^ i).testBit k = if k = i then true else w.testBit k := by
  have heven : w / 2 ^ i % 2 = 0 := by
    rw [Nat.testBit_eq_decide_div_mod_eq, decide_eq_false_iff_not] at hw
    omega
  have hsplit (a : Nat) : (2 ^ i * a + w % 2 ^ i).testBit k = if k < i then (w % 2 ^ i).testBit k else a.testBit (k - i) :=
    Nat.testBit_two_pow_mul_add a (Nat.mod_lt _ (Nat.two_pow_pos i)) k
  have hsum : w + 2 ^ i = 2 ^ i * (w / 2 ^ i + 1) + w % 2 ^ i := by
    have := Nat.div_add_mod w (2 ^ i)
    rw [Nat.mul_add]
    omega
  have hold : w.testBit k = if k < i then (w % 2 ^ i).testBit k else (w / 2 ^ i).testBit (k - i) := by
    rw [← hsplit, Nat.div_add_mod]
  rw [hsum, hsplit, hold]
  by_cases hk : k < i
  · simp [hk, Nat.ne_of_lt hk]
  · rw [if_neg hk, if_neg hk]
    cases hd : k - i with
    | zero =>
      rw [if_pos (by omega), Nat.testBit_zero, decide_eq_true_eq]
      omega
    | succ n =>
      rw [if_neg (by omega), Nat.testBit_succ, Nat.testBit_succ]
      congr 1
      omega

theorem testBit_setBit (w i k : Nat) (b : Bool) : (setBit w i b).testBit k = if k = i then b else w.testBit k := by
  unfold setBit
  cases hw : w.testBit i with
  | false =>
    cases b with
    | false => by_cases hi : k = i <;> simp [hi, hw]
    | true => simpa using testBit_add_two_pow hw k
  | true =>
    cases b with
    | true => by_cases hi : k = i <;> simp [hi, hw]
    | false =>
      have hle : 2 ^ i ≤ w := Nat.ge_two_pow_of_testBit hw
      have hback : w - 2 ^ i + 2 ^ i = w := by omega
      have hoff : (w - 2 ^ i).testBit i = false := by
        rw [← hback, Nat.add_comm, Nat.testBit_two_pow_add_eq] at hw
        simpa using hw
      have hk := testBit_add_two_pow hoff k
      rw [hback] at hk
      by_cases hi : k = i
      · simpa [hi] using hoff
      · simpa [hi] using hk.symm

/-- What every step of a fold keeps, the fold keeps. -/
theorem foldl_keeps {α β γ : Type} {g : β → γ} {f : β → α → β} (h : ∀ b a, g (f b a) = g b) (l : List α) (b : β) :
    g (l.foldl f b) = g b := by
  induction l generalizing b with
  | nil => rfl
  | cons a l ih => rw [List.foldl_cons, ih, h]

/-- The state without the sentinel domain. -/
def State.outsideDomain (s : State) : State := { s with sen := senReset }

theorem eq_of_outsideDomain {s t : State} (h : t.outsideDomain = s.outsideDomain) : t = { s with sen := t.sen } :=
  congrArg (fun u : State => { u with sen := t.sen }) h

/-- The sentinel takes its readings without touching the device. -/
theorem senTakes_eq (s : State) : s.senTakes = { s with sen := s.senTakes.sen } := by
  refine eq_of_outsideDomain ?_
  unfold State.senTakes
  split
  · rfl
  · refine foldl_keeps (fun t k => ?_) _ s
    dsimp only
    split <;> rfl

/-- Entering reset: the state is wiped but for what the domain has taken over, and the cause is that of this reset alone where
    the device was running (R49, R450). -/
theorem intoReset_eq (s : State) (bit : Nat) : ∃ q : Sentinel, s.intoReset bit =
    { s.wiped with
      sen := q
      pwr := { s.pwr with
        dark := false, held := true, ready := 0, readyT := none, late := 0
        cause := if s.pwr.held && !s.pwr.dark then setBit s.pwr.cause bit true else 2 ^ bit
        count := if s.pwr.held && !s.pwr.dark then s.pwr.count else satInc 16 s.pwr.count 1 } } := by
  have hs : ∃ q : Sentinel, (if s.safOn then s.senTakes else s) = { s with sen := q } := by
    split
    · exact ⟨_, senTakes_eq s⟩
    · exact ⟨s.sen, rfl⟩
  obtain ⟨q, hq⟩ := hs
  refine ⟨q, ?_⟩
  unfold State.intoReset
  rw [hq]
  rfl

/-- A kept register keeps its word over a reset (R405). -/
theorem reg_keptWords_of_kept {s : State} {o : Nat} (hv : o ≠ A.RAIL_VSET 3) (ho : o ∈ keptRegs) :
    Map.get resetWord o s.keptWords = s.reg o := by
  have hk : Map.get resetWord o (s.regs.filter fun p => keptRegs.contains p.1) = s.reg o :=
    Map.get_filter_keep _ fun v => by simpa using ho
  unfold State.keptWords
  dsimp only
  split
  · rw [Map.get_put_other hv, hk]
  · exact hk

/-- A register that is not kept has its reset value after one. -/
theorem reg_keptWords_of_wiped {s : State} {o : Nat} (hv : o ≠ A.RAIL_VSET 3) (ho : o ∉ keptRegs) :
    Map.get resetWord o s.keptWords = resetWord o := by
  have hk : Map.get resetWord o (s.regs.filter fun p => keptRegs.contains p.1) = resetWord o :=
    Map.get_filter_drop _ fun v => by simpa using ho
  unfold State.keptWords
  dsimp only
  split
  · rw [Map.get_put_other hv, hk]
  · exact hk

theorem gives_answer {s : State} {c : Bool} {f : State → State} {p : State → Prop} (hc : c = true) (hp : p (f s)) :
    Gives (answer s c f) p :=
  ⟨f s, by simp [answer, hc], hp⟩

end Sys2Proof.Machine
end

section
/-! PROOFS. A cause that appears: what entering HOLD does and leaves (R43, R49, R55). -/

namespace Sys2Proof.Machine

/-- Reading a list after one entry of it has been changed. -/
theorem getD_modAt {α : Type} (f : α → α) (n m : Nat) (l : List α) (d : α) :
    (modAt f n l).getD m d = if m = n ∧ n < l.length then f (l.getD n d) else l.getD m d := by
  induction l generalizing n m with
  | nil => cases n <;> simp [modAt]
  | cons a l ih =>
    cases n with
    | zero => cases m <;> simp [modAt]
    | succ n =>
      cases m with
      | zero => simp [modAt]
      | succ m => simpa [modAt] using ih n m

theorem group_modGroup_other {s : State} {g j : Nat} (f : Group → Group) (h : j ≠ g) :
    (s.modGroup g f).group j = s.group j := by
  simp only [State.group, State.modGroup, getD_modAt, h, false_and, if_false]

theorem group_modGroup_cmd {s : State} {g : Nat} {f : Group → Group} (hf : (f (s.group g)).cmd = false) :
    ((s.modGroup g f).group g).cmd = false := by
  by_cases hg : g < s.saf.groups.length
  · simpa only [State.group, State.modGroup, getD_modAt, hg, and_self, if_true] using hf
  · simp only [State.group, State.modGroup, getD_modAt, hg, and_false, if_false]
    rw [List.getD_eq_default _ _ (Nat.le_of_not_lt hg)]
    rfl

theorem eventIf_group (s : State) (c : Bool) (page n sub : Nat) (d : List Nat) (j : Nat) :
    (s.eventIf c page n sub d).group j = s.group j := by
  simp only [State.group, State.eventIf_saf]

/-- A group turned off is not commanded. -/
theorem groupOff_off (s : State) (g : Nat) : ((s.groupOff g).group g).cmd = false := by
  unfold State.groupOff
  dsimp only
  split
  · rename_i hoff
    have hoff : (s.group g).cmd = false := by simpa using hoff
    split
    · exact group_modGroup_cmd hoff
    · exact hoff
  · rw [eventIf_group]
    exact group_modGroup_cmd rfl

theorem groupOff_other {s : State} {g j : Nat} (h : j ≠ g) : (s.groupOff g).group j = s.group j := by
  unfold State.groupOff
  dsimp only
  split
  · split
    · exact group_modGroup_other _ h
    · rfl
  · rw [eventIf_group, group_modGroup_other _ h]

theorem groupsOff_off (s : State) {g : Nat} (hg : g < 4) : (s.groupsOff.group g).cmd = false := by
  unfold State.groupsOff
  by_cases h3 : g = 3
  · subst h3
    exact groupOff_off _ _
  rw [groupOff_other h3]
  by_cases h2 : g = 2
  · subst h2
    exact groupOff_off _ _
  rw [groupOff_other h2]
  by_cases h1 : g = 1
  · subst h1
    exact groupOff_off _ _
  rw [groupOff_other h1, show g = 0 by omega]
  exact groupOff_off _ _

/-- What of the state the cut of the rings and the groups leaves alone. -/
def State.besideCut (s : State) : State :=
  { s with free := 0, rings := ringsReset, modu := moduReset, saf := safReset, ev := fabricReset, reco := recoReset }

@[simp] theorem besideCut_ite (c : Prop) [Decidable c] (s t : State) :
    (if c then s else t).besideCut = if c then s.besideCut else t.besideCut := by split <;> rfl

@[simp] theorem foldl_besideCut {α : Type} {f : State → α → State} (h : ∀ s a, (f s a).besideCut = s.besideCut) (l : List α)
    (s : State) : (l.foldl f s).besideCut = s.besideCut := foldl_keeps h l s

@[simp] theorem modRing_besideCut (s : State) (k : Nat) (f : RingSt → RingSt) : (s.modRing k f).besideCut = s.besideCut := by
  simp only [State.besideCut, State.modRing]
@[simp] theorem cutCell_besideCut (s : State) (first : Bool) (c : Nat) : (s.cutCell first c).besideCut = s.besideCut := by
  simp only [State.besideCut, State.cutCell, State.modCmod]
@[simp] theorem modGroup_besideCut (s : State) (g : Nat) (f : Group → Group) : (s.modGroup g f).besideCut = s.besideCut := by
  simp only [State.besideCut, State.modGroup]
@[simp] theorem send_besideCut (s : State) (o : Out) : (s.send o).besideCut = s.besideCut := by
  simp only [State.besideCut, State.send]
@[simp] theorem took_besideCut (s : State) (n : Nat) : (s.took n).besideCut = s.besideCut := by
  simp only [State.besideCut, State.took]
@[simp] theorem event_besideCut (s : State) (page n sub : Nat) (d : List Nat) (st : Status) :
    (s.event page n sub d st).besideCut = s.besideCut := by
  simp only [State.besideCut, State.event, State.raise, State.raiseAs]
@[simp] theorem sendCut_besideCut (s : State) (k lines : Nat) : (s.sendCut k lines).besideCut = s.besideCut := by
  simp [State.sendCut]
@[simp] theorem cutAll_besideCut (s : State) : s.cutAll.besideCut = s.besideCut := by simp [State.cutAll]
@[simp] theorem groupOff_besideCut (s : State) (g : Nat) : (s.groupOff g).besideCut = s.besideCut := by
  simp [State.groupOff, State.eventIf]
@[simp] theorem groupsOff_besideCut (s : State) : s.groupsOff.besideCut = s.besideCut := by simp [State.groupsOff]

/-- The actions of HOLD reach the rings, the modulator, the groups and the fabric alone. -/
theorem holdActs_besideCut (s : State) : s.holdActs.besideCut = s.besideCut := by
  simp only [State.holdActs, groupsOff_besideCut, send_besideCut]
  exact cutAll_besideCut s

theorem holdActs_modes (s : State) : s.holdActs.modes = s.modes := by
  have h := congrArg State.modes (holdActs_besideCut s)
  exact h

theorem trigger_onlyEvents (s : State) (src : Nat) (force : Bool) : OnlyEvents s (s.trigger src force) := by
  unfold State.trigger
  dsimp only
  (repeat' split) <;> rfl

/-- A latched bit acts as HOLD does, sets the mode's course and posts events; the causes themselves stay. -/
theorem latched_eq (s : State) (bit : Nat) :
    ∃ m : Modes, m.cond = s.modes.cond ∧ m.latch = s.modes.latch ∧
      (s.modes.cur ≠ .hold → s.modes.cur ≠ .service → m.next = some .hold ∧ m.tgt = .hold) ∧
      OnlyEvents { s.holdActs with modes := m } (s.latched bit) := by
  have habandon (m : Modes) : m.abandon.cond = m.cond ∧ m.abandon.latch = m.latch := by
    unfold Modes.abandon
    split <;> exact ⟨rfl, rfl⟩
  obtain ⟨hcond, hlatch⟩ := habandon s.modes
  unfold State.latched
  dsimp only
  rw [holdActs_modes]
  generalize s.holdActs = u
  split
  · rename_i hcur
    exact ⟨{ s.modes.abandon with next := if s.modes.trans then none else s.modes.next }, hcond, hlatch,
      fun h => absurd hcur h, rfl⟩
  · rename_i hcur
    split
    · exact ⟨{ s.modes.abandon with next := some .hold, tgt := .hold }, hcond, hlatch, fun _ h => absurd hcur h, rfl⟩
    · refine ⟨{ s.modes.abandon with next := if s.modes.trans then none else s.modes.next }, hcond, hlatch,
        fun _ h => absurd hcur h, ?_⟩
      rw [OnlyEvents, trigger_onlyEvents]
      rfl
  · exact ⟨{ s.modes.abandon with next := some .hold, tgt := .hold }, hcond, hlatch, fun _ _ => ⟨rfl, rfl⟩, rfl⟩

/-- A latched bit keeps the causes and, outside HOLD and SERVICE, sends the device to HOLD. -/
theorem latched_modes (s : State) (bit : Nat) :
    (s.latched bit).modes.cond = s.modes.cond ∧ (s.latched bit).modes.latch = s.modes.latch ∧
    (s.modes.cur ≠ .hold → s.modes.cur ≠ .service →
      (s.latched bit).modes.next = some .hold ∧ (s.latched bit).modes.tgt = .hold) := by
  obtain ⟨m, hcond, hlatch, hnext, heq⟩ := latched_eq s bit
  have hm : (s.latched bit).modes = m := by rw [heq]
  rw [hm]
  exact ⟨hcond, hlatch, hnext⟩

theorem latched_saf (s : State) (bit : Nat) : (s.latched bit).saf = s.holdActs.saf := by
  obtain ⟨m, -, -, -, heq⟩ := latched_eq s bit
  rw [heq]

theorem latched_regs (s : State) (bit : Nat) : (s.latched bit).regs = s.regs := by
  obtain ⟨m, -, -, -, heq⟩ := latched_eq s bit
  have hcut := congrArg State.regs (holdActs_besideCut s)
  rw [heq]
  exact hcut

theorem latched_pwr (s : State) (bit : Nat) : (s.latched bit).pwr = s.pwr := by
  obtain ⟨m, -, -, -, heq⟩ := latched_eq s bit
  have hcut := congrArg State.pwr (holdActs_besideCut s)
  rw [heq]
  exact hcut

/-- A latched bit leaves no group commanded. -/
theorem latched_off (s : State) (bit : Nat) {g : Nat} (hg : g < 4) : ((s.latched bit).group g).cmd = false := by
  rw [State.group, latched_saf]
  exact groupsOff_off _ hg

theorem causeOn_present {s : State} {bit : Nat} (h : s.modes.cond.testBit bit = true) : s.causeOn bit = s := by
  simp [State.causeOn, h]

/-- The state with a cause present and latched. -/
def State.withCause (s : State) (bit : Nat) : State :=
  { s with modes := { s.modes with cond := setBit s.modes.cond bit true, latch := setBit s.modes.latch bit true } }

theorem causeOn_latches {s : State} {bit : Nat} (h : s.modes.cond.testBit bit = false) (hl : s.modes.latch.testBit bit = false) :
    s.causeOn bit = (s.withCause bit).latched bit := by
  simp [State.causeOn, State.withCause, h, hl]

theorem causeOn_again {s : State} {bit : Nat} (h : s.modes.cond.testBit bit = false) (hl : s.modes.latch.testBit bit = true) :
    s.causeOn bit = { s with modes := { s.modes with cond := setBit s.modes.cond bit true } } := by
  simp [State.causeOn, h, hl]

/-- A condition that appears is present and latched. -/
theorem causeOn_appears {s : State} {bit : Nat} (h : s.modes.cond.testBit bit = false) :
    (s.causeOn bit).modes.cond.testBit bit = true ∧ (s.causeOn bit).modes.latch.testBit bit = true := by
  cases hl : s.modes.latch.testBit bit with
  | true =>
    rw [causeOn_again h hl]
    exact ⟨by simp [testBit_setBit], hl⟩
  | false =>
    obtain ⟨hcond, hlatch, -⟩ := latched_modes (s.withCause bit) bit
    rw [causeOn_latches h hl, hcond, hlatch]
    simp [State.withCause, testBit_setBit]

/-- A cause reaches neither registers nor the power unit. -/
theorem causeOn_keeps (s : State) (bit : Nat) : (s.causeOn bit).regs = s.regs ∧ (s.causeOn bit).pwr = s.pwr := by
  cases h : s.modes.cond.testBit bit with
  | true => rw [causeOn_present h]; exact ⟨rfl, rfl⟩
  | false =>
    cases hl : s.modes.latch.testBit bit with
    | true => rw [causeOn_again h hl]; exact ⟨rfl, rfl⟩
    | false =>
      rw [causeOn_latches h hl, latched_regs, latched_pwr]
      exact ⟨rfl, rfl⟩

/-- A cause not latched before leads a device outside HOLD and SERVICE to HOLD with every group off. -/
theorem causeOn_holds {s : State} {bit : Nat} (h : s.modes.cond.testBit bit = false) (hl : s.modes.latch.testBit bit = false)
    (hhold : s.modes.cur ≠ .hold) (hservice : s.modes.cur ≠ .service) :
    (s.causeOn bit).modes.next = some .hold ∧ (s.causeOn bit).modes.tgt = .hold ∧
    ∀ g, g < 4 → ((s.causeOn bit).group g).cmd = false := by
  obtain ⟨-, -, hnext⟩ := latched_modes (s.withCause bit) bit
  obtain ⟨hn, ht⟩ := hnext hhold hservice
  rw [causeOn_latches h hl]
  exact ⟨hn, ht, fun g hg => latched_off _ _ hg⟩

end Sys2Proof.Machine
end

section
/-! PROOFS. The flags an event sets: what its posting and its log entry leave alone, and that its flag stands in every window
(R346, R351). -/

namespace Sys2Proof.Machine

theorem msix_irq (f : Fabric) (now h v : Nat) : (f.msix now h v).irq = f.irq := by
  unfold Fabric.msix
  dsimp only
  (repeat' split) <;> rfl

theorem produce_irq (s : State) (f : Fabric) (n : Nat) (b : List Byte) : (f.produce s n b).irq = f.irq := by
  unfold Fabric.produce
  dsimp only
  split
  · rw [msix_irq]
    rfl
  · rfl

theorem logItem_irq (s : State) (f : Fabric) (i : LogItem) : (s.logItem f i).1.irq = f.irq := by
  unfold State.logItem
  split <;> rfl

theorem postOverflow_irq (s : State) (f : Fabric) (h : Nat) : (s.postOverflow f h).irq = f.irq := by
  unfold State.postOverflow
  dsimp only
  split
  · rfl
  · split
    · rfl
    · rw [produce_irq, logItem_irq]

theorem postTo_irq (s : State) (f : Fabric) (h code subject : Nat) (st : Status) (first last count flags : Nat) (d : List Byte) :
    (s.postTo f h code subject st first last count flags d).irq = f.irq := by
  unfold State.postTo
  dsimp only
  split
  · rfl
  · split
    · exact postOverflow_irq s f h
    · split
      · exact postOverflow_irq s f h
      · rw [produce_irq]
        exact postOverflow_irq s f h

theorem meet_irq (s : State) (f : Fabric) (h : Nat) (e : Event) (flag : Bool) : (s.meet f h e flag).1.irq = f.irq := by
  unfold State.meet
  dsimp only
  split
  · rfl
  · split
    · rw [logItem_irq]
      split <;> rfl
    · rw [postTo_irq]
      split <;> rfl

theorem closeWindows_irq (s : State) (f : Fabric) (code subject : Nat) : (s.closeWindows f code subject).irq = f.irq := by
  unfold State.closeWindows
  dsimp only
  refine (foldl_keeps (fun g w => postTo_irq s g _ _ _ _ _ _ _ _ _) _ _).trans ?_
  split
  · rfl
  · rw [logItem_irq]

theorem closeDue_irq (s : State) (f : Fabric) : (s.closeDue f).irq = f.irq := by
  have hone (g : Fabric) (w : EvWindow) : (s.closeWindows g w.code w.subject).irq = g.irq := closeWindows_irq s g _ _
  exact foldl_keeps (g := Fabric.irq) (f := fun g (w : EvWindow) => s.closeWindows g w.code w.subject) hone f.windows f

theorem postHosts_irq (s : State) (f : Fabric) (e : Event) (flag : Bool) : (s.postHosts f e flag).irq = f.irq := by
  have hgo (g : Fabric) (h : Nat) :
      (if e.hosts.testBit h && s.takes g h (classOf e.page) then (s.meet g h e flag).1 else g).irq = g.irq := by
    split
    · exact meet_irq s g h e flag
    · rfl
  simp only [State.postHosts, hgo]

/-- An event sets its flag; the windows it closes, the interrupts it follows, its log entry and its messages set none. -/
theorem raiseFab_irq (s : State) (e : Event) (settled : Option Bool) :
    (s.raiseFab e settled).1.irq = if e.num < 32 then ((s.closeDue s.ev).setFlag e.page e.num).irq else s.ev.irq := by
  have hraised : (if e.num < 32 then s.followIrqs ((s.closeDue s.ev).setFlag e.page e.num) else s.closeDue s.ev).irq =
      if e.num < 32 then ((s.closeDue s.ev).setFlag e.page e.num).irq else s.ev.irq := by
    split
    · exact followIrqs_irq _ _
    · exact closeDue_irq s s.ev
  rw [← hraised]
  unfold State.raiseFab
  dsimp only
  generalize (if e.num < 32 then s.followIrqs ((s.closeDue s.ev).setFlag e.page e.num) else s.closeDue s.ev) = f
  have hposted (lg : Fabric × Bool) (hlg : lg.1.irq = f.irq) :
      (if e.hosts = 0 then lg else (s.postHosts lg.1 e lg.2, lg.2)).1.irq = f.irq := by
    split
    · exact hlg
    · exact (postHosts_irq _ _ _ _).trans hlg
  cases settled with
  | some b => exact hposted (f, b) rfl
  | none =>
    refine hposted (if s.offered e.code then s.meet f 4 e false else (f, false)) ?_
    split
    · exact meet_irq s f 4 e false
    · rfl

theorem raiseAs_irq (s : State) (settled : Option Bool) (e : Event) :
    (s.raiseAs settled e).ev.irq = if e.num < 32 then ((s.closeDue s.ev).setFlag e.page e.num).irq else s.ev.irq := by
  rw [← raiseFab_irq s e settled]
  simp only [State.raiseAs]
  unfold State.recTag
  split <;> rfl

/-- The table of flags with a bit of a page set in one host window. -/
def flagIn (page bit : Nat) (m : List (Nat × Word)) (h : Nat) : List (Nat × Word) :=
  Map.put (fun _ => 0#32) (h * 0x1000 + page) (Map.get (fun _ => 0#32) (h * 0x1000 + page) m ||| bitW bit true) m

/-- An event's flag is set in the windows of the four hosts. -/
theorem setFlag_irq (f : Fabric) (page bit : Nat) : (f.setFlag page bit).irq = [0, 1, 2, 3].foldl (flagIn page bit) f.irq := rfl

theorem bitAt_or_bitW (w : Word) {bit : Nat} (hb : bit < 32) : bitAt (w ||| bitW bit true) bit = true := by
  simp only [bitAt, bitW, b2n, if_true, Nat.one_mul, BitVec.getLsbD_or, BitVec.getLsbD_ofNat, hb, decide_true, Bool.true_and,
    Nat.testBit_two_pow_self, Bool.or_true]

/-- The flag stands in the window of every host it has been set for, and where it stood. -/
theorem foldl_flagIn {page bit h : Nat} (hb : bit < 32) (l : List Nat) {m : List (Nat × Word)}
    (hw : Map.wf (fun _ => 0#32) m = true)
    (hm : h ∈ l ∨ bitAt (Map.get (fun _ => 0#32) (h * 0x1000 + page) m) bit = true) :
    bitAt (Map.get (fun _ => 0#32) (h * 0x1000 + page) (l.foldl (flagIn page bit) m)) bit = true := by
  induction l generalizing m with
  | nil => simpa using hm
  | cons k l ih =>
    refine ih (Map.wf_put hw) ?_
    by_cases hk : h = k
    · subst hk
      right
      rw [flagIn, Map.get_put_self hw]
      exact bitAt_or_bitW _ hb
    · rw [flagIn, Map.get_put_other (by omega)]
      exact hm.imp_left fun hin => (List.mem_cons.mp hin).resolve_left hk

/-- After an event its flag is pending in the window of every host. -/
theorem flags_event {s : State} {page n sub h : Nat} {d : List Nat} {st : Status} (hw : Map.wf (fun _ => 0#32) s.ev.irq = true)
    (hn : n < 32) (hh : h < 4) : bitAt ((s.event page n sub d st).ev.flags h page) n = true := by
  rw [Fabric.flags, State.event, State.raise, raiseAs_irq, if_pos hn, setFlag_irq, closeDue_irq]
  exact foldl_flagIn hn _ hw (.inl (by simp; omega))

end Sys2Proof.Machine
end

section
/-! PROOFS. Lifecycle changes and dies (R42, R43, R404, R405, R449). -/

namespace Sys2Proof.Machine

/-- Where the sentinel's log stands: its places in use, the next one and the gap. -/
def Sentinel.places (q : Sentinel) : List Nat × Nat × Nat × Nat := (q.log.map fun p => p.1, q.next, q.gapFrom, q.gapTo)

/-- Posting clears marks and moves no entry. -/
theorem senPost_places (s : State) (n : Nat) (b : List Byte) : (s.senPost n b).sen.places = s.sen.places := by
  have hkeys (p : PLog) : (s.sen.log.map fun x => if p.has x.1 x.2 then (x.1, clearMark 3 x.2) else x).map (fun x => x.1) =
      s.sen.log.map fun x => x.1 := by
    rw [List.map_map]
    refine List.map_congr_left fun x _ => ?_
    simp only [Function.comp_apply]
    split <;> rfl
  simp only [Sentinel.places, State.senPost, State.senPosted, hkeys]

theorem alertStart_places (s : State) : s.alertStart.sen.places = s.sen.places := by
  unfold State.alertStart
  dsimp only
  (repeat' split) <;> rfl

theorem alertStart_eq (s : State) : s.alertStart = { s with sen := s.alertStart.sen } := by
  refine eq_of_outsideDomain ?_
  unfold State.alertStart
  dsimp only
  (repeat' split) <;> rfl

/-- Committing an entry reaches the domain and the events alone. -/
theorem senCommit_eq (s : State) (type subject detail time flags : Nat) :
    let t := s.senCommit type subject detail time flags
    t = { s with sen := t.sen, ev := t.ev, reco := t.reco } := by
  dsimp only
  unfold State.senCommit
  dsimp only
  rw [alertStart_eq]
  split <;> rfl

theorem senCommit_places (s : State) (type subject detail time flags : Nat) :
    (s.senCommit type subject detail time flags).sen.places =
      (s.sen.commit (senBytes type subject detail time flags)).places := by
  unfold State.senCommit
  dsimp only
  rw [alertStart_places]
  split
  · rw [senPost_places]
    rfl
  · rfl

/-- A wipe leaves a live sentinel the one entry it commits, and a dead one as it was. -/
theorem senWipe_eq (s : State) (new : Nat) : ∃ (q : Sentinel) (f : Fabric) (r : Recorder),
    s.senWipe new = { s with sen := q, ev := f, reco := r } ∧
    (s.sen.alive = true → q.places = ([0], 1, 0, 0)) ∧ (s.sen.alive = false → q = s.sen) := by
  cases ha : s.sen.alive with
  | false => exact ⟨s.sen, s.ev, s.reco, by simp [State.senWipe, ha], fun h => absurd h (by decide), fun _ => rfl⟩
  | true =>
    simp only [State.senWipe, State.senEntry, State.senEntryAt, ha, Bool.not_true, Bool.false_eq_true, if_false,
      State.modSen_sen, Option.isSome_none]
    exact ⟨_, _, _, senCommit_eq _ 9 0xFF new _ _, fun _ => senCommit_places _ 9 0xFF new _ _, fun h => absurd h (by decide)⟩

/-- A change taken up starts the wipe and wipes the sentinel's log. -/
theorem lcyStart_eq (s : State) (k : Lifecycle) : ∃ (q : Sentinel) (f : Fabric) (r : Recorder),
    s.lcyStart k = { s with lcy := { s.lcy with target := some k, wipe := 0 }, sen := q, ev := f, reco := r } ∧
    (s.sen.alive = true → q.places = ([0], 1, 0, 0)) ∧ (s.sen.alive = false → q = s.sen) :=
  senWipe_eq { s with lcy := { s.lcy with target := some k, wipe := 0 } } k.code

theorem pends_iff {s : State} {h o m : Nat} {v : Word} :
    s.pends h o m v = true ↔ s.admits h (pageOf o) m = true ∧ s.pendingOf h o = some v := by
  simp [State.pends]

theorem live_of_admits {s : State} {h page m : Nat} (ha : s.admits h page m = true) : s.live = true ∧ h < 4 := by
  simp only [State.admits, Bool.and_eq_true, decide_eq_true_eq] at ha
  obtain ⟨⟨⟨⟨⟨hl, hh⟩, -⟩, -⟩, -⟩, -⟩ := ha
  exact ⟨hl, hh⟩

theorem rwcWrite_lcy (s : State) (h : Nat) (vn : Word) (r : Row) : s.rwcWrite h A.LCY_CMD vn r = s.lcyCmd h vn := rfl

/-- A legal change, with a key fused where the device leaves BLANK, meets no refusal of its own. -/
theorem lcyChecks_clear {s : State} {k : Nat} (hl : s.lcyLegal (lifecycleOf k) = true)
    (hk : s.lcy.state = .blank → ∃ o ∈ keyFuses, s.reg o ≠ 0#32) : ∀ p ∈ s.lcyChecks (lifecycleOf k), p.1 = false := by
  have hfuse : (s.lcy.state == .blank && lifecycleOf k == .provisioned && keyFuses.all fun o => s.reg o == 0#32) = false := by
    by_cases hb : s.lcy.state = .blank
    · obtain ⟨o, ho, hr⟩ := hk hb
      have hall : (keyFuses.all fun o => s.reg o == 0#32) = false :=
        List.all_eq_false.mpr ⟨o, ho, by simpa using hr⟩
      rw [hall, Bool.and_false]
    · simp [hb]
  simp [State.lcyChecks, hl, hfuse]

theorem fld_wd_low {k : Nat} (h : k < 4) : fld (wd k) 0 2 = k := by
  have hall : ∀ k < 4, fld (wd k) 0 2 = k := by decide
  exact hall k h

/-- The state in which a lifecycle command takes effect: the write consumed and the command's word stored. -/
def State.lcyTaken (s : State) (h : Nat) (v : Word) : State :=
  ((s.disarm h (pageOf (A.LCY_CMD + 4))).emptied h A.LCY_CMD).putReg A.LCY_CMD v

/-- The completed lifecycle command takes effect (R404). -/
theorem complete_lcy {s : State} {h k : Nat} (hk : k < 4) (hp : s.pends h A.LCY_CMD mService (wd k) = true)
    (hl : s.lcyLegal (lifecycleOf k) = true) (hf : s.lcy.state = .blank → ∃ o ∈ keyFuses, s.reg o ≠ 0#32) :
    s.hostComplete h A.LCY_CMD (wd k) = ((s.lcyTaken h (wd k)).lcyStart (lifecycleOf k)).mended (A.LCY_CMD + 4) := by
  obtain ⟨ha, hv⟩ := pends_iff.mp hp
  refine hostComplete_ok (r := { first := A.LCY_CMD, cls := .rwc, mask := 3#32, modes := mService }) (by decide) (by decide)
    (by decide) (by decide) (by decide) rfl rfl ?_
  rw [rwcWrite_lcy, State.lcyCmd]
  refine (complement_ok (s := s.disarm h (pageOf (A.LCY_CMD + 4))) hv rfl ?_).trans ?_
  · rw [fld_wd_low hk]
    exact firstOf_append (common_clear ha) (lcyChecks_clear hl hf)
  · rw [fld_wd_low hk]
    rfl

theorem keyFuses_kept : ∀ o ∈ keyFuses, o ∈ keptRegs ∧ o ≠ A.RAIL_VSET 3 := by decide

/-- Whatever reset it follows, a reset leaves its own cause set. -/
theorem testBit_resetCause (again : Bool) (cause bit : Nat) :
    (if again then setBit cause bit true else 2 ^ bit).testBit bit = true := by
  cases again <;> simp [testBit_setBit, Nat.testBit_two_pow_self]

/-- The state wiped for a lifecycle change, with the new lifecycle state. -/
def State.lcyStated (s : State) (k : Lifecycle) : State :=
  { s.lcyWiped with lcy := { state := k, target := none, wipe := 0,
                             cycles := if s.lcy.state = .returned then min (s.lcy.cycles + 1) 3 else s.lcy.cycles } }

/-- The end of a wipe resets the device in its new lifecycle state (R404). -/
theorem lcyEnd_eq {s : State} {k : Lifecycle} (hd : s.pwr.dark = false) (ht : s.lcy.target = some k) :
    ∃ q : Sentinel, s.lcyEnd = { (s.lcyStated k).wiped with
      sen := q
      pwr := { s.pwr with
        dark := false, held := true, ready := 0, readyT := none, late := 0, count := 0
        cause := if s.pwr.held && !s.pwr.dark then setBit s.pwr.cause 6 true else 2 ^ 6 } } := by
  obtain ⟨q, hq⟩ := intoReset_eq (s.lcyStated k) 6
  refine ⟨q, ?_⟩
  have hend : s.lcyEnd = ((s.lcyStated k).intoReset 6).modPwr fun p => { p with count := 0 } := by
    simp only [State.lcyEnd, ht, hd, Bool.false_eq_true, if_false, beq_iff_eq, State.lcyStated]
  rw [hend, hq]
  rfl

/-- A key fuse outlasts the wipe and the reset. -/
theorem reg_keptWords_lcyStated (s : State) (k : Lifecycle) {o : Nat} (ho : o ∈ keyFuses) :
    Map.get resetWord o (s.lcyStated k).keptWords = s.reg o := by
  obtain ⟨hk, hv⟩ := keyFuses_kept o ho
  rw [reg_keptWords_of_kept hv hk]
  exact Map.get_filter_keep _ fun v => by simp [ho]

end Sys2Proof.Machine

open Sys2Proof Sys2Proof.Machine

/-- Settles O41: the command's completion is the start of the wipe, the wipe's end is an entry into reset from the wiped
    state, and a failed analog die is the cause ANALOG. -/
theorem lifecycleAndDies : Obligations.LifecycleAndDies := by
  unfold Obligations.LifecycleAndDies
  refine ⟨?_, ?_, ?_, ?_⟩
  · intro s h k hk hp hl hf
    obtain ⟨hlive, hh⟩ := live_of_admits (pends_iff.mp hp).1
    refine gives_running (c := decide (h < 4) && decide (k < 4)) (f := fun s => s.hostComplete h A.LCY_CMD (wd k)) hlive
      (by simp [hh, hk]) ?_
    dsimp only
    rw [complete_lcy hk hp hl hf]
    obtain ⟨q, f, r, hstart, halive, hdead⟩ := lcyStart_eq (s.lcyTaken h (wd k)) (lifecycleOf k)
    rw [hstart]
    refine ⟨?_, fun ha => ?_, fun ha => ?_, ?_⟩
    · rw [State.mended_lcy]
      rfl
    · have hpl := halive ha
      simp only [Sentinel.places, Prod.mk.injEq] at hpl
      rw [State.mended_sen]
      exact hpl
    · rw [State.mended_sen]
      exact hdead ha
    · rw [mended_eq]
      rfl
  · intro s k hc hd ht
    refine gives_answer (f := State.lcyEnd) (by simp [ht]) ?_
    obtain ⟨q, hq⟩ := lcyEnd_eq hd ht
    rw [hq]
    exact ⟨rfl, rfl, rfl, testBit_resetCause _ _ _, rfl, rfl, fun o ho => reg_keptWords_lcyStated s k ho, rfl, rfl, rfl, rfl⟩
  · intro s hlive
    refine gives_running (c := true) (f := State.analogDies) hlive rfl ?_
    rw [State.analogDies, if_pos hlive]
    set v : State := { s with adc := { s.adc with dieFail := true } } with hv
    refine ⟨?_, ?_, ?_, (causeOn_keeps v cAnalog).1⟩
    · cases hc : v.modes.cond.testBit cAnalog with
      | true => rw [causeOn_present hc]; exact hc
      | false => exact (causeOn_appears hc).1
    · exact fun hc => (causeOn_appears (s := v) hc).2
    · exact fun hc hl h1 h2 => causeOn_holds (s := v) hc hl h1 h2
  · intro s hd
    exact gives_answer (by simp [hd]) rfl
end

section
/-! PROOFS. Reset and readiness (R40, R50, R403, R405, R450 to R452, R455). -/

namespace Sys2Proof.Machine

/-! ## Into reset and out of it -/

theorem resetPin_low {s : State} (hd : s.pwr.dark = false) : s.resetPin true = (s.intoReset 1).resetSource 1 true := by
  simp [State.resetPin, hd]

theorem resetPin_high {s : State} (hd : s.pwr.dark = false) (hs : s.pwr.scan = none) :
    s.resetPin false = s.resetSource 1 false := by
  simp [State.resetPin, State.scanEnds, hd, hs]

theorem rwcWrite_swrst (s : State) (h : Nat) (vn : Word) (r : Row) : s.rwcWrite h A.DBG_SWRST vn r =
    s.rwcComplement h A.DBG_SWRST vn (fun _ s => s.common h (pageOf A.DBG_SWRST) r.modes true ++ [])
      fun _ s => s.intoReset 5 := rfl

/-- The completed software reset command takes the device into reset. -/
theorem complete_swrst {s : State} {h : Nat} (hp : s.pends h A.DBG_SWRST 0x182 1#32 = true) :
    s.hostComplete h A.DBG_SWRST 1#32 =
      (((s.disarm h (pageOf (A.DBG_SWRST + 4))).emptied h A.DBG_SWRST).intoReset 5).mended (A.DBG_SWRST + 4) := by
  obtain ⟨ha, hv⟩ := pends_iff.mp hp
  refine hostComplete_ok
    (r := { first := A.DBG_SWRST, cls := .rwc, mask := 0xFFFFFFFF#32, modes := 0x182, ok := fun v => v == 1#32 })
    (by decide) (by decide) (by decide) (by decide) (by decide) rfl rfl ?_
  rw [rwcWrite_swrst]
  refine complement_ok (s := s.disarm h (pageOf (A.DBG_SWRST + 4))) hv rfl ?_
  rw [List.append_nil]
  exact firstOf_ok (common_clear ha)

/-! ## Members the test of the release found failed -/

theorem length_modAt {α : Type} (f : α → α) (n : Nat) (l : List α) : (modAt f n l).length = l.length := by
  induction l generalizing n with
  | nil => cases n <;> rfl
  | cons a l ih =>
    cases n with
    | zero => rfl
    | succ n => exact congrArg (· + 1) (ih n)

theorem getElem?_setAt_self {α : Type} (v : α) (n : Nat) (l : List α) : (setAt v n l)[n]? = l[n]?.map fun _ => v := by
  induction l generalizing n with
  | nil => cases n <;> rfl
  | cons a l ih =>
    cases n with
    | zero => rfl
    | succ n => exact ih n

/-- A property that `f` establishes and keeps holds of every entry a fold of `modAt f` has reached. -/
theorem foldl_modAt_hits {α : Type} {f : α → α} {P : α → Prop} (hf : ∀ a, P (f a)) {n : Nat} {d : α} (is : List Nat)
    {l : List α} (hn : n < l.length) (h : n ∈ is ∨ P (l.getD n d)) : P ((is.foldl (fun l i => modAt f i l) l).getD n d) := by
  induction is generalizing l with
  | nil => simpa using h
  | cons i is ih =>
    refine ih (by simpa only [length_modAt] using hn) ?_
    by_cases hi : n = i
    · subst hi
      right
      rw [getD_modAt, if_pos ⟨rfl, hn⟩]
      exact hf _
    · rw [getD_modAt, if_neg fun hc => hi hc.1]
      exact h.imp_left fun hin => (List.mem_cons.mp hin).resolve_left hi

/-- The port that stands at an index of the pool. -/
def poolPort (i : Nat) : Nat := if i = 0x18 then 0x20 else if i = 0x19 then 0x21 else 8 + (i - 0x1A)

/-- The slice that stands at an index of the pool. -/
def poolSlice (i : Nat) : Nat := if i < 0x34 then 10 + (i - 0x32) else 22 + (i - 0x34)

/-- The transmitter of a port found failed is dark. -/
theorem foundFailed_port {s : State} {failed : List Nat} {i : Nat} (hi : i ∈ failed) (h1 : 0x18 ≤ i) (h2 : i < 0x32)
    (hl : s.rings.ports.length = 34) : ((s.foundFailed failed).port (poolPort i)).txFault = true := by
  refine foldl_modAt_hits (P := fun p : Port => p.txFault = true) (fun _ => rfl) _ ?_ (.inl ?_)
  · rw [hl]
    unfold poolPort
    split
    · decide
    · split
      · decide
      · omega
  · exact List.mem_map_of_mem (f := poolPort) (List.mem_filter.mpr ⟨hi, by simp [h1, h2]⟩)

/-- A slice found failed is out of the pool. -/
theorem foundFailed_slice {s : State} {failed : List Nat} {i : Nat} (hi : i ∈ failed) (h1 : 0x32 ≤ i) (h2 : i < 0x36)
    (hl : s.adc.slices.length = 24) : (s.foundFailed failed).adc.slices.getD (poolSlice i) .idle = .exhausted := by
  refine foldl_modAt_hits (P := fun p => p = Pool.exhausted) (fun _ => rfl) _ ?_ (.inl ?_)
  · rw [hl]
    unfold poolSlice
    split <;> omega
  · exact List.mem_map_of_mem (f := poolSlice) (List.mem_filter.mpr ⟨hi, by simp [h1, h2]⟩)

/-- A bank found failed has no spare row left. -/
theorem foundFailed_bank {s : State} {failed : List Nat} {i : Nat} (hi : i ∈ failed) (h1 : 0x38 ≤ i) (h2 : i < 0x50)
    (hl : s.mem.rows.length = 24) : (s.foundFailed failed).mem.rows.getD (i - 0x38) 0 = 32 := by
  refine foldl_modAt_hits (P := fun n => n = 32) (fun _ => rfl) _ (by omega) (.inl ?_)
  exact List.mem_map_of_mem (f := fun i => i - 0x38) (List.mem_filter.mpr ⟨hi, by simp [h1, h2]⟩)

theorem foundFailed_comparator {s : State} {failed : List Nat} {i : Nat} (hi : i ∈ failed) (h1 : 0x36 ≤ i) (h2 : i < 0x38) :
    (s.foundFailed failed).adc.cmpFail.testBit (i - 0x36) = true := by
  have hfail : (s.foundFailed failed).adc.cmpFail =
    (if failed.contains 0x36 then 1 else 0) + (if failed.contains 0x37 then 2 else 0) := rfl
  rw [hfail]
  obtain rfl | rfl : i = 0x36 ∨ i = 0x37 := by omega
  · rw [if_pos (by simpa using hi)]
    split <;> decide
  · rw [if_pos (c := failed.contains 0x37 = true) (by simpa using hi)]
    split <;> decide

/-- A spare port present in the pool whose transmitter is dark reads exhausted. -/
theorem member_dark {s : State} {i : Nat} (h1 : 0x18 ≤ i) (h2 : i < 0x32) (hf : (s.port (poolPort i)).txFault = true)
    (hin : (s.member i).1 ≠ 0xF) : (s.member i).2.1 = .exhausted := by
  have hrange : ¬ i < 0x18 := by omega
  cases hc : decide (i < 0x1A) || s.fusedEnd (poolPort i) with
  | false =>
    have hm : s.member i = (0xF, .idle, 0x3FF, 0x3FF) :=
      (if_neg hrange).trans ((if_pos h2).trans (if_neg (ne_true_of_eq_false hc)))
    exact absurd (congrArg Prod.fst hm) hin
  | true =>
    have hm : s.member i = (1, .exhausted, poolPort i, 0x3FF) :=
      (if_neg hrange).trans ((if_pos h2).trans ((if_pos hc).trans (if_pos hf)))
    rw [hm]

/-- A member of the pool found failed reads exhausted. -/
theorem foundFailed_member {s : State} {failed : List Nat} {i : Nat} (hi : i ∈ failed) (h1 : 0x18 ≤ i) (h2 : i < 0x50)
    (hp : s.rings.ports.length = 34) (hs : s.adc.slices.length = 24) (hr : s.mem.rows.length = 24)
    (hin : ((s.foundFailed failed).member i).1 ≠ 0xF) : ((s.foundFailed failed).member i).2.1 = .exhausted := by
  by_cases hport : i < 0x32
  · exact member_dark h1 hport (foundFailed_port hi h1 hport hp) hin
  unfold State.member
  dsimp only
  rw [if_neg (by omega), if_neg hport]
  by_cases hslice : i < 0x36
  · rw [if_pos hslice]
    exact foundFailed_slice hi (by omega) hslice hs
  rw [if_neg hslice]
  by_cases hcmp : i < 0x38
  · rw [if_pos hcmp, if_pos (foundFailed_comparator hi (by omega) hcmp)]
  rw [if_neg hcmp, if_pos h2, foundFailed_bank hi (by omega) h2 hr]
  rfl

/-- The end of reset: the members as the test found them, the links training, the blocks ready at release and DEVTIME begun;
    a rail report, where one is due, posts an event. -/
theorem resetRelease_eq {s : State} {failed : List Nat} (hr : s.releaseDue = true) : ∃ (r : Rail) (f : Fabric) (c : Recorder),
    s.resetRelease failed = { s.foundFailed failed with
      pwr := { s.pwr with held := false, ready := readyAtRelease, released := s.now }
      hosts := { s.hosts with train := s.hosts.perst.map fun (low : Bool) => if low then none else some s.now }
      clock := { s.clock with dev := if s.sen.alive && s.sen.syncd then s.sen.rtc else 0
                              sync := if s.sen.alive && s.sen.syncd then .free else .unset }
      rail := r, ev := f, reco := c } := by
  unfold State.resetRelease
  rw [hr]
  dsimp only
  rw [if_neg (by decide)]
  split
  · exact ⟨_, _, _, rfl⟩
  · exact ⟨_, _, _, rfl⟩

/-! ## Readiness -/

theorem startBeats_pwr (s : State) : s.startBeats.pwr = s.pwr := rfl

theorem calsetCheck_pwr (s : State) : s.calsetCheck.pwr = s.pwr := by
  unfold State.calsetCheck
  split <;> rfl

/-- What a block does as it becomes ready does not reach the power unit. -/
theorem readyActs_pwr (s : State) (b : Nat) : (s.readyActs b).pwr = s.pwr := by
  unfold State.readyActs
  split
  · exact startBeats_pwr s
  · split
    · exact calsetCheck_pwr s
    · split
      · dsimp only
        split
        · rw [(causeOn_keeps _ cAnalog).2]
        · rfl
      · rfl

/-- A block that may become ready sets its own bit. -/
theorem blockReady_pwr {s : State} {b : Nat} (hl : s.live = true) (h4 : b ≠ 4) (hr : s.ready b = false)
    (ht : s.pwr.late.testBit b = false) (hm : s.blockMay b = true) :
    (s.blockReady b).pwr = { s.pwr with ready := setBit s.pwr.ready b true } := by
  have hacts : s.blockReady b = (s.modPwr fun p => { p with ready := setBit p.ready b true }).readyActs b := by
    simp [State.blockReady, hl, h4, hr, ht, hm]
  rw [hacts, readyActs_pwr]
  rfl

/-- A late block stays as it is. -/
theorem blockReady_late {s : State} {b : Nat} (ht : s.pwr.late.testBit b = true) : s.blockReady b = s := by
  simp [State.blockReady, ht]

/-- A block past its limit is late, and says so (R455). -/
theorem readyLate_eq {s : State} {b u : Nat} (hl : s.live = true) (hb : b < 26) (hr : s.ready b = false)
    (ht : s.pwr.late.testBit b = false) (hu : s.readyBy b = some u) :
    s.readyLate b = ((s.advance u).modPwr fun p => { p with late := setBit p.late b true }).event 2 0 b := by
  simp [State.readyLate, hu, hl, hb, hr, ht]

theorem readyBy_block {s : State} {b u : Nat} (hu : s.readyBy b = some u) (h18 : b ≠ 18) (h19 : b ≠ 19) :
    u = s.pwr.released + ms (readyLimit b) := by
  simpa [State.readyBy, h18, h19] using hu.symm

theorem hostLinkUp_eq {s : State} {h : Nat} (hl : s.live = true) (hh : h < 2) (ht : s.training h = true) : s.hostLinkUp h =
    { s with
      pwr := { s.pwr with ready := if s.pwr.late.testBit (18 + h) then s.pwr.ready else setBit s.pwr.ready (18 + h) true }
      hosts := { s.hosts with link := setAt true h s.hosts.link, train := setAt none h s.hosts.train } } := by
  simp [State.hostLinkUp, hl, hh, ht]

/-- A link that has trained makes its page ready unless the page is late. -/
theorem hostLinkUp_ready {s : State} {h : Nat} (hl : s.live = true) (hh : h < 2) (ht : s.training h = true) (k : Nat) :
    (s.hostLinkUp h).ready k = (s.ready k || (k == 18 + h && !s.pwr.late.testBit k)) := by
  rw [hostLinkUp_eq hl hh ht]
  simp only [State.ready]
  by_cases hk : k = 18 + h
  · subst hk
    cases s.pwr.late.testBit (18 + h) <;> simp [testBit_setBit]
  · cases s.pwr.late.testBit (18 + h) <;> simp [testBit_setBit, hk]

end Sys2Proof.Machine

open Sys2Proof Sys2Proof.Machine

/-- Settles O47: both resets are an entry into reset, the release lays the test's findings over the state, and readiness is a
    bit of the power unit that no act of a block touches. -/
theorem resetAndReadiness : Obligations.ResetAndReadiness := by
  unfold Obligations.ResetAndReadiness
  refine ⟨?_, ?_, ?_, ?_, ?_, ?_, ?_, ?_⟩
  · intro s hs hd
    refine gives_answer (f := fun s => s.resetPin true) (by simp [hd]) ?_
    dsimp only
    rw [resetPin_low hd]
    obtain ⟨q, hq⟩ := intoReset_eq s 1
    rw [hq]
    refine ⟨rfl, rfl, ?_, testBit_resetCause _ _ _, rfl, fun hh => ?_, rfl, fun o ho hv => reg_keptWords_of_kept hv ho,
      fun o ho hv => reg_keptWords_of_wiped hv ho, rfl, rfl, rfl, rfl, rfl, rfl, rfl⟩
    · exact (testBit_setBit _ _ _ _).trans (if_pos rfl)
    · simp [State.resetSource, State.modPwr, hh]
  · intro s hd hs
    refine gives_answer (f := fun s => s.resetPin false) (by simp [hd]) ?_
    dsimp only
    rw [resetPin_high hd hs]
    exact ⟨rfl, (testBit_setBit _ _ _ _).trans (if_pos rfl), fun b hb => (testBit_setBit _ _ _ _).trans (if_neg hb)⟩
  · intro s h hp
    obtain ⟨hlive, hh⟩ := live_of_admits (pends_iff.mp hp).1
    refine gives_byHost (f := fun s => s.hostComplete h A.DBG_SWRST 1#32) hlive hh ?_
    rw [complete_swrst hp]
    have hrun : s.pwr.held = false := by
      simp only [State.live, Bool.and_eq_true, Bool.not_eq_true'] at hlive
      exact hlive.2
    obtain ⟨q, hq⟩ := intoReset_eq ((s.disarm h (pageOf (A.DBG_SWRST + 4))).emptied h A.DBG_SWRST) 5
    rw [hq, mended_eq]
    refine ⟨rfl, ?_, rfl, rfl, rfl⟩
    simp [hrun]
  · intro s failed hr hports hslices hrows
    refine gives_answer (f := fun s => s.resetRelease failed) hr ?_
    obtain ⟨r, f, c, heq⟩ := resetRelease_eq (failed := failed) hr
    rw [heq]
    refine ⟨fun i hi h1 h2 hin => foundFailed_member hi h1 h2 hports hslices hrows hin, fun h hh hlen => ?_, ?_,
      rfl, rfl, rfl, rfl, rfl⟩
    · have hlt : h < s.hosts.perst.length := by omega
      simp [hlt]
    · simp only [State.releaseDue, Bool.and_eq_true] at hr
      simp [State.live, hr]
  · intro s b hl hb h4 hr ht hm
    refine gives_running (c := decide (b < 26)) (f := fun s => s.blockReady b) hl (by simpa using hb) ?_
    have hp := blockReady_pwr hl h4 hr ht hm
    refine ⟨?_, fun k hk => ?_⟩
    · rw [State.ready, hp]
      exact (testBit_setBit _ _ _ _).trans (if_pos rfl)
    · rw [State.ready, hp]
      exact (testBit_setBit _ _ _ _).trans (if_neg hk)
  · intro s b hl hb ht
    exact gives_running (c := decide (b < 26)) (f := fun s => s.blockReady b) (p := fun t => t = s) hl (by simpa using hb)
      (blockReady_late ht)
  · intro s b u hs hl hb hr ht hu
    refine gives_running (c := decide (b < 26)) (f := fun s => s.readyLate b) hl (by simpa using hb) ?_
    dsimp only
    rw [readyLate_eq hl hb hr ht hu]
    refine ⟨readyBy_block hu, hr, fun k => ?_, rfl, fun h hh => ?_⟩
    · refine (testBit_setBit _ _ _ _).trans ?_
      by_cases hk : k = b <;> simp [hk]
    · obtain ⟨-, -, -, hirq, -⟩ := hs
      exact flags_event hirq (by decide) hh
  · intro s h hl hh hlinks htrains ht
    refine gives_running (c := decide (h < 2)) (f := fun s => s.hostLinkUp h) hl (by simpa using hh) ?_
    have hready := hostLinkUp_ready hl hh ht
    have heq := hostLinkUp_eq hl hh ht
    have hlink : (s.hostLinkUp h).hosts.link.getD h false = true := by
      rw [heq]
      exact (getD_modAt _ _ _ _ _).trans (if_pos ⟨rfl, by omega⟩)
    have hlive : (s.hostLinkUp h).live = true := by rw [heq]; exact hl
    refine ⟨hready, hlink, ?_, ?_, ?_⟩
    · rw [State.training, heq, getElem?_setAt_self]
      cases s.hosts.train[h]? <;> rfl
    · rw [State.cfgAnswer, hlive, hlink, hready]
      cases s.ready (18 + h) <;> cases s.pwr.late.testBit (18 + h) <;> simp
    · rw [heq]
end

section
/-! PROOFS. The state right after reset, a device in reset, and the pipeline of a beat (R40, R41, R214, R453, R458). -/

namespace Sys2Proof.Machine

/-- A device in reset whose boundary-scan register holds EXTEST: reset pin and sources meet its conditions, and the
    instruction is not yet in force. -/
def scanLoaded : State :=
  { State.reset with pwr := { resetReset with held := true, sources := 2, ir := 3 } }

theorem scanLoaded_settle : scanLoaded.settle.pwr.scan = some 3 := by decide +kernel

/-- A canonical state with the pipeline due whose loop table holds two entries of slot 0: the first, armed, with EXEC at its
    last value, hides the second. -/
def slotTwice : State :=
  { State.reset with
    used := [(A.SLOT 0 0, 0x100011#32)]
    ang := { angleReset with beats := true }
    gaf := { gafReset with engines := [{ engineReset with st := .active }, engineReset] }
    loop := { loopReset with slots :=
      [(0, { loopSlotReset with exec := 0xFFFFFFFF }), (0, { loopSlotReset with st := .outHold, exec := 5 })] } }

/-- The state in which the slots of `slotTwice` are executed. -/
def slotTwiceLoop : State := slotTwice.measure.anglePipe.afterLock.rtiPipe.gridPipe

/-- Executing slot 0 wraps its EXEC to 0, which makes it a slot as after reset: it leaves the table, and the second entry
    shows. -/
theorem slotTwice_exec_after : (slotTwiceLoop.runLoop.slot 0).exec = 5 := by decide +kernel

theorem slotTwice_exec_counted :
    (if 0 ∈ slotTwiceLoop.runSlots ∧ slotTwiceLoop.slotDue 0 = true ∧ 0 ∉ slotTwiceLoop.loop.fresh then
      ((slotTwiceLoop.slot 0).exec + 1) % 2 ^ 32 else (slotTwiceLoop.slot 0).exec) = 0 := by decide +kernel

end Sys2Proof.Machine

open Sys2Proof Sys2Proof.Machine

/-- Settles O52: the state after reset is a closed term, each clause read off it; a group and a ring read the same entry at
    every index. -/
theorem resetIsQuiet : Obligations.ResetIsQuiet := by
  unfold Obligations.ResetIsQuiet
  refine ⟨by decide +kernel, by decide, rfl, rfl, rfl, rfl, rfl, rfl, rfl, rfl, rfl, rfl, rfl, rfl, fun _ => rfl, ?_, ?_⟩
  · intro g
    have hg : State.reset.group g = groupReset := List.getElem?_getD_replicate_default_eq groupReset 4 g
    rw [hg]; rfl
  · intro n
    have hn : State.reset.hw n = ringReset := List.getElem?_getD_replicate_default_eq ringReset 64 n
    rw [hn]; rfl

/-- Refutes O59: a link lost in reset does nothing of its own, but the settling that follows it brings the loaded scan
    instruction of `scanLoaded` into force. -/
theorem not_nothingActsInReset : ¬ Obligations.NothingActsInReset := by
  unfold Obligations.NothingActsInReset
  intro h
  have hstays : exec (.hostPortReset 0 .linkLoss) scanLoaded = .next scanLoaded :=
    h scanLoaded (.hostPortReset 0 .linkLoss) (by decide)
  have hsettles : exec (.hostPortReset 0 .linkLoss) scanLoaded = .next scanLoaded.settle := rfl
  have hsame : scanLoaded.settle = scanLoaded := Host.Outcome.next.inj (hsettles.symm.trans hstays)
  have hscan := scanLoaded_settle
  rw [hsame] at hscan
  exact absurd hscan (by decide)

/-- Refutes O6: in `slotTwice` the slot executed wraps its EXEC to 0 and leaves the table, so that the second entry, of
    EXEC 5, is read where the statement has the counter's next value, 0. -/
theorem not_beatRunsItsCourse : ¬ Obligations.BeatRunsItsCourse := by
  unfold Obligations.BeatRunsItsCourse
  rintro ⟨-, hpipe, -⟩
  obtain ⟨t, -, -, -, -, -, -, hslots, hexec, -⟩ :=
    hpipe slotTwice (by decide +kernel) (by decide +kernel) (by decide +kernel) (by decide +kernel) (by decide +kernel)
  have hcounted := slotTwice_exec_counted
  have hafter := slotTwice_exec_after
  unfold slotTwiceLoop at hcounted hafter
  rw [← hexec 0, State.slot, hslots, ← State.slot, hafter] at hcounted
  exact absurd hcounted (by decide)

end

section
/-! PROOFS. Mode requests, HOLD requests and the clearing of latches (R47 to R49, R52, R55, R56, R221, R222, R228, R229). -/

namespace Sys2Proof.Machine

/-! ## The write that completes a request -/

theorem asksFor_iff {s : State} {h : Nat} {m : Mode} : s.asksFor h m = true ↔
    s.live = true ∧ h < 4 ∧ s.pendingOf h A.DEV_MODE_REQ = some (wd m.code) ∧ s.owns h 0 = true ∧ s.modes.cur ≠ m ∧
    s.modeBusy = false ∧ s.modes.next = none ∧ (s.modes.returning = false ∨ m = .watch) ∧
    ∃ cs, s.modeConds m = some cs ∧ ∀ x ∈ cs, x.1 = false := by
  simp [State.asksFor, and_assoc]

/-- A host may ask only where no change has been decided. -/
theorem next_of_asksFor {s : State} {h : Nat} {m : Mode} (ha : s.asksFor h m = true) : s.modes.next = none := by
  obtain ⟨-, -, -, -, -, -, hn, -⟩ := asksFor_iff.mp ha
  exact hn

/-- The state in which an accepted request begins: the write consumed and the request's word stored. -/
def State.requestTaken (s : State) (h : Nat) (m : Mode) : State :=
  ((s.disarm h (pageOf (A.DEV_MODE_REQ + 4))).emptied h A.DEV_MODE_REQ).putReg A.DEV_MODE_REQ (wd m.code)

theorem rwcWrite_modeReq (s : State) (h : Nat) (vn : Word) (r : Row) :
    s.rwcWrite h A.DEV_MODE_REQ vn r = s.modeRequest h vn := rfl

/-- A request whose row of R52 is met is judged OK. -/
theorem modeJudge_ok {s : State} {h : Nat} {m : Mode} {cs : List (Bool × Status × Nat)} (ho : s.owns h 0 = true)
    (hb : s.modeBusy = false) (hcs : s.modeConds m = some cs) (hmet : ∀ x ∈ cs, x.1 = false) :
    (s.modeJudge h m).1 = .ok := by
  have hfirst : firstOf ([(!s.owns h 0, .notOwner), (s.modeBusy, .busy)] ++ cs.map fun c => (c.1, c.2.1)) = .ok :=
    firstOf_append (by simp [ho, hb]) (by simpa using hmet)
  simp only [State.modeJudge, hcs, hfirst]

/-- The completed request begins (R14, R47). -/
theorem complete_modeReq {s : State} {h : Nat} {m : Mode} (hm : modeAsked (fld (wd m.code) 0 4) = some m)
    (ha : s.asksFor h m = true) :
    s.hostComplete h A.DEV_MODE_REQ (wd m.code) = ((s.requestTaken h m).modeBegin m).mended (A.DEV_MODE_REQ + 4) := by
  obtain ⟨-, -, hpend, howns, hcur, hbusy, -, -, cs, hcs, hmet⟩ := asksFor_iff.mp ha
  set u : State := (s.disarm h (pageOf (A.DEV_MODE_REQ + 4))).emptied h A.DEV_MODE_REQ with hu
  have hjudge : (u.modeJudge h m).1 = .ok := modeJudge_ok howns hbusy hcs hmet
  have hother : m ≠ u.modes.cur := hcur.symm
  refine hostComplete_ok (by decide) (by decide) (by decide) (by decide) (by decide) rfl rfl ?_
  rw [rwcWrite_modeReq, State.modeRequest]
  refine (complementAcc_ok (s := s.disarm h (pageOf (A.DEV_MODE_REQ + 4))) hpend rfl rfl).trans ?_
  simp only [hm, ← hu, hother, if_false, hjudge, if_true]
  rfl

theorem gives_modeRequest {s : State} {h : Nat} {m : Mode} {p : State → Prop}
    (hm : modeAsked (fld (wd m.code) 0 4) = some m) (ha : s.asksFor h m = true)
    (hp : p (((s.requestTaken h m).modeBegin m).mended (A.DEV_MODE_REQ + 4))) :
    Gives (hostPair s h A.DEV_MODE_REQ (wd m.code)) p := by
  obtain ⟨hlive, hh, -⟩ := asksFor_iff.mp ha
  exact gives_byHost hlive hh (by rw [complete_modeReq hm ha]; exact hp)

/-! ## What a request begins -/

/-- TGT, TRANS and the host's asking stand (R46). -/
def State.toward (s : State) (m : Mode) : State := { s with modes := { s.modes with trans := true, tgt := m, asked := true } }

/-- A request has begun wherever the mode fields stand so, whatever is decided next. -/
theorem begun_of_modes {s t : State} {m : Mode} {next : Option Mode}
    (h : t.modes = { (s.toward m).modes with next := next }) : Begun s t m := by
  simp only [Begun, h, State.toward, and_self]

/-- The rows of R52 that name work to be done before the mode changes (R221, R222, R228, R229). -/
def workFirst : Mode → Mode → Bool
  | .energize, .watch => true
  | .follow, .watch => true
  | .form, .watch => true
  | .follow, .form => true
  | .form, .follow => true
  | _, _ => false

theorem workFirst_watch {c : Mode} : workFirst c .watch = true ↔ c = .energize ∨ c = .follow ∨ c = .form := by
  cases c <;> decide
theorem workFirst_follow {c : Mode} : workFirst c .follow = true ↔ c = .form := by cases c <;> decide
theorem workFirst_form {c : Mode} : workFirst c .form = true ↔ c = .follow := by cases c <;> decide
theorem workFirst_energize (c : Mode) : workFirst c .energize = false := by cases c <;> rfl
theorem workFirst_service (c : Mode) : workFirst c .service = false := by cases c <;> rfl

theorem not_decided {s : State} {m : Mode} (hn : s.modes.next = none) (hr : s.modes.returning = false ∨ m = .watch) :
    ¬ (s.modes.next.isSome || (s.modes.returning && m != .watch)) = true := by
  rcases hr with hr | hr <;> simp [hn, hr]

/-- Where the row names no work, the change is decided. -/
theorem modeBegin_decides {s : State} {m : Mode} (hn : s.modes.next = none) (hr : s.modes.returning = false ∨ m = .watch)
    (hw : workFirst s.modes.cur m = false) :
    s.modeBegin m = { s.toward m with modes := { (s.toward m).modes with next := some m } } := by
  unfold State.modeBegin
  rw [if_neg (not_decided hn hr)]
  split
  case h_6 => rfl
  all_goals
    rename_i hcur
    rw [hcur] at hw
    exact absurd hw (by decide)

theorem modeBegin_abandons {s : State} (hn : s.modes.next = none) (hc : s.modes.cur = .energize) :
    s.modeBegin .watch = ((s.toward .watch).closeAborts 3).stopRun := by
  simp only [State.modeBegin, if_neg (not_decided (m := .watch) hn (.inr rfl)), hc, State.toward]

theorem modeBegin_stops {s : State} (hn : s.modes.next = none) (hc : s.modes.cur = .follow ∨ s.modes.cur = .form) :
    s.modeBegin .watch = (s.toward .watch).beginStop s.stopRate := by
  rcases hc with hc | hc <;>
    simp only [State.modeBegin, if_neg (not_decided (m := .watch) hn (.inr rfl)), hc, State.toward]

theorem modeBegin_toForm {s : State} (hn : s.modes.next = none) (hc : s.modes.cur = .follow) :
    s.modeBegin .form = (s.toward .form).beginXfer (.toForm false) .form true := by
  have hr : s.modes.returning = false := by simp [Modes.returning, hc]
  simp only [State.modeBegin, if_neg (not_decided (m := .form) hn (.inl hr)), hc, State.toward]

theorem modeBegin_toFollow {s : State} (hn : s.modes.next = none) (hc : s.modes.cur = .form) :
    s.modeBegin .follow = (s.toward .follow).beginXfer .toFollow .follow true := by
  have hr : s.modes.returning = false := by simp [Modes.returning, hc]
  simp only [State.modeBegin, if_neg (not_decided (m := .follow) hn (.inl hr)), hc, State.toward]

/-- A request that names no work to be done first changes the mode fields alone. -/
theorem gives_begunAlone {s : State} {h : Nat} {m : Mode} (hm : modeAsked (fld (wd m.code) 0 4) = some m)
    (ha : s.asksFor h m = true) (hw : workFirst s.modes.cur m = false) :
    Gives (hostPair s h A.DEV_MODE_REQ (wd m.code)) fun t => BegunAlone s t m := by
  obtain ⟨-, -, -, -, -, -, hn, hr, -⟩ := asksFor_iff.mp ha
  refine gives_modeRequest hm ha ?_
  rw [modeBegin_decides (s := s.requestTaken h m) hn hr hw, mended_eq]
  exact ⟨⟨rfl, rfl, rfl, rfl, rfl, rfl⟩, rfl, rfl⟩

/-- A request for WATCH while the references are still up ramps them down (R229). -/
theorem beginStop_ramps {s : State} (rate : Int) (hmain : s.grd.stop ≠ .main) (hseries : s.grd.stop ≠ .series) :
    s.beginStop rate = { s with grd := { s.grd with stop := .ramp rate } } := by
  simp [State.beginStop, State.modGrd, hmain, hseries]

/-! ## A close sequence abandoned (R228) -/

/-- What an opening leaves of a request under way: the mode fields but the change decided, and a close sequence that has ended
with its result. -/
structure KeepsRequest (s t : State) : Prop where
  modes : t.modes = { s.modes with next := t.modes.next }
  result : t.grd.result = s.grd.result
  ended : s.closing = false → t.closing = false

theorem KeepsRequest.refl (s : State) : KeepsRequest s s := ⟨rfl, rfl, id⟩

theorem KeepsRequest.trans {s t u : State} (h1 : KeepsRequest s t) (h2 : KeepsRequest t u) : KeepsRequest s u :=
  ⟨by rw [h2.modes, h1.modes], h2.result.trans h1.result, fun h => h2.ended (h1.ended h)⟩

theorem groupOff_modes (s : State) (g : Nat) : (s.groupOff g).modes = s.modes := by
  have h := congrArg State.modes (groupOff_besideCut s g)
  exact h

theorem groupOff_grd (s : State) (g : Nat) : (s.groupOff g).grd = s.grd := by
  have h := congrArg State.grd (groupOff_besideCut s g)
  exact h

theorem groupOff_keepsRequest (s : State) (g : Nat) : KeepsRequest s (s.groupOff g) :=
  ⟨by rw [groupOff_modes], by rw [groupOff_grd], fun h => by rw [State.closing, groupOff_grd]; exact h⟩

/-- A change of the grid unit that moves only the stop, or takes a finished sequence's step back to 0. -/
theorem modGrd_keepsRequest {s : State} {f : Grd → Grd} (hr : (f s.grd).result = s.grd.result)
    (hs : (f s.grd).step = s.grd.step ∨ (f s.grd).step = 0) : KeepsRequest s (s.modGrd f) := by
  refine ⟨rfl, hr, fun h => ?_⟩
  rcases hs with hs | hs
  · simpa only [State.closing, State.modGrd_grd, hs] using h
  · simp [State.closing, hs]

theorem openMain_keepsRequest (s : State) : KeepsRequest s s.openMain := by
  refine (groupOff_keepsRequest s (s.groupOf 0)).trans (modGrd_keepsRequest rfl ?_)
  dsimp only
  split
  · exact .inr rfl
  · exact .inl rfl

theorem stopStep_keepsRequest (s : State) : KeepsRequest s s.stopStep := by
  unfold State.stopStep
  split
  · exact .refl s
  · split
    · exact openMain_keepsRequest s
    · exact .refl s
  · split
    · exact (groupOff_keepsRequest s (s.groupOf 1)).trans (modGrd_keepsRequest rfl (.inl rfl))
    · exact .refl s
  · split
    · dsimp only
      split
      · exact ⟨rfl, rfl, id⟩
      · exact modGrd_keepsRequest rfl (.inl rfl)
    · exact .refl s

theorem stopRun_keepsRequest (s : State) : KeepsRequest s s.stopRun :=
  ((stopStep_keepsRequest _).trans (stopStep_keepsRequest _)).trans (stopStep_keepsRequest _)

theorem beginStop_keepsRequest (s : State) (rate : Int) : KeepsRequest s (s.beginStop rate) := by
  unfold State.beginStop
  split
  · exact .refl s
  · exact modGrd_keepsRequest rfl (.inl rfl)

/-- A close sequence that fails is over, with its result. -/
theorem closeFails_ends (s : State) (result : Nat) :
    (s.closeFails result).modes = s.modes ∧ (s.closeFails result).closing = false ∧
    (s.closing = true → (s.closeFails result).grd.result = result) := by
  unfold State.closeFails
  split
  · exact ⟨rfl, rfl, fun _ => rfl⟩
  · rename_i hc
    exact ⟨rfl, by simpa using hc, fun h => absurd h hc⟩

/-- A close sequence abandoned is over, with its result, and of the mode fields only the change decided has moved. -/
theorem closeAborts_ends (s : State) (result : Nat) :
    let t := (s.closeAborts result).stopRun
    t.modes = { s.modes with next := t.modes.next } ∧ t.closing = false ∧ (s.closing = true → t.grd.result = result) := by
  obtain ⟨hmodes, hended, hresult⟩ := closeFails_ends s result
  obtain ⟨hkmodes, hkresult, hkended⟩ := (beginStop_keepsRequest (s.closeFails result) 0).trans (stopRun_keepsRequest _)
  exact ⟨hkmodes.trans (by rw [hmodes]; rfl), hkended hended, fun h => hkresult.trans (hresult h)⟩

/-! ## HOLD requests (R48, R49, R55) -/

theorem regWrite_holdReq {s : State} {h : Nat} (hw : s.wiping = false) :
    s.regWrite h A.DEV_HOLD_REQ 0xF807#32 = (s.causePulse cHost, .ok) := by
  have hlow : s.regWrite h A.DEV_HOLD_REQ 0xF807#32 =
      if s.wiping && 0xF807#32 == 0xF807#32 then (s, .busy) else s.holdRequest 0xF807#32 := rfl
  rw [hlow, hw]
  rfl

/-- Cause HOST, latched, leads to HOLD from SERVICE too, and ends a transition under way (R54, R55). -/
theorem latched_host {s : State} (hc : s.modes.cur ≠ .hold) :
    (s.latched cHost).modes = { s.modes.abandon with next := some .hold, tgt := .hold } := by
  unfold State.latched
  dsimp only
  rw [holdActs_modes]
  split
  · exact absurd ‹_› hc
  · rfl
  · rfl

theorem abandon_trans (m : Modes) : m.abandon.trans = false := by
  unfold Modes.abandon
  split
  · rfl
  · simpa using ‹¬ m.trans = true›

/-- The pulse of cause HOST outside HOLD: latched and gone again, every group off, HOLD decided. -/
theorem causePulse_host {s : State} (hc : s.modes.cur ≠ .hold) (hcond : s.modes.cond.testBit cHost = false)
    (hlatch : s.modes.latch.testBit cHost = false) :
    let t := s.causePulse cHost
    t.modes.latch.testBit cHost = true ∧ t.modes.cond.testBit cHost = false ∧ t.modes.next = some .hold ∧
    t.modes.tgt = .hold ∧ t.modes.trans = false ∧ ∀ g, g < 4 → (t.group g).cmd = false := by
  have hm : (s.causeOn cHost).modes = { (s.withCause cHost).modes.abandon with next := some .hold, tgt := .hold } := by
    rw [causeOn_latches hcond hlatch]
    exact latched_host hc
  obtain ⟨-, hset⟩ := causeOn_appears hcond
  refine ⟨hset, by simp [State.causePulse, State.causeOff, testBit_setBit], congrArg Modes.next hm, congrArg Modes.tgt hm,
    (congrArg Modes.trans hm).trans (abandon_trans _), fun g hg => ?_⟩
  have hoff := latched_off (s.withCause cHost) cHost hg
  rw [← causeOn_latches hcond hlatch] at hoff
  exact hoff

/-! ## Clearing latches (R56) -/

/-- Clearing the bits of a list whose conditions are absent. -/
theorem testBit_foldl_clear (cond k : Nat) (l : List Nat) (w : Nat) :
    (l.foldl (fun w b => if cond.testBit b then w else setBit w b false) w).testBit k =
      (w.testBit k && !(decide (k ∈ l) && !cond.testBit k)) := by
  induction l generalizing w with
  | nil => simp
  | cons b l ih =>
    rw [List.foldl_cons, ih]
    by_cases hk : k = b
    · subst hk
      cases hc : cond.testBit k <;> simp [testBit_setBit]
    · cases hc : cond.testBit b <;> simp [testBit_setBit, hk]

/-- The bits named by the low field of a word. -/
theorem mem_bitsSet_fld {n k : Nat} {v : Word} : k ∈ bitsSet n (fld v 0 n) ↔ k < n ∧ v.getLsbD k = true := by
  simp only [bitsSet, fld, List.mem_filter, List.mem_range, pow_zero, Nat.div_one, Nat.testBit_mod_two_pow, Bool.and_eq_true,
    decide_eq_true_eq, BitVec.testBit_toNat, and_self_left]

/-- An owner's clear of latches changes the latch alone, by the bits it names, and is NOT_READY if one of them stays. -/
theorem latchClear_owned {s : State} {h : Nat} {v : Word} (ho : s.owns h 0 = true) (hw : s.wiping = false) :
    ∃ latch : Nat, (s.latchClear h v).1 = { s with modes := { s.modes with latch := latch } } ∧
      ((s.latchClear h v).2 = .ok ∨ (s.latchClear h v).2 = .notReady) ∧
      ∀ b, b < 13 → latch.testBit b = (s.modes.latch.testBit b && !(v.getLsbD b && !s.modes.cond.testBit b)) := by
  have hfirst : ¬ firstOf [(!s.owns h 0, .notOwner), (s.wiping, .busy)] ≠ .ok := by simp [ho, hw, firstOf]
  unfold State.latchClear
  dsimp only
  rw [if_neg hfirst]
  refine ⟨_, rfl, ?_, fun b hb => ?_⟩
  · dsimp only
    split
    · exact .inl rfl
    · exact .inr rfl
  · simp [testBit_foldl_clear, mem_bitsSet_fld, hb]

theorem regWrite_holdLatch (s : State) (h : Nat) (v : Word) : s.regWrite h A.DEV_HOLD_LATCH v = s.latchClear h v := rfl

/-- A clear of latches by the owner, accepted or NOT_READY, reaches the latch, the host windows and a corruption alone. -/
theorem hostPut_holdLatch {s : State} {h : Nat} {v : Word} (ho : s.owns h 0 = true) (hw : s.wiping = false) :
    ∃ latch : Nat, (∀ b, b < 13 → latch.testBit b = (s.modes.latch.testBit b && !(v.getLsbD b && !s.modes.cond.testBit b))) ∧
      ∃ (q : Hosts) (m : Memories), s.hostPut h A.DEV_HOLD_LATCH v =
        { s with hosts := q, modes := { s.modes with latch := latch }, mem := m } := by
  obtain ⟨latch, heq, hst, hbits⟩ := latchClear_owned (s := s.disarm h (pageOf A.DEV_HOLD_LATCH)) (v := v) ho hw
  refine ⟨latch, hbits, ?_⟩
  have hput : s.hostPut h A.DEV_HOLD_LATCH v = (s.hostWrite h A.DEV_HOLD_LATCH v).1 := if_neg (by decide)
  rw [hput, hostWrite_register (by decide) (by decide) (by decide) (by decide), regWrite_holdLatch]
  dsimp only
  rcases hst with hst | hst
  · rw [if_pos hst, heq, mended_eq]
    exact ⟨_, _, rfl⟩
  · rw [if_neg (by rw [hst]; decide), heq, hst]
    exact ⟨_, _, rfl⟩

end Sys2Proof.Machine

open Sys2Proof Sys2Proof.Machine

/-- Settles O3: a request that its row admits begins in the state the write leaves, each row by its own equation of
    `modeBegin`; a HOLD request is the pulse of cause HOST, and a clear of latches a fold over the bits named. -/
theorem modesAndHoldFollowRequests : Obligations.ModesAndHoldFollowRequests := by
  unfold Obligations.ModesAndHoldFollowRequests
  refine ⟨?watch, ?abandon, ?stop, ?energize, ?follow, ?toFollow, ?form, ?toForm, ?service, ?hold, ?clear⟩
  case watch =>
    intro s h ha henergize hfollow hform
    refine gives_begunAlone (m := .watch) rfl ha (eq_false_of_ne_true fun hw => ?_)
    obtain hc | hc | hc := workFirst_watch.mp hw
    · exact henergize hc
    · exact hfollow hc
    · exact hform hc
  case abandon =>
    intro s h ha hc
    have hn := next_of_asksFor ha
    refine gives_modeRequest (m := .watch) rfl ha ?_
    rw [modeBegin_abandons (s := s.requestTaken h .watch) hn hc]
    obtain ⟨hmodes, hended, hresult⟩ := closeAborts_ends ((s.requestTaken h .watch).toward .watch) 3
    refine ⟨?_, ?_, fun hclosing => ?_⟩
    · exact begun_of_modes ((State.mended_modes _ _).trans hmodes)
    · rw [State.closing, State.mended_grd]
      exact hended
    · rw [State.mended_grd]
      exact hresult hclosing
  case stop =>
    intro s h ha hc hmain hseries
    have hn := next_of_asksFor ha
    refine gives_modeRequest (m := .watch) rfl ha ?_
    rw [modeBegin_stops (s := s.requestTaken h .watch) hn hc,
      beginStop_ramps (s := (s.requestTaken h .watch).toward .watch) _ hmain hseries, mended_eq]
    exact ⟨⟨rfl, rfl, rfl, rfl, rfl, rfl⟩, rfl, rfl⟩
  case energize =>
    intro s h ha
    exact gives_begunAlone (m := .energize) rfl ha (workFirst_energize _)
  case follow =>
    intro s h ha hform
    exact gives_begunAlone (m := .follow) rfl ha (eq_false_of_ne_true (mt workFirst_follow.mp hform))
  case toFollow =>
    intro s h ha hc
    have hn := next_of_asksFor ha
    refine gives_modeRequest (m := .follow) rfl ha ?_
    rw [modeBegin_toFollow (s := s.requestTaken h .follow) hn hc, mended_eq]
    exact ⟨⟨rfl, rfl, rfl, rfl, rfl, rfl⟩, hn, rfl, rfl⟩
  case form =>
    intro s h ha hfollow
    exact gives_begunAlone (m := .form) rfl ha (eq_false_of_ne_true (mt workFirst_form.mp hfollow))
  case toForm =>
    intro s h ha hc
    have hn := next_of_asksFor ha
    refine gives_modeRequest (m := .form) rfl ha ?_
    rw [modeBegin_toForm (s := s.requestTaken h .form) hn hc, mended_eq]
    exact ⟨⟨rfl, rfl, rfl, rfl, rfl, rfl⟩, hn, rfl, rfl⟩
  case service =>
    intro s h ha
    exact gives_begunAlone (m := .service) rfl ha (workFirst_service _)
  case hold =>
    intro s h hlive hh hw hc hcond hlatch
    refine gives_byHost (f := fun s => s.hostPut h A.DEV_HOLD_REQ 0xF807#32) hlive hh ?_
    rw [hostPut_ok (by decide) (by decide) (by decide) (by decide)
      (regWrite_holdReq (s := s.disarm h (pageOf A.DEV_HOLD_REQ)) hw)]
    simp only [State.mended_modes, State.group, State.mended_saf]
    exact causePulse_host (s := s.disarm h (pageOf A.DEV_HOLD_REQ)) hc hcond hlatch
  case clear =>
    intro s h v hlive hh howns hw
    refine gives_byHost (f := fun s => s.hostPut h A.DEV_HOLD_LATCH v) hlive hh ?_
    obtain ⟨latch, hbits, q, m, heq⟩ := hostPut_holdLatch (v := v) howns hw
    rw [heq]
    exact ⟨hbits, rfl⟩

end

section
/-! PROOFS. DEVTIME: a host's set, the PTP slave's offset, and the loss of Sync (R64 to R67, R376). -/

namespace Sys2Proof.Machine

/-! ## What the sentinel's clock and the following of masters leave alone -/

theorem senEntryAt_eq (s : State) (type subject detail time : Nat) (bound : Bool) :
    let t := s.senEntryAt type subject detail time bound
    t = { s with sen := t.sen, ev := t.ev, reco := t.reco } := by
  dsimp only
  unfold State.senEntryAt
  dsimp only
  split
  · rfl
  · exact senCommit_eq ..

/-- The sentinel's clock follows DEVTIME: the domain and the events change alone (R64). -/
theorem senSync_eq (s : State) :
    let t := s.senSync
    t = { s with sen := t.sen, ev := t.ev, reco := t.reco } := by
  dsimp only
  unfold State.senSync
  split
  · rfl
  · dsimp only
    split
    · rw [senEntryAt_eq]
      split <;> rfl
    · rfl

theorem senSync_clock (s : State) : s.senSync.clock = s.clock := by rw [senSync_eq]
theorem senSync_net (s : State) : s.senSync.net = s.net := by rw [senSync_eq]

theorem setSync_clock (s : State) (y : Sync) : (s.setSync y).clock = { s.clock with sync := y } := by
  unfold State.setSync
  split
  · rename_i h
    rw [← h]
  · rw [senSync_clock, State.modClock_clock]

theorem setSync_net (s : State) (y : Sync) : (s.setSync y).net = s.net := by
  unfold State.setSync
  split
  · rfl
  · rw [senSync_net, State.modClock_net]

/-- Following another master leaves DEVTIME, and when a Sync was last heard (R375). -/
theorem ptpFollow_keeps (s : State) : s.ptpFollow.clock = s.clock ∧ s.ptpFollow.net.syncAt = s.net.syncAt := by
  unfold State.ptpFollow
  dsimp only
  split
  · split <;> simp
  · split <;> simp

theorem rxFrame_eq (s : State) (p : Nat) : ∃ stamps, s.rxFrame p = { s with net := { s.net with rxStamp := stamps } } := by
  unfold State.rxFrame
  split
  · exact ⟨_, rfl⟩
  · exact ⟨_, rfl⟩

/-! ## A host's set (R65, R67) -/

/-- A step to a time, whole ns, takes DEVTIME there. -/
theorem movedBy_to (dev want : Nat) : movedBy dev ((want : Int) - ((dev / ns : Nat) : Int)) / ns = want := by
  have hdev := Nat.div_add_mod dev ns
  have hlt := Nat.mod_lt dev (show 0 < ns by decide)
  unfold movedBy
  simp only [ns] at *
  omega

/-- A step leaves the rate and the monotone time, and nothing outstanding. -/
theorem applyStep_clock (s : State) (ofs : Int) (y : Sync) : (s.applyStep ofs y).clock =
    { s.clock with dev := movedBy s.clock.dev ofs, step := none, stepProbes := 4, stepPend := false, sync := y } := by
  unfold State.applyStep
  dsimp only
  rw [senSync_clock]
  rfl

theorem applyStep_devNs (s : State) (want : Nat) (y : Sync) :
    (s.applyStep ((want : Int) - (s.devNs : Int)) y).devNs = want := by
  rw [State.devNs, applyStep_clock]
  exact movedBy_to s.clock.dev want

/-- A set of DEVTIME that is not BUSY: decided, or applied before beats run. -/
theorem devtimeSet_accepted {s : State} {h : Nat} (v : Word) (ha : s.admits h 0x20 mStop = true) (hb : s.timeBusy = false) :
    s.devtimeSet h v =
      let ofs := ((v.toNat + 4294967296 * (s.upperOf h A.DEVTIME_SET_HI 0#32).toNat : Nat) : Int) - (s.devNs : Int)
      let t := s.dropUpper h A.DEVTIME_SET_HI
      (if s.ang.beats then t.decideStep ofs .host else t.applyStep ofs .host, .ok) :=
  judged_ok (firstOf_append (common_clear ha) (by simp [hb]))

theorem regWrite_devtimeSet (s : State) (h : Nat) (v : Word) : s.regWrite h A.DEVTIME_SET_LO v = s.devtimeSet h v := rfl

/-! ## The PTP slave's offset (R66) -/

theorem absI_clampI {m : Int} (hm : 0 ≤ m) (x : Int) : absI (clampI (-m) m x) ≤ m := by
  unfold absI clampI
  split <;> omega

theorem rateMax_nonneg (s : State) : 0 ≤ s.rateMax := Int.natCast_nonneg _

/-- The clock with DEVTIME_OFS as an offset shows in it. -/
def Clock.shows (c : Clock) (ofs : Int) : Clock := { c with ofs := clampI (-0x80000000) 0x7FFFFFFF ofs }

section
variable {s : State} {ofs : Int} (hptp : bitAt (s.ureg A.DEVTIME_CFG) 0 = true) (hstep : s.clock.step = none)
include hptp hstep

/-- An offset within STEP_LIM corrects the rate, within RATE_MAX. -/
theorem ptpOffset_corrects (hlim : absI ofs ≤ s.stepLim) : (s.ptpOffset ofs).clock =
    { s.clock.shows ofs with
      rate := clampI (-s.rateMax) s.rateMax (s.open_ 0).toInt, stepPend := false, sync := .ptp } := by
  simp [State.ptpOffset, hptp, hstep, hlim, setSync_clock, Clock.shows]

/-- A larger one while the stages switch waits, at the full rate. -/
theorem ptpOffset_waits (hlim : s.stepLim < absI ofs) (hsw : s.switchingSoon = true) : (s.ptpOffset ofs).clock =
    { s.clock.shows ofs with rate := if ofs < 0 then -s.rateMax else s.rateMax, stepPend := true, sync := .ptp } := by
  simp [State.ptpOffset, hptp, hstep, Int.not_le.mpr hlim, hsw, setSync_clock, Clock.shows]

/-- And else is a step, decided. -/
theorem ptpOffset_steps (hlim : s.stepLim < absI ofs) (hsw : s.switchingSoon = false) :
    (s.ptpOffset ofs).clock = { s.clock.shows ofs with step := some (ofs, .ptp, 2) } := by
  simp [State.ptpOffset, hptp, hstep, Int.not_le.mpr hlim, hsw, State.decideStep, Clock.shows]

end

theorem ptpOffset_net (s : State) (ofs : Int) : (s.ptpOffset ofs).net = s.net := by
  unfold State.ptpOffset
  dsimp only
  split
  · rfl
  · split
    · rw [setSync_net]
      rfl
    · split
      · rw [setSync_net, State.eventIf_net]
        rfl
      · rfl

/-- The state in which the slave's offset is judged: the frame's arrival and the time of the Sync are noted (R376). -/
theorem ptpSync_heard {s : State} {p d : Nat} (ofs : Int) (hbest : s.ptpBest = some p) (htakes : s.ptpTakes p d = true)
    (hptp : bitAt (s.ureg A.DEVTIME_CFG) 0 = true) : ∃ n : Net, n.syncAt = some s.now ∧
      s.ptpSync p d ofs = (State.ptpOffset { s with net := n } ofs).ptpFollow := by
  obtain ⟨stamps, hrx⟩ := rxFrame_eq s p
  refine ⟨{ s.net with rxStamp := stamps, syncAt := some s.now, calibrated := true }, rfl, ?_⟩
  rw [State.ptpSync, if_pos ⟨hbest, htakes, hptp⟩, hrx]
  rfl

/-! ## No Sync (R66) -/

theorem ptpLost_holds {s : State} (hptp : bitAt (s.ureg A.DEVTIME_CFG) 0 = true) :
    s.ptpLost = { s with clock := { s.clock with sync := if s.clock.sync = .ptp then .holdover else s.clock.sync } } := by
  unfold State.ptpLost
  rw [hptp]
  split
  · rename_i hy
    have hy : s.clock.sync = .ptp := by simpa using hy
    rw [if_pos hy]
    rfl
  · rename_i hy
    have hy : s.clock.sync ≠ .ptp := by simpa using hy
    rw [if_neg hy]

/-- Time that passes leaves what disciplines DEVTIME. -/
theorem advance_discipline (s : State) (t : Nat) :
    (s.advance t).clock.rate = s.clock.rate ∧ (s.advance t).clock.sync = s.clock.sync := ⟨rfl, rfl⟩

theorem ptpHoldover_lost {s : State} {a : Nat} (ha : s.net.syncAt = some a) (hptp : bitAt (s.ureg A.DEVTIME_CFG) 0 = true) :
    s.ptpHoldover =
      (((s.advance (a + ms (fld (s.reg A.NET_PTP_CFG) 16 16))).modNet fun n =>
        { n with syncAt := none, calibrated := false }).ptpLost).ptpFollow := by
  simp only [State.ptpHoldover, hptp, if_true, ha]

/-- What the loss of Sync leaves: the rate as last corrected, and HOLDOVER where PTP time was in use. -/
theorem ptpLost_followed {s : State} (hptp : bitAt (s.ureg A.DEVTIME_CFG) 0 = true) :
    s.ptpLost.ptpFollow.net.syncAt = s.net.syncAt ∧ s.ptpLost.ptpFollow.clock.rate = s.clock.rate ∧
    s.ptpLost.ptpFollow.clock.sync = if s.clock.sync = .ptp then .holdover else s.clock.sync := by
  obtain ⟨hclock, hheard⟩ := ptpFollow_keeps s.ptpLost
  rw [hclock, hheard, ptpLost_holds hptp]
  exact ⟨rfl, rfl, rfl⟩

theorem ptpHoldover_leaves {s : State} {a : Nat} (ha : s.net.syncAt = some a) (hptp : bitAt (s.ureg A.DEVTIME_CFG) 0 = true) :
    s.ptpHoldover.net.syncAt = none ∧ s.ptpHoldover.clock.rate = s.clock.rate ∧
    s.ptpHoldover.clock.sync = if s.clock.sync = .ptp then .holdover else s.clock.sync := by
  rw [ptpHoldover_lost ha hptp]
  generalize a + ms (fld (s.reg A.NET_PTP_CFG) 16 16) = u
  set v : State := (s.advance u).modNet fun n => { n with syncAt := none, calibrated := false } with hv
  have hused : v.used = s.used := by rw [hv, State.modNet_used, State.advance_used]
  obtain ⟨hheard, hrate, hsync⟩ := ptpLost_followed (s := v) (by rw [State.ureg, hused]; exact hptp)
  obtain ⟨hrate', hsync'⟩ := advance_discipline s u
  refine ⟨hheard, hrate.trans ?_, hsync.trans ?_⟩
  · rw [hv, State.modNet_clock, hrate']
  · rw [hv, State.modNet_clock, hsync']

theorem ptpHoldover_off {s : State} (hptp : bitAt (s.ureg A.DEVTIME_CFG) 0 = false) : s.ptpHoldover = s := by
  simp [State.ptpHoldover, hptp]

end Sys2Proof.Machine

open Sys2Proof Sys2Proof.Machine

/-- Settles O9: a set of DEVTIME by its equation, the offset of the slave by the three forms it takes, and holdover by what
the loss of Sync leaves of the clock. -/
theorem devtimeIsDisciplined : Obligations.DevtimeIsDisciplined := by
  unfold Obligations.DevtimeIsDisciplined
  refine ⟨?set, ?offset, ?holdover, ?off⟩
  case set =>
    intro s h v ha hcfg hstep hsw
    obtain ⟨hlive, hh⟩ := live_of_admits ha
    have hbusy : s.timeBusy = false := by simp [State.timeBusy, hcfg, hstep, hsw]
    refine gives_byHost (f := fun s => s.hostPut h A.DEVTIME_SET_LO v) hlive hh ?_
    rw [hostPut_ok (by decide) (by decide) (by decide) (by decide)
      ((regWrite_devtimeSet _ h v).trans (devtimeSet_accepted (s := s.disarm h (pageOf A.DEVTIME_SET_LO)) v ha hbusy))]
    refine ⟨fun hbeats => ?_, fun hbeats => ?_⟩
    · rw [if_pos (by exact hbeats), mended_eq]
      exact ⟨rfl, rfl⟩
    · set u : State := (s.disarm h (pageOf A.DEVTIME_SET_LO)).dropUpper h A.DEVTIME_SET_HI
      have hdev := applyStep_devNs u (v.toNat + 4294967296 * (s.upperOf h A.DEVTIME_SET_HI 0#32).toNat) .host
      rw [if_neg (by simp [hbeats]), State.devNs, State.mended_clock]
      rw [State.devNs] at hdev
      refine ⟨hdev, ?_⟩
      rw [applyStep_clock]
      exact ⟨rfl, rfl, rfl⟩
  case offset =>
    intro s p d ofs hlive hp hbest htakes hptp hstep
    refine gives_running (c := decide (p < 4)) (f := fun s => s.ptpSync p d ofs) hlive (by simpa using hp) ?_
    obtain ⟨n, hn, heq⟩ := ptpSync_heard ofs hbest htakes hptp
    set u : State := { s with net := n }
    obtain ⟨hclock, hsync⟩ := ptpFollow_keeps (u.ptpOffset ofs)
    rw [heq, hclock, hsync, ptpOffset_net]
    have hcorrects := ptpOffset_corrects (s := u) (ofs := ofs) hptp hstep
    have hwaits := ptpOffset_waits (s := u) (ofs := ofs) hptp hstep
    have hsteps := ptpOffset_steps (s := u) (ofs := ofs) hptp hstep
    refine ⟨?_, hn, fun hlim => ?_, fun hlim hsw => ?_, fun hlim hsw => ?_⟩
    · rcases Int.lt_or_le s.stepLim (absI ofs) with hlim | hlim
      · cases hsw : s.switchingSoon with
        | true => rw [hwaits hlim hsw]; rfl
        | false => rw [hsteps hlim hsw]; rfl
      · rw [hcorrects hlim]; rfl
    · rw [hcorrects hlim]
      exact ⟨rfl, absI_clampI (rateMax_nonneg s) _, hstep, rfl⟩
    · rw [hwaits hlim hsw]
      exact ⟨rfl, rfl, hstep, rfl⟩
    · rw [hsteps hlim hsw]
      exact ⟨rfl, rfl, rfl⟩
  case holdover =>
    intro s a hlive ha hptp
    refine gives_running (c := true) (f := State.ptpHoldover) hlive rfl ?_
    exact ptpHoldover_leaves ha hptp
  case off =>
    intro s hlive hptp
    exact gives_running (c := true) (f := State.ptpHoldover) (p := fun t => t = s) hlive rfl (ptpHoldover_off hptp)

end

section
/-! PROOFS. The course of the beats (R24, R77, R79): count, index and start of the beat, the division, and what is noted within
a beat. What a beat start brings into force in the units leaves them alone, operation by operation (`_course`). -/

namespace Sys2Proof.Machine

/-! ## The course of the beats -/

/-- Where the beats stand: count, index, start and next start of the beat, the entries fired in it, the division in force and
the one pending, and what is noted within a beat until the next one starts. -/
structure Course where
  seq : Nat
  idx : Nat
  bstart : Nat
  next : Nat
  fired : List Nat
  div : Nat
  divPend : Bool
  divWord : Word
  acts : List (Nat × Nat × Word × Word)
  cutoff : Bool
  commits : List (Nat × Bool)
  done : Bool
  copied : Bool

/-- Where the beats of a state stand; of the words in use, ANG_DIV. -/
@[simps] def State.course (s : State) : Course :=
  { seq := s.ang.seq, idx := s.ang.idx, bstart := s.ang.bstart, next := s.ang.next, fired := s.ang.fired, div := s.ang.div,
    divPend := s.ang.divPend, divWord := Map.get resetWord A.ANG_DIV s.used, acts := s.rings.acts, cutoff := s.rings.cutoff,
    commits := s.loop.commits, done := s.loop.done, copied := s.loop.copied }

@[simp] theorem State.mk_course (free : Nat) (part : Part) (regs : List (Nat × Word)) (used : List (Nat × Word)) (rideWait :
    List Nat) (pwr : Reset) (lcy : Lcy) (clock : Clock) (hosts : Hosts) (modes : Modes) (ang : Angle) (adc : Adc) (rings :
    Rings) (modu : Modulator) (loop : Loop) (grd : Grd) (bpt : Bpt) (rti : Rti) (gaf : Gaffer) (saf : Safety) (net : Net)
    (reco : Recorder) (mem : Memories) (rail : Rail) (clk : Clk) (sen : Sentinel) (ev : Fabric) (pending : List Instr) :
    (State.mk free part regs used rideWait pwr lcy clock hosts modes ang adc rings modu loop grd bpt rti gaf saf net reco mem
      rail clk sen ev pending).course =
      ⟨ang.seq, ang.idx, ang.bstart, ang.next, ang.fired, ang.div, ang.divPend, Map.get resetWord A.ANG_DIV used, rings.acts,
        rings.cutoff, loop.commits, loop.done, loop.copied⟩ := by simp only [State.course]

@[simp] theorem Course.mk_eq_course (s : State) :
    (⟨s.ang.seq, s.ang.idx, s.ang.bstart, s.ang.next, s.ang.fired, s.ang.div, s.ang.divPend,
      Map.get resetWord A.ANG_DIV s.used, s.rings.acts, s.rings.cutoff, s.loop.commits, s.loop.done, s.loop.copied⟩ : Course) =
      s.course := by simp only [State.course]

@[simp] theorem State.course_ite (c : Prop) [Decidable c] (s t : State) :
    (if c then s else t).course = if c then s.course else t.course := by split <;> rfl

@[simp] theorem foldl_course {α : Type} {f : State → α → State} (h : ∀ s a, (f s a).course = s.course) (l : List α)
    (s : State) : (l.foldl f s).course = s.course := foldl_keeps h l s

/-- Nothing but the angle unit, the rings, the loop engine and the words in use bears on it. -/
theorem course_congr {s t : State} (hang : t.ang = s.ang) (hrings : t.rings = s.rings) (hloop : t.loop = s.loop)
    (hused : t.used = s.used) : t.course = s.course := by
  simp only [State.course, hang, hrings, hloop, hused]

theorem course_onlyEvents {s t : State} (h : OnlyEvents s t) : t.course = s.course := by
  rw [h, State.mk_course, Course.mk_eq_course]

/-! ## One part of the state

As with what lasts, none of these is proved by `rfl`: a rewriting by definitional unfolding could not discharge the step of a
fold in `foldl_course`. -/

@[simp] theorem State.modAdc_course (s : State) (f : Adc → Adc) : (s.modAdc f).course = s.course :=
  course_congr rfl rfl rfl rfl
@[simp] theorem State.modGrd_course (s : State) (f : Grd → Grd) : (s.modGrd f).course = s.course :=
  course_congr rfl rfl rfl rfl
@[simp] theorem State.modBpt_course (s : State) (f : Bpt → Bpt) : (s.modBpt f).course = s.course :=
  course_congr rfl rfl rfl rfl
@[simp] theorem State.modRti_course (s : State) (f : Rti → Rti) : (s.modRti f).course = s.course :=
  course_congr rfl rfl rfl rfl
@[simp] theorem State.modGaf_course (s : State) (f : Gaffer → Gaffer) : (s.modGaf f).course = s.course :=
  course_congr rfl rfl rfl rfl
@[simp] theorem State.modNet_course (s : State) (f : Net → Net) : (s.modNet f).course = s.course :=
  course_congr rfl rfl rfl rfl
@[simp] theorem State.modHosts_course (s : State) (f : Hosts → Hosts) : (s.modHosts f).course = s.course :=
  course_congr rfl rfl rfl rfl
@[simp] theorem State.modClock_course (s : State) (f : Clock → Clock) : (s.modClock f).course = s.course :=
  course_congr rfl rfl rfl rfl
@[simp] theorem State.modTrk_course (s : State) (c : Nat) (f : Tracker → Tracker) : (s.modTrk c f).course = s.course :=
  course_congr rfl rfl rfl rfl
@[simp] theorem State.modEng_course (s : State) (e : Nat) (f : Engine → Engine) : (s.modEng e f).course = s.course :=
  course_congr rfl rfl rfl rfl
@[simp] theorem State.modCell_course (s : State) (c : Nat) (f : CellLink → CellLink) : (s.modCell c f).course = s.course := by
  simp only [State.course, State.modCell]
@[simp] theorem State.modRing_course (s : State) (k : Nat) (f : RingSt → RingSt) : (s.modRing k f).course = s.course := by
  simp only [State.course, State.modRing]
@[simp] theorem State.modCmod_course (s : State) (c : Nat) (f : CellMod → CellMod) : (s.modCmod c f).course = s.course :=
  course_congr rfl rfl rfl rfl
@[simp] theorem State.modLhb_course (s : State) (k : Nat) (f : Lhb → Lhb) : (s.modLhb k f).course = s.course :=
  course_congr rfl rfl rfl rfl
@[simp] theorem State.modGroup_course (s : State) (g : Nat) (f : Group → Group) : (s.modGroup g f).course = s.course :=
  course_congr rfl rfl rfl rfl
@[simp] theorem State.modSlot_course (s : State) (i : Nat) (f : LoopSlot → LoopSlot) : (s.modSlot i f).course = s.course := by
  simp only [State.course, State.modSlot]
@[simp] theorem State.modPub_course (s : State) (n : Nat) (f : Pub → Pub) : (s.modPub n f).course = s.course :=
  course_congr rfl rfl rfl rfl
@[simp] theorem State.send_course (s : State) (o : Out) : (s.send o).course = s.course :=
  course_congr rfl rfl rfl rfl
@[simp] theorem State.took_course (s : State) (n : Nat) : (s.took n).course = s.course :=
  course_congr rfl rfl rfl rfl
@[simp] theorem State.event_course (s : State) (page n sub : Nat) (d : List Nat) (st : Status) :
    (s.event page n sub d st).course = s.course :=
  course_congr rfl rfl rfl rfl
@[simp] theorem State.eventIf_course (s : State) (c : Bool) (page n sub : Nat) (d : List Nat) :
    (s.eventIf c page n sub d).course = s.course := by simp [State.eventIf]
@[simp] theorem State.trigger_course (s : State) (src : Nat) (force : Bool) : (s.trigger src force).course = s.course :=
  course_onlyEvents (trigger_onlyEvents s src force)
@[simp] theorem State.advance_course (s : State) (t : Nat) : (s.advance t).course = s.course :=
  course_congr rfl rfl rfl rfl
@[simp] theorem State.senSync_course (s : State) : s.senSync.course = s.course := by
  rw [senSync_eq]
  rfl

/-- A change of the angle unit shows in the course by its beat and its division. -/
theorem State.modAng_course (s : State) (f : Angle → Angle) : (s.modAng f).course = { s.course with
    seq := (f s.ang).seq, idx := (f s.ang).idx, bstart := (f s.ang).bstart, next := (f s.ang).next, fired := (f s.ang).fired,
    div := (f s.ang).div, divPend := (f s.ang).divPend } := by
  simp [State.modAng]

/-- A word put in both tables that is not ANG_DIV. -/
theorem State.putBoth_course (s : State) {o : Nat} (v : Word) (ho : A.ANG_DIV ≠ o) : (s.putBoth o v).course = s.course := by
  simp [State.putBoth, Map.get_put_other ho]

/-! ## HOLD, its causes, and the local outputs -/

@[simp] theorem State.cutCell_course (s : State) (first : Bool) (c : Nat) : (s.cutCell first c).course = s.course :=
  course_congr rfl rfl rfl rfl
@[simp] theorem State.sendCut_course (s : State) (k lines : Nat) : (s.sendCut k lines).course = s.course := by
  simp [State.sendCut]
@[simp] theorem State.groupOff_course (s : State) (g : Nat) : (s.groupOff g).course = s.course := by simp [State.groupOff]
@[simp] theorem State.groupsOff_course (s : State) : s.groupsOff.course = s.course := by simp [State.groupsOff]
@[simp] theorem State.holdActs_course (s : State) : s.holdActs.course = s.course := by simp [State.holdActs, State.cutAll]
@[simp] theorem State.latched_course (s : State) (bit : Nat) : (s.latched bit).course = s.course := by
  obtain ⟨m, -, -, -, heq⟩ := latched_eq s bit
  rw [course_onlyEvents heq, State.mk_course, Course.mk_eq_course, State.holdActs_course]
@[simp] theorem State.causeOn_course (s : State) (bit : Nat) : (s.causeOn bit).course = s.course := by simp [State.causeOn]
@[simp] theorem State.causeIs_course (s : State) (bit : Nat) (on : Bool) : (s.causeIs bit on).course = s.course := by
  simp [State.causeIs, State.causeOff]
@[simp] theorem State.applyForces_course (s : State) (old new : Word) : (s.applyForces old new).course = s.course := by
  simp [State.applyForces, State.applyForce]
@[simp] theorem State.streamFollow_course (s : State) : s.streamFollow.course = s.course := by
  simp [State.streamFollow, State.streamStops]

/-! ## Cells, pools and trackers -/

@[simp] theorem State.leavePool_course (s : State) (c : Nat) : (s.leavePool c).course = s.course :=
  course_congr rfl rfl rfl rfl
@[simp] theorem State.joinPool_course (s : State) (c : Nat) : (s.joinPool c).course = s.course := by
  unfold State.joinPool
  split <;> rfl
@[simp] theorem State.clearTracker_course (s : State) (c : Nat) (role : Bool) : (s.clearTracker c role).course = s.course :=
  course_congr rfl rfl rfl rfl
@[simp] theorem State.wantBypass_course (s : State) (c : Nat) (latch : Bool) : (s.wantBypass c latch).course = s.course := by
  simp [State.wantBypass]
@[simp] theorem State.judgeCells_course (s : State) : s.judgeCells.course = s.course := by simp [State.judgeCells]
@[simp] theorem State.staleCell_course (s : State) (c reason : Nat) : (s.staleCell c reason).course = s.course := by
  simp [State.staleCell]
@[simp] theorem State.cellsFollow_course (s : State) : s.cellsFollow.course = s.course := by simp [State.cellsFollow]
@[simp] theorem State.freeCell_course (s : State) (c : Nat) : (s.freeCell c).course = s.course := by
  simp [State.freeCell]
@[simp] theorem State.roleActs_course (s : State) (c : Nat) (old new : Word) : (s.roleActs c old new).course = s.course := by
  simp [State.roleActs]
@[simp] theorem State.versionActs_course (s : State) (c : Nat) (old new : Word) :
    (s.versionActs c old new).course = s.course := by simp [State.versionActs]
@[simp] theorem State.serialActs_course (s : State) (c : Nat) : (s.serialActs c).course = s.course := by
  simp [State.serialActs]
@[simp] theorem State.queueCell_course (s : State) (c : Nat) : (s.queueCell c).course = s.course :=
  course_congr rfl rfl rfl rfl
@[simp] theorem State.queueNew_course (s : State) : s.queueNew.course = s.course := by simp [State.queueNew]
@[simp] theorem State.queueAll_course (s : State) : s.queueAll.course = s.course := by simp [State.queueAll]
@[simp] theorem State.writeHistory_course (s : State) : s.writeHistory.course = s.course := by simp [State.writeHistory]
@[simp] theorem State.trackTime_course (s : State) (dt : Nat) : (s.trackTime dt).course = s.course := by
  simp [State.trackTime]
@[simp] theorem State.budgetCell_course (s : State) (c : Nat) : (s.budgetCell c).course = s.course := by
  simp [State.budgetCell]
@[simp] theorem State.budgets_course (s : State) : s.budgets.course = s.course := by simp [State.budgets, State.headrooms]

/-! ## Ride-through, close sequence and transfer -/

@[simp] theorem State.dropEdit_course (s : State) : s.dropEdit.course = s.course := by simp [State.dropEdit]
@[simp] theorem State.preset_course (s : State) (role : Nat) (x : Int) : (s.preset role x).course = s.course := by
  unfold State.preset
  split <;> rfl
@[simp] theorem State.dropXfer_course (s : State) : s.dropXfer.course = s.course := by
  unfold State.dropXfer
  split <;> rfl
@[simp] theorem State.stopStep_course (s : State) : s.stopStep.course = s.course := by
  unfold State.stopStep
  split <;> simp [State.openMain]
@[simp] theorem State.closeEnds_course (s : State) (step result : Nat) : (s.closeEnds step result).course = s.course :=
  course_congr rfl rfl rfl rfl
@[simp] theorem State.closeFails_course (s : State) (result : Nat) : (s.closeFails result).course = s.course := by
  simp [State.closeFails]
@[simp] theorem State.afterLock_course (s : State) : s.afterLock.course = s.course := by
  simp [State.afterLock, State.closeAborts, State.beginStop, State.stopRun]

/-! ## Hosts' versions, engines, publications -/

@[simp] theorem State.spaceWrite_course (s : State) (h a : Nat) (v : Word) : (s.spaceWrite h a v).course = s.course := by
  simp [State.spaceWrite]
@[simp] theorem State.spaceCopy_course (s : State) (h a : Nat) (bs : List Byte) : (s.spaceCopy h a bs).course = s.course := by
  induction s, a, bs using State.spaceCopy.induct h with
  | case1 s a b0 b1 b2 b3 rest ih => rw [State.spaceCopy, ih, State.spaceWrite_course]
  | case2 s a bs hbs => rw [State.spaceCopy]; exact hbs
@[simp] theorem State.postDone_course (s : State) (t : Taken) : (s.postDone t).course = s.course := by
  unfold State.postDone
  split
  · rfl
  · split
    · rfl
    · dsimp only
      split <;> simp
@[simp] theorem State.versionLost_course (s : State) (h : Nat) : (s.versionLost h).course = s.course := by
  simp [State.versionLost, State.postOwed, State.ringsOff]
@[simp] theorem State.diffFollow_course (s : State) : s.diffFollow.course = s.course := by
  simp [State.diffFollow, State.versionsFollow]
@[simp] theorem State.dueFollow_course (s : State) : s.dueFollow.course = s.course := by simp [State.dueFollow]
@[simp] theorem State.judgeWrite_course (s : State) (result reason : Nat) : (s.judgeWrite result reason).course = s.course := by
  simp [State.judgeWrite]
@[simp] theorem State.judgeAbort_course (s : State) : s.judgeAbort.course = s.course := by
  simp [State.judgeAbort, State.judgeEnd]
@[simp] theorem State.joinFails_course (s : State) (e cause : Nat) : (s.joinFails_ e cause).course = s.course := by
  simp [State.joinFails_, State.fence]
@[simp] theorem State.joinsFail_course (s : State) : s.joinsFail.course = s.course := by simp [State.joinsFail]
@[simp] theorem State.joinOut_course (s : State) (e slot : Nat) : (s.joinOut e slot).course = s.course := by
  simp [State.joinOut, State.rejoin, State.engineLost]
@[simp] theorem State.haltBeat_course (s : State) (e : Nat) : (s.haltBeat e).course = s.course := by
  simp [State.haltBeat, State.engineLost]
@[simp] theorem State.syncBeat_course (s : State) (e : Nat) : (s.syncBeat e).course = s.course := by
  simp [State.syncBeat, State.joined]
@[simp] theorem State.engineBeat_course (s : State) : s.engineBeat.course = s.course := by
  simp [State.engineBeat, State.txBeat]
@[simp] theorem State.prpSend_course (s : State) (dst appid : Nat) (pdu : Pdu) : (s.prpSend dst appid pdu).course = s.course := by
  simp [State.prpSend]
@[simp] theorem State.pubBeat_course (s : State) (n : Nat) : (s.pubBeat n).course = s.course := by
  simp [State.pubBeat, State.pubSend]
@[simp] theorem State.pubsBeat_course (s : State) : s.pubsBeat.course = s.course := by simp [State.pubsBeat]

/-! ## A change of mode (R53) -/

theorem serviceWords_not_div : A.ANG_DIV ∉ serviceWords := by decide

@[simp] theorem State.leaveService_course (s : State) : s.leaveService.course = s.course := by
  have hkept (m : List (Nat × Word)) :
      Map.get resetWord A.ANG_DIV (m.filter fun p => !decide (p.1 ∈ serviceWords)) = Map.get resetWord A.ANG_DIV m :=
    Map.get_filter_keep m fun v => by simp [serviceWords_not_div]
  simp [State.leaveService, State.haltsEnd, State.causeOff, hkept]
@[simp] theorem State.enterHoldMode_course (s : State) : s.enterHoldMode.course = s.course := by
  simp [State.enterHoldMode, State.rtiHold, State.putBoth_course]
@[simp] theorem State.enterRide_course (s : State) : s.enterRide.course = s.course := by
  simp [State.enterRide, State.freezeTrackers]
@[simp] theorem State.leaveRide_course (s : State) (m : Mode) : (s.leaveRide m).course = s.course := by
  simp [State.leaveRide, State.thawTrackers]
@[simp] theorem State.enterRun_course (s : State) (m : Mode) : (s.enterRun m).course = s.course := by
  simp [State.enterRun, State.sigStart]
@[simp] theorem State.modeActs_course (s : State) (old m : Mode) : (s.modeActs old m).course = s.course := by
  unfold State.modeActs
  split <;> simp [State.cellsActive]
@[simp] theorem State.sourceFor_course (s : State) (m : Mode) : (s.sourceFor m).course = s.course := by
  simp [State.sourceFor, State.modAng]
@[simp] theorem State.slotsEnter_course (s : State) (old new : Mode) : (s.slotsEnter old new).course = s.course := by
  simp [State.slotsEnter]
@[simp] theorem State.modeNext_course (s : State) : s.modeNext.course = s.course := by
  unfold State.modeNext
  split
  · simp [State.enterMode, State.closeLeft, State.setMode]
  · rfl

end Sys2Proof.Machine
end

section
/-! PROOFS. The start of a beat (R24, R53, R77, R79): a step that applies moves the next start, the copy of R24 brings ANG_DIV into
force, what hosts have written and committed is taken up, and then the beat is fixed and its marks begin anew. -/

namespace Sys2Proof.Machine

/-! ## Up to the fixing of the beat -/

theorem applyStep_course (s : State) (ofs : Int) (y : Sync) :
    (s.applyStep ofs y).course = { s.course with next := movedBy s.ang.next ofs } := by
  simp [State.applyStep, State.modClock]

/-- A step that applies moves the next start, and nothing else of the course. -/
theorem stepBeat_course (s : State) : s.stepBeat.course = { s.course with next := s.stepBeat.ang.next } := by
  have hnext (t : State) (h : ∃ n, t.course = { s.course with next := n }) : t.course = { s.course with next := t.ang.next } := by
    obtain ⟨n, hn⟩ := h
    have : t.ang.next = n := congrArg Course.next hn
    rw [this, hn]
  refine hnext _ ?_
  unfold State.stepBeat
  split
  · split
    · exact ⟨_, applyStep_course ..⟩
    · exact ⟨s.ang.next, State.modClock_course ..⟩
  · exact ⟨s.ang.next, rfl⟩

theorem stepBeat_none {s : State} (h : s.clock.step = none) : s.stepBeat = s := by
  simp [State.stepBeat, h]

/-- The state in which the copy of R24 is made: the time of the beat's start, with a step that applies at it. -/
def State.beatReached (s : State) : State := (s.toBeat.trackTime (s.toBeat.now - s.now)).stepBeat

theorem trackTime_clock (s : State) (dt : Nat) : (s.trackTime dt).clock = s.clock := by
  unfold State.trackTime
  split <;> rfl

theorem advance_step (s : State) (t : Nat) : (s.advance t).clock.step = s.clock.step := rfl

theorem beatReached_course (s : State) : s.beatReached.course = { s.course with next := s.beatReached.ang.next } := by
  rw [State.beatReached, stepBeat_course, State.trackTime_course, State.toBeat, State.advance_course]

theorem beatReached_next {s : State} (h : s.clock.step = none) : s.beatReached.ang.next = s.ang.next := by
  have hstep : (s.toBeat.trackTime (s.toBeat.now - s.now)).clock.step = none := by
    rw [trackTime_clock, State.toBeat, advance_step, h]
  have hcourse : (s.toBeat.trackTime (s.toBeat.now - s.now)).course = s.course := by
    rw [State.trackTime_course, State.toBeat, State.advance_course]
  rw [State.beatReached, stepBeat_none hstep]
  exact congrArg Course.next hcourse

/-- The words hosts have written, and those that wait for RIDE to return, are the same when the beat is reached. -/
theorem beatReached_words (s : State) : s.beatReached.regs = s.regs ∧ s.beatReached.rideWait = s.rideWait := by
  have htrack (t : State) (dt : Nat) : (t.trackTime dt).regs = t.regs ∧ (t.trackTime dt).rideWait = t.rideWait := by
    unfold State.trackTime
    split <;> exact ⟨rfl, rfl⟩
  have hstep (t : State) : t.stepBeat.regs = t.regs ∧ t.stepBeat.rideWait = t.rideWait := by
    unfold State.stepBeat
    split
    · split
      · unfold State.applyStep
        dsimp only
        rw [senSync_eq]
        exact ⟨rfl, rfl⟩
      · exact ⟨rfl, rfl⟩
    · exact ⟨rfl, rfl⟩
  obtain ⟨hregs, hwait⟩ := hstep (s.toBeat.trackTime (s.toBeat.now - s.now))
  obtain ⟨hregs', hwait'⟩ := htrack s.toBeat (s.toBeat.now - s.now)
  rw [State.beatReached, hregs, hwait, hregs', hwait', State.toBeat, State.advance_regs, State.advance_rideWait]
  exact ⟨rfl, rfl⟩

/-- The copy brings ANG_DIV into force unless it waits for RIDE to return (R24, R59). -/
theorem copyWords_div {s : State} (h : A.ANG_DIV ∉ s.rideWait) : s.copyWords.ureg A.ANG_DIV = s.reg A.ANG_DIV := by
  have hput (l : List Nat) (m : List (Nat × Word)) (hl : A.ANG_DIV ∉ l) :
      Map.get resetWord A.ANG_DIV (l.foldl (fun m o => Map.put resetWord o (s.ureg o) m) m) = Map.get resetWord A.ANG_DIV m := by
    induction l generalizing m with
    | nil => rfl
    | cons o l ih =>
      rw [List.mem_cons, not_or] at hl
      rw [List.foldl_cons, ih _ hl.2, Map.get_put_other hl.1]
  unfold State.copyWords
  dsimp only
  split
  · exact hput _ _ h
  · rfl

theorem copyForces_course (s : State) : s.copyForces.course = { s.course with divWord := s.copyWords.ureg A.ANG_DIV } := by
  have hwords : s.copyWords.course = { s.course with divWord := s.copyWords.ureg A.ANG_DIV } := by
    unfold State.copyWords
    dsimp only
    split <;> rfl
  rw [State.copyForces, State.applyForces_course, hwords]

theorem cellActs_course (s : State) (was : Nat) : (s.cellActs was).course = { s.course with acts := [] } := by
  simp [State.cellActs, State.emptied_]

theorem commitBeat_course (s : State) : s.commitBeat.course = { s.course with commits := [] } := by
  simp [State.commitBeat, State.commitActs, State.judgeLoop]

/-- The state in which the beat is fixed. -/
def State.beatForce (s : State) : State :=
  (s.beatReached.copyForces.cellActs (s.toBeat.poolSum 0)).commitBeat.modeNext

/-- Of the course, only the next start and ANG_DIV have changed, and what was written and committed is taken up. -/
theorem beatForce_course (s : State) : s.beatForce.course =
    { s.course with
      next := s.beatReached.ang.next, divWord := s.beatReached.copyWords.ureg A.ANG_DIV, acts := [], commits := [] } := by
  rw [State.beatForce, State.modeNext_course, commitBeat_course, cellActs_course, copyForces_course, beatReached_course]

/-! ## The beat is fixed (R77, R79) -/

theorem judgeLock_course (s : State) : s.judgeLock.course = s.course := by
  simp [State.judgeLock, State.lockOff, State.lockOn, State.modAng_course]

theorem cycleEnd_course (s : State) : s.cycleEnd.course = s.course := by
  simp [State.cycleEnd, judgeLock_course, State.modAng_course]

theorem newRate_course (s : State) : s.newRate.course = s.course := by simp [State.newRate, State.modAng_course]

theorem takeDiv_course (s : State) :
    s.takeDiv.course = { s.course with div := fld s.course.divWord 0 11, divPend := false } := by
  simp [State.takeDiv, State.modAng_course, State.ureg]

/-- The beat begins: its index, count and start. -/
def State.beatBegun (s : State) : State :=
  s.modAng fun a => { a with
    idx := if decide (s.ang.div ≤ s.ang.idx + 1) then 0 else a.idx + 1, seq := (a.seq + 1) % 0x100000000,
    bstart := wholeNs s.ang.next, began := s.now, fired := [] }

/-- At a crossing of 0 a cycle ends, and a pending division takes effect. -/
def State.crossed (s : State) (wraps : Bool) : State :=
  let t := if wraps then s.cycleEnd else s
  if wraps && t.ang.divPend then t.takeDiv else t

/-- The instant of the next start is fixed. -/
def State.startFixed (s : State) (start : Nat) : State :=
  let len := beatLen s.ang.rate s.ang.div
  s.modAng fun a => { a with blen := len, next := start + len }

theorem fixBeat_eq (s : State) :
    s.fixBeat = (s.beatBegun.crossed (decide (s.ang.div ≤ s.ang.idx + 1))).newRate.startFixed s.ang.next := rfl

theorem beatBegun_course (s : State) : s.beatBegun.course = { s.course with
    seq := (s.ang.seq + 1) % 0x100000000, idx := if s.ang.div ≤ s.ang.idx + 1 then 0 else s.ang.idx + 1,
    bstart := wholeNs s.ang.next, fired := [] } := by
  simp [State.beatBegun, State.modAng_course]

theorem crossed_course (s : State) (wraps : Bool) : (s.crossed wraps).course =
    if wraps = true ∧ s.course.divPend = true then { s.course with div := fld s.course.divWord 0 11, divPend := false }
    else s.course := by
  have hpend : s.cycleEnd.ang.divPend = s.course.divPend := congrArg Course.divPend (cycleEnd_course s)
  unfold State.crossed
  cases wraps with
  | false => rfl
  | true => simp only [hpend, if_true, Bool.true_and, true_and, State.course_ite, takeDiv_course, cycleEnd_course]

theorem startFixed_course (s : State) (start : Nat) :
    (s.startFixed start).course = { s.course with next := (s.startFixed start).ang.next } := by
  simp [State.startFixed, State.modAng_course]

/-- The next beat: its index returns to 0 after the last of the division, and at that crossing a pending division takes effect. -/
theorem fixBeat_course (s : State) : s.fixBeat.course = { s.course with
    seq := (s.course.seq + 1) % 0x100000000, idx := if s.course.div ≤ s.course.idx + 1 then 0 else s.course.idx + 1,
    bstart := wholeNs s.course.next, next := s.fixBeat.ang.next, fired := [],
    div := if s.course.div ≤ s.course.idx + 1 ∧ s.course.divPend = true then fld s.course.divWord 0 11 else s.course.div,
    divPend := s.course.divPend && !decide (s.course.div ≤ s.course.idx + 1) } := by
  rw [fixBeat_eq, startFixed_course, newRate_course, crossed_course, beatBegun_course]
  by_cases hw : s.ang.div ≤ s.ang.idx + 1
  · cases hp : s.ang.divPend with
    | true => simp [hw, hp]
    | false => simp [hw, hp]
  · simp [hw]

/-! ## What begins anew, and what the units do (R24) -/

theorem beatFlags_course (s : State) :
    s.beatFlags.course = { s.course with cutoff := false, done := false, copied := false } := by
  simp [State.beatFlags]

theorem judgeRing_course (s : State) (k : Nat) : (s.judgeRing k).course = s.course := by simp [State.judgeRing]

theorem subsBeat_course (s : State) : s.subsBeat.course = s.course := by simp [State.subsBeat]

theorem stringsBeat_course (s : State) : s.stringsBeat.course = s.course := by
  unfold State.stringsBeat
  split <;> simp

theorem refreshProfile_course (s : State) : s.refreshProfile.course = s.course := by
  unfold State.refreshProfile
  split <;> simp

theorem selectProfile_course (s : State) : s.selectProfile.course = s.course := by simp [State.selectProfile]

theorem beatCuts_course (s : State) : s.beatCuts.course = s.course := by simp [State.beatCuts, State.tripCut]

theorem cycleStart_course (s : State) : s.cycleStart.course = s.course := by
  simp [State.cycleStart, State.rtiBeat, State.rtiCycle, State.closeCycles]

theorem beatUnits_course (s : State) : s.beatUnits.course = s.course := by
  have hmev (t : State) (start : Nat) : (t.mevBeat start).course = t.course := course_congr rfl rfl rfl rfl
  have hrings (t : State) : t.judgeRings.course = t.course := foldl_course judgeRing_course _ _
  have hcal (t : State) : t.calsetBeat.course = t.course := by simp [State.calsetBeat]
  rw [State.beatUnits, hmev, State.cellsFollow_course, cycleStart_course, beatCuts_course, State.queueNew_course,
    selectProfile_course, refreshProfile_course, State.pubsBeat_course, State.engineBeat_course, stringsBeat_course,
    subsBeat_course, hcal, hrings]

theorem cmpBeat_course (s before : State) : (s.cmpBeat before).course = s.course := by simp [State.cmpBeat, State.cmpFollow]

/-! ## The beat start -/

theorem beatStart_eq {s : State} (hl : s.live = true) (hb : s.ang.beats = true) :
    s.beatStart = ((s.beatForce.fixBeat.afterLock.beatFlags.beatUnits).gatherBeat s).cmpBeat s := by
  unfold State.beatStart
  rw [hl, hb]
  rfl

/-- A beat start fixes the next beat of the course that the copy and a step have left, and begins its marks anew. -/
theorem beatStart_course {s : State} (hl : s.live = true) (hb : s.ang.beats = true) :
    s.beatStart.course = { s.beatForce.fixBeat.course with cutoff := false, done := false, copied := false } := by
  rw [beatStart_eq hl hb, cmpBeat_course, State.gatherBeat, State.modAdc_course, beatUnits_course, beatFlags_course,
    State.afterLock_course]

end Sys2Proof.Machine

open Sys2Proof Sys2Proof.Machine

/-- Settles O4: what a beat start leaves of the course (`beatStart_course`, `fixBeat_course`), over the course in which the beat
is fixed (`beatForce_course`). -/
theorem beatStartAdvancesTheBeat : Obligations.BeatStartAdvancesTheBeat := by
  unfold Obligations.BeatStartAdvancesTheBeat
  refine ⟨fun s hl hb => ?_, fun s hl hb hpend hcross hwait => ?_⟩
  · refine gives_running hl hb ?_
    have hcourse := beatStart_course hl hb
    rw [fixBeat_course, beatForce_course] at hcourse
    have hstart : s.beatStart.ang.bstart = wholeNs s.beatReached.ang.next := congrArg Course.bstart hcourse
    refine ⟨congrArg Course.seq hcourse, congrArg Course.idx hcourse, fun hstep => ?_, congrArg Course.fired hcourse,
      congrArg Course.cutoff hcourse, congrArg Course.acts hcourse, congrArg Course.commits hcourse,
      congrArg Course.done hcourse, congrArg Course.copied hcourse⟩
    rw [hstart, beatReached_next hstep]
  · refine gives_running (c := s.ang.beats && s.ang.divPend && s.crossesNext) hl
      (by simp [hb, hpend, State.crossesNext, hcross]) ?_
    have hcourse := beatStart_course hl hb
    rw [fixBeat_course, beatForce_course] at hcourse
    obtain ⟨hregs, hrides⟩ := beatReached_words s
    have hword : s.beatReached.copyWords.ureg A.ANG_DIV = s.reg A.ANG_DIV := by
      rw [copyWords_div (by rw [hrides]; exact hwait), State.reg, hregs]
      rfl
    refine ⟨(congrArg Course.div hcourse).trans ?_, (congrArg Course.divPend hcourse).trans ?_,
      (congrArg Course.idx hcourse).trans (if_pos hcross), congrArg Course.seq hcourse⟩
    · rw [← hword]
      exact if_pos ⟨hcross, hpend⟩
    · simp [hcross]

end

section
/-! PROOFS. Two states no run reaches that the statements about the schedule and the angle unit do not exclude (R70, R85,
R458). -/

namespace Sys2Proof.Machine

/-- A live device whose beats run, with entry 2 of the schedule enabled at offset 0 for GATHER of sequence 16, which does not
exist: a write of an enabled entry bounds the target by 15 (R82, R84). -/
def gatherBeyond : State :=
  { State.reset with
    used := [(A.SCHED 2 4, 0x1001#32), (A.SCHED 2 8, 0x1FE#32), (A.SCHED 2 12, 1#32)]
    ang := { angleReset with beats := true } }

theorem gatherBeyond_fires : gatherBeyond.fires 2 = true := by decide +kernel
theorem gatherBeyond_gathers : schedAction (gatherBeyond.ureg (A.SCHED 2 4)) = 1 := by decide +kernel
theorem gatherBeyond_alone : 2 ∉ gatherBeyond.gathersWith 2 := by decide +kernel

/-- A live device in ENERGIZE that has met R70 and whose TAP drives its pins although the conditions of R458 do not hold. -/
def lockLostInScan : State :=
  { State.reset with
    ang := { angleReset with beats := true, lock := true, lossRun := 2 }
    modes := { modesReset with cur := .energize }
    pwr := { resetReset with scan := some 3 } }

theorem lockLostInScan_lossDue : lockLostInScan.lossDue = true := by decide +kernel

/-- What follows the loss of lock there ends the scan in a reset, and the mode with it. -/
theorem lockLostInScan_resets : lockLostInScan.lockOff.settle.modes.cur ≠ .energize := by decide +kernel

end Sys2Proof.Machine

open Sys2Proof Sys2Proof.Machine

/-- Refutes O5: in `gatherBeyond` the entry fires, but the GATHER entries that act with it are those of sequences 0 to 15,
and it is none of them. -/
theorem not_scheduleEntriesAct : ¬ Obligations.ScheduleEntriesAct := by
  unfold Obligations.ScheduleEntriesAct
  rintro ⟨-, hgather, -⟩
  obtain ⟨t, -, hin, -⟩ :=
    hgather gatherBeyond 2 (by decide) gatherBeyond_fires (by decide) gatherBeyond_gathers (by decide)
  exact gatherBeyond_alone hin

/-- Refutes O10: in `lockLostInScan` lock is lost in ENERGIZE with beats running, but the settling that follows ends the scan
in a reset, where the statement has the device stay in ENERGIZE. -/
theorem not_angleUnitFollowsItsInputs : ¬ Obligations.AngleUnitFollowsItsInputs := by
  unfold Obligations.AngleUnitFollowsItsInputs
  rintro ⟨-, hlost, -⟩
  obtain ⟨t, hnext, -, henergize, -⟩ := hlost lockLostInScan (by decide) lockLostInScan_lossDue
  have hanswer : exec .lockLost lockLostInScan = .next lockLostInScan.lockOff.settle := by
    refine congrArg Host.Outcome.next (if_pos ?_)
    rw [lockLostInScan_lossDue]
    decide
  have hsettle : lockLostInScan.lockOff.settle = t.settle := Host.Outcome.next.inj (hanswer.symm.trans hnext)
  obtain ⟨hcur, -⟩ := henergize rfl rfl rfl rfl
  exact lockLostInScan_resets (hsettle ▸ hcur)

end

section
/-! PROOFS. A comparator input that comes to 0 where the table of analog inputs is not in its canonical form (R108): the case
that refutes `ComparatorsFollow`. -/

namespace Sys2Proof.Machine

/-! ## What follows a command at rest leaves the analog side -/

theorem raiseAs_adc (s : State) (settled : Option Bool) (e : Event) : (s.raiseAs settled e).adc = s.adc := rfl

theorem flushOwn_adc (n : Nat) (s : State) : (s.flushOwn n).adc = s.adc := by
  induction n generalizing s with
  | zero => rfl
  | succ n ih =>
    rw [State.flushOwn, ih]
    exact foldl_keeps (fun s (x : Event × Option Bool) => raiseAs_adc s x.2 x.1) _ _

theorem ptpFollow_adc (s : State) : s.ptpFollow.adc = s.adc := by
  unfold State.ptpFollow
  dsimp only
  (repeat' split) <;> simp

theorem readyTime_adc (s : State) : s.readyTime.adc = s.adc := by
  unfold State.readyTime
  split <;> rfl


theorem settle_adc_of_atRest {s : State} (hs : s.AtRest) : s.settle.adc = s.adc := by
  have hlock : s.afterLock = s := by simp [State.afterLock, hs.cur, hs.xfer]
  have hnext : s.modeNext = s := by simp [State.modeNext, hs.next]
  obtain ⟨-, hpp⟩ := ptpFollow_regs_pwr s
  have hrp : s.ptpFollow.readyTime.pwr.scan = none ∧ s.ptpFollow.readyTime.pwr.ir = 1 := by
    unfold State.readyTime
    split <;> simp [hpp, hs.scan, hs.ir]
  obtain ⟨-, hfp⟩ := flushOwn_regs_pwr 3 s.ptpFollow.readyTime
  have hscan : (s.ptpFollow.readyTime.flushOwn 3).scanFollow = s.ptpFollow.readyTime.flushOwn 3 := by
    simp [State.scanFollow, State.scanWanted, hfp, hrp]
  simp [State.settle, hs.live, hs.beats, hnext, hlock, hscan, flushOwn_adc, readyTime_adc, ptpFollow_adc]

/-- A device at rest whose comparators are ready; the entries of its analog inputs stand out of order, which no run makes
them: below that of input 1 there is one of input 0. -/
def ainUnordered : State :=
  { State.reset with
    pwr := { State.reset.pwr with ready := setBit State.reset.pwr.ready 7 true }
    adc := { State.reset.adc with ain := [(1, 5), (0, 3)] } }

theorem ainUnordered_live : ainUnordered.live = true := by decide +kernel
theorem ainUnordered_ready : ainUnordered.ready 7 = true := by decide +kernel
theorem ainUnordered_channel : fld (ainUnordered.cmpCfg 0) 0 6 = 0 := by decide +kernel

/-- An input of 0 takes the entry of input 0 out only where it stands in its place, and the old level shows. -/
theorem ainUnordered_keeps : (ainUnordered.cmpInput 0 0).settle.adc.ain = [(1, 5), (0, 3)] := by decide +kernel

theorem ainUnordered_rest : ainUnordered.AtRest := ⟨by decide +kernel, rfl, rfl, rfl, rfl, rfl, rfl⟩

end Sys2Proof.Machine

open Sys2Proof Sys2Proof.Machine

/-- Refutes O13: in `ainUnordered` the level 0 of comparator 0's input is the value of an unlisted entry, and taking the
entry out leaves the old level in a table whose keys do not rise. -/
theorem not_comparatorsFollow : ¬ Obligations.ComparatorsFollow := by
  unfold Obligations.ComparatorsFollow
  rintro ⟨hassert, -⟩
  obtain ⟨t, hnext, hinput, -, -, hframe⟩ :=
    hassert ainUnordered 0 0 ainUnordered_live ainUnordered_ready (by decide)
  have hanswer : exec (.comparatorAssert 0 0) ainUnordered = .next (ainUnordered.cmpInput 0 0).settle := by
    refine congrArg Host.Outcome.next (if_pos ?_)
    decide +kernel
  have hsettle : (ainUnordered.cmpInput 0 0).settle = t.settle := Host.Outcome.next.inj (hanswer.symm.trans hnext)
  have hrest : t.AtRest := by
    obtain ⟨hlive, hbeats, hmode, hcur, hxfer, hscan, hir⟩ := ainUnordered_rest
    rw [hframe]
    exact ⟨hlive, hbeats, hmode, hcur, hxfer, hscan, hir⟩
  have hain : t.adc.ain = [(1, 5), (0, 3)] := by rw [← settle_adc_of_atRest hrest, ← hsettle, ainUnordered_keeps]
  rw [ainUnordered_channel, hain] at hinput
  exact absurd hinput (by decide)

end

section
/-! PROOFS. Gather sequences, conversions and results (R94 to R101): what each operation leaves of the sequences and the
service slots. -/

namespace Sys2Proof.Map
variable {α : Type} [DecidableEq α]

/-- What is read at the key written, in a table whose keys rise. -/
theorem get_put_of_rising {d : Nat → α} {k : Nat} {v : α} {m : List (Nat × α)} (h : rising m = true) :
    get d k (put d k v m) = v := by
  unfold put
  split
  · rename_i hv
    rw [hv]
    exact get_remove_self h
  · exact get_insert_self

end Sys2Proof.Map

namespace Sys2Proof.Machine

/-! ## Sequences and slots -/

section
variable {s : State} {p q k j : Nat} {f : Seq → Seq} {g : Slot → Slot}

theorem seq_modSeq_self (h : q < s.adc.seqs.length) : (s.modSeq q f).seq q = f (s.seq q) :=
  (getD_modAt f q q s.adc.seqs seqReset).trans (if_pos ⟨rfl, h⟩)

theorem seq_modSeq_other (h : p ≠ q) : (s.modSeq q f).seq p = s.seq p :=
  (getD_modAt f q p s.adc.seqs seqReset).trans (if_neg fun hc => h hc.1)

theorem svc_modSvc_self (h : k < s.adc.slots.length) : (s.modSvc k g).svc k = g (s.svc k) :=
  (getD_modAt g k k s.adc.slots slotIdle).trans (if_pos ⟨rfl, h⟩)

theorem svc_modSvc_other (h : j ≠ k) : (s.modSvc k g).svc j = s.svc j :=
  (getD_modAt g k j s.adc.slots slotIdle).trans (if_neg fun hc => h hc.1)

/-- What a change of a slot leaves of every slot, the slot's reading keeps. -/
theorem svc_modSvc_keeps {γ : Type} {r : Slot → γ} (hg : ∀ v, r (g v) = r v) : r ((s.modSvc k g).svc j) = r (s.svc j) := by
  unfold State.svc State.modSvc
  rw [getD_modAt]
  split
  · rename_i h
    rw [hg, h.1]
  · rfl

end

theorem modSeq_length (s : State) (q : Nat) (f : Seq → Seq) : (s.modSeq q f).adc.seqs.length = s.adc.seqs.length :=
  length_modAt f q s.adc.seqs

/-! ## Acquisition (R96) -/

theorem acquire_frame (s : State) (q : Nat) : s.acquire q = { s with adc := (s.acquire q).adc } := rfl

theorem acquire_seq_self {s : State} {q : Nat} (h : q < s.adc.seqs.length) :
    (s.acquire q).seq q = { s.seq q with phase := .running } := seq_modSeq_self h

theorem acquire_seq_other {s : State} {p q : Nat} (h : p ≠ q) : (s.acquire q).seq p = s.seq p := seq_modSeq_other h

/-- The slot of the sequence acquires its next entry. -/
theorem acquire_acq {s : State} {q : Nat} (h : seqSlot (s.seq q).cfg < s.adc.slots.length) :
    ((s.acquire q).svc (seqSlot (s.seq q).cfg)).acq =
      some (q, (s.seq q).next, s.now + acqNs (s.seq q).acq3 ((s.seq q).entries.getD (s.seq q).next 0#32) * ns) :=
  congrArg Slot.acq (svc_modSvc_self (s := s.modSeq q fun x => { x with phase := .running }) h)

/-- No conversion under way is touched. -/
theorem acquire_conv (s : State) (q k : Nat) : ((s.acquire q).svc k).conv = (s.svc k).conv :=
  svc_modSvc_keeps (s := s.modSeq q fun x => { x with phase := .running }) (r := Slot.conv) fun _ => rfl

/-! ## Triggers (R94, R97) -/

theorem mended_seq (s : State) (o q : Nat) : (s.mended o).seq q = s.seq q := by simp only [State.seq, State.mended_adc]

/-- A trigger of one sequence leaves the others. -/
theorem trigSeq_other {s : State} {src sel p q : Nat} (h : p ≠ q) : (s.trigSeq src sel q).seq p = s.seq p := by
  unfold State.trigSeq
  dsimp only
  split
  · rfl
  · split
    · rfl
    · exact seq_modSeq_other h

section
variable {s : State} {q : Nat} (hen : bitAt (s.ureg (A.ADC_SEQ_CFG q)) 15 = true)
  (hsrc : fld (s.ureg (A.ADC_SEQ_CFG q)) 8 2 = 2)
  (hrun : runEntries (fld (s.ureg (A.ADC_SEQ_CFG q)) 4 1) (s.seqEntries q) ≠ [])
include hen hsrc hrun

/-- A host's trigger of an idle sequence begins its delay, with the registers in force. -/
theorem trigSeq_idle (h : (s.seq q).phase = .idle) : s.trigSeq 2 0 q = s.modSeq q fun x => { x with
    phase := .delay, cfg := s.ureg (A.ADC_SEQ_CFG q), entries := s.seqEntries q, acq3 := fld (s.ureg A.ADC_ACQ3) 0 12, next := 0,
    due := edge5 (s.now + fld (s.ureg (A.ADC_SEQ_CFG q)) 16 16 * ns) } := by
  simp [State.trigSeq, hen, hsrc, hrun, h]

/-- One for a sequence under way is dropped, and its overrun is set. -/
theorem trigSeq_busy (h : (s.seq q).phase ≠ .idle) :
    s.trigSeq 2 0 q = (s.modAdc fun a => { a with ovr := setBit a.ovr q true }).event 0x30 16 q := by
  simp [State.trigSeq, hen, hsrc, hrun, h]

end

theorem bitsSet_two_pow : ∀ q < 16, bitsSet 16 (2 ^ q) = [q] := by decide

theorem regWrite_swtrig (s : State) (h : Nat) (v : Word) : s.regWrite h A.ADC_SWTRIG v =
    s.judged (s.common h 0x30 0x1FE true) fun s => (bitsSet 16 v.toNat).foldl (fun s q => s.trigSeq 2 0 q) s := rfl

theorem modes_swtrig {r : Row} (hr : rowAt A.ADC_SWTRIG = some r) : r.modes = 0x1FE := by
  have hrow : rowAt A.ADC_SWTRIG = some { first := A.ADC_SWTRIG, cls := .wo, mask := 0xFFFF#32 } := rfl
  rw [hrow] at hr
  rw [← Option.some.inj hr]

/-- The state in which a host's trigger acts. -/
def State.swTaken (s : State) (h : Nat) : State := s.disarm h (pageOf A.ADC_SWTRIG)

/-- A host's trigger of one sequence (R94). -/
theorem hostPut_swtrig {s : State} {h q : Nat} (hq : q < 16) (ha : s.admits h 0x30 0x1FE = true) :
    s.hostPut h A.ADC_SWTRIG (wd (2 ^ q)) = ((s.swTaken h).trigSeq 2 0 q).mended A.ADC_SWTRIG := by
  have hword : (wd (2 ^ q)).toNat = 2 ^ q := by
    rw [wd, BitVec.toNat_ofNat]
    exact Nat.mod_eq_of_lt (Nat.pow_lt_pow_right (by decide) (by omega))
  refine hostPut_ok (by decide) (by decide) (by decide) (by decide) ?_
  rw [regWrite_swtrig, judged_ok (firstOf_ok (common_clear (s := s.disarm h (pageOf A.ADC_SWTRIG)) ha)), hword,
    bitsSet_two_pow q hq]
  rfl

/-! ## The end of a delay (R96 to R98) -/

theorem advance_seq (s : State) (t q : Nat) : (s.advance t).seq q = s.seq q := rfl
theorem advance_svc (s : State) (t k : Nat) : (s.advance t).svc k = s.svc k := rfl
theorem advance_runningOn (s : State) (t k : Nat) : (s.advance t).runningOn k = s.runningOn k := rfl

theorem runningOn_some {s : State} {k r : Nat} (h : s.runningOn k = some r) : r < 16 ∧ (s.seq r).phase = .running := by
  have hmem := List.mem_of_find?_eq_some h
  have hphase := List.find?_some h
  simp only [Bool.and_eq_true, beq_iff_eq] at hphase
  exact ⟨List.mem_range.mp hmem, hphase.1⟩

/-- On a free slot the sequence starts. -/
theorem delayEnds_free {s : State} {q : Nat} (h : s.runningOn (seqSlot (s.seq q).cfg) = none) :
    s.delayEnds q = (s.advance (s.seq q).due).acquire q := by
  unfold State.delayEnds
  dsimp only
  rw [advance_seq, advance_runningOn, h]

/-- On a slot that runs a sequence it pre-empts that one, or waits. -/
theorem delayEnds_taken {s : State} {q r : Nat} (h : s.runningOn (seqSlot (s.seq q).cfg) = some r) :
    s.delayEnds q =
      if seqInj (s.seq r).cfg < seqInj (s.seq q).cfg then
        ((s.advance (s.seq q).due).modSeq r fun y => { y with phase := .preempted, preempt := satInc 8 y.preempt 1 }).acquire q
      else (s.advance (s.seq q).due).modSeq q fun y => { y with phase := .waiting } := by
  unfold State.delayEnds
  dsimp only
  rw [advance_seq, advance_runningOn, h]
  rfl

theorem delayEnds_frame (s : State) (q : Nat) :
    s.delayEnds q = { s.advance (s.seq q).due with adc := (s.delayEnds q).adc } := by
  unfold State.delayEnds
  dsimp only
  (repeat' split) <;> rfl

/-! ## The hold of an entry (R96, R100) -/

theorem acquiring_some {s : State} {q k e d : Nat} (h : s.acquiring q = some (k, e, d)) :
    k = seqSlot (s.seq q).cfg ∧ (s.svc k).acq = some (q, e, d) := by
  unfold State.acquiring at h
  dsimp only at h
  split at h
  · rename_i p e' t hacq
    split at h
    · rename_i hc
      obtain ⟨rfl, rfl, rfl⟩ : seqSlot (s.seq q).cfg = k ∧ e' = e ∧ t = d := by simpa using h
      exact ⟨rfl, by rw [hacq, hc.1]⟩
    · cases h
  · cases h

/-- A slot that acquires is one of the service slots. -/
theorem slot_of_acq {s : State} {k : Nat} {a : Nat × Nat × Nat} (h : (s.svc k).acq = some a) : k < s.adc.slots.length := by
  by_contra hk
  have hidle : s.svc k = slotIdle := List.getD_eq_default _ _ (Nat.le_of_not_lt hk)
  rw [hidle] at h
  cases h

/-- What is picked from a list, one entry after the other, is one of its entries. -/
theorem mem_of_foldl_pick {α : Type} {f : Option α → α → Option α} (hf : ∀ b x, f b x = b ∨ f b x = some x) (l : List α)
    {b : Option α} {r : α} (h : l.foldl f b = some r) : r ∈ l ∨ b = some r := by
  induction l generalizing b with
  | nil => exact .inr h
  | cons x l ih =>
    rcases ih h with hin | hb
    · exact .inl (List.mem_cons_of_mem x hin)
    · rcases hf b x with hkeep | htake
      · exact .inr (hkeep ▸ hb)
      · exact .inl (Option.some.inj (htake.symm.trans hb) ▸ List.mem_cons_self)

/-- The sequence that takes a freed slot has been waiting for it. -/
theorem nextOn_some {s : State} {k r : Nat} (h : s.nextOn k = some r) :
    (s.seq r).phase = .waiting ∨ (s.seq r).phase = .preempted := by
  have hpick := mem_of_foldl_pick (fun b x => ?_) _ h
  · obtain ⟨-, hphase⟩ := List.mem_filter.mp (hpick.resolve_right (by simp))
    simp only [Bool.and_eq_true, Bool.or_eq_true, beq_iff_eq] at hphase
    exact hphase.1
  · cases b with
    | none => exact .inr rfl
    | some b =>
      dsimp only
      split
      · exact .inr rfl
      · exact .inl rfl

/-- The conversion that the hold of an entry starts. -/
def State.heldConv (s : State) (k q e t : Nat) : Conv :=
  let w := (s.seq q).entries.getD e 0#32
  { seq := q, entry := e, word := w, slice := (s.svc k).slice, newChan := (s.svc k).lastChan != some (entChan w),
    newGain := (match s.adc.gains.find? fun p => p.1 == entChan w with | some p => p.2 != entGain w | none => false),
    short := decide (acqNs (s.seq q).acq3 w < 250), inj := seqInj (s.seq q).cfg != 0,
    last := decide (lastEntry (fld (s.seq q).cfg 4 1) (s.seq q).entries ≤ e), ends := (s.advance t).now + 250 * ns }

/-- The state in which that conversion has started and its sequence has yet to go on. -/
def State.entryHeld (s : State) (k q e t : Nat) : State :=
  let w := (s.seq q).entries.getD e 0#32
  ((s.advance t).modSvc k fun v =>
    { v with acq := none, conv := some (s.heldConv k q e t), lastChan := some (entChan w) }).modAdc fun a =>
    { a with gains := Map.insert (entChan w) (entGain w) a.gains }

theorem entryHeld_seq (s : State) (k q e t p : Nat) : (s.entryHeld k q e t).seq p = s.seq p := rfl

theorem entryHeld_length (s : State) (k q e t : Nat) : (s.entryHeld k q e t).adc.seqs.length = s.adc.seqs.length := rfl

theorem entryHeld_conv {s : State} {k q e t : Nat} (hk : k < s.adc.slots.length) :
    ((s.entryHeld k q e t).svc k).conv = some (s.heldConv k q e t) :=
  congrArg Slot.conv (svc_modSvc_self (s := s.advance t) hk)

/-- The sequence goes on with its next entry, or gives the slot to the next sequence. -/
theorem holdEntry_eq (s : State) (k q e t : Nat) : s.holdEntry k q e t =
    let u := s.entryHeld k q e t
    let v := u.modSeq q fun y => { y with phase := .idle, next := 0 }
    if e < lastEntry (fld (s.seq q).cfg 4 1) (s.seq q).entries then (u.modSeq q fun y => { y with next := e + 1 }).acquire q
    else match v.nextOn k with
      | some r => v.acquire r
      | none => v := rfl

/-- A conversion under way outlasts what its sequence does. -/
theorem modSeq_svc (s : State) (q : Nat) (f : Seq → Seq) (k : Nat) : (s.modSeq q f).svc k = s.svc k := rfl

/-- The hold of an entry starts its conversion. -/
theorem holdEntry_conv {s : State} {k q e t : Nat} (hk : k < s.adc.slots.length) :
    ((s.holdEntry k q e t).svc k).conv = some (s.heldConv k q e t) := by
  rw [holdEntry_eq]
  dsimp only
  split
  · rw [acquire_conv, modSeq_svc, entryHeld_conv hk]
  · split
    · rw [acquire_conv, modSeq_svc, entryHeld_conv hk]
    · rw [modSeq_svc, entryHeld_conv hk]

theorem holdEntry_frame (s : State) (k q e t : Nat) :
    s.holdEntry k q e t = { s.advance t with adc := (s.holdEntry k q e t).adc } := by
  rw [holdEntry_eq]
  dsimp only
  (repeat' split) <;> rfl

section
variable {s : State} {k q e t : Nat} (hq : q < s.adc.seqs.length)
include hq

/-- Before the last entry the sequence acquires the next one. -/
theorem holdEntry_goesOn (he : e < lastEntry (fld (s.seq q).cfg 4 1) (s.seq q).entries) :
    (s.holdEntry k q e t).seq q = { s.seq q with next := e + 1, phase := .running } := by
  have hself := seq_modSeq_self (s := s.entryHeld k q e t) (f := fun y => { y with next := e + 1 }) hq
  rw [holdEntry_eq]
  dsimp only
  rw [if_pos he, acquire_seq_self (by rw [modSeq_length]; exact hq), hself]
  rfl

/-- At the last entry the sequence ends, and no other that takes the slot is it. -/
theorem holdEntry_ends (he : lastEntry (fld (s.seq q).cfg 4 1) (s.seq q).entries ≤ e) :
    (s.holdEntry k q e t).seq q = { s.seq q with phase := .idle, next := 0 } := by
  have hself := seq_modSeq_self (s := s.entryHeld k q e t) (f := fun y => { y with phase := .idle, next := 0 }) hq
  rw [holdEntry_eq]
  dsimp only
  rw [if_neg (Nat.not_lt.mpr he)]
  split
  · rename_i r hr
    have hne : q ≠ r := by
      rintro rfl
      have hphase := nextOn_some hr
      rw [hself] at hphase
      simp at hphase
    rw [acquire_seq_other hne, hself]
    rfl
  · exact hself

end

/-! ## Conversions and results (R96, R99, R101) -/

/-- A conversion that ends frees its slot's converter and sends its result word on its way. -/
theorem convEnds_sends {s : State} {k : Nat} {c : Conv} (hk : k < s.adc.slots.length) (raw : BitVec 16) (over_ : Bool) :
    ((s.convEnds k c raw over_).svc k).conv = none ∧
    (∃ d : Delivery, (s.convEnds k c raw over_).adc.flight = s.adc.flight ++ [d] ∧ d.seq = c.seq ∧ d.entry = c.entry ∧
      d.due = (s.advance c.ends).now + 200 * ns ∧ d.last = c.last ∧ d.gain = entGain c.word) ∧
    s.convEnds k c raw over_ =
      { s.advance c.ends with adc := (s.convEnds k c raw over_).adc, free := s.free + 2 } :=
  ⟨congrArg Slot.conv (svc_modSvc_self (s := s.advance c.ends) hk), ⟨_, rfl, rfl, rfl, rfl, rfl, rfl⟩, rfl⟩

/-- A slot that converts is one of the service slots. -/
theorem slot_of_conv {s : State} {k : Nat} {c : Conv} (h : (s.svc k).conv = some c) : k < s.adc.slots.length := by
  by_contra hk
  have hidle : s.svc k = slotIdle := List.getD_eq_default _ _ (Nat.le_of_not_lt hk)
  rw [hidle] at h
  cases h

/-- What the delivery of a result word leaves for the rest of the delivery: the words on their way, the results, the clock. -/
def State.delivered (s : State) : List Delivery × List (Nat × Word) × Clock := (s.adc.flight, s.adc.results, s.clock)

theorem event_delivered (s : State) (page n sub : Nat) (d : List Nat) (st : Status) :
    (s.event page n sub d st).delivered = s.delivered := rfl

theorem trigSeq_delivered (s : State) (src sel q : Nat) : (s.trigSeq src sel q).delivered = s.delivered := by
  unfold State.trigSeq
  dsimp only
  (repeat' split) <;> rfl

theorem trigAll_delivered (s : State) (src sel : Nat) : (s.trigAll src sel).delivered = s.delivered :=
  foldl_keeps (fun s q => trigSeq_delivered s src sel q) _ _

theorem trigger_delivered (s : State) (src : Nat) (force : Bool) : (s.trigger src force).delivered = s.delivered := by
  rw [trigger_onlyEvents s src force]
  rfl

theorem delivered_ite (c : Prop) [Decidable c] (s t : State) :
    (if c then s else t).delivered = if c then s.delivered else t.delivered := by split <;> rfl

theorem wmonStep_delivered (s : State) (d : Delivery) (n : Nat) : (s.wmonStep d n).delivered = s.delivered := by
  unfold State.wmonStep
  dsimp only
  simp only [delivered_ite, trigger_delivered, trigAll_delivered, event_delivered, ite_self]
  exact ite_self _

/-- The oldest word on its way is the entry's result, at the instant of its delivery. -/
theorem deliver_delivered (s : State) (d : Delivery) : (s.deliver d).delivered =
    (s.adc.flight.drop 1, Map.put (fun _ => 0x100000#32) (32 * d.seq + d.entry) d.word s.adc.results,
      (s.advance d.due).clock) := by
  have hmon (t : State) : ((List.range 32).foldl (fun s n => s.wmonStep d n) t).delivered = t.delivered :=
    foldl_keeps (fun s n => wmonStep_delivered s d n) _ _
  unfold State.deliver
  dsimp only
  split
  · rw [event_delivered]
    exact hmon _
  · exact hmon _

end Sys2Proof.Machine

open Sys2Proof Sys2Proof.Machine

/-- Settles O11: each command is one operation of the sequences, the slots or the results, and what it leaves is read off its
lemmas. -/
theorem gatherSequencesDeliver : Obligations.GatherSequencesDeliver := by
  unfold Obligations.GatherSequencesDeliver
  refine ⟨?trigger, ?expiry, ?hold, ?conversion, ?delivery⟩
  case trigger =>
    intro s h q r hq hlen hr ha hen hsrc hrun
    rw [modes_swtrig hr] at ha
    obtain ⟨hlive, hh⟩ := live_of_admits ha
    refine gives_byHost (f := fun s => s.hostPut h A.ADC_SWTRIG (wd (2 ^ q))) hlive hh ?_
    dsimp only
    have hq' : q < (s.swTaken h).adc.seqs.length := by
      rw [show (s.swTaken h).adc.seqs.length = 16 from hlen]
      exact hq
    rw [hostPut_swtrig hq ha]
    refine ⟨fun p hp => ?_, fun hidle => ?_, fun hbusy => ?_⟩
    · rw [mended_seq]
      exact trigSeq_other hp
    · rw [mended_seq, trigSeq_idle (s := s.swTaken h) hen hsrc hrun hidle, seq_modSeq_self hq']
      refine ⟨rfl, rfl, rfl, ?_⟩
      rw [mended_eq]
      rfl
    · rw [mended_seq, trigSeq_busy (s := s.swTaken h) hen hsrc hrun hbusy, State.mended_adc]
      exact ⟨rfl, (testBit_setBit _ _ _ _).trans (if_pos rfl)⟩
  case expiry =>
    intro s q hlive hq hseqs hslots hphase hslot
    refine gives_running (c := decide (q < 16) && (s.seq q).phase == .delay) (f := fun s => s.delayEnds q) hlive
      (by simp [hq, hphase]) ?_
    have hq' : q < s.adc.seqs.length := by omega
    refine ⟨delayEnds_frame s q, fun hfree => ?_, fun r hr => ?_⟩
    · rw [delayEnds_free hfree]
      exact ⟨congrArg Seq.phase (acquire_seq_self (s := s.advance (s.seq q).due) hq'),
        acquire_acq (s := s.advance (s.seq q).due) (hslots ▸ hslot)⟩
    · obtain ⟨hr16, hrunning⟩ := runningOn_some hr
      have hne : r ≠ q := fun heq => by
        rw [heq, hphase] at hrunning
        cases hrunning
      rw [delayEnds_taken hr]
      refine ⟨fun hinj => ?_, fun hinj => ?_⟩
      · rw [if_pos hinj, acquire_seq_self (by rw [modSeq_length]; exact hq'), acquire_seq_other hne,
          seq_modSeq_self (show r < (s.advance (s.seq q).due).adc.seqs.length by rw [State.advance_adc]; omega)]
        exact ⟨rfl, rfl⟩
      · rw [if_neg (by omega), seq_modSeq_self (s := s.advance (s.seq q).due) hq', seq_modSeq_other hne]
        exact ⟨rfl, rfl⟩
  case hold =>
    intro s q k e d hlive hq hseqs hslots hacq hphase hslot
    refine gives_running (c := decide (q < 16) && (s.acquiring q).isSome) (f := fun s => s.holdNext q) hlive
      (by simp [hq, hacq]) ?_
    have hk : k < s.adc.slots.length := slot_of_acq (acquiring_some hacq).2
    have hq' : q < s.adc.seqs.length := by omega
    have heq : s.holdNext q = s.holdEntry k q e d := by simp [State.holdNext, hacq]
    dsimp only
    rw [heq]
    refine ⟨holdEntry_frame .., ⟨_, holdEntry_conv hk, rfl, rfl, rfl, rfl⟩, fun he => ?_, fun he => ?_⟩
    · rw [holdEntry_goesOn hq' he]
      exact ⟨rfl, rfl⟩
    · rw [holdEntry_ends hq' he]
      exact ⟨rfl, rfl⟩
  case conversion =>
    intro s b k raw ov c hlive hb hk hslots hconv
    refine gives_running (c := decide (b < 2) && decide (k < 10)) (f := fun s => s.convDone (10 * b + k) raw ov) hlive
      (by simp [hb, hk]) ?_
    have heq : s.convDone (10 * b + k) raw ov = s.convEnds (10 * b + k) c raw ov := by simp [State.convDone, hconv]
    dsimp only
    rw [heq]
    exact convEnds_sends (slot_of_conv hconv) raw ov
  case delivery =>
    intro s d l hlive hflight hrising
    refine gives_running (c := true) (f := State.deliverNext) hlive rfl ?_
    have heq : s.deliverNext = s.deliver d := by simp [State.deliverNext, hflight]
    have hleft := deliver_delivered s d
    rw [heq]
    refine ⟨(congrArg Prod.fst hleft).trans (by rw [hflight]; rfl), ?_, congrArg (fun x => x.2.2) hleft⟩
    have hresults : (s.deliver d).adc.results = _ := congrArg (fun x => x.2.1) hleft
    rw [hresults]
    exact Map.get_put_of_rising hrising

end

section
/-! PROOFS. Background calibration and the calibration set (R102 to R107): what each step of the rotation leaves of the slices, the
service slots and the rotation's own state. -/

namespace Sys2Proof.Machine

/-! ## Slices -/

theorem getD_setAt_self {α : Type} {v d : α} {n : Nat} {l : List α} (h : n < l.length) : (setAt v n l).getD n d = v :=
  (getD_modAt (fun _ => v) n n l d).trans (if_pos ⟨rfl, h⟩)

theorem getD_setAt_other {α : Type} {v d : α} {n m : Nat} {l : List α} (h : m ≠ n) : (setAt v n l).getD m d = l.getD m d :=
  (getD_modAt (fun _ => v) n m l d).trans (if_neg fun hc => h hc.1)

theorem length_setAt {α : Type} (v : α) (n : Nat) (l : List α) : (setAt v n l).length = l.length := length_modAt _ n l

/-- The idle spare of a bank is one of the slices, and idle. -/
theorem idleSpare_some {s : State} {b n : Nat} (h : s.idleSpare b = some n) :
    n < 24 ∧ s.adc.slices.getD n .idle = .idle := by
  have hmem := List.mem_of_find?_eq_some h
  have hidle := List.find?_some h
  refine ⟨?_, by simpa using hidle⟩
  unfold spareSlices at hmem
  split at hmem
  · simp only [List.mem_cons, List.not_mem_nil, or_false] at hmem
    omega
  · simp only [List.mem_cons, List.not_mem_nil, or_false] at hmem
    omega

theorem emptied_adc (s : State) (old kind : Nat) : (s.emptied_ old kind).adc = s.adc := by simp [State.emptied_]

/-! ## A step of the rotation (R102) -/

theorem spareCal_idle {s : State} {n : Nat} (h : s.idleSpare (s.adc.rotSlot / 10) = some n) :
    s.spareCal = (s.modSlice n .rotation).modAdc fun a => { a with
      rot := .spareCal, rotSpare := n, rotOwn := (s.svc s.adc.rotSlot).slice + 12 * (s.adc.rotSlot / 10),
      rotDue := s.now + us 1600 } := by
  simp [State.spareCal, h]

theorem spareCal_suspends {s : State} (h : s.idleSpare (s.adc.rotSlot / 10) = none) : s.spareCal = s.suspend := by
  simp [State.spareCal, h]

theorem rotEnds_adc (s : State) : s.rotEnds.adc = { s.adc with
    rot := .idle, rotSlot := (s.adc.rotSlot + 1) % 20, rotDue := s.adc.rotFrom + ms (fld (s.ureg A.ADC_CAL_CFG) 0 16) } := rfl

/-- A bank without an idle spare is suspended, and its slot skipped. -/
theorem suspend_adc (s : State) : s.suspend.adc = { s.adc with
    nocal := setAt true (s.adc.rotSlot / 10) s.adc.nocal, rot := .idle, rotSlot := (s.adc.rotSlot + 1) % 20,
    rotDue := s.adc.rotFrom + ms (fld (s.ureg A.ADC_CAL_CFG) 0 16) } := by
  rw [State.suspend, rotEnds_adc, State.eventIf_adc, State.ureg, State.eventIf_used]
  rfl

/-- The step as it begins. -/
def State.stepBegun (s : State) : State :=
  (s.advance s.adc.rotDue).modAdc fun a => { a with
    rotFrom := (s.advance s.adc.rotDue).now, rotSteps := (a.rotSteps + 1) % 65536 }

theorem calStep_eq (s : State) : s.calStep = s.stepBegun.spareCal := rfl

theorem stepBegun_idleSpare (s : State) (b : Nat) : s.stepBegun.idleSpare b = s.idleSpare b := rfl

/-- Looking for the next spare leaves the service slots, and a slice that is out of the pool. -/
theorem spareCal_keeps {s : State} {n : Nat} (h : s.adc.slices.getD n .idle = .exhausted) :
    s.spareCal.adc.slices.getD n .idle = .exhausted ∧ s.spareCal.adc.slots = s.adc.slots := by
  cases hm : s.idleSpare (s.adc.rotSlot / 10) with
  | none =>
    rw [spareCal_suspends hm, suspend_adc]
    exact ⟨h, rfl⟩
  | some m =>
    obtain ⟨-, hidle⟩ := idleSpare_some hm
    have hne : n ≠ m := by
      rintro rfl
      rw [h] at hidle
      cases hidle
    rw [spareCal_idle hm]
    exact ⟨(getD_setAt_other hne).trans h, rfl⟩

/-! ## The ends of a calibration (R104) -/

theorem calPasses_true {offset gain : Int} (ho : absI offset ≤ 64) (hg : 200 * absI gain ≤ 1048576) :
    calPasses offset gain true = true := by
  simp [calPasses, ho, hg]

theorem calPasses_false {offset gain : Int} {converged : Bool}
    (h : 64 < absI offset ∨ 1048576 < 200 * absI gain ∨ converged = false) : calPasses offset gain converged = false := by
  rcases h with h | h | h
  · simp [calPasses, h]
  · simp [calPasses, h]
  · simp [calPasses, h]

/-- A spare that fails its own calibration is out of the pool. -/
theorem spareCalEnds_fails {s : State} (hn : s.adc.rotSpare < s.adc.slices.length) :
    (s.spareCalEnds false).adc.slices.getD s.adc.rotSpare .idle = .exhausted ∧
    (s.spareCalEnds false).adc.slots = s.adc.slots := by
  have hadc : (((((s.advance s.adc.rotDue).modSlice s.adc.rotSpare .exhausted).calFail s.adc.rotSpare s.adc.rotSpare)).emptied_
      (s.poolSum 2) 2).adc = { s.adc with slices := setAt .exhausted s.adc.rotSpare s.adc.slices } := emptied_adc ..
  obtain ⟨hslice, hslots⟩ := spareCal_keeps (s := (((s.advance s.adc.rotDue).modSlice s.adc.rotSpare .exhausted).calFail
    s.adc.rotSpare s.adc.rotSpare).emptied_ (s.poolSum 2) 2) (n := s.adc.rotSpare) (by rw [hadc]; exact getD_setAt_self hn)
  exact ⟨hslice, hslots.trans (by rw [hadc])⟩

/-- A slot's own slice that fails leaves the slot to the spare. -/
theorem sliceCalEnds_fails {s : State} (hspare : s.adc.rotSpare < s.adc.slices.length)
    (hown : s.adc.rotOwn < s.adc.slices.length) (hne : s.adc.rotSpare ≠ s.adc.rotOwn) :
    (s.sliceCalEnds false).adc.rot = .idle ∧
    (s.sliceCalEnds false).adc.slices.getD s.adc.rotSpare .idle = .substituted ∧
    (s.sliceCalEnds false).adc.slices.getD s.adc.rotOwn .idle = .exhausted := by
  have hslices : (s.sliceCalEnds false).adc.slices =
      setAt .exhausted s.adc.rotOwn (setAt .substituted s.adc.rotSpare s.adc.slices) := by
    unfold State.sliceCalEnds
    dsimp only
    rw [if_neg (by decide), rotEnds_adc, emptied_adc]
    rfl
  rw [hslices]
  refine ⟨rfl, ?_, getD_setAt_self (by rw [length_setAt]; exact hown)⟩
  rw [getD_setAt_other hne]
  exact getD_setAt_self hspare

/-! ## Handovers (R103) -/

/-! The instant of a handover is named `t`: only that it is the next edge matters, and the edge is never computed. -/

section
variable {s : State} {t : Nat} (ht : edge5 s.now = t)
include ht

theorem handover_takeOver (h : s.adc.rot = .takeOver) : s.handover =
    (((s.advance t).modSvc s.adc.rotSlot fun v => { v with
      slice := s.adc.rotSpare - 12 * (s.adc.rotSlot / 10) }).wear (sliceMember s.adc.rotSpare)).modAdc fun a => { a with
        rot := .sliceCal, rotDue := (s.advance t).now + us 1600 } := by
  simp [State.handover, h, ht]

theorem handover_takeBack (h : s.adc.rot = .takeBack) : s.handover =
    (((s.advance t).modSvc s.adc.rotSlot fun v => { v with
      slice := s.adc.rotOwn - 12 * (s.adc.rotSlot / 10) }).modSlice s.adc.rotSpare .idle).rotEnds := by
  simp [State.handover, h, ht]

end

theorem calStarves_takeOver {s : State} (h : s.adc.rot = .takeOver) : s.calStarves =
    (((s.advance s.adc.rotDue).event 0x30 18 s.adc.rotSlot).modSlice s.adc.rotSpare .idle).rotEnds := by
  simp [State.calStarves, h]

theorem calStarves_takeBack {s : State} (h : s.adc.rot = .takeBack) : s.calStarves =
    ((s.advance s.adc.rotDue).event 0x30 18 s.adc.rotSlot).modAdc fun a => { a with
      rotDue := (s.advance s.adc.rotDue).now + s.calWait } := by
  rw [State.calStarves, h]
  rfl

/-! ## The calibration set (R106) -/

theorem rwcWrite_calset (s : State) (h : Nat) (vn : Word) (r : Row) :
    s.rwcWrite h A.ADC_CALSET_CMD vn r = s.calsetCmd h vn := rfl

theorem rowAt_calset : rowAt A.ADC_CALSET_CMD = some
    { first := A.ADC_CALSET_CMD, cls := .rwc, mask := 0xFFFFFFFF#32, modes := mService, ok := fun v => v == 1#32 || v == 2#32 } :=
  rfl

/-- The state in which a command of the calibration set takes effect: the write consumed and the command's word stored. -/
def State.calsetTaken (s : State) (h : Nat) (v : Word) : State :=
  ((s.disarm h (pageOf (A.ADC_CALSET_CMD + 4))).emptied h A.ADC_CALSET_CMD).putReg A.ADC_CALSET_CMD v

/-- A completed command of the calibration set that no check refuses. -/
theorem complete_calset {s : State} {h : Nat} {v : Word} (hp : s.pends h A.ADC_CALSET_CMD mService v = true)
    (hbusy : s.adc.calsetBusy = false) (hok : v = 2#32 → s.mem.flashFail = false ∧ calsetOk s.adc.staging = true) :
    s.hostComplete h A.ADC_CALSET_CMD v =
      (if v = 1#32 then (s.calsetTaken h v).modAdc fun a => { a with staging := a.calset }
        else (s.calsetTaken h v).calsetBegin).mended (A.ADC_CALSET_CMD + 4) := by
  obtain ⟨ha, hv⟩ := pends_iff.mp hp
  refine hostComplete_ok (by decide) (by decide) (by decide) (by decide) (by decide) rowAt_calset rfl ?_
  rw [rwcWrite_calset, State.calsetCmd]
  refine complement_ok (s := s.disarm h (pageOf (A.ADC_CALSET_CMD + 4))) hv rfl ?_
  have hvalue : (v != 2#32 || calsetOk s.adc.staging) = true := by
    by_cases h2 : v = 2#32
    · simp [(hok h2).2]
    · simp [h2]
  have hflash : (v == 2#32 && s.mem.flashFail) = false := by
    by_cases h2 : v = 2#32
    · simp [(hok h2).1]
    · simp [h2]
  refine firstOf_append ?_ ?_
  · rw [State.emptied_adc, State.disarm_adc, hvalue]
    exact common_clear ha
  · simp [hbusy, hflash]

theorem reg_calsetTaken {s : State} (hs : s.Canon) (h : Nat) (v : Word) : (s.calsetTaken h v).reg A.ADC_CALSET_CMD = v :=
  Map.get_put_self hs.1

theorem regWrite_calsetData (s : State) (h : Nat) (v : Word) : s.regWrite h A.ADC_CALSET_DATA v = s.calsetData h v := rfl

/-- The state in which a word of the set has been staged: the word at the index, and the index advanced. -/
def State.staged (s : State) (h : Nat) (v : Word) : State :=
  let i := fld (s.reg A.ADC_CALSET_IDX) 0 10
  ((s.disarm h (pageOf A.ADC_CALSET_DATA)).modAdc fun a => { a with
    staging := Map.put (fun _ => 0#32) i v a.staging }).putReg A.ADC_CALSET_IDX (wd ((i + 1) % 1024))

theorem hostPut_calsetData {s : State} {h : Nat} (v : Word) (ha : s.admits h 0x31 mService = true) :
    s.hostPut h A.ADC_CALSET_DATA v = (s.staged h v).mended A.ADC_CALSET_DATA := by
  refine hostPut_ok (by decide) (by decide) (by decide) (by decide) ?_
  rw [regWrite_calsetData, State.calsetData,
    judged_ok (firstOf_ok (common_clear (s := s.disarm h (pageOf A.ADC_CALSET_DATA)) ha))]
  rfl

end Sys2Proof.Machine

open Sys2Proof Sys2Proof.Machine

/-- Settles O12: a step, the two calibrations, the handovers and the commands of the calibration set, each by the equation of its
operation. -/
theorem calibrationRuns : Obligations.CalibrationRuns := by
  unfold Obligations.CalibrationRuns
  refine ⟨?step, ?sparePasses, ?spareFails, ?takeOver, ?takeBack, ?starvedOver, ?starvedBack, ?slicePasses, ?sliceFails,
    ?load, ?data, ?write, ?written⟩
  case step =>
    intro s hlive hready hrot hslices hnocal hslot
    refine gives_running (c := s.ready 6 && s.adc.rot == .idle) (f := State.calStep) hlive (by simp [hready, hrot]) ?_
    have hbank : s.adc.rotSlot / 10 < s.adc.nocal.length := by omega
    rw [calStep_eq]
    cases hspare : s.idleSpare (s.adc.rotSlot / 10) with
    | some n =>
      obtain ⟨hn, -⟩ := idleSpare_some hspare
      rw [spareCal_idle (s := s.stepBegun) hspare]
      refine ⟨rfl, rfl, fun m hm => ?_, fun hnone => by cases hnone⟩
      obtain rfl := Option.some.inj hm
      exact ⟨rfl, rfl, getD_setAt_self (by rw [← hslices] at hn; exact hn), rfl, rfl⟩
    | none =>
      rw [spareCal_suspends (s := s.stepBegun) hspare]
      dsimp only
      rw [suspend_adc]
      refine ⟨rfl, rfl, fun m hm => (by cases hm), fun _ => ⟨rfl, rfl, getD_setAt_self hbank⟩⟩
  case sparePasses =>
    intro s offset gain hlive hrot ho hg
    refine gives_running (c := s.adc.rot == .spareCal) (f := fun s => s.spareCalEnds (calPasses offset gain true)) hlive
      (by simp [hrot]) ?_
    dsimp only
    rw [calPasses_true ho hg]
    rfl
  case spareFails =>
    intro s offset gain converged hlive hrot hlen hspare hfails
    refine gives_running (c := s.adc.rot == .spareCal) (f := fun s => s.spareCalEnds (calPasses offset gain converged)) hlive
      (by simp [hrot]) ?_
    rw [calPasses_false hfails]
    exact spareCalEnds_fails (hlen ▸ hspare)
  case takeOver =>
    intro s hlive hrot hfree hlen hslot
    refine gives_running (c := s.slotFree s.adc.rotSlot) (f := State.handover) hlive hfree ?_
    obtain ⟨t, ht⟩ : ∃ t, edge5 s.now = t := ⟨_, rfl⟩
    rw [handover_takeOver ht hrot, ht]
    exact ⟨congrArg Slot.slice (svc_modSvc_self (s := s.advance t) (hlen ▸ hslot)), rfl⟩
  case takeBack =>
    intro s hlive hrot hfree hlen hslot hslices hspare
    refine gives_running (c := s.slotFree s.adc.rotSlot) (f := State.handover) hlive hfree ?_
    obtain ⟨t, ht⟩ : ∃ t, edge5 s.now = t := ⟨_, rfl⟩
    rw [handover_takeBack ht hrot, ht]
    exact ⟨rfl, rfl, congrArg Slot.slice (svc_modSvc_self (s := s.advance t) (hlen ▸ hslot)),
      getD_setAt_self (hslices ▸ hspare), rfl⟩
  case starvedOver =>
    intro s hlive hrot hfree hslices hspare
    refine gives_running (c := (s.adc.rot == .takeOver || s.adc.rot == .takeBack) && !s.slotFree s.adc.rotSlot)
      (f := State.calStarves) hlive (by simp [hrot, hfree]) ?_
    rw [calStarves_takeOver hrot]
    exact ⟨rfl, rfl, rfl, getD_setAt_self (hslices ▸ hspare)⟩
  case starvedBack =>
    intro s hlive hrot hfree
    refine gives_running (c := (s.adc.rot == .takeOver || s.adc.rot == .takeBack) && !s.slotFree s.adc.rotSlot)
      (f := State.calStarves) hlive (by simp [hrot, hfree]) ?_
    rw [calStarves_takeBack hrot]
    rfl
  case slicePasses =>
    intro s offset gain hlive hrot ho hg
    refine gives_running (c := s.adc.rot == .sliceCal) (f := fun s => s.sliceCalEnds (calPasses offset gain true)) hlive
      (by simp [hrot]) ?_
    dsimp only
    rw [calPasses_true ho hg]
    rfl
  case sliceFails =>
    intro s offset gain converged hlive hrot hlen hspare hown hne hfails
    refine gives_running (c := s.adc.rot == .sliceCal) (f := fun s => s.sliceCalEnds (calPasses offset gain converged)) hlive
      (by simp [hrot]) ?_
    rw [calPasses_false hfails]
    exact sliceCalEnds_fails (hlen ▸ hspare) (hlen ▸ hown) hne
  case load =>
    intro s h hs hp hbusy
    obtain ⟨hlive, hh⟩ := live_of_admits (pends_iff.mp hp).1
    refine gives_byHost (f := fun s => s.hostComplete h A.ADC_CALSET_CMD 1#32) hlive hh ?_
    rw [complete_calset hp hbusy fun h2 => absurd h2 (by decide), if_pos rfl]
    refine ⟨State.mended_adc .., ?_, ?_⟩
    · rw [State.reg, State.mended_regs]
      exact reg_calsetTaken hs h 1#32
    · rw [mended_eq]
      rfl
  case data =>
    intro s h v hs hrising ha
    obtain ⟨hlive, hh⟩ := live_of_admits ha
    refine gives_byHost (f := fun s => s.hostPut h A.ADC_CALSET_DATA v) hlive hh ?_
    dsimp only
    rw [hostPut_calsetData v ha]
    refine ⟨?_, ?_, ?_⟩
    · rw [State.mended_adc]
      exact Map.get_put_of_rising hrising
    · rw [State.reg, State.mended_regs]
      exact Map.get_put_self hs.1
    · rw [mended_eq]
      rfl
  case write =>
    intro s h hs hp hbusy hflash hset
    obtain ⟨hlive, hh⟩ := live_of_admits (pends_iff.mp hp).1
    refine gives_byHost (f := fun s => s.hostComplete h A.ADC_CALSET_CMD 2#32) hlive hh ?_
    dsimp only
    rw [complete_calset hp hbusy fun _ => ⟨hflash, hset⟩, if_neg (by decide)]
    refine ⟨State.mended_adc .., ?_⟩
    rw [mended_eq]
    rfl
  case written =>
    intro s hlive hbusy
    refine gives_running (c := s.adc.calsetBusy) (f := State.calsetDone) hlive hbusy ⟨fun hflash => ?_, fun hflash => ?_⟩
    · rw [State.calsetDone, hflash]
      rfl
    · rw [State.calsetDone, hflash]
      rfl

end

section
/-! PROOFS. Quotients (R9): one of the two integers next to the exact value, whichever way it is rounded (log entry 11). -/

namespace Sys2Proof

theorem quo_eq (num : Int) {den : Nat} (h : 0 < den) :
    quo num den = num / (den : Int) ∨ (quo num den = num / (den : Int) + 1 ∧ num % (den : Int) ≠ 0) := by
  unfold quo
  rw [if_neg (by omega)]
  split
  · exact .inl rfl
  · rename_i hrest
    split
    · exact .inr ⟨rfl, hrest⟩
    · exact .inl rfl

/-- A quotient is less than one from the exact value. -/
theorem quo_near (num : Int) {den : Nat} (h : 0 < den) :
    num - den < quo num den * den ∧ quo num den * den < num + den := by
  have hsplit := Int.mul_ediv_add_emod num den
  have hlow := Int.emod_nonneg num (show (den : Int) ≠ 0 by omega)
  have hhigh := Int.emod_lt_of_pos num (show (0 : Int) < den by omega)
  rw [Int.mul_comm] at hsplit
  rcases quo_eq num h with heq | ⟨heq, hrest⟩
  · rw [heq]
    omega
  · rw [heq, Int.add_mul]
    omega

/-- A quotient is at least what the exact value is at least. -/
theorem le_quo {a num : Int} {den : Nat} (h : 0 < den) (ha : a * den ≤ num) : a ≤ quo num den := by
  have hfloor := (Int.le_ediv_iff_mul_le (show (0 : Int) < den by omega)).mpr ha
  rcases quo_eq num h with heq | ⟨heq, -⟩
  · omega
  · omega

/-- A quotient is at most what the exact value is at most. -/
theorem quo_le {b num : Int} {den : Nat} (h : 0 < den) (hb : num ≤ b * den) : quo num den ≤ b := by
  have hsplit := Int.mul_ediv_add_emod num den
  have hlow := Int.emod_nonneg num (show (den : Int) ≠ 0 by omega)
  have hfloor : num / (den : Int) ≤ b := by
    have := Int.ediv_le_ediv (show (0 : Int) < den by omega) hb
    rwa [Int.mul_ediv_cancel _ (by omega)] at this
  rcases quo_eq num h with heq | ⟨heq, hrest⟩
  · omega
  · rcases Int.lt_or_eq_of_le hfloor with hlt | hbeq
    · omega
    · rw [hbeq, Int.mul_comm] at hsplit
      omega

theorem quo_nonneg {num : Int} (den : Nat) (h : 0 ≤ num) : 0 ≤ quo num den := by
  rcases Nat.eq_zero_or_pos den with rfl | hpos
  · exact Int.le_refl 0
  · exact le_quo hpos (by simpa using h)

theorem quo_mul_cancel (a : Int) {den : Nat} (h : 0 < den) : quo (a * den) den = a :=
  Int.le_antisymm (quo_le h (Int.le_refl _)) (le_quo h (Int.le_refl _))

theorem quo_zero (den : Nat) : quo 0 den = 0 := by
  unfold quo
  simp

theorem absI_le {x b : Int} : absI x ≤ b ↔ -b ≤ x ∧ x ≤ b := by
  unfold absI
  split <;> omega

theorem absI_eq_natAbs (x : Int) : absI x = x.natAbs := by
  unfold absI
  split <;> omega

/-- A quotient of integers whose exact value is at most `b` in size is so too. -/
theorem absI_quoI_le {num den b : Int} (hb : 0 ≤ b) (h : absI num ≤ b * absI den) : absI (quoI num den) ≤ b := by
  rw [absI_le] at h ⊢
  unfold quoI
  rcases Int.lt_trichotomy den 0 with hneg | rfl | hpos
  · rw [if_pos hneg]
    have hden : (den.natAbs : Int) = absI den := (absI_eq_natAbs den).symm
    exact ⟨le_quo (by omega) (by rw [hden, Int.neg_mul]; omega), quo_le (by omega) (by rw [hden]; omega)⟩
  · simpa [quo] using hb
  · rw [if_neg (by omega)]
    have hden : (den.natAbs : Int) = absI den := (absI_eq_natAbs den).symm
    exact ⟨le_quo (by omega) (by rw [hden, Int.neg_mul]; omega), quo_le (by omega) (by rw [hden]; omega)⟩

theorem quoI_nonneg {num den : Int} (hn : 0 ≤ num) (hd : 0 ≤ den) : 0 ≤ quoI num den := by
  rw [quoI, if_neg (by omega)]
  exact quo_nonneg _ hn

theorem sat_nonneg {x : Int} (h : 0 ≤ x) : 0 ≤ sat x := by
  unfold sat
  omega

theorem absI_sat_le {x b : Int} (h : absI x ≤ b) : absI (sat x) ≤ b := by
  rw [absI_le] at h ⊢
  unfold sat
  omega

end Sys2Proof
end

section
/-! PROOFS. Redundant pairs (R92): what a beat makes of two valid members, of one, and of none. -/

namespace Sys2Proof.Machine

section
variable {p : Pair} {thr : Int} {n : Nat} {x y : Int × Int}

theorem pairStep_agrees (h : absI (x.1 - y.1) ≤ thr) : pairStep p thr n (some x) (some y) =
    { dis := 0, agree := min (p.agree + 1) n, declared := p.declared && decide (min (p.agree + 1) n < n), carried := 0,
      value := if p.declared && decide (min (p.agree + 1) n < n) then p.value else quo (x.1 + y.1) 2, lsb := min x.2 y.2,
      valid := if p.declared && decide (min (p.agree + 1) n < n) then .invalid else .valid } := if_pos h

theorem pairStep_disagrees (h : thr < absI (x.1 - y.1)) : pairStep p thr n (some x) (some y) =
    { dis := min (p.dis + 1) n, agree := 0, declared := p.declared || decide (n ≤ min (p.dis + 1) n), carried := 0,
      value := if p.declared || decide (n ≤ min (p.dis + 1) n) then p.value else quo (x.1 + y.1) 2, lsb := min x.2 y.2,
      valid := if p.declared || decide (n ≤ min (p.dis + 1) n) then .invalid else .valid } := if_neg (Int.not_le.mpr h)

end

/-- While none is valid a value is carried for two beats, unless a disagreement stands. -/
theorem pairStep_neither (p : Pair) (thr : Int) (n : Nat) : pairStep p thr n none none =
    { p with
      dis := 0, agree := 0, carried := min (p.carried + 1) 3,
      valid := if p.declared || p.valid == .invalid || decide (2 < min (p.carried + 1) 3) then .invalid else .carried } := rfl

/-- A pair whose members have agreed, or not yet disagreed for long. -/
theorem pairStep_undeclared {p : Pair} (hd : p.declared = false) (thr : Int) (n : Nat) (x y : Int × Int) :
    (absI (x.1 - y.1) ≤ thr →
      (pairStep p thr n (some x) (some y)).valid = .valid ∧ (pairStep p thr n (some x) (some y)).value = quo (x.1 + y.1) 2 ∧
      (pairStep p thr n (some x) (some y)).dis = 0 ∧ (pairStep p thr n (some x) (some y)).declared = false) ∧
    (thr < absI (x.1 - y.1) → p.dis + 1 < n →
      (pairStep p thr n (some x) (some y)).valid = .valid ∧ (pairStep p thr n (some x) (some y)).value = quo (x.1 + y.1) 2 ∧
      (pairStep p thr n (some x) (some y)).dis = p.dis + 1 ∧ (pairStep p thr n (some x) (some y)).agree = 0) ∧
    (thr < absI (x.1 - y.1) → n ≤ p.dis + 1 →
      (pairStep p thr n (some x) (some y)).valid = .invalid ∧ (pairStep p thr n (some x) (some y)).declared = true) ∧
    (pairStep p thr n (some x) none).valid = .valid ∧ (pairStep p thr n (some x) none).value = x.1 ∧
    (pairStep p thr n none (some y)).valid = .valid ∧ (pairStep p thr n none (some y)).value = y.1 ∧
    (p.valid ≠ .invalid → p.carried < 2 →
      (pairStep p thr n none none).valid = .carried ∧ (pairStep p thr n none none).value = p.value ∧
      (pairStep p thr n none none).carried = p.carried + 1) ∧
    (2 ≤ p.carried → (pairStep p thr n none none).valid = .invalid) := by
  refine ⟨fun h => ?_, fun h hn => ?_, fun h hn => ?_, ?_, ?_, ?_, ?_, fun hv hc => ?_, fun hc => ?_⟩
  · rw [pairStep_agrees h]
    simp [hd]
  · rw [pairStep_disagrees h]
    have hmin : min (p.dis + 1) n = p.dis + 1 := by omega
    simp [hd, hmin, hn]
  · rw [pairStep_disagrees h]
    have hmin : min (p.dis + 1) n = n := by omega
    simp [hmin]
  · simp [pairStep, hd]
  · simp [pairStep, hd]
  · simp [pairStep, hd]
  · simp [pairStep, hd]
  · have hmin : min (p.carried + 1) 3 = p.carried + 1 := by omega
    rw [pairStep_neither, hmin]
    have hlate : ¬ 2 < p.carried + 1 := by omega
    simp [hd, hv, hlate]
  · have hmin : min (p.carried + 1) 3 = 3 := by omega
    rw [pairStep_neither, hmin]
    simp

/-- A pair in disagreement stays so until both members have agreed for long enough. -/
theorem pairStep_declared {p : Pair} (hd : p.declared = true) (thr : Int) (n : Nat) (a b : Option (Int × Int)) :
    (a = none ∨ b = none → (pairStep p thr n a b).valid = .invalid ∧ (pairStep p thr n a b).declared = true ∧
      (pairStep p thr n a b).agree = 0 ∧ (pairStep p thr n a b).dis = 0) ∧
    (∀ x y, a = some x → b = some y → absI (x.1 - y.1) ≤ thr → p.agree + 1 < n →
      (pairStep p thr n a b).valid = .invalid ∧ (pairStep p thr n a b).agree = p.agree + 1) ∧
    (∀ x y, a = some x → b = some y → absI (x.1 - y.1) ≤ thr → n ≤ p.agree + 1 →
      (pairStep p thr n a b).valid = .valid ∧ (pairStep p thr n a b).declared = false) := by
  refine ⟨fun h => ?_, ?_, ?_⟩
  · match a, b, h with
    | none, none, _ => simp [pairStep, hd]
    | some x, none, _ => simp [pairStep, hd]
    | none, some y, _ => simp [pairStep, hd]
  · rintro x y rfl rfl h hn
    have hmin : min (p.agree + 1) n = p.agree + 1 := by omega
    rw [pairStep_agrees h]
    simp [hd, hmin, hn]
  · rintro x y rfl rfl h hn
    have hmin : min (p.agree + 1) n = n := by omega
    rw [pairStep_agrees h]
    simp [hmin]

end Sys2Proof.Machine
end

section
/-! PROOFS. One execution of a loop slot (R188, R189, R193 to R196): what each type makes of its inputs, and that no other slot is
touched. -/

namespace Sys2Proof.Map
variable {α : Type} [DecidableEq α]

/-- A write keeps the keys rising. -/
theorem rising_put {d : Nat → α} {k : Nat} {v : α} {m : List (Nat × α)} (h : rising m = true) :
    rising (put d k v m) = true := by
  unfold put
  split
  · exact rising_remove h
  · exact rising_insert h

end Sys2Proof.Map

namespace Sys2Proof.Machine

/-! ## Slots -/

theorem slot_modSlot_self {s : State} {i : Nat} {f : LoopSlot → LoopSlot} (h : Map.rising s.loop.slots = true) :
    (s.modSlot i f).slot i = f (s.slot i) := Map.get_put_of_rising h

theorem slot_modSlot_other {s : State} {i j : Nat} {f : LoopSlot → LoopSlot} (h : j ≠ i) :
    (s.modSlot i f).slot j = s.slot j := Map.get_put_other h

theorem rising_modSlot {s : State} {i : Nat} {f : LoopSlot → LoopSlot} (h : Map.rising s.loop.slots = true) :
    Map.rising (s.modSlot i f).loop.slots = true :=
  Map.rising_put (d := fun _ => loopSlotReset) (k := i) (v := f (s.slot i)) h

/-- A reading that a change of one slot keeps is kept of every slot. -/
theorem slot_modSlot_keeps {γ : Type} {s : State} {i : Nat} {f : LoopSlot → LoopSlot} {r : LoopSlot → γ}
    (h : Map.rising s.loop.slots = true) (hf : ∀ q, r (f q) = r q) (j : Nat) : r ((s.modSlot i f).slot j) = r (s.slot j) := by
  by_cases hj : j = i
  · subst hj
    rw [slot_modSlot_self h, hf]
  · rw [slot_modSlot_other hj]

/-- An operation leaves every slot but one, and that one's count of executions. -/
def ActsOnSlot (s t : State) (i : Nat) : Prop := (t.slot i).exec = (s.slot i).exec ∧ ∀ j, j ≠ i → t.slot j = s.slot j

theorem actsOnSlot_modSlot {s : State} {i : Nat} {f : LoopSlot → LoopSlot} (h : Map.rising s.loop.slots = true)
    (hf : (f (s.slot i)).exec = (s.slot i).exec) : ActsOnSlot s (s.modSlot i f) i :=
  ⟨by rw [slot_modSlot_self h, hf], fun _ hj => slot_modSlot_other hj⟩

theorem actsOnSlot_refl (s : State) (i : Nat) : ActsOnSlot s s i := ⟨rfl, fun _ _ => rfl⟩

theorem ActsOnSlot.trans {s t u : State} {i : Nat} (h : ActsOnSlot s t i) (k : ActsOnSlot t u i) : ActsOnSlot s u i :=
  ⟨k.1.trans h.1, fun j hj => (k.2 j hj).trans (h.2 j hj)⟩

/-! ## OUT_HOLD (R193 to R195) -/

theorem latched_loop (s : State) (bit : Nat) : (s.latched bit).loop = s.loop := by
  obtain ⟨m, -, -, -, heq⟩ := latched_eq s bit
  have hcut := congrArg State.loop (holdActs_besideCut s)
  rw [heq]
  exact hcut

theorem causeOn_loop (s : State) (bit : Nat) : (s.causeOn bit).loop = s.loop := by
  cases h : s.modes.cond.testBit bit with
  | true => rw [causeOn_present h]
  | false =>
    cases hl : s.modes.latch.testBit bit with
    | true => rw [causeOn_again h hl]
    | false =>
      rw [causeOn_latches h hl, latched_loop]
      rfl

/-- A slot as it enters OUT_HOLD: it keeps its output, or takes SAFE. -/
def State.heldSlot (s : State) (i cause : Nat) (q : LoopSlot) : LoopSlot :=
  { q with st := .outHold, hcause := cause, holds := satInc 16 q.holds 1,
           out := if bitAt (s.sw i 0) 6 then (s.sw i 0x30).toInt else q.out }

/-- Of the loop, entering OUT_HOLD changes that slot alone. -/
theorem enterHold_loop (s : State) (i cause : Nat) :
    (s.enterHold i cause).loop = (s.modSlot i (s.heldSlot i cause)).loop := by
  unfold State.enterHold
  dsimp only
  split
  · rw [causeOn_loop, State.eventIf_loop]
    rfl
  · rw [State.eventIf_loop]
    rfl

theorem enterHold_slot (s : State) (i cause j : Nat) :
    (s.enterHold i cause).slot j = (s.modSlot i (s.heldSlot i cause)).slot j := by
  rw [State.slot, enterHold_loop]
  rfl

theorem actsOnSlot_enterHold {s : State} {i : Nat} (h : Map.rising s.loop.slots = true) (cause : Nat) :
    ActsOnSlot s (s.enterHold i cause) i := by
  refine ⟨?_, fun j hj => ?_⟩
  · rw [enterHold_slot, slot_modSlot_self h]
    rfl
  · rw [enterHold_slot, slot_modSlot_other hj]

/-! ## A PI slot (R188, R213) -/

/-- FB of a slot through the stages before its computation, and the states of its stages. -/
def State.fbIn (s : State) (i : Nat) : Int × List Word := s.notched i false (s.srcVal (s.sw i 0xC)).1 (s.slot i).notch

/-- ERR for a reference. -/
def State.errOf (s : State) (i : Nat) (ref : Int) : Int :=
  if bitAt (s.sw i 4) 8 then psub (s.fbIn i).1 ref else psub ref (s.fbIn i).1

/-- Integration is inhibited for an error: a clamp of the slot's own or of the slot it names stands that way, or `hold`. -/
def State.inhibited (s : State) (i : Nat) (e : Int) (hold : Int → Bool) : Bool :=
  let q := s.slot i
  let far := s.slot (fld (s.sw i 0x14) 0 10)
  (q.sath && decide (0 < e)) || (q.satl && decide (e < 0)) ||
    (bitAt (s.sw i 0x14) 15 && ((far.sath && decide (0 < e)) || (far.satl && decide (e < 0)))) || hold e

/-- The slot behind the freeze check of FB, and whether it is held for it. -/
def State.frozen (s : State) (i : Nat) (e : Int) : LoopSlot × Bool :=
  let n := fld (s.sw i 4) 16 8
  let fb := s.srcVal (s.sw i 0xC)
  if n != 0 && fld (s.sw i 0xC) 28 4 != 0 then freeze (s.slot i) n fb.1 fb.2 e else (s.slot i, false)

/-- The proportional term. -/
def State.gainTerm (s : State) (i : Nat) (e : Int) : Int := sat (quo ((s.sw i 0x18).toInt * e) 0x1000000)

/-- AUX of a slot. -/
def State.auxOf (s : State) (i : Nat) : Int := (s.srcVal (s.sw i 0x10)).1

/-- The time since the slot's last execution. -/
def State.slotTs (s : State) (i : Nat) : Int := (s.execTs (slotRsh (s.sw i 0)) : Nat)

/-- A slot's result within its limits. -/
def State.limited (s : State) (i : Nat) (u : Int) : Int := clampI (s.sw i 0x2C).toInt (s.sw i 0x28).toInt u

/-- The integrators of a PI or RES slot after an execution; `f` is the slot behind its freeze check. -/
def State.integrators (s : State) (i : Nat) (e : Int) (hold : Int → Bool) (f : LoopSlot) : LoopSlot :=
  let q := s.slot i
  let k2 : Int := ((s.sw i 0x1C).toNat : Int)
  let h : Int := (fld (s.sw i 0x20) 0 6 : Nat)
  let w2 := fun (x : Int) => quo (twoPi60 * h * (s.ang.rate : Nat) * s.slotTs i * x) (2 ^ 76 * second)
  let rs1' := sat (q.rs1 + quo (k2 * s.slotTs i * e) (256 * second) - w2 q.rs2)
  let base := s.limited i (psub (psub q.out (s.gainTerm i e)) (s.auxOf i))
  if q.released then
    (if slotType (s.sw i 0) = 1 then { f with intg := base } else { f with rs1 := base, rs2 := 0 })
  else if s.inhibited i e hold then f
  else if slotType (s.sw i 0) = 1 then
    { f with intg := s.limited i (sat (q.intg + quo (k2 * s.slotTs i * e) (256 * second))) }
  else { f with rs1 := s.limited i rs1', rs2 := sat (q.rs2 + w2 rs1') }

/-- The result of a PI or RES slot with its integrators, and the states of its stages. -/
def State.piResult (s : State) (i : Nat) (e : Int) (q : LoopSlot) : Int × List Word :=
  s.notched i true (padd (padd (s.gainTerm i e) (s.auxOf i)) (if slotType (s.sw i 0) = 1 then q.intg else q.rs1))
    (s.fbIn i).2

/-- An execution of a PI or RES slot: it is held where its freeze check fails, else its integrators and its result follow. -/
theorem execPi_eq (s : State) (i : Nat) (ref : Int) (hold : Int → Bool) : s.execPi i ref hold =
    let e := s.errOf i ref
    let f := s.frozen i e
    let q := s.integrators i e hold f.1
    let u := s.piResult i e q
    if f.2 then (s.modSlot i fun _ => { f.1 with err := e, spUsed := ref }).enterHold i 2
    else s.modSlot i fun _ => s.slotOut i u.1 { q with
      st := .run, err := e, inhib := s.inhibited i e hold, spUsed := ref, released := false, notch := u.2 } := by
  unfold State.execPi State.integrators State.piResult
  rfl

theorem freeze_exec (q : LoopSlot) (n : Nat) (fb lsb e : Int) : (freeze q n fb lsb e).1.exec = q.exec := by
  unfold freeze
  split
  · rfl
  · split <;> rfl

theorem frozen_exec (s : State) (i : Nat) (e : Int) : (s.frozen i e).1.exec = (s.slot i).exec := by
  unfold State.frozen
  dsimp only
  split
  · exact freeze_exec ..
  · rfl

theorem integrators_exec (s : State) (i : Nat) (e : Int) (hold : Int → Bool) (f : LoopSlot) :
    (s.integrators i e hold f).exec = f.exec := by
  unfold State.integrators
  dsimp only
  (repeat' split) <;> rfl

theorem actsOnSlot_execPi {s : State} {i : Nat} (h : Map.rising s.loop.slots = true) (ref : Int) (hold : Int → Bool) :
    ActsOnSlot s (s.execPi i ref hold) i := by
  rw [execPi_eq]
  dsimp only
  split
  · exact (actsOnSlot_modSlot h (frozen_exec ..)).trans (actsOnSlot_enterHold (rising_modSlot h) 2)
  · exact actsOnSlot_modSlot h ((integrators_exec ..).trans (frozen_exec ..))

/-- The result of an execution: the output within the limits, and where it was clamped. -/
def State.Results (s : State) (q : LoopSlot) (i : Nat) (ref u : Int) : Prop :=
  q.st = .run ∧ q.out = s.limited i u ∧ q.sath = decide ((s.sw i 0x28).toInt < u) ∧
  q.satl = decide (u < (s.sw i 0x2C).toInt) ∧ q.spUsed = ref ∧ q.released = false

/-- INTG after an execution of a PI slot that is not fresh from a release. -/
def State.integrated (s : State) (i : Nat) (e : Int) (hold : Int → Bool) : Int :=
  if s.inhibited i e hold then (s.slot i).intg
  else s.limited i (sat ((s.slot i).intg + quo (((s.sw i 0x1C).toNat : Int) * s.slotTs i * e) (256 * second)))

/-- A PI slot without a freeze check, not fresh from a release. -/
theorem execPi_results {s : State} {i : Nat} (h : Map.rising s.loop.slots = true) (ref : Int) (hold : Int → Bool)
    (hty : slotType (s.sw i 0) = 1) (hfrz : fld (s.sw i 4) 16 8 = 0) (hrel : (s.slot i).released = false) :
    let e := s.errOf i ref
    let q := (s.execPi i ref hold).slot i
    q.err = e ∧ q.inhib = s.inhibited i e hold ∧ q.intg = s.integrated i e hold ∧
    s.Results q i ref
      (s.notched i true (padd (padd (s.gainTerm i e) (s.auxOf i)) (s.integrated i e hold)) (s.fbIn i).2).1 := by
  have hfree (e : Int) : s.frozen i e = (s.slot i, false) := by simp [State.frozen, hfrz]
  have hintg (e : Int) : (s.integrators i e hold (s.slot i)).intg = s.integrated i e hold := by
    unfold State.integrators State.integrated
    cases s.inhibited i e hold <;> simp [hrel, hty]
  have hresult (e : Int) : s.piResult i e (s.integrators i e hold (s.slot i)) =
      s.notched i true (padd (padd (s.gainTerm i e) (s.auxOf i)) (s.integrated i e hold)) (s.fbIn i).2 := by
    rw [State.piResult, if_pos hty, hintg]
  dsimp only
  rw [execPi_eq]
  dsimp only
  rw [hfree, if_neg Bool.false_ne_true, slot_modSlot_self h, hresult]
  exact ⟨rfl, rfl, hintg _, rfl, rfl, rfl, rfl, rfl, rfl⟩

/-! ## RAMP, FILTER and SUM (R189, R213) -/

section
variable {s : State} {i : Nat} (h : Map.rising s.loop.slots = true) (ref : Int) (hold : Int → Bool)
include h

theorem actsOnSlot_execRamp : ActsOnSlot s (s.execRamp i ref hold) i := actsOnSlot_modSlot h rfl

theorem actsOnSlot_execFilter : ActsOnSlot s (s.execFilter i ref hold) i := actsOnSlot_modSlot h rfl

theorem actsOnSlot_execSum : ActsOnSlot s (s.execSum i ref) i := actsOnSlot_modSlot h rfl

/-- A ramp goes towards its reference by at most its step. -/
theorem execRamp_results (hgo : hold (ref - (s.slot i).out) = false) :
    s.Results ((s.execRamp i ref hold).slot i) i ref (sat (if (s.slot i).out ≤ ref
      then min ref ((s.slot i).out + quo (((s.sw i 0x18).toNat : Int) * 4096 * s.slotTs i) second)
      else max ref ((s.slot i).out - quo (((s.sw i 0x1C).toNat : Int) * 4096 * s.slotTs i) second))) := by
  unfold State.execRamp
  simp only [hgo, Bool.false_eq_true, if_false]
  rw [slot_modSlot_self h]
  exact ⟨rfl, rfl, rfl, rfl, rfl, rfl⟩

/-- INTG after an execution of a FILTER slot. -/
def State.filtered (s : State) (i : Nat) (ref : Int) : Int :=
  let x := (s.notched i false ref (s.slot i).notch).1
  let tau := us (s.sw i 0x18).toNat
  if tau = 0 then x else
    sat ((s.slot i).intg + quo (s.slotTs i * (x - (s.slot i).intg)) (tau + s.execTs (slotRsh (s.sw i 0))))

theorem execFilter_results (hgo : hold (ref - (s.slot i).out) = false) :
    ((s.execFilter i ref hold).slot i).intg = s.filtered i ref ∧
    s.Results ((s.execFilter i ref hold).slot i) i ref
      (s.notched i true (s.filtered i ref) (s.notched i false ref (s.slot i).notch).2).1 := by
  unfold State.execFilter State.filtered
  simp only [hgo, Bool.false_eq_true, if_false]
  rw [slot_modSlot_self h]
  exact ⟨rfl, rfl, rfl, rfl, rfl, rfl, rfl⟩

/-- One weighted input of a SUM slot. -/
def State.weighted (s : State) (i off : Nat) (x : Int) : Int := sat (quo ((s.sw i off).toInt * x) 0x1000000)

theorem execSum_results : s.Results ((s.execSum i ref).slot i) i ref
    (s.notched i true (padd (padd (s.weighted i 0x18 ref) (s.weighted i 0x1C (s.fbIn i).1)) (s.weighted i 0x20 (s.auxOf i)))
      (s.fbIn i).2).1 := by
  unfold State.execSum
  dsimp only
  rw [slot_modSlot_self h]
  exact ⟨rfl, rfl, rfl, rfl, rfl, rfl⟩

end

end Sys2Proof.Machine
end

section
/-! PROOFS. A due slot in its turn (R179, R188, R193): the count of its execution is read by nothing that the execution uses. -/

namespace Sys2Proof.Machine

/-! ## The execution is counted -/

/-- The state in which the execution of a slot has been counted. -/
def State.counted (s : State) (i : Nat) : State := s.modSlot i fun q => { q with exec := (q.exec + 1) % 2 ^ 32 }

section
variable {s : State} {i : Nat} (h : Map.rising s.loop.slots = true)
include h

theorem rising_counted : Map.rising (s.counted i).loop.slots = true := rising_modSlot h

theorem counted_slot_self : (s.counted i).slot i = { s.slot i with exec := ((s.slot i).exec + 1) % 2 ^ 32 } :=
  slot_modSlot_self h

theorem counted_reads {γ : Type} {r : LoopSlot → γ} (hr : ∀ q n, r { q with exec := n } = r q) (j : Nat) :
    r ((s.counted i).slot j) = r (s.slot j) := slot_modSlot_keeps h (fun q => hr q _) j

theorem counted_roleOut (role : Nat) : (s.counted i).roleOut role = s.roleOut role := by
  have hout (j : Nat) : ((s.counted i).slot j).out = (s.slot j).out := counted_reads h (fun _ _ => rfl) j
  have hrole : (s.counted i).roleSlot role = s.roleSlot role := rfl
  unfold State.roleOut
  rw [hrole]
  cases s.roleSlot role with
  | none => rfl
  | some j => exact hout j

theorem counted_demand : (s.counted i).demand = s.demand := by
  have hstop : (s.counted i).stopNow = s.stopNow := rfl
  have hmode : (s.counted i).effMode = s.effMode := rfl
  unfold State.demand
  rw [hstop, hmode, counted_roleOut h, counted_roleOut h, counted_roleOut h, counted_roleOut h]
  rfl

theorem counted_stage : (s.counted i).stage = s.stage := by
  unfold State.stage
  rw [counted_demand h]
  rfl

theorem counted_supply (role : Nat) : (s.counted i).supply role = s.supply role := by
  unfold State.supply
  rw [counted_stage h]
  rfl

theorem counted_srcVal (sel : Word) : (s.counted i).srcVal sel = s.srcVal sel := by
  unfold State.srcVal
  dsimp only
  rw [counted_reads h (r := LoopSlot.out) fun _ _ => rfl]
  rfl

theorem counted_srcOk (sel : Word) : (s.counted i).srcOk sel = s.srcOk sel := by
  unfold State.srcOk
  dsimp only
  rw [counted_reads h (r := LoopSlot.st) fun _ _ => rfl]
  rfl

theorem counted_inputsOk (k : Nat) : (s.counted i).inputsOk k = s.inputsOk k := by
  have hok : (s.counted i).srcOk = s.srcOk := funext fun sel => counted_srcOk h sel
  unfold State.inputsOk
  rw [hok]
  rfl

theorem counted_fbIn (k : Nat) : (s.counted i).fbIn k = s.fbIn k := by
  unfold State.fbIn
  rw [counted_srcVal h, counted_reads h (r := LoopSlot.notch) fun _ _ => rfl]
  rfl

theorem counted_auxOf (k : Nat) : (s.counted i).auxOf k = s.auxOf k := by
  unfold State.auxOf
  rw [counted_srcVal h]
  rfl

theorem counted_errOf (k : Nat) (ref : Int) : (s.counted i).errOf k ref = s.errOf k ref := by
  unfold State.errOf
  rw [counted_fbIn h]
  rfl

theorem counted_inhibited (k : Nat) (e : Int) (hold : Int → Bool) :
    (s.counted i).inhibited k e hold = s.inhibited k e hold := by
  unfold State.inhibited
  dsimp only
  rw [counted_reads h (r := LoopSlot.sath) fun _ _ => rfl, counted_reads h (r := LoopSlot.satl) fun _ _ => rfl,
    counted_reads h (r := LoopSlot.sath) fun _ _ => rfl, counted_reads h (r := LoopSlot.satl) fun _ _ => rfl]
  rfl

theorem counted_integrated (k : Nat) (e : Int) (hold : Int → Bool) :
    (s.counted i).integrated k e hold = s.integrated k e hold := by
  unfold State.integrated
  rw [counted_inhibited h, counted_reads h (r := LoopSlot.intg) fun _ _ => rfl]
  rfl

theorem counted_filtered (k : Nat) (ref : Int) : (s.counted i).filtered k ref = s.filtered k ref := by
  unfold State.filtered
  dsimp only
  rw [counted_reads h (r := LoopSlot.intg) fun _ _ => rfl, counted_reads h (r := LoopSlot.notch) fun _ _ => rfl]
  rfl

end

/-! ## One execution -/

/-- The reference of a slot: what its role is supplied with, else its set-point or its source. -/
def State.slotRef (s : State) (i : Nat) : Int :=
  (s.supply (slotRole (s.sw i 4))).getD (if fld (s.sw i 8) 28 4 = 0 then (s.sw i 0x40).toInt else (s.srcVal (s.sw i 8)).1)

/-- A slot that is not held runs by its type. -/
def State.runSlot (s : State) (i : Nat) (ref : Int) (hold : Int → Bool) : State :=
  let ty := slotType (s.sw i 0)
  if ty = 3 then s.execRamp i ref hold else if ty = 4 then s.execFilter i ref hold else if ty = 5 then s.execSum i ref
  else s.execPi i ref hold

/-- A slot that is not due, or released within the beat, is left alone. -/
theorem execSlot_idle {s : State} {i : Nat} (h : s.slotDue i = false ∨ s.loop.fresh.contains i = true) :
    s.execSlot State.supply State.withheld i = s := by
  unfold State.execSlot
  refine if_pos ?_
  rcases h with h | h
  · rw [h]
    rfl
  · rw [h, Bool.or_true]

/-- A due slot is counted, and then held, brought to OUT_HOLD, or run. -/
theorem execSlot_eq {s : State} {i : Nat} (h : Map.rising s.loop.slots = true) (hdue : s.slotDue i = true)
    (hfresh : s.loop.fresh.contains i = false) : s.execSlot State.supply State.withheld i =
      let u := s.counted i
      if (s.slot i).st = .outHold then
        (if bitAt (s.sw i 0) 6 then u.modSlot i fun q => { q with out := (s.sw i 0x30).toInt } else u)
      else if !s.inputsOk i then u.enterHold i 1
      else u.runSlot i (s.slotRef i) (s.withheld (slotRole (s.sw i 4))) := by
  have hst : ((s.counted i).slot i).st = (s.slot i).st := counted_reads h (fun _ _ => rfl) i
  have hwithheld : (s.counted i).withheld = s.withheld := rfl
  have href : (match (s.counted i).supply (slotRole (s.sw i 4)) with
      | some r => r
      | none => if fld (s.sw i 8) 28 4 = 0 then (s.sw i 0x40).toInt else ((s.counted i).srcVal (s.sw i 8)).1) =
      s.slotRef i := by
    rw [counted_supply h, counted_srcVal h, State.slotRef]
    cases s.supply (slotRole (s.sw i 4)) with
    | some r => rfl
    | none => rfl
  rw [← hst, ← counted_inputsOk (i := i) h, ← href, ← hwithheld]
  unfold State.execSlot
  rw [hdue, hfresh]
  rfl

theorem actsOnSlot_runSlot {s : State} {i : Nat} (h : Map.rising s.loop.slots = true) (ref : Int) (hold : Int → Bool) :
    ActsOnSlot s (s.runSlot i ref hold) i := by
  unfold State.runSlot
  dsimp only
  split
  · exact actsOnSlot_execRamp h ref hold
  · split
    · exact actsOnSlot_execFilter h ref hold
    · split
      · exact actsOnSlot_execSum h ref
      · exact actsOnSlot_execPi h ref hold

section
variable {s : State} {i : Nat} (h : Map.rising s.loop.slots = true) (hdue : s.slotDue i = true)
  (hfresh : s.loop.fresh.contains i = false)
include h hdue hfresh

/-- Every execution is counted once, and no other slot is touched. -/
theorem execSlot_counts : ((s.execSlot State.supply State.withheld i).slot i).exec = ((s.slot i).exec + 1) % 2 ^ 32 ∧
    ∀ j, j ≠ i → (s.execSlot State.supply State.withheld i).slot j = s.slot j := by
  have hacts : ActsOnSlot (s.counted i) (s.execSlot State.supply State.withheld i) i := by
    rw [execSlot_eq h hdue hfresh]
    dsimp only
    split
    · split
      · exact actsOnSlot_modSlot (rising_counted h) rfl
      · exact actsOnSlot_refl _ _
    · split
      · exact actsOnSlot_enterHold (rising_counted h) 1
      · exact actsOnSlot_runSlot (rising_counted h) _ _
  obtain ⟨hexec, hother⟩ := hacts
  refine ⟨?_, fun j hj => (hother j hj).trans (slot_modSlot_other hj)⟩
  rw [hexec, counted_slot_self h]

/-- A held slot keeps its output, or has SAFE. -/
theorem execSlot_held (hst : (s.slot i).st = .outHold) : (s.execSlot State.supply State.withheld i).slot i =
    { s.slot i with
      exec := ((s.slot i).exec + 1) % 2 ^ 32, out := if bitAt (s.sw i 0) 6 then (s.sw i 0x30).toInt else (s.slot i).out } := by
  rw [execSlot_eq h hdue hfresh]
  dsimp only
  rw [if_pos hst]
  split
  · rw [slot_modSlot_self (rising_counted h), counted_slot_self h]
  · rw [counted_slot_self h]

/-- A slot with an invalid input enters OUT_HOLD. -/
theorem execSlot_enters (hst : (s.slot i).st ≠ .outHold) (hin : s.inputsOk i = false) :
    (s.execSlot State.supply State.withheld i).slot i =
      s.heldSlot i 1 { s.slot i with exec := ((s.slot i).exec + 1) % 2 ^ 32 } := by
  rw [execSlot_eq h hdue hfresh]
  dsimp only
  rw [if_neg hst, hin, if_pos (by decide), enterHold_slot, slot_modSlot_self (rising_counted h), counted_slot_self h]
  rfl

/-- A slot with valid inputs runs by its type. -/
theorem execSlot_runs (hst : (s.slot i).st ≠ .outHold) (hin : s.inputsOk i = true) :
    s.execSlot State.supply State.withheld i =
      (s.counted i).runSlot i (s.slotRef i) (s.withheld (slotRole (s.sw i 4))) := by
  rw [execSlot_eq h hdue hfresh]
  dsimp only
  rw [if_neg hst, hin, if_neg (by decide)]

variable (hst : (s.slot i).st ≠ .outHold) (hin : s.inputsOk i = true)
include hst hin

/-- PI: error, inhibition, integral and result. -/
theorem execSlot_pi (hty : slotType (s.sw i 0) = 1) (hfrz : fld (s.sw i 4) 16 8 = 0) (hrel : (s.slot i).released = false) :
    let hold := s.withheld (slotRole (s.sw i 4))
    let e := s.errOf i (s.slotRef i)
    let q := (s.execSlot State.supply State.withheld i).slot i
    q.err = e ∧ q.inhib = s.inhibited i e hold ∧ q.intg = s.integrated i e hold ∧
    s.Results q i (s.slotRef i)
      (s.notched i true (padd (padd (s.gainTerm i e) (s.auxOf i)) (s.integrated i e hold)) (s.fbIn i).2).1 := by
  have hrun : (s.counted i).runSlot i (s.slotRef i) (s.withheld (slotRole (s.sw i 4))) =
      (s.counted i).execPi i (s.slotRef i) (s.withheld (slotRole (s.sw i 4))) := by
    unfold State.runSlot
    rw [show slotType ((s.counted i).sw i 0) = 1 from hty]
    rfl
  have hresults := execPi_results (s := s.counted i) (i := i) (rising_counted h) (s.slotRef i)
    (s.withheld (slotRole (s.sw i 4))) hty hfrz ((counted_reads h (r := LoopSlot.released) (fun _ _ => rfl) i).trans hrel)
  dsimp only at hresults ⊢
  rw [counted_errOf h, counted_inhibited h, counted_integrated h, counted_auxOf h, counted_fbIn h] at hresults
  rw [execSlot_runs h hdue hfresh hst hin, hrun]
  exact hresults

/-- RAMP: a step towards the reference. -/
theorem execSlot_ramp (hty : slotType (s.sw i 0) = 3)
    (hgo : s.withheld (slotRole (s.sw i 4)) (s.slotRef i - (s.slot i).out) = false) :
    s.Results ((s.execSlot State.supply State.withheld i).slot i) i (s.slotRef i) (sat (if (s.slot i).out ≤ s.slotRef i
      then min (s.slotRef i) ((s.slot i).out + quo (((s.sw i 0x18).toNat : Int) * 4096 * s.slotTs i) second)
      else max (s.slotRef i) ((s.slot i).out - quo (((s.sw i 0x1C).toNat : Int) * 4096 * s.slotTs i) second))) := by
  have hout : ((s.counted i).slot i).out = (s.slot i).out := counted_reads h (fun _ _ => rfl) i
  have hrun : (s.counted i).runSlot i (s.slotRef i) (s.withheld (slotRole (s.sw i 4))) =
      (s.counted i).execRamp i (s.slotRef i) (s.withheld (slotRole (s.sw i 4))) := if_pos hty
  have hresults := execRamp_results (s := s.counted i) (i := i) (rising_counted h) (s.slotRef i)
    (s.withheld (slotRole (s.sw i 4))) (by rw [hout]; exact hgo)
  rw [hout] at hresults
  rw [execSlot_runs h hdue hfresh hst hin, hrun]
  exact hresults

/-- FILTER: the filtered reference. -/
theorem execSlot_filter (hty : slotType (s.sw i 0) = 4)
    (hgo : s.withheld (slotRole (s.sw i 4)) (s.slotRef i - (s.slot i).out) = false) :
    ((s.execSlot State.supply State.withheld i).slot i).intg = s.filtered i (s.slotRef i) ∧
    s.Results ((s.execSlot State.supply State.withheld i).slot i) i (s.slotRef i)
      (s.notched i true (s.filtered i (s.slotRef i)) (s.notched i false (s.slotRef i) (s.slot i).notch).2).1 := by
  have hout : ((s.counted i).slot i).out = (s.slot i).out := counted_reads h (fun _ _ => rfl) i
  have hnotch : ((s.counted i).slot i).notch = (s.slot i).notch := counted_reads h (fun _ _ => rfl) i
  have hrun : (s.counted i).runSlot i (s.slotRef i) (s.withheld (slotRole (s.sw i 4))) =
      (s.counted i).execFilter i (s.slotRef i) (s.withheld (slotRole (s.sw i 4))) := by
    unfold State.runSlot
    rw [show slotType ((s.counted i).sw i 0) = 4 from hty]
    rfl
  have hresults := execFilter_results (s := s.counted i) (i := i) (rising_counted h) (s.slotRef i)
    (s.withheld (slotRole (s.sw i 4))) (by rw [hout]; exact hgo)
  rw [counted_filtered h, hnotch] at hresults
  rw [execSlot_runs h hdue hfresh hst hin, hrun]
  exact hresults

/-- SUM: the weighted inputs. -/
theorem execSlot_sum (hty : slotType (s.sw i 0) = 5) :
    s.Results ((s.execSlot State.supply State.withheld i).slot i) i (s.slotRef i)
      (s.notched i true (padd (padd (s.weighted i 0x18 (s.slotRef i)) (s.weighted i 0x1C (s.fbIn i).1))
        (s.weighted i 0x20 (s.auxOf i))) (s.fbIn i).2).1 := by
  have hrun : (s.counted i).runSlot i (s.slotRef i) (s.withheld (slotRole (s.sw i 4))) =
      (s.counted i).execSum i (s.slotRef i) := by
    unfold State.runSlot
    rw [show slotType ((s.counted i).sw i 0) = 5 from hty]
    rfl
  have hresults := execSum_results (s := s.counted i) (i := i) (rising_counted h) (s.slotRef i)
  rw [counted_auxOf h, counted_fbIn h] at hresults
  rw [execSlot_runs h hdue hfresh hst hin, hrun]
  exact hresults

end

end Sys2Proof.Machine
end

section
/-! PROOFS. Weights, references and cells at rest (R151, R159, R214). -/

namespace Sys2Proof.Machine

/-! ## The table of the modulator's cells -/

theorem cmod_modCmod {s : State} (h : Map.wf (fun _ => cellModReset) s.modu.cells = true) (c : Nat) (f : CellMod → CellMod) :
    (s.modCmod c f).cmod c = f (s.cmod c) := Map.get_put_self h

theorem cmod_modCmod_other (s : State) {c d : Nat} (h : c ≠ d) (f : CellMod → CellMod) : (s.modCmod d f).cmod c = s.cmod c :=
  Map.get_put_other h

theorem modCmod_wf {s : State} (h : Map.wf (fun _ => cellModReset) s.modu.cells = true) (c : Nat) (f : CellMod → CellMod) :
    Map.wf (fun _ => cellModReset) (s.modCmod c f).modu.cells = true := Map.wf_put h

/-- Weights written one after another: a cell's weight is what every write of it writes. -/
theorem weight_of_writes (val : Nat × Int → Int) {c : Nat} {v : Int} {w : List (Nat × Int)}
    (hval : ∀ p ∈ w, p.1 = c → val p = v) (s : State) (hwf : Map.wf (fun _ => cellModReset) s.modu.cells = true)
    (h : (s.cmod c).weight = v ∨ ∃ p ∈ w, p.1 = c) :
    ((w.foldl (fun s p => s.modCmod p.1 fun m => { m with weight := val p }) s).cmod c).weight = v := by
  induction w generalizing s with
  | nil => simpa using h
  | cons p w ih =>
    refine ih (fun q hq => hval q (List.mem_cons_of_mem _ hq)) _ (modCmod_wf hwf _ _) ?_
    by_cases hp : c = p.1
    · subst hp
      rw [cmod_modCmod hwf]
      exact .inl (hval p List.mem_cons_self rfl)
    · rw [cmod_modCmod_other s hp]
      rcases h with h | ⟨q, hq, hqc⟩
      · exact .inl h
      · rcases List.mem_cons.mp hq with rfl | hq
        · exact absurd hqc.symm hp
        · exact .inr ⟨q, hq, hqc⟩

/-- A cell's part of its phase's weights (R214): its share, or its voltage where all shares are 0. -/
def State.partOf (s : State) (x c : Nat) : Int :=
  if (s.cellsIn x .active).all fun c => (s.trk c).share == 0 then (s.vdc c : Int) else s.weightOf x c

theorem weighPhase_weight {s : State} {x c : Nat} (hwf : Map.wf (fun _ => cellModReset) s.modu.cells = true)
    (hc : c ∈ s.cellsIn x .active) (hsum : isum ((s.cellsIn x .active).map (s.partOf x)) ≠ 0) :
    ((s.weighPhase x).cmod c).weight = sat (quoI (s.partOf x c * pu) (isum ((s.cellsIn x .active).map (s.partOf x)))) := by
  let w := (s.cellsIn x .active).map fun c => (c, s.partOf x c)
  have htotal : shareSum w = isum ((s.cellsIn x .active).map (s.partOf x)) := by
    show isum (((s.cellsIn x .active).map fun c => (c, s.partOf x c)).map (·.2)) = _
    rw [List.map_map]
    rfl
  have hfold : s.weighPhase x = w.foldl (fun t p => t.modCmod p.1 fun m => { m with
      weight := if shareSum w = 0 then sat (t.open_ (0x3300 + p.1)).toInt else sat (quoI (p.2 * pu) (shareSum w)) }) s := rfl
  rw [hfold, htotal]
  simp only [if_neg hsum]
  refine weight_of_writes (fun p => sat (quoI (p.2 * pu) _)) ?_ s hwf (.inr ⟨(c, s.partOf x c), List.mem_map_of_mem hc, rfl⟩)
  intro p hp hpc
  obtain ⟨d, -, rfl⟩ := List.mem_map.mp hp
  obtain rfl : d = c := hpc
  rfl

/-- A weight stays between half its cell's share and one and a half of it. -/
theorem weightOf_bounds {s : State} {c : Nat} (x : Nat) (h : 0 ≤ (s.trk c).share) :
    quo (s.trk c).share 2 ≤ s.weightOf x c ∧ s.weightOf x c ≤ quo (3 * (s.trk c).share) 2 := by
  have hhalf : quo (s.trk c).share 2 ≤ quo (3 * (s.trk c).share) 2 := by
    rcases Int.le_iff_lt_or_eq.mp h with hpos | hzero
    · have := quo_le (b := (s.trk c).share) (num := (s.trk c).share) (den := 2) (by omega) (by omega)
      have := le_quo (a := (s.trk c).share) (num := 3 * (s.trk c).share) (den := 2) (by omega) (by omega)
      omega
    · rw [← hzero]
      exact Int.le_refl _
  unfold State.weightOf clampI
  dsimp only
  omega

/-! ## References -/

/-- A voltage within a cell's own gives it a reference within ±1.0. -/
theorem absI_pdiv_le {want cap : Int} (h : absI want ≤ cap) : absI (pdiv want cap) ≤ pu := by
  unfold pdiv
  split
  · decide
  · refine absI_sat_le (absI_quoI_le (by decide) ?_)
    unfold pu absI at *
    split at h <;> split <;> split <;> omega

theorem absI_signed_pu (v : Int) : absI ((if v < 0 then -1 else 1) * pu) ≤ pu := by
  split <;> decide

/-- One pass over the cells: those that would be held are, and the others share what is left; with none held all get what they
want. -/
theorem shareVolts_pass (n : Nat) (v : Int) (cells : List (Nat × Int × Int)) : ∃ want : Nat × Int × Int → Int,
    shareVolts (n + 1) v cells =
      let held := cells.filter fun c => decide (c.2.2 < absI (want c))
      let sgn : Int := if v < 0 then -1 else 1
      if held.isEmpty then cells.map fun c => (c.1, if c.2.2 = 0 then 0 else pdiv (want c) c.2.2)
      else (held.map fun c => (c.1, sgn * pu)) ++
        shareVolts n (v - sgn * isum (held.map fun c => c.2.2)) (cells.filter fun c => !decide (c.2.2 < absI (want c))) :=
  ⟨_, rfl⟩

theorem shareVolts_le (n : Nat) (v : Int) (cells : List (Nat × Int × Int)) : ∀ p ∈ shareVolts n v cells, absI p.2 ≤ pu := by
  induction n generalizing v cells with
  | zero => simp [shareVolts]
  | succ n ih =>
    intro p hp
    obtain ⟨want, hpass⟩ := shareVolts_pass n v cells
    rw [hpass] at hp
    dsimp only at hp
    split at hp
    · rename_i hnone
      obtain ⟨c, hc, rfl⟩ := List.mem_map.mp hp
      have hfits := List.filter_eq_nil_iff.mp (List.isEmpty_iff.mp hnone) c hc
      simp only [decide_eq_true_eq, Int.not_lt] at hfits
      dsimp only
      split
      · decide
      · exact absI_pdiv_le hfits
    · rcases List.mem_append.mp hp with hp | hp
      · obtain ⟨c, -, rfl⟩ := List.mem_map.mp hp
        exact absI_signed_pu v
      · exact ih _ _ p hp

theorem cellRefs_bounds (s : State) (cells : List Nat) (v : Int) :
    (∀ p ∈ (s.cellRefs cells v).1, absI p.2 ≤ pu) ∧
    (isum (cells.map s.vdcPu) < absI v →
      s.cellRefs cells v = (cells.map fun c => (c, if v < 0 then -pu else pu), true)) := by
  have hsum : ((cells.map fun c => (c, (s.cmod c).weight, s.vdcPu c)).map fun c => c.2.2) = cells.map s.vdcPu := by
    rw [List.map_map]
    rfl
  unfold State.cellRefs
  dsimp only
  rw [hsum]
  refine ⟨?_, fun h => if_pos h⟩
  split
  · intro p hp
    obtain ⟨c, -, rfl⟩ := List.mem_map.mp hp
    dsimp only
    split <;> decide
  · exact shareVolts_le _ _ _

/-! ## A cell whose legs are not on -/

@[simp] theorem eventIf_cmod (s : State) (b : Bool) (page num subject : Nat) (detail : List Nat) (c : Nat) :
    (s.eventIf b page num subject detail).cmod c = s.cmod c := by
  simp [State.cmod]

theorem modCellBeat_off {s : State} (n r c : Nat) (m0 m1 : Int) (hwf : Map.wf (fun _ => cellModReset) s.modu.cells = true)
    (hmode : s.modes.cur ≠ .service) :
    (s.modCellBeat n r c m0 m1 false).cmod c =
      { s.cmod c with leg0 := (s.cmod c).leg0.off, leg1 := (s.cmod c).leg1.off, edges := List.replicate 8 0#32, vref := 0 } := by
  have hserv : (s.modes.cur == Mode.service) = false := by simpa using hmode
  unfold State.modCellBeat
  dsimp only
  rw [eventIf_cmod, cmod_modCmod hwf]
  simp only [hserv, Bool.false_and, Bool.false_eq_true, if_false]
  simp [deliveredUpper, Leg.off, mergeEdges, quo_zero, List.replicate]
  intro _
  rfl

end Sys2Proof.Machine
end

section
/-! PROOFS. Values lowered to one level (R212, R248): the level is where it takes the total from those above it. -/

namespace Sys2Proof.Machine

theorem isum_eq_sum (l : List Int) : isum l = l.sum := by
  induction l with
  | nil => rfl
  | cons a l ih => rw [isum, ih, List.sum_cons]

theorem insertDown_perm (x : Int) (l : List Int) : (insertDown x l).Perm (x :: l) := by
  induction l with
  | nil => exact .refl _
  | cons a l ih =>
    unfold insertDown
    split
    · exact .refl _
    · exact (ih.cons a).trans (.swap x a l)

theorem sortDown_perm (l : List Int) : (sortDown l).Perm l := by
  induction l with
  | nil => exact .refl _
  | cons a l ih => exact (insertDown_perm a _).trans (ih.cons a)

theorem insertDown_falls (x : Int) {l : List Int} (h : l.Pairwise (· ≥ ·)) : (insertDown x l).Pairwise (· ≥ ·) := by
  induction l with
  | nil => simp [insertDown]
  | cons a l ih =>
    obtain ⟨ha, hl⟩ := List.pairwise_cons.mp h
    unfold insertDown
    split
    · rename_i hax
      refine List.pairwise_cons.mpr ⟨fun b hb => ?_, h⟩
      rcases List.mem_cons.mp hb with rfl | hb
      · exact hax
      · exact le_trans (ha b hb) hax
    · rename_i hxa
      refine List.pairwise_cons.mpr ⟨fun b hb => ?_, ih hl⟩
      rcases List.mem_cons.mp ((insertDown_perm x l).mem_iff.mp hb) with rfl | hb
      · exact le_of_not_ge hxa
      · exact ha b hb

theorem sortDown_falls (l : List Int) : (sortDown l).Pairwise (· ≥ ·) := by
  induction l with
  | nil => exact .nil
  | cons a l ih => exact insertDown_falls a ih

/-- A level `lv` takes `x` from values, `n` of which, summing to `total`, stand before these: those in front come down to it, and
the others stand at or below it. -/
def LevelTakes (n : Nat) (total x lv : Int) (l : List Int) : Prop :=
  ∃ top low, l = top ++ low ∧ top ≠ [] ∧
    lv = quo (total + isum top - x) (n + top.length) ∧ (∀ a ∈ top, lv ≤ a) ∧ ∀ b ∈ low, b ≤ lv

/-- The search for the level, where the values before these do not yet give `x` down to the first of these. -/
theorem waterLevel_takes (n : Nat) (total x : Int) (l : List Int) (hne : l ≠ []) (hfall : l.Pairwise (· ≥ ·))
    (hmore : ∀ a ∈ l.head?, total - x < a * n) : LevelTakes n total x (waterLevel n total x l) l := by
  induction l generalizing n total with
  | nil => exact absurd rfl hne
  | cons a l ih =>
    have hmore : total - x < a * n := hmore a rfl
    have hle : quo (total + a - x) (n + 1) ≤ a :=
      quo_le (by omega) (by rw [Int.natCast_add, Int.mul_add]; simp only [Int.cast_ofNat_Int, Int.mul_one]; omega)
    obtain ⟨ha, hl⟩ := List.pairwise_cons.mp hfall
    cases l with
    | nil => exact ⟨[a], [], rfl, by simp, by simp [waterLevel, isum], by simpa [waterLevel] using hle, by simp⟩
    | cons b l =>
      unfold waterLevel
      split
      · rename_i hstop
        refine ⟨[a], b :: l, rfl, by simp, by simp [isum], by simpa using hle, fun d hd => ?_⟩
        have hb := le_quo (a := b) (num := total + a - x) (den := n + 1) (by omega) hstop
        rcases List.mem_cons.mp hd with rfl | hd
        · exact hb
        · exact le_trans ((List.pairwise_cons.mp hl).1 d hd) hb
      · rename_i hgo
        obtain ⟨top, low, hsplit, htop, hlv, habove, hbelow⟩ :=
          ih (n + 1) (total + a) (by simp) hl (by simpa using hgo)
        refine ⟨a :: top, low, by rw [hsplit, List.cons_append], by simp, ?_, fun d hd => ?_, hbelow⟩
        · rw [hlv, List.length_cons, isum, Nat.add_right_comm, Nat.add_assoc n, Int.add_assoc]
        · rcases List.mem_cons.mp hd with rfl | hd
          · obtain ⟨d, top, rfl⟩ := List.exists_cons_of_ne_nil htop
            obtain ⟨rfl, -⟩ := List.cons.inj hsplit
            exact le_trans (habove b List.mem_cons_self) (ha b List.mem_cons_self)
          · exact habove d hd

theorem isum_lowered_top {lv : Int} {top : List Int} (h : ∀ a ∈ top, lv ≤ a) :
    isum (top.map fun a => min a lv) = lv * top.length := by
  induction top with
  | nil => simp [isum]
  | cons a top ih =>
    rw [List.map_cons, isum, ih fun b hb => h b (List.mem_cons_of_mem _ hb), List.length_cons,
      Int.min_eq_right (h a List.mem_cons_self)]
    push_cast
    ring

theorem lowered_low {lv : Int} {low : List Int} (h : ∀ b ∈ low, b ≤ lv) : (low.map fun a => min a lv) = low :=
  (List.map_congr_left fun b hb => Int.min_eq_left (h b hb)).trans (List.map_id' low)

theorem lowered_pos {x : Int} (h : 0 < x) (l : List Int) :
    lowered x l = l.map fun a => min a (waterLevel 0 0 x (sortDown l)) := if_neg (Int.not_le.mpr h)

theorem lowered_length (x : Int) (l : List Int) : (lowered x l).length = l.length := by
  unfold lowered
  split
  · rfl
  · exact List.length_map ..

theorem getD_min_le (lv : Int) (l : List Int) (k : Nat) : (l.map fun a => min a lv).getD k 0 ≤ l.getD k 0 := by
  simp only [List.getD_eq_getElem?_getD, List.getElem?_map]
  cases l[k]? with
  | none => exact Int.le_refl 0
  | some a => exact Int.min_le_left a lv

theorem lowered_le (x : Int) (l : List Int) (k : Nat) : (lowered x l).getD k 0 ≤ l.getD k 0 := by
  unfold lowered
  split
  · exact Int.le_refl _
  · exact getD_min_le _ l k

theorem lowered_sum {x : Int} {l : List Int} (hx : 0 < x) (hl : l ≠ []) : absI (isum l - isum (lowered x l) - x) < l.length := by
  have hperm := sortDown_perm l
  obtain ⟨top, low, hsplit, htop, hlv, habove, hbelow⟩ := waterLevel_takes 0 0 x (sortDown l)
    (fun h => hl (List.perm_nil.mp (h ▸ hperm.symm))) (sortDown_falls l) (fun a _ => by simpa using hx)
  generalize hw : waterLevel 0 0 x (sortDown l) = lv at *
  have hall : isum l = isum top + isum low := by
    rw [isum_eq_sum, ← hperm.sum_eq, hsplit, List.sum_append, isum_eq_sum, isum_eq_sum]
  have hlow : isum (lowered x l) = lv * top.length + isum low := by
    rw [lowered_pos hx, hw, isum_eq_sum, ← (hperm.map _).sum_eq, hsplit, List.map_append, List.sum_append, ← isum_eq_sum,
      ← isum_eq_sum, isum_lowered_top habove, lowered_low hbelow]
  have hlen : top.length ≤ l.length := by
    rw [← hperm.length_eq, hsplit, List.length_append]
    omega
  have hnear := quo_near (0 + isum top - x) (den := 0 + top.length) (by have := List.length_pos_iff.mpr htop; omega)
  rw [← hlv] at hnear
  rw [hall, hlow]
  simp only [Nat.zero_add] at hnear
  unfold absI
  split <;> omega

end Sys2Proof.Machine
end

section
/-! PROOFS. Curtailment between the phases (R215, R216): it lowers the highest targets until the condition holds. -/

namespace Sys2Proof.Machine

theorem isqrt_nonneg (x : Int) : 0 ≤ isqrt x := by
  unfold isqrt
  dsimp only
  split
  · omega
  · split <;> omega

theorem pmul_nonneg {a b : Int} (ha : 0 ≤ a) (hb : 0 ≤ b) : 0 ≤ pmul a b := sat_nonneg (quo_nonneg _ (Int.mul_nonneg ha hb))

theorem pdiv_nonneg {a b : Int} (ha : 0 ≤ a) (hb : 0 ≤ b) : 0 ≤ pdiv a b := by
  unfold pdiv
  split
  · exact Int.le_refl 0
  · exact sat_nonneg (quoI_nonneg (by omega) hb)

theorem magOf_nonneg (s : State) (t : List Int) : 0 ≤ s.magOf t := sat_nonneg (isqrt_nonneg _)

theorem imbalance_nonneg (t : List Int) : 0 ≤ imbalance t := sat_nonneg (isqrt_nonneg _)

theorem v0Max_nonneg (s : State) : 0 ≤ s.v0Max := by
  unfold State.v0Max pu16
  split <;> omega

/-- Three equal targets meet the condition. -/
theorem balanced_equal (s : State) (m : Int) : s.balanced [m, m, m] = true := by
  have hmean : meanOf [m, m, m] = m := by
    have h3 : isum [m, m, m] = m * ((3 : Nat) : Int) := by
      simp only [isum]
      omega
    rw [meanOf, h3, quo_mul_cancel m (by omega)]
  have hzero : imbalance [m, m, m] = 0 := by
    simp only [imbalance, hmean, List.map_cons, List.map_nil, Int.sub_self]
    decide
  rw [State.balanced, hzero]
  exact decide_eq_true (pmul_nonneg (v0Max_nonneg s) (magOf_nonneg s _))

/-- The targets with those above a level brought down to it. -/
def capped (t : List Int) (lv : Int) : List Int := t.map fun a => min a lv

theorem le_levelBetween (s : State) (t : List Int) (n : Nat) (lo hi : Int) : lo ≤ s.levelBetween t n lo hi := by
  induction n generalizing lo hi with
  | zero => exact Int.le_refl lo
  | succ n ih =>
    unfold State.levelBetween
    dsimp only
    split
    · exact Int.le_refl lo
    · split
      · exact le_trans (by omega) (ih _ _)
      · exact ih _ _

theorem levelBetween_balanced (s : State) (t : List Int) (n : Nat) {lo : Int} (hi : Int) (h : s.balanced (capped t lo) = true) :
    s.balanced (capped t (s.levelBetween t n lo hi)) = true := by
  induction n generalizing lo hi with
  | zero => exact h
  | succ n ih =>
    unfold State.levelBetween
    dsimp only
    split
    · exact h
    · split
      · rename_i hmid
        exact ih _ hmid
      · exact ih _ h

theorem le_bestLevel (s : State) (k : Nat) (rest lo hi : Int) : lo ≤ s.bestLevel k rest lo hi := by
  unfold State.bestLevel
  dsimp only
  split <;> omega

/-- Targets that do not meet the condition come down to one level, at which they do. -/
theorem curtailed_level (s : State) {a b c : Int} (ha : -0x80000000 ≤ a) (hb : -0x80000000 ≤ b) (hc : -0x80000000 ≤ c)
    (h : s.balanced [a, b, c] = false) :
    ∃ lv, -0x80000000 ≤ lv ∧ s.curtailed [a, b, c] = capped [a, b, c] lv ∧ s.balanced (capped [a, b, c] lv) = true := by
  have hlo : -0x80000000 ≤ [a, b, c].foldl min 0x7FFFFFFF := by
    simp only [List.foldl_cons, List.foldl_nil]
    omega
  have hmid : -0x80000000 ≤ isum [a, b, c] - [a, b, c].foldl max (-0x80000000) - [a, b, c].foldl min 0x7FFFFFFF := by
    simp only [List.foldl_cons, List.foldl_nil, isum]
    omega
  have hequal : s.balanced (capped [a, b, c] ([a, b, c].foldl min 0x7FFFFFFF)) = true := by
    have hall : capped [a, b, c] ([a, b, c].foldl min 0x7FFFFFFF) =
        [[a, b, c].foldl min 0x7FFFFFFF, [a, b, c].foldl min 0x7FFFFFFF, [a, b, c].foldl min 0x7FFFFFFF] := by
      simp only [capped, List.map_cons, List.map_nil, List.foldl_cons, List.foldl_nil, List.cons.injEq, and_true]
      omega
    rw [hall]
    exact balanced_equal s _
  unfold State.curtailed
  rw [if_neg (by rw [h]; exact Bool.false_ne_true)]
  dsimp only
  generalize isum [a, b, c] - [a, b, c].foldl max (-0x80000000) - [a, b, c].foldl min 0x7FFFFFFF = mid at *
  generalize [a, b, c].foldl min 0x7FFFFFFF = lo at *
  refine ⟨_, ?_, rfl, ?_⟩
  · split
    · exact le_trans hmid (le_trans (le_bestLevel ..) (le_levelBetween ..))
    · split
      · exact le_trans hlo (le_trans (le_bestLevel ..) (le_levelBetween ..))
      · exact hlo
  · split
    · rename_i hfirst
      exact levelBetween_balanced s _ _ _ hfirst
    · split
      · rename_i hsecond
        exact levelBetween_balanced s _ _ _ hsecond
      · exact hequal

theorem curtailed_balanced {s : State} {t : List Int} (h : s.balanced t = true) : s.curtailed t = t := if_pos h

theorem curtailed_meets (s : State) {a b c : Int} (ha : -0x80000000 ≤ a) (hb : -0x80000000 ≤ b) (hc : -0x80000000 ≤ c) :
    s.balanced (s.curtailed [a, b, c]) = true ∧ (s.balanced [a, b, c] = true → s.curtailed [a, b, c] = [a, b, c]) ∧
    s.curtailed [a, b, c] = [a, b, c].map fun x => min x ((s.curtailed [a, b, c]).foldl max (-0x80000000)) := by
  cases h : s.balanced [a, b, c] with
  | true =>
    rw [curtailed_balanced h]
    refine ⟨h, fun _ => rfl, ?_⟩
    simp only [List.map_cons, List.map_nil, List.foldl_cons, List.foldl_nil, List.cons.injEq, and_true]
    omega
  | false =>
    obtain ⟨lv, hlv, hcut, hmeets⟩ := curtailed_level s ha hb hc h
    rw [hcut]
    refine ⟨hmeets, nofun, ?_⟩
    simp only [capped, List.map_cons, List.map_nil, List.foldl_cons, List.foldl_nil, List.cons.injEq, and_true]
    omega

/-! ## Balance and allocation -/

/-- Curtailed targets are the targets, or those above a level brought down to it. -/
theorem curtailed_cases (s : State) (t : List Int) : s.curtailed t = t ∨ ∃ lv, s.curtailed t = capped t lv := by
  unfold State.curtailed
  split
  · exact .inl rfl
  · exact .inr ⟨_, rfl⟩

/-- Curtailment raises no target: what it takes from each is not below 0. -/
theorem curtailment_nonneg (s : State) (t : List Int) : ∀ r ∈ (t.zip (s.curtailed t)).map fun q => psub q.1 q.2, 0 ≤ r := by
  intro r hr
  obtain ⟨q, hq, rfl⟩ := List.mem_map.mp hr
  refine sat_nonneg ?_
  rcases curtailed_cases s t with hcut | ⟨lv, hcut⟩
  · rw [hcut, ← List.map_id' t, List.zip_map'] at hq
    obtain ⟨a, -, rfl⟩ := List.mem_map.mp hq
    exact (Int.sub_self a).ge
  · rw [hcut, capped, ← List.map_id' t, List.map_map, List.zip_map'] at hq
    obtain ⟨a, -, rfl⟩ := List.mem_map.mp hq
    exact Int.sub_nonneg_of_le (Int.min_le_left a lv)

theorem getD_nonneg {l : List Int} (h : ∀ r ∈ l, 0 ≤ r) (k : Nat) : 0 ≤ l.getD k 0 := by
  rw [List.getD_eq_getElem?_getD]
  cases hk : l[k]? with
  | none => exact Int.le_refl 0
  | some a => exact h a (List.mem_of_getElem? hk)

@[simp] theorem giveShare_grd (s : State) (c : Nat) (str batt : Int) : (s.giveShare c str batt).grd = s.grd := by
  unfold State.giveShare
  dsimp only
  split
  · rfl
  · split
    · split <;> rfl
    · rfl

@[simp] theorem allocPhase_grd (s : State) (x : Nat) (disp : List (Nat × Int)) (target r : Int) :
    (s.allocPhase x disp target r).grd = s.grd :=
  foldl_keeps (g := State.grd) (fun s c => giveShare_grd s c _ _) _ s

@[simp] theorem noShares_grd (s : State) (all : Bool) : (s.noShares all).grd = s.grd := by
  refine foldl_keeps (g := State.grd) (fun s c => ?_) _ s
  split <;> rfl

/-- Outside the switching modes nothing is allocated. -/
theorem balance_outside {s : State} (h : s.modes.cur.within 0x70 = false) :
    s.balance.grd.poff = [0, 0, 0] ∧ s.balance.grd.curt = [0, 0, 0] ∧ s.balance.grd.v0 = 0 ∧ s.balance.bpt.disp = 0 := by
  have hout : s.balance = _ := if_pos (by rw [h]; rfl)
  rw [hout]
  exact ⟨rfl, rfl, rfl, rfl⟩

/-- What a beat's balance leaves in the grid unit: the curtailment of some targets, and V0 of their imbalance. -/
theorem balance_grd {s : State} (h : s.modes.cur.within 0x70 = true) : ∃ t : List Int,
    s.balance.grd.curt = ((t.zip (s.curtailed t)).map fun q => psub q.1 q.2) ∧
    s.balance.grd.curtOn = (s.balance.grd.curt.any fun r => r != 0) ∧
    s.balance.grd.v0 = if s.magOf (s.curtailed t) = 0 then 0
      else min s.v0Max (pdiv (imbalance (s.curtailed t)) (s.magOf (s.curtailed t))) := by
  unfold State.balance
  rw [if_neg (by rw [h]; exact Bool.false_ne_true)]
  dsimp only [List.foldl_cons, List.foldl_nil]
  simp only [State.modBpt_grd, noShares_grd, allocPhase_grd, State.eventIf_grd, State.modGrd_grd, true_and]
  exact ⟨_, rfl, rfl⟩

theorem balance_inside {s : State} (h : s.modes.cur.within 0x70 = true) :
    0 ≤ s.balance.grd.v0 ∧ s.balance.grd.v0 ≤ s.v0Max ∧ (∀ k : Nat, 0 ≤ s.balance.grd.curt.getD k 0) ∧
    (s.balance.grd.curtOn = true ↔ ∃ r ∈ s.balance.grd.curt, r ≠ 0) := by
  obtain ⟨t, hcurt, hon, hv0⟩ := balance_grd h
  have hmax := v0Max_nonneg s
  have hdiv := pdiv_nonneg (imbalance_nonneg (s.curtailed t)) (magOf_nonneg s (s.curtailed t))
  refine ⟨?_, ?_, fun k => ?_, ?_⟩
  · rw [hv0]
    split <;> omega
  · rw [hv0]
    split <;> omega
  · rw [hcurt]
    exact getD_nonneg (curtailment_nonneg s t) k
  · rw [hon]
    simp

end Sys2Proof.Machine
end

section
/-! PROOFS. The budget of a storage cell (R249). -/

namespace Sys2Proof.Machine

theorem trk_modTrk {s : State} (h : Map.wf (fun _ => trackerReset) s.bpt.cells = true) (c : Nat) (f : Tracker → Tracker) :
    (s.modTrk c f).trk c = f (s.trk c) := Map.get_put_self h

@[simp] theorem eventIf_trk (s : State) (b : Bool) (page num subject : Nat) (detail : List Nat) (c : Nat) :
    (s.eventIf b page num subject detail).trk c = s.trk c := by
  simp [State.trk]

theorem budgetCell_budgets {s : State} (c : Nat) (h : s.Canon) :
    (s.socKnown c = false → ((s.budgetCell c).trk c).paff = 0 ∧ ((s.budgetCell c).trk c).paffc = 0) ∧
    (s.socKnown c = true → ((s.budgetCell c).trk c).eavail = s.energyAbove c ∧
      ((s.budgetCell c).trk c).paff = min (s.pDis c) (s.afford (s.energyAbove c)) ∧
      ((s.budgetCell c).trk c).paffc = min (s.pChg c) (s.afford (s.energyBelow c))) := by
  obtain ⟨-, -, -, -, -, -, -, hwf⟩ := h
  have hbudget : ((s.budgetCell c).trk c).eavail = s.energyAbove c ∧
      ((s.budgetCell c).trk c).paff = (if s.socKnown c then min (s.pDis c) (s.afford (s.energyAbove c)) else 0) ∧
      ((s.budgetCell c).trk c).paffc = if s.socKnown c then min (s.pChg c) (s.afford (s.energyBelow c)) else 0 := by
    unfold State.budgetCell
    dsimp only
    rw [eventIf_trk, trk_modTrk hwf]
    exact ⟨rfl, rfl, rfl⟩
  obtain ⟨heavail, hpaff, hpaffc⟩ := hbudget
  rw [heavail, hpaff, hpaffc]
  exact ⟨fun hk => by simp [hk], fun hk => by simp [hk]⟩

end Sys2Proof.Machine
end

section
/-! PROOFS. RIDE entry (R271): where it is decided, and that nothing else in FOLLOW and FORM decides it. -/

namespace Sys2Proof.Machine

/-! ## What a trip and a detection may decide -/

/-- A latched bit sends the device to HOLD or nowhere. -/
theorem latched_rides {s : State} (bit : Nat) (h : s.modes.next ≠ some .ride) : (s.latched bit).modes.next ≠ some .ride := by
  have hstays (m : Modes) (hm : m.next = s.modes.next) : (if m.trans then none else m.next) ≠ some .ride := by
    split
    · exact nofun
    · rw [hm]
      exact h
  unfold State.latched
  dsimp only
  rw [holdActs_modes]
  generalize s.holdActs = u
  split
  · exact hstays s.modes rfl
  · split
    · exact nofun
    · rw [trigger_onlyEvents]
      exact hstays s.modes rfl
  · exact nofun

theorem causeOn_rides {s : State} (bit : Nat) (h : s.modes.next ≠ some .ride) : (s.causeOn bit).modes.next ≠ some .ride := by
  cases hc : s.modes.cond.testBit bit with
  | true => rwa [causeOn_present hc]
  | false =>
    cases hl : s.modes.latch.testBit bit with
    | true => rwa [causeOn_again hc hl]
    | false =>
      rw [causeOn_latches hc hl]
      exact latched_rides bit h

theorem profileTrip_rides {s : State} (row : Nat) (h : s.modes.next ≠ some .ride) :
    (s.profileTrip row).modes.next ≠ some .ride := by
  unfold State.profileTrip
  split
  · exact h
  · exact causeOn_rides _ h

@[simp] theorem trigger_modes (s : State) (src : Nat) (force : Bool) : (s.trigger src force).modes = s.modes := by
  rw [trigger_onlyEvents]

theorem islandAct_rides {s : State} (why : Nat) (h : s.modes.next ≠ some .ride) :
    (s.islandAct why).modes.next ≠ some .ride := by
  unfold State.islandAct
  dsimp only
  generalize hs2 : ((s.modRti _).event 0xA0 3 why).trigger 5 = s2
  have hs : s2.modes.next ≠ some .ride := by
    rw [← hs2, trigger_modes, State.event_modes, State.modRti_modes]
    exact h
  cases s.modes.cur with
  | follow =>
    dsimp only
    split
    · exact hs
    · split
      · exact hs
      · split
        · split
          · exact hs
          · split
            · exact hs
            · exact causeOn_rides _ hs
        · exact causeOn_rides _ hs
  | form =>
    dsimp only
    split
    · exact causeOn_rides _ hs
    · exact hs
  | wake | watch | energize | ride | hold | service => exact hs

/-! ## The decision -/

/-- The beats counted beyond a threshold: one more, up to 255. -/
theorem entryCounts_low {s : State} (hg : s.gridOk = true) (h : s.rti.ulow < milli (fld (s.pw 8) 0 16)) :
    s.entryCounts.rti.entLow = min (s.rti.entLow + 1) 255 := by
  simp [State.entryCounts, hg, h]

theorem entryCounts_lowEnds {s : State} (h : milli (fld (s.pw 8) 0 16) ≤ s.rti.ulow) : s.entryCounts.rti.entLow = 0 := by
  simp [State.entryCounts, Int.not_lt.mpr h]

theorem entryCounts_high {s : State} (hg : s.gridOk = true) (h : milli (fld (s.pw 8) 16 16) < s.rti.uhigh) :
    s.entryCounts.rti.entHigh = min (s.rti.entHigh + 1) 255 := by
  simp [State.entryCounts, hg, h]

theorem fld_five_lt (w : Word) : fld w 0 5 < 32 := by
  unfold fld
  omega

theorem entryCause_low {s : State} (hg : s.gridOk = true) (h : s.rti.ulow < milli (fld (s.pw 8) 0 16))
    (hn : fld (s.pw 0x10) 0 5 ≤ s.rti.entLow + 1) : s.entryCounts.entryCause = some 1 := by
  have hlt := fld_five_lt (s.pw 0x10)
  refine if_pos ?_
  rw [entryCounts_low hg h]
  exact ⟨show fld (s.pw 0x10) 0 5 ≤ _ by omega, by omega⟩

theorem entryCause_high {s : State} (hg : s.gridOk = true) (hlow : milli (fld (s.pw 8) 0 16) ≤ s.rti.ulow)
    (h : milli (fld (s.pw 8) 16 16) < s.rti.uhigh) (hn : fld (s.pw 0x10) 0 5 ≤ s.rti.entHigh + 1) :
    s.entryCounts.entryCause = some 2 := by
  have hlt := fld_five_lt (s.pw 0x10)
  unfold State.entryCause
  dsimp only
  rw [entryCounts_lowEnds hlow, entryCounts_high hg h, if_neg (by omega)]
  exact if_pos ⟨show fld (s.pw 0x10) 0 5 ≤ _ by omega, by omega⟩

theorem entryCause_jump {s : State} {j : Int} (hj : s.rti.jump = some j) (h : deg10 (fld (s.pw 0x28) 0 16) < absI j)
    (ht : s.tripJump = false) (hlow : s.entryCounts.rti.entLow = 0) (hhigh : s.entryCounts.rti.entHigh = 0) :
    s.entryCounts.entryCause = some 3 := by
  have hjump : s.entryCounts.rideJump = s.rideJump := rfl
  have hride : s.rideJump = true := by simp [State.rideJump, hj, h, ht]
  unfold State.entryCause
  dsimp only
  rw [hlow, hhigh, if_neg (by omega), if_neg (by omega), hjump, if_pos hride]

/-- RIDE is decided where a cause of entry is met and no trip is. -/
theorem rtiRun_decides {s : State} {c : Nat} (hnext : s.modes.next ≠ some .hold) (hc : s.entryCounts.entryCause = some c)
    (htrip : (s.entryCounts.decideRide c).tripRow true = none) :
    s.rtiRun.modes.next = some .ride ∧ s.rtiRun.modes.rideFrom = s.modes.cur ∧ s.rtiRun.rti.cause = c ∧
    s.rtiRun.rti.rideT = s.beatMono := by
  have hrides : (s.entryCounts.modes.next != some .hold) = true := bne_iff_ne.mpr hnext
  have hrun : s.rtiRun = s.entryCounts.decideRide c := by
    unfold State.rtiRun
    simp only [hc, hrides, Option.isSome_some, Bool.and_true, if_true, Option.getD_some, htrip]
  have hdecide : s.entryCounts.decideRide c = _ := if_neg hnext
  rw [hrun, hdecide]
  exact ⟨rfl, rfl, rfl, rfl⟩

/-- With no cause of entry met, nothing else decides RIDE. -/
theorem rtiRun_stays {s : State} (hc : s.entryCounts.entryCause = none) (hnext : s.modes.next = none) :
    s.rtiRun.modes.next ≠ some .ride := by
  have hcounts : s.entryCounts.modes.next ≠ some .ride := by
    show s.modes.next ≠ some .ride
    rw [hnext]
    exact nofun
  unfold State.rtiRun
  dsimp only
  simp only [hc, Option.isSome_none, Bool.false_and, Bool.false_eq_true, if_false]
  have htrip : ∀ u : State, u.modes.next ≠ some .ride →
      (match u.detected with | some w => u.islandAct w | none => u).modes.next ≠ some .ride := by
    intro u hu
    split
    · exact islandAct_rides _ hu
    · exact hu
  refine htrip _ ?_
  split
  · exact profileTrip_rides _ hcounts
  · exact hcounts

end Sys2Proof.Machine
end

section
open Sys2Proof Sys2Proof.Machine

/-- Settles O60: each stage by what its definition computes; a quotient is one of the two integers next to the exact value. -/
theorem pipelineStagesCompute : Obligations.PipelineStagesCompute := by
  unfold Obligations.PipelineStagesCompute
  refine ⟨fun p thr n x y hd => pairStep_undeclared hd thr n x y, fun p thr n a b hd => pairStep_declared hd thr n a b,
    ?slots, fun s i h => execSlot_idle h, ?weights,
    fun s x c h => weightOf_bounds x h, cellRefs_bounds, fun s n r c m0 m1 hw hm => modCellBeat_off n r c m0 m1 hw hm,
    fun x l => ⟨lowered_length x l, lowered_le x l, lowered_sum⟩, fun s a b c ha hb hc => curtailed_meets s ha hb hc,
    fun s => ⟨balance_outside, balance_inside⟩, fun s c h => budgetCell_budgets c h, ?ride⟩
  case slots =>
    intro s i h hdue hfresh t q w ref fb aux ts result
    obtain ⟨hexec, hother⟩ := execSlot_counts h hdue hfresh
    refine ⟨hexec, hother, fun hst => ?_, fun hst hin => ?_,
      fun hst hin hty hfrz hrel => execSlot_pi h hdue hfresh hst hin hty hfrz hrel,
      fun hst hin hty hgo => execSlot_ramp h hdue hfresh hst hin hty hgo,
      fun hst hin hty hgo => execSlot_filter h hdue hfresh hst hin hty hgo,
      fun hst hin hty => execSlot_sum h hdue hfresh hst hin hty⟩
    · rw [hexec]
      exact execSlot_held h hdue hfresh hst
    · rw [hexec]
      exact execSlot_enters h hdue hfresh hst hin
  case weights =>
    intro s x c _ hwf hc cs even part hsum
    exact weighPhase_weight hwf hc hsum
  case ride =>
    intro s hnext
    exact ⟨fun hg hlow hn => rtiRun_decides hnext (entryCause_low hg hlow hn),
      fun hg hlow hhigh hn => rtiRun_decides hnext (entryCause_high hg hlow hhigh hn),
      fun j hj hride ht hlow hhigh => rtiRun_decides hnext (entryCause_jump hj hride ht hlow hhigh), rtiRun_stays⟩
end

section
/-! PROOFS. Rings and their ports (R137, R140, R146, R147, R149): what each operation on them changes, and that the rest of the
machine sees no more of it than an event. -/

namespace Sys2Proof.Machine

/-! ## Flags that stand -/

theorem flagIn_keeps {page bit h q b k : Nat} {m : List (Nat × Word)} (hw : Map.wf (fun _ => 0#32) m = true)
    (hm : bitAt (Map.get (fun _ => 0#32) (h * 0x1000 + q) m) b = true) :
    bitAt (Map.get (fun _ => 0#32) (h * 0x1000 + q) (flagIn page bit m k)) b = true := by
  unfold flagIn
  by_cases hk : h * 0x1000 + q = k * 0x1000 + page
  · rw [hk, Map.get_put_self hw]
    rw [hk] at hm
    simp only [bitAt, BitVec.getLsbD_or] at hm ⊢
    rw [hm, Bool.true_or]
  · rwa [Map.get_put_other hk]

theorem foldl_flagIn_keeps {page bit : Nat} (l : List Nat) {m : List (Nat × Word)} (hw : Map.wf (fun _ => 0#32) m = true) :
    Map.wf (fun _ => 0#32) (l.foldl (flagIn page bit) m) = true ∧
    ∀ h q b, bitAt (Map.get (fun _ => 0#32) (h * 0x1000 + q) m) b = true →
      bitAt (Map.get (fun _ => 0#32) (h * 0x1000 + q) (l.foldl (flagIn page bit) m)) b = true := by
  induction l generalizing m with
  | nil => exact ⟨hw, fun _ _ _ h => h⟩
  | cons k l ih =>
    obtain ⟨hwf, hkeeps⟩ := ih (m := flagIn page bit m k) (Map.wf_put hw)
    exact ⟨hwf, fun h q b hm => hkeeps h q b (flagIn_keeps hw hm)⟩

/-- An event clears no flag, and keeps their table canonical. -/
theorem eventIf_flags {s : State} (c : Bool) (page n sub : Nat) (d : List Nat) (hw : Map.wf (fun _ => 0#32) s.ev.irq = true) :
    Map.wf (fun _ => 0#32) (s.eventIf c page n sub d).ev.irq = true ∧
    ∀ h q b, bitAt (s.ev.flags h q) b = true → bitAt ((s.eventIf c page n sub d).ev.flags h q) b = true := by
  unfold State.eventIf
  cases c with
  | false => exact ⟨hw, fun _ _ _ h => h⟩
  | true =>
    simp only [if_true, Fabric.flags]
    rw [State.event, State.raise, raiseAs_irq, setFlag_irq, closeDue_irq]
    split
    · exact foldl_flagIn_keeps _ hw
    · exact ⟨hw, fun _ _ _ h => h⟩

/-! ## One ring, one port -/

theorem ringSt_modRing (s : State) (k j : Nat) (f : RingSt → RingSt) :
    (s.modRing k f).ringSt j = if j = k ∧ k < s.rings.rings.length then f (s.ringSt k) else s.ringSt j :=
  getD_modAt f k j _ _

theorem ringSt_modRing_self {s : State} {k : Nat} {f : RingSt → RingSt} (hk : k < s.rings.rings.length) :
    (s.modRing k f).ringSt k = f (s.ringSt k) := by
  rw [ringSt_modRing, if_pos ⟨rfl, hk⟩]

theorem ringSt_modRing_other {s : State} {k j : Nat} {f : RingSt → RingSt} (h : j ≠ k) :
    (s.modRing k f).ringSt j = s.ringSt j := by
  rw [ringSt_modRing, if_neg fun hc => h hc.1]

@[simp] theorem ringSt_eventIf (s : State) (c : Bool) (page n sub : Nat) (d : List Nat) (k : Nat) :
    (s.eventIf c page n sub d).ringSt k = s.ringSt k := by
  simp only [State.ringSt, State.eventIf_rings]

theorem port_modPort (s : State) (p q : Nat) (f : Port → Port) :
    (s.modPort p f).port q = if q = p ∧ p < s.rings.ports.length then f (s.port p) else s.port q :=
  getD_modAt f p q _ _

theorem port_modPort_self {s : State} {p : Nat} {f : Port → Port} (hp : p < s.rings.ports.length) :
    (s.modPort p f).port p = f (s.port p) := by
  rw [port_modPort, if_pos ⟨rfl, hp⟩]

theorem port_modPort_other {s : State} {p q : Nat} {f : Port → Port} (h : q ≠ p) : (s.modPort p f).port q = s.port q := by
  rw [port_modPort, if_neg fun hc => h hc.1]

@[simp] theorem length_modPort (s : State) (p : Nat) (f : Port → Port) :
    (s.modPort p f).rings.ports.length = s.rings.ports.length := length_modAt f p _

theorem reg_modPort (s : State) (p : Nat) (f : Port → Port) (o : Nat) : (s.modPort p f).reg o = s.reg o := rfl

/-- A change of a port that leaves its role leaves what every port serves. -/
theorem serves_modPort {s : State} {p : Nat} {f : Port → Port} (hf : ∀ q, (f q).serves = q.serves) (q : Nat) :
    (s.modPort p f).serves q = s.serves q := by
  have hrole : ((s.modPort p f).port q).serves = (s.port q).serves := by
    rw [port_modPort]
    split
    · rename_i h
      rw [hf, h.1]
    · rfl
  simp only [State.serves, hrole]
  rfl

/-! ## What stays while rings are judged -/

/-- Nothing but rings, and the entries of interrupts, ring space, log and recorder that events write. -/
def OnlyRings (s t : State) : Prop :=
  ∃ rings ev reco, t = { s with rings := { s.rings with rings := rings }, ev := ev, reco := reco }

theorem OnlyRings.trans {s t u : State} (h1 : OnlyRings s t) (h2 : OnlyRings t u) : OnlyRings s u := by
  obtain ⟨_, _, _, rfl⟩ := h1
  obtain ⟨_, _, _, rfl⟩ := h2
  exact ⟨_, _, _, rfl⟩

theorem onlyRings_refl (s : State) : OnlyRings s s := ⟨_, _, _, rfl⟩

theorem onlyRings_modRing (s : State) (k : Nat) (f : RingSt → RingSt) : OnlyRings s (s.modRing k f) := ⟨_, _, _, rfl⟩

theorem onlyRings_event (s : State) (page n sub : Nat) (d : List Nat) : OnlyRings s (s.event page n sub d) := ⟨_, _, _, rfl⟩

theorem onlyRings_eventIf (s : State) (c : Bool) (page n sub : Nat) (d : List Nat) :
    OnlyRings s (s.eventIf c page n sub d) := by
  cases c with
  | false => exact onlyRings_refl s
  | true => exact onlyRings_event s page n sub d

theorem OnlyRings.port {s t : State} (h : OnlyRings s t) (p : Nat) : t.port p = s.port p := by
  obtain ⟨_, _, _, rfl⟩ := h
  rfl

theorem OnlyRings.serves {s t : State} (h : OnlyRings s t) (p : Nat) : t.serves p = s.serves p := by
  obtain ⟨_, _, _, rfl⟩ := h
  rfl

theorem OnlyRings.reg {s t : State} (h : OnlyRings s t) (o : Nat) : t.reg o = s.reg o := by
  obtain ⟨_, _, _, rfl⟩ := h
  rfl

/-- A ring judged anew is left as it was, or has its READY and its margin mark set and an event may follow (R140). -/
theorem judgeRing_cases (s : State) (k : Nat) : s.judgeRing k = s ∨ ∃ ready margin c,
    s.judgeRing k = (s.modRing k fun r => { r with ready := ready, margin := margin }).eventIf c (0x40 + k) 8 k := by
  unfold State.judgeRing
  dsimp only
  split
  · exact .inr ⟨true, _, _, rfl⟩
  · split
    · exact .inr ⟨false, false, false, rfl⟩
    · exact .inl rfl

theorem onlyRings_judgeRing (s : State) (k : Nat) : OnlyRings s (s.judgeRing k) := by
  obtain h | ⟨ready, margin, c, h⟩ := judgeRing_cases s k
  · rw [h]
    exact onlyRings_refl s
  · rw [h]
    exact (onlyRings_modRing s k _).trans (onlyRings_eventIf _ c _ _ _ _)

theorem ringSt_judgeRing (s : State) (k j : Nat) : ∃ ready margin,
    (s.judgeRing k).ringSt j = { s.ringSt j with ready := ready, margin := margin } := by
  obtain h | ⟨ready, margin, c, h⟩ := judgeRing_cases s k
  · exact ⟨_, _, by rw [h]⟩
  · rw [h, ringSt_eventIf, ringSt_modRing]
    split
    · rename_i hj
      rw [hj.1]
      exact ⟨ready, margin, rfl⟩
    · exact ⟨_, _, rfl⟩

theorem ringSt_judgeRing_other {s : State} {k j : Nat} (hj : j ≠ k) : (s.judgeRing k).ringSt j = s.ringSt j := by
  obtain h | ⟨ready, margin, c, h⟩ := judgeRing_cases s k
  · rw [h]
  · rw [h, ringSt_eventIf, ringSt_modRing_other hj]

theorem judgeRing_flags {s : State} (k : Nat) {h q b : Nat} (hw : Map.wf (fun _ => 0#32) s.ev.irq = true)
    (hb : bitAt (s.ev.flags h q) b = true) : bitAt ((s.judgeRing k).ev.flags h q) b = true := by
  obtain hj | ⟨ready, margin, c, hj⟩ := judgeRing_cases s k
  · rwa [hj]
  · rw [hj]
    exact (eventIf_flags (s := s.modRing k _) c _ _ _ _ hw).2 h q b hb

/-! ## A probe comes round (R137) -/

/-- A ring with the delay a probe has measured. -/
def RingSt.probed (r : RingSt) (ccw : Bool) (delay : Nat) : RingSt :=
  if ccw then { r with twe := delay, gotWe := true, pass := (r.pass.1, true), probing := (r.probing.1, false) }
  else { r with tew := delay, gotEw := true, pass := (true, r.pass.2), probing := (false, r.probing.2) }

/-- A ring that probes have passed both ways closes again. -/
def State.closeRing (s : State) (k : Nat) : State :=
  if (s.ringSt k).pass.1 && (s.ringSt k).pass.2 && !(s.ringSt k).closed then
    (s.modRing k fun r => { r with closed := true, brkCw := 0x1F, brkCcw := 0x1F, broke := false }).eventIf
      (s.ringSt k).broke (0x40 + k) 1 k
  else s

theorem probeBack_eq (s : State) (k : Nat) (ccw : Bool) (delay : Nat) :
    s.probeBack k ccw delay = ((s.modRing k fun r => r.probed ccw delay).closeRing k).judgeRing k := rfl

theorem onlyRings_closeRing (s : State) (k : Nat) : OnlyRings s (s.closeRing k) := by
  unfold State.closeRing
  split
  · exact (onlyRings_modRing s k _).trans (onlyRings_eventIf _ _ _ _ _ _)
  · exact onlyRings_refl s

theorem ringSt_closeRing (s : State) (k j : Nat) : ∃ closed brkCw brkCcw broke, (s.closeRing k).ringSt j =
    { s.ringSt j with closed := closed, brkCw := brkCw, brkCcw := brkCcw, broke := broke } := by
  unfold State.closeRing
  split
  · rw [ringSt_eventIf, ringSt_modRing]
    split
    · rename_i hj
      rw [hj.1]
      exact ⟨_, _, _, _, rfl⟩
    · exact ⟨_, _, _, _, rfl⟩
  · exact ⟨_, _, _, _, rfl⟩

theorem ringSt_closeRing_other {s : State} {k j : Nat} (hj : j ≠ k) : (s.closeRing k).ringSt j = s.ringSt j := by
  unfold State.closeRing
  split
  · rw [ringSt_eventIf, ringSt_modRing_other hj]
  · rfl

theorem onlyRings_probeBack (s : State) (k : Nat) (ccw : Bool) (delay : Nat) : OnlyRings s (s.probeBack k ccw delay) := by
  rw [probeBack_eq]
  exact ((onlyRings_modRing s k _).trans (onlyRings_closeRing _ k)).trans (onlyRings_judgeRing _ k)

theorem probeBack_other {s : State} {k j : Nat} {ccw : Bool} {delay : Nat} (hj : j ≠ k) :
    (s.probeBack k ccw delay).ringSt j = s.ringSt j := by
  rw [probeBack_eq, ringSt_judgeRing_other hj, ringSt_closeRing_other hj, ringSt_modRing_other hj]

/-- The delays of a ring are those the probe leaves: closing the ring and judging it measure nothing. -/
theorem probeBack_measures {s : State} {k : Nat} (hk : k < s.rings.rings.length) (ccw : Bool) (delay : Nat) :
    let t := (s.probeBack k ccw delay).ringSt k
    let r := (s.ringSt k).probed ccw delay
    t.tew = r.tew ∧ t.twe = r.twe ∧ t.gotEw = r.gotEw ∧ t.gotWe = r.gotWe := by
  obtain ⟨ready, margin, hjudged⟩ := ringSt_judgeRing ((s.modRing k fun r => r.probed ccw delay).closeRing k) k k
  obtain ⟨closed, brkCw, brkCcw, broke, hclosed⟩ := ringSt_closeRing (s.modRing k fun r => r.probed ccw delay) k k
  rw [ringSt_modRing_self hk] at hclosed
  dsimp only
  rw [probeBack_eq, hjudged, hclosed]
  exact ⟨rfl, rfl, rfl, rfl⟩

/-! ## A port goes down, a port comes up (R140, R146) -/

/-- A port that has gone down, by its cause. -/
def Port.failed (q : Port) (cause : Nat) : Port :=
  { q with sync := false, down := true, los := q.los || cause == 0, txFault := q.txFault || cause == 2 }

/-- The port down, and the event of a pool with no spare port left. -/
def State.portFails (s : State) (p cause : Nat) : State :=
  (s.modPort p fun q => q.failed cause).emptied_ (s.poolSum 1) 1

/-- A ring broken at a port. -/
def RingSt.broken (r : RingSt) : RingSt := { r with closed := false, pass := (false, false), broke := true }

theorem portDown_idle {s : State} {p : Nat} (cause : Nat) (h : 32 ≤ s.serves p) : s.portDown p cause = s.portFails p cause :=
  if_pos h

theorem portDown_ring {s : State} {p : Nat} (cause : Nat) (h : s.serves p < 32) : s.portDown p cause =
    (((s.portFails p cause).modRing (s.serves p / 2) RingSt.broken).event (0x40 + s.serves p / 2)
      (2 + s.serves p % 2) p).judgeRing (s.serves p / 2) :=
  if_neg (Nat.not_le.mpr h)

theorem onlyRings_portFails (s : State) (p cause : Nat) :
    OnlyRings (s.modPort p fun q => q.failed cause) (s.portFails p cause) :=
  onlyRings_eventIf _ _ _ _ _ _

theorem onlyRings_portDown (s : State) (p cause : Nat) :
    OnlyRings (s.modPort p fun q => q.failed cause) (s.portDown p cause) := by
  refine (onlyRings_portFails s p cause).trans ?_
  rcases Nat.lt_or_ge (s.serves p) 32 with h | h
  · rw [portDown_ring cause h]
    exact ((onlyRings_modRing _ _ _).trans (onlyRings_event _ _ _ _ _)).trans (onlyRings_judgeRing _ _)
  · rw [portDown_idle cause h]
    exact onlyRings_refl _

/-- The ring whose end a port serves runs as broken, with PORT_FAULT of that end raised. -/
theorem portDown_breaks {s : State} {p : Nat} (cause : Nat) (hs : s.Canon) (hlen : s.rings.rings.length = 16)
    (h : s.serves p < 32) :
    ((s.portDown p cause).ringSt (s.serves p / 2)).closed = false ∧
    ((s.portDown p cause).ringSt (s.serves p / 2)).broke = true ∧
    ∀ host, host < 4 →
      bitAt ((s.portDown p cause).ev.flags host (0x40 + s.serves p / 2)) (2 + s.serves p % 2) = true := by
  obtain ⟨-, -, -, hirq, -⟩ := hs
  rw [portDown_ring cause h]
  obtain ⟨k, hk⟩ : ∃ k, s.serves p / 2 = k := ⟨_, rfl⟩
  obtain ⟨num, hnum⟩ : ∃ num, 2 + s.serves p % 2 = num := ⟨_, rfl⟩
  rw [hk, hnum]
  have hlt : k < (s.portFails p cause).rings.rings.length := by
    rw [State.portFails, State.emptied_, State.eventIf_rings]
    exact show k < s.rings.rings.length by omega
  have hring : (((s.portFails p cause).modRing k RingSt.broken).event (0x40 + k) num p).ringSt k =
      ((s.portFails p cause).ringSt k).broken := by
    rw [State.ringSt, State.event_rings]
    exact ringSt_modRing_self hlt
  have hfails : Map.wf (fun _ => 0#32) (s.portFails p cause).ev.irq = true :=
    (eventIf_flags (s := s.modPort p fun q => q.failed cause) _ _ _ _ _ hirq).1
  have hevent := (eventIf_flags (s := (s.portFails p cause).modRing k RingSt.broken) true (0x40 + k) num p [] hfails).1
  obtain ⟨ready, margin, hjudged⟩ := ringSt_judgeRing
    (((s.portFails p cause).modRing k RingSt.broken).event (0x40 + k) num p) k k
  rw [hjudged, hring]
  exact ⟨rfl, rfl, fun host hh => judgeRing_flags k hevent
    (flags_event (s := (s.portFails p cause).modRing k RingSt.broken) hfails (by omega) hh)⟩

/-- A port in sync. -/
def Port.synced (q : Port) : Port := { q with sync := true, los := false, txFault := false, down := false }

/-- A port whose delay-locked line is locked, or off. -/
def Port.line (q : Port) (on : Bool) : Port := { q with dll := on }

/-- The port in sync, and the line it receives through locked. -/
def State.portSynced (s : State) (p : Nat) : State := (s.modPort p Port.synced).modPort (s.lineOf p) fun q => q.line true

theorem lineOf_synced (s : State) (p : Nat) : (s.modPort p Port.synced).lineOf p = s.lineOf p := by
  unfold State.lineOf
  rw [serves_modPort (f := Port.synced) fun _ => rfl]

theorem onlyRings_portUp (s : State) (p : Nat) : OnlyRings (s.portSynced p) (s.portUp p) := by
  have hup : s.portUp p = if 32 ≤ (s.portSynced p).serves p then s.portSynced p
      else ((s.portSynced p).modRing ((s.portSynced p).serves p / 2) fun r => { r with probeIn := 0 }).judgeRing
        ((s.portSynced p).serves p / 2) := by
    rw [State.portSynced, ← lineOf_synced s p]
    rfl
  rw [hup]
  split
  · exact onlyRings_refl _
  · exact (onlyRings_modRing _ _ _).trans (onlyRings_judgeRing _ _)

theorem lineOf_lt (s : State) {p : Nat} (hp : p < 34) : s.lineOf p < 34 := by
  unfold State.lineOf
  split <;> omega

/-- The port synced is in sync, whether or not the line locked is its own. -/
theorem portSynced_port {s : State} {p : Nat} (hp : p < s.rings.ports.length) : ∃ on,
    (s.portSynced p).port p = ((s.port p).synced).line on := by
  rw [State.portSynced, port_modPort]
  split
  · rename_i h
    rw [← h.1, port_modPort_self hp]
    exact ⟨true, rfl⟩
  · rw [port_modPort_self hp]
    exact ⟨(s.port p).dll, rfl⟩

theorem portSynced_line {s : State} {p : Nat} (hl : s.lineOf p < s.rings.ports.length) :
    ((s.portSynced p).port (s.lineOf p)).dll = true := by
  rw [State.portSynced, port_modPort_self (by rwa [length_modPort])]
  rfl

theorem portSynced_other {s : State} {p q : Nat} (hp : q ≠ p) (hl : q ≠ s.lineOf p) : (s.portSynced p).port q = s.port q := by
  rw [State.portSynced, port_modPort_other hl, port_modPort_other hp]

/-! ## A spare port takes over a role (R147) -/

/-- A port with a role. -/
def Port.role (q : Port) (r : Nat) : Port := { q with serves := r }

/-- The spare gives back the role it had, if it had one. -/
def State.roleBack (s : State) (p : Nat) : State :=
  if s.serves p = 0x3F then s else s.modPort (s.serves p) fun q => q.role (s.serves p)

/-- The spare has a role, and the port whose role it is has none. -/
def State.roleGiven (s : State) (p r : Nat) : State :=
  let s1 := (s.roleBack p).modPort p fun q => q.role r
  if r = 0x3F then s1 else s1.modPort r fun q => q.role 0x3F

/-- A ring whose port has changed is probed at once and judged anew. -/
def State.probeAgain (s : State) (k : Nat) : State := (s.modRing k fun r => { r with probeIn := 0 }).judgeRing k

theorem onlyRings_probeAgain (s : State) (k : Nat) : OnlyRings s (s.probeAgain k) :=
  (onlyRings_modRing s k _).trans (onlyRings_judgeRing _ k)

/-- The rings of both roles are judged; a spare newly in use wears, and the pool may run out of spare ports. -/
theorem serve_eq (s : State) (p r : Nat) : s.serve p r =
    let s4 := if s.serves p = 0x3F then s.roleGiven p r else (s.roleGiven p r).probeAgain (s.serves p / 2)
    if r = 0x3F then s4
    else if s.serves p = r then s4.probeAgain (r / 2)
    else ((s4.probeAgain (r / 2)).wear (portMember p)).emptied_ (s.poolSum 1) 1 := rfl

/-- Roles and words after a substitution are those of the roles given: nothing else it does moves them. -/
theorem serve_keeps (s : State) (p r : Nat) :
    (∀ q, (s.serve p r).serves q = (s.roleGiven p r).serves q) ∧ (∀ o, (s.serve p r).reg o = (s.roleGiven p r).reg o) := by
  have hold : OnlyRings (s.roleGiven p r)
      (if s.serves p = 0x3F then s.roleGiven p r else (s.roleGiven p r).probeAgain (s.serves p / 2)) := by
    split
    · exact onlyRings_refl _
    · exact onlyRings_probeAgain _ _
  rw [serve_eq]
  generalize (if s.serves p = 0x3F then s.roleGiven p r else (s.roleGiven p r).probeAgain (s.serves p / 2)) = s4 at hold
  have hnew := hold.trans (onlyRings_probeAgain s4 (r / 2))
  dsimp only
  split
  · exact ⟨hold.serves, hold.reg⟩
  · split
    · exact ⟨hnew.serves, hnew.reg⟩
    · have hempty : OnlyRings ((s4.probeAgain (r / 2)).wear (portMember p))
          (((s4.probeAgain (r / 2)).wear (portMember p)).emptied_ (s.poolSum 1) 1) := onlyRings_eventIf _ _ _ _ _ _
      exact ⟨fun q => (hempty.serves q).trans (hnew.serves q), fun o => (hempty.reg o).trans (hnew.reg o)⟩

theorem roleBack_keeps (s : State) (p : Nat) : (s.roleBack p).rings.ports.length = s.rings.ports.length ∧
    ∀ o, (s.roleBack p).reg o = s.reg o := by
  unfold State.roleBack
  split
  · exact ⟨rfl, fun _ => rfl⟩
  · exact ⟨length_modPort s _ _, fun _ => rfl⟩

theorem serves_of_role {s : State} {p r : Nat} (h : (s.port p).serves = r) (hr : r ≠ p) : s.serves p = r := by
  simp [State.serves, h, hr]

theorem roleGiven_reg (s : State) (p r o : Nat) : (s.roleGiven p r).reg o = s.reg o := by
  obtain ⟨-, hback⟩ := roleBack_keeps s p
  unfold State.roleGiven
  dsimp only
  split
  · rw [reg_modPort, hback]
  · rw [reg_modPort, reg_modPort, hback]

/-- The spare serves the role it is given, which no port has of its own any more. -/
theorem roleGiven_serves {s : State} {p r : Nat} (hlen : s.rings.ports.length = 34) (hp : p < 34) (hpr : r ≠ p)
    (hr : r = 0x3F ∨ r < 0x20) :
    (s.roleGiven p r).serves p = r ∧ (r ≠ 0x3F → (s.roleGiven p r).serves r = 0x3F) := by
  have hback : (s.roleBack p).rings.ports.length = 34 := (roleBack_keeps s p).1.trans hlen
  have hgiven : (((s.roleBack p).modPort p fun q => q.role r).port p).serves = r :=
    congrArg Port.serves (port_modPort_self (hback ▸ hp))
  unfold State.roleGiven
  dsimp only
  split
  · exact ⟨serves_of_role hgiven hpr, fun hne => absurd ‹r = 0x3F› hne⟩
  · have hlt : r < 0x20 := hr.resolve_left ‹_›
    refine ⟨serves_of_role ?_ hpr, fun _ => serves_of_role ?_ (by omega)⟩
    · rw [port_modPort_other (Ne.symm hpr)]
      exact hgiven
    · exact congrArg Port.serves (port_modPort_self (by rw [length_modPort, hback]; omega))

theorem rowAt_sub : rowAt A.LNKC_SUB = some
    { first := A.LNKC_SUB, cls := .rwc, reset := 0x3F#32, mask := 0x3F#32, modes := mService,
      ok := fun v => inR v 0 6 0 0x1F || fld v 0 6 == 0x3F } := rfl

theorem rwcWrite_sub (s : State) (h : Nat) (vn : Word) (r : Row) : s.rwcWrite h A.LNKC_SUB vn r = s.portSub h vn := rfl

/-- The state in which a substitution takes effect: the write consumed. -/
def State.subTaken (s : State) (h : Nat) : State := (s.disarm h (pageOf (A.LNKC_SUB + 4))).emptied h A.LNKC_SUB

/-- A completed substitution that no check refuses: the port selected is a spare one, and the role no other spare's. -/
theorem complete_sub {s : State} {h : Nat} {v : Word} (hp : s.pends h A.LNKC_SUB mService v = true)
    (hspare : s.sparePort (fld (s.reg A.LNKC_SUB_SEL) 0 6) = true)
    (hrole : fld v 0 6 = 0x3F ∨ (s.sparePort (fld v 0 6) = false ∧
      ∀ q, q < 34 → q ≠ fld (s.reg A.LNKC_SUB_SEL) 0 6 → q ≠ fld v 0 6 → s.serves q ≠ fld v 0 6)) :
    s.hostComplete h A.LNKC_SUB v =
      ((s.subTaken h).serve (fld (s.reg A.LNKC_SUB_SEL) 0 6) (fld v 0 6)).mended (A.LNKC_SUB + 4) := by
  obtain ⟨ha, hv⟩ := pends_iff.mp hp
  refine hostComplete_ok (by decide) (by decide) (by decide) (by decide) (by decide) rowAt_sub rfl ?_
  rw [rwcWrite_sub, State.portSub]
  refine complement_ok (s := s.disarm h (pageOf (A.LNKC_SUB + 4))) hv rfl ?_
  have hvalue : (!(!s.sparePort (fld (s.reg A.LNKC_SUB_SEL) 0 6) || (fld v 0 6 != 0x3F && s.sparePort (fld v 0 6)))) = true := by
    rcases hrole with hidle | ⟨hown, -⟩
    · simp [hspare, hidle]
    · simp [hspare, hown]
  have htaken : (fld v 0 6 != 0x3F && (List.range 34).any fun q =>
      q != fld (s.reg A.LNKC_SUB_SEL) 0 6 && q != fld v 0 6 && s.serves q == fld v 0 6) = false := by
    rcases hrole with hidle | ⟨-, hfree⟩
    · simp [hidle]
    · simpa using fun _ => hfree
  refine firstOf_append (l := s.common h 0x50 mService
    (!(!s.sparePort (fld (s.reg A.LNKC_SUB_SEL) 0 6) || (fld v 0 6 != 0x3F && s.sparePort (fld v 0 6))))) ?_ ?_
  · rw [hvalue]
    exact common_clear ha
  · intro q hq
    rw [List.mem_singleton.mp hq]
    exact htaken

/-! ## A write of LNK_CTRL (R149, R431) -/

theorem port_linesSet {s : State} {k p : Nat} (on : Bool) (hk : 2 * k + 1 < s.rings.ports.length) :
    (s.linesSet k on).port p = if p / 2 = k then (s.port p).line on else s.port p := by
  unfold State.linesSet
  by_cases hodd : p = 2 * k + 1
  · rw [if_pos (by omega), hodd, port_modPort_self (by rwa [length_modPort]), port_modPort_other (by omega)]
    rfl
  · rw [port_modPort_other hodd]
    by_cases heven : p = 2 * k
    · rw [if_pos (by omega), heven, port_modPort_self (by omega)]
      rfl
    · rw [if_neg (by omega), port_modPort_other heven]

/-- The control word stored; the lines of the ring's ends follow the enable, and stand where it stays set. -/
def State.ctrlStored (s : State) (k : Nat) (v w : Word) : State :=
  let s1 := s.putReg (A.LNK k A.LNK_CTRL) w
  if bitAt v 0 = bitAt (s.reg (A.LNK k A.LNK_CTRL)) 0 ∧ bitAt v 0 = true then s1 else s1.linesSet k (bitAt v 0)

theorem linesSet_eq (s : State) (k : Nat) (on : Bool) : ∃ ports,
    s.linesSet k on = { s with rings := { s.rings with ports := ports } } :=
  ⟨_, rfl⟩

theorem ctrlStored_eq (s : State) (k : Nat) (v w : Word) : ∃ ports, s.ctrlStored k v w =
    { s with regs := Map.put resetWord (A.LNK k A.LNK_CTRL) w s.regs, rings := { s.rings with ports := ports } } := by
  unfold State.ctrlStored
  dsimp only
  split
  · exact ⟨s.rings.ports, rfl⟩
  · exact linesSet_eq (s.putReg (A.LNK k A.LNK_CTRL) w) k (bitAt v 0)

theorem reg_ctrlStored {s : State} (hs : Map.wf resetWord s.regs = true) (k : Nat) (v w : Word) (o : Nat) :
    (s.ctrlStored k v w).reg o = if o = A.LNK k A.LNK_CTRL then w else s.reg o := by
  obtain ⟨ports, heq⟩ := ctrlStored_eq s k v w
  rw [heq]
  split
  · rename_i ho
    rw [ho]
    exact Map.get_put_self hs
  · exact Map.get_put_other ‹_›

theorem port_ctrlStored {s : State} {k p : Nat} {v w : Word} (hk : 2 * k + 1 < s.rings.ports.length) :
    (s.ctrlStored k v w).port p = if p / 2 = k then
      (s.port p).line
        (if bitAt v 0 = bitAt (s.reg (A.LNK k A.LNK_CTRL)) 0 ∧ bitAt v 0 = true then (s.port p).dll else bitAt v 0)
      else s.port p := by
  unfold State.ctrlStored
  dsimp only
  split
  · exact (ite_self (s.port p)).symm
  · exact port_linesSet (bitAt v 0) hk

/-- What no probe passes round: a ring that is not enabled. -/
def RingSt.unprobed (r : RingSt) : RingSt := { r with closed := false, pass := (false, false), probing := (false, false) }

theorem lnkCtrl_place (k : Nat) : A.LNK k A.LNK_CTRL = 0x40040 + 0x1000 * k :=
  Nat.add_right_comm 0x40000 (0x1000 * k) 0x40

theorem lnkCtrl_page (k : Nat) : A.LNK k A.LNK_CTRL / 0x1000 = 0x40 + k := by
  rw [lnkCtrl_place]
  omega

theorem rwStore_lnkCtrl {s : State} {h k : Nat} {v : Word} {r : Row} {c : Bool} (ha : s.admits h (0x40 + k) r.modes = true)
    (hv : r.ok v = true) (hc : c = false) : s.rwStore h (A.LNK k A.LNK_CTRL) v r [(c, .busy)] =
      (s.putReg (A.LNK k A.LNK_CTRL) (mergeWord r.mask (s.reg (A.LNK k A.LNK_CTRL)) v), .ok) := by
  rw [State.rwStore, lnkCtrl_page, hv]
  exact judged_ok (firstOf_append (common_clear ha) (by simp [hc]))

/-- An accepted control word is stored, and the ring judged anew. -/
theorem lnkCtrl_ok {s : State} {h k : Nat} {v : Word} {r : Row} (ha : s.admits h (0x40 + k) r.modes = true)
    (hv : r.ok v = true) (hcells : bitAt v 0 = true ∨ (s.ringCells k).all (fun c => (s.cell c).st != .active) = true) :
    ∃ t, s.lnkCtrl h (A.LNK k A.LNK_CTRL) v r = (t, .ok) ∧
      OnlyRings (s.ctrlStored k v (mergeWord r.mask (s.reg (A.LNK k A.LNK_CTRL)) v)) t := by
  have hring : (A.LNK k A.LNK_CTRL - 0x40000) / 0x1000 = k := by
    rw [lnkCtrl_place]
    omega
  have hbusy : (!bitAt v 0 && (s.ringCells k).any fun c => (s.cell c).st == .active) = false := by
    rcases hcells with hon | hoff
    · simp [hon]
    · have hnone : ((s.ringCells k).any fun c => (s.cell c).st == .active) = false := by
        simpa using hoff
      rw [hnone, Bool.and_false]
  unfold State.lnkCtrl State.ctrlStored
  dsimp only
  rw [hring, rwStore_lnkCtrl ha hv hbusy, if_neg (by simp)]
  cases hon : bitAt v 0 with
  | true =>
    cases hold : bitAt (s.reg (A.LNK k A.LNK_CTRL)) 0 with
    | true => exact ⟨_, rfl, onlyRings_judgeRing _ k⟩
    | false => exact ⟨_, rfl, onlyRings_judgeRing _ k⟩
  | false =>
    rw [if_neg Bool.false_ne_true, if_neg fun h => Bool.false_ne_true h.2]
    exact ⟨_, rfl, (onlyRings_modRing _ k RingSt.unprobed).trans (onlyRings_judgeRing _ k)⟩

theorem clsAt_lnkCtrl : ∀ k < 16, clsAt (A.LNK k A.LNK_CTRL) = some .rw := by decide

theorem rwWrite_lnkCtrl {k : Nat} (hk : k < 16) (s : State) (h : Nat) (v : Word) (r : Row) :
    s.rwWrite h (A.LNK k A.LNK_CTRL) v r = s.lnkCtrl h (A.LNK k A.LNK_CTRL) v r := by
  have ho := lnkCtrl_place k
  rw [State.rwWrite, if_neg (by omega), if_neg (by omega), if_pos (by omega), State.rwCells, if_pos (by omega)]

theorem listed_lnk : ∀ k < 16, listed (0x40 + k) = true := by decide

/-- A host's write of LNK_CTRL that no check refuses. -/
theorem hostPut_lnkCtrl {s : State} {h k : Nat} {v : Word} {r : Row} (hk : k < 16) (hr : rowAt (A.LNK k A.LNK_CTRL) = some r)
    (ha : s.admits h (0x40 + k) r.modes = true) (hv : r.ok v = true)
    (hcells : bitAt v 0 = true ∨ (s.ringCells k).all (fun c => (s.cell c).st != .active) = true) :
    ∃ t, s.hostPut h (A.LNK k A.LNK_CTRL) v = t.mended (A.LNK k A.LNK_CTRL) ∧
      OnlyRings ((s.disarm h (0x40 + k)).ctrlStored k v (mergeWord r.mask (s.reg (A.LNK k A.LNK_CTRL)) v)) t := by
  have ho := lnkCtrl_place k
  have hpage := lnkCtrl_page k
  have hpageOf : pageOf (A.LNK k A.LNK_CTRL) = 0x40 + k := by
    rw [pageOf, if_pos (by omega), hpage]
  have hcls : r.cls = .rw := by
    have hc := clsAt_lnkCtrl k hk
    rw [clsAt, hr] at hc
    exact Option.some.inj hc
  obtain ⟨t, ht, hkeeps⟩ := lnkCtrl_ok (s := s.disarm h (0x40 + k)) ha hv hcells
  refine ⟨t, hostPut_ok (by omega) (by omega) (hpage ▸ listed_lnk k hk) (by omega) ?_, hkeeps⟩
  rw [hpageOf, regWrite_rw hr (by rw [hcls]; decide), rwWrite_lnkCtrl hk]
  exact ht

end Sys2Proof.Machine

open Sys2Proof Sys2Proof.Machine

/-- Settles O14: the five commands, each by what its operation does to rings and ports; all else it does is to judge rings and
raise events. -/
theorem ringPortsServeRings : Obligations.RingPortsServeRings := by
  unfold Obligations.RingPortsServeRings
  refine ⟨?probe, ?down, ?sync, ?substitute, ?control⟩
  case probe =>
    intro s k d hlive hprobing hlen
    have hk : k < s.rings.rings.length := by
      have hring : k < 16 := by
        simp only [State.probing, Bool.and_eq_true, decide_eq_true_eq] at hprobing
        exact hprobing.1.1
      omega
    have hframe (ccw : Bool) : s.probeBack k ccw d = { s with
        rings := { s.rings with rings := (s.probeBack k ccw d).rings.rings },
        ev := (s.probeBack k ccw d).ev, reco := (s.probeBack k ccw d).reco } := by
      obtain ⟨_, _, _, h⟩ := onlyRings_probeBack s k ccw d
      rw [h]
    constructor
    · refine gives_running (f := fun s => s.probeBack k false d) hlive hprobing ?_
      obtain ⟨htew, htwe, hgot, -⟩ := probeBack_measures hk false d
      exact ⟨htew, hgot, htwe, fun j hj => probeBack_other hj, hframe false⟩
    · refine gives_running (f := fun s => s.probeBack k true d) hlive hprobing ?_
      obtain ⟨htew, htwe, -, hgot⟩ := probeBack_measures hk true d
      exact ⟨htwe, hgot, htew, fun j hj => probeBack_other hj, hframe true⟩
  case down =>
    intro s p x hlive hs hp hx hports hrings
    refine gives_running (c := decide (p < 34) && decide (x < 3)) (f := fun s => s.portDown p x) hlive (by simp [hp, hx]) ?_
    have honly := onlyRings_portDown s p x
    have hport : (s.portDown p x).port p = (s.port p).failed x :=
      (honly.port p).trans (port_modPort_self (hports ▸ hp))
    rw [hport]
    refine ⟨rfl, rfl, rfl, rfl, fun q hq => (honly.port q).trans (port_modPort_other hq),
      fun hserves => portDown_breaks x hs hrings hserves, ?_⟩
    obtain ⟨_, _, _, h⟩ := honly
    rw [h]
    rfl
  case sync =>
    intro s p hlive hp hports hsync
    refine gives_running (c := decide (p < 34) && !(s.port p).sync) (f := fun s => s.portUp p) hlive (by simp [hp, hsync]) ?_
    have honly := onlyRings_portUp s p
    obtain ⟨on, hport⟩ := portSynced_port (s := s) (hports ▸ hp)
    rw [honly.port p, honly.port (s.lineOf p), hport]
    refine ⟨rfl, rfl, rfl, rfl, portSynced_line (hports ▸ lineOf_lt s hp),
      fun q hq hl => (honly.port q).trans (portSynced_other hq hl), ?_⟩
    obtain ⟨_, _, _, h⟩ := honly
    rw [h]
    rfl
  case substitute =>
    intro s h v hpends hports p r hspare hp hrole
    obtain ⟨hlive, hh⟩ := live_of_admits (pends_iff.mp hpends).1
    refine gives_byHost (f := fun s => s.hostComplete h A.LNKC_SUB v) hlive hh ?_
    have hpr : r ≠ p := by
      rcases hrole with hidle | ⟨-, hown, -⟩
      · omega
      · intro heq
        rw [heq, hspare] at hown
        exact absurd hown (by decide)
    obtain ⟨hserves, hregs⟩ := serve_keeps (s.subTaken h) p r
    obtain ⟨hgiven, hfreed⟩ := roleGiven_serves (s := s.subTaken h) hports hp hpr (hrole.imp_right And.left)
    rw [complete_sub hpends hspare (hrole.imp_right And.right), mended_eq]
    exact ⟨(hserves p).trans hgiven, fun hr => (hserves r).trans (hfreed hr),
      fun o => (hregs o).trans (roleGiven_reg (s.subTaken h) p r o)⟩
  case control =>
    intro s h k v r hs hk hr hv ha hcells hports
    obtain ⟨hlive, hh⟩ := live_of_admits ha
    obtain ⟨hregs, -⟩ := hs
    refine gives_running (c := decide (h < 4) && decide (k < 16)) (f := fun s => s.hostPut h (A.LNK k A.LNK_CTRL) v) hlive
      (by simp [hh, hk]) ?_
    obtain ⟨t, ht, honly⟩ := hostPut_lnkCtrl hk hr ha hv hcells
    rw [ht, mended_eq]
    refine ⟨fun o => ?_, fun p hp => ?_, ?_⟩
    · refine (honly.reg o).trans ((reg_ctrlStored (s := s.disarm h (0x40 + k)) hregs k v _ o).trans ?_)
      split
      · rename_i ho
        rw [ho]
      · rfl
    · exact (honly.port p).trans (port_ctrlStored (s := s.disarm h (0x40 + k)) (show 2 * k + 1 < s.rings.ports.length by omega))
    · obtain ⟨ports, heq⟩ := ctrlStored_eq (s.disarm h (0x40 + k)) k v (mergeWord r.mask (s.reg (A.LNK k A.LNK_CTRL)) v)
      obtain ⟨_, _, _, rfl⟩ := honly
      rw [heq]
      rfl

end

section
/-! PROOFS. What follows a command leaves rings and modulator alone unless a decided mode is entered (R53, R58), and the two
states that refute `TripLinesCut` and `LocalOutputsAndModulatorAct` (R24, R164, R170). -/

namespace Sys2Proof.Machine

/-! ## Rings and modulator after a command -/

theorem raiseAs_rings_modu (s : State) (settled : Option Bool) (e : Event) :
    (s.raiseAs settled e).rings = s.rings ∧ (s.raiseAs settled e).modu = s.modu := ⟨rfl, rfl⟩

theorem flushOwn_rings_modu (n : Nat) (s : State) : (s.flushOwn n).rings = s.rings ∧ (s.flushOwn n).modu = s.modu := by
  induction n generalizing s with
  | zero => exact ⟨rfl, rfl⟩
  | succ n ih =>
    rw [State.flushOwn, (ih _).1, (ih _).2]
    exact ⟨foldl_keeps (fun s (x : Event × Option Bool) => (raiseAs_rings_modu s x.2 x.1).1) _ _,
      foldl_keeps (fun s (x : Event × Option Bool) => (raiseAs_rings_modu s x.2 x.1).2) _ _⟩

theorem readyTime_rings_modu (s : State) : s.readyTime.rings = s.rings ∧ s.readyTime.modu = s.modu := by
  unfold State.readyTime
  split <;> exact ⟨rfl, rfl⟩

theorem ptpFollow_rings_modu (s : State) : s.ptpFollow.rings = s.rings ∧ s.ptpFollow.modu = s.modu := by
  unfold State.ptpFollow
  dsimp only
  constructor <;> (repeat' split) <;> simp

theorem groupOff_rings_modu (s : State) (g : Nat) : (s.groupOff g).rings = s.rings ∧ (s.groupOff g).modu = s.modu := by
  unfold State.groupOff
  dsimp only
  constructor <;> (repeat' split) <;> simp

theorem stopStep_rings_modu (s : State) : s.stopStep.rings = s.rings ∧ s.stopStep.modu = s.modu := by
  unfold State.stopStep State.openMain
  dsimp only
  constructor <;> (repeat' split) <;> simp [groupOff_rings_modu]

theorem dropXfer_rings_modu (s : State) : s.dropXfer.rings = s.rings ∧ s.dropXfer.modu = s.modu := by
  unfold State.dropXfer
  split <;> exact ⟨rfl, rfl⟩

theorem closeFails_rings_modu (s : State) (result : Nat) :
    (s.closeFails result).rings = s.rings ∧ (s.closeFails result).modu = s.modu := by
  unfold State.closeFails State.closeEnds
  split <;> simp

theorem closeAborts_rings_modu (s : State) (result : Nat) :
    (s.closeAborts result).rings = s.rings ∧ (s.closeAborts result).modu = s.modu := by
  unfold State.closeAborts State.beginStop
  split <;> simp [closeFails_rings_modu]

/-- Missing lock opens groups and drops a transfer; it reaches neither rings nor modulator. -/
theorem afterLock_rings_modu (s : State) : s.afterLock.rings = s.rings ∧ s.afterLock.modu = s.modu := by
  unfold State.afterLock State.stopRun
  dsimp only
  constructor <;> (repeat' split) <;>
    simp [stopStep_rings_modu, closeAborts_rings_modu, closeFails_rings_modu, dropXfer_rings_modu]

/-- A device that runs after the boundary-scan port has been looked at has not been reset by it. -/
theorem scanFollow_rings_modu {s : State} (hlive : s.scanFollow.live = true) :
    s.scanFollow.rings = s.rings ∧ s.scanFollow.modu = s.modu := by
  unfold State.scanFollow at hlive ⊢
  split
  · exact ⟨rfl, rfl⟩
  · rename_i hchanges
    rw [if_neg hchanges] at hlive
    cases hscan : s.pwr.scan with
    | none => simp [State.scanEnds, hscan]
    | some i =>
      obtain ⟨q, hreset⟩ := intoReset_eq (s.modPwr fun p => { p with scan := none }) 7
      have hdead : s.scanEnds.pwr.held = true := by simp [State.scanEnds, hscan, hreset]
      simp [State.live, State.modPwr, hdead] at hlive

/-- What the device has done before the boundary-scan port is looked at. -/
def State.followed (s : State) : State := if !s.live || s.ang.beats then s else s.modeNext

/-- After a command of a device that then runs, rings and modulator are as a decided mode has left them. -/
theorem settle_rings_modu {s : State} (hlive : s.settle.live = true) :
    s.settle.rings = s.followed.rings ∧ s.settle.modu = s.followed.modu := by
  unfold State.settle at hlive ⊢
  unfold State.followed
  cases hs : s.live with
  | false =>
    simp only [hs, Bool.not_false, if_true] at hlive
    simpa using scanFollow_rings_modu hlive
  | true =>
    simp only [hs, Bool.not_true, Bool.false_eq_true, if_false] at hlive
    obtain ⟨hrings, hmodu⟩ := scanFollow_rings_modu hlive
    simp only [Bool.not_true, Bool.false_eq_true, if_false, Bool.false_or, hrings, hmodu, flushOwn_rings_modu,
      readyTime_rings_modu, ptpFollow_rings_modu, afterLock_rings_modu, and_self]

/-! ## Local outputs when a mode is entered (R55, R58) -/

/-- Every output that is on has a mode mask that names some mode. -/
def State.OutputsNamed (s : State) : Prop := ∀ l ∈ s.modu.lhb, l.on = true → ∃ m, l.inMode m = true

theorem outputsNamed_of_lowered {s : State} {ls : List Lhb} {m : Mode}
    (h : s.modu.lhb = ls.map fun (l : Lhb) => if l.inMode m then l else l.low) : s.OutputsNamed := by
  intro l hl hon
  rw [h, List.mem_map] at hl
  obtain ⟨l0, -, rfl⟩ := hl
  by_cases hin : l0.inMode m = true
  · rw [if_pos hin]
    exact ⟨m, hin⟩
  · rw [if_neg hin] at hon
    exact absurd hon (by simp [Lhb.low])

theorem outputsNamed_congr {s t : State} (h : t.modu = s.modu) (hs : s.OutputsNamed) : t.OutputsNamed := by
  unfold State.OutputsNamed
  rwa [h]

theorem latched_outputsNamed (s : State) (bit : Nat) : (s.latched bit).OutputsNamed := by
  obtain ⟨m, -, -, -, hlatched⟩ := latched_eq s bit
  have hmodu : (s.latched bit).modu = s.holdActs.modu := by rw [hlatched]
  refine outputsNamed_congr hmodu (outputsNamed_of_lowered (ls := s.cutAll.modu.lhb) (m := .hold) ?_)
  simp [State.holdActs, State.groupsOff, groupOff_rings_modu]

theorem judgeCells_outputsNamed {s : State} (hs : s.OutputsNamed) : s.judgeCells.OutputsNamed := by
  unfold State.judgeCells State.causeIs
  split
  · unfold State.causeOn
    dsimp only
    split
    · exact hs
    · split
      · exact hs
      · exact latched_outputsNamed _ _
  · exact hs

/-- A mode that is entered turns off every output whose mask does not name it. -/
theorem modeNext_outputsNamed {s : State} (h : s.modeNext ≠ s) : s.modeNext.OutputsNamed := by
  unfold State.modeNext at h ⊢
  split
  · exact outputsNamed_congr (State.event_modu ..) (judgeCells_outputsNamed (outputsNamed_of_lowered rfl))
  · rename_i hnone
    simp [hnone] at h

/-- An output that is on with an empty mask after a command shows that no mode has been entered. -/
theorem settle_rings_of_unnamed {s : State} (hlive : s.settle.live = true)
    (hout : ∃ l ∈ s.settle.modu.lhb, l.on = true ∧ l.cfg = 0#32) : s.settle.rings = s.rings := by
  obtain ⟨hrings, hmodu⟩ := settle_rings_modu hlive
  obtain ⟨l, hl, hon, hcfg⟩ := hout
  have hstays : s.followed = s := by
    unfold State.followed at hmodu ⊢
    split
    · rfl
    · rename_i hruns
      by_contra hentered
      rw [hmodu, if_neg hruns] at hl
      obtain ⟨m, hm⟩ := modeNext_outputsNamed hentered l hl hon
      simp [Lhb.inMode, hcfg] at hm
  rw [hrings, hstays]

/-- While beats run no command's end enters a mode. -/
theorem settle_modu_of_beats {s : State} (hlive : s.settle.live = true) (hbeats : s.ang.beats = true) :
    s.settle.modu = s.modu := by
  rw [(settle_rings_modu hlive).2, State.followed, hbeats, Bool.or_true, if_pos rfl]

/-! ## A ring marked as tripped that is not cut -/

/-- A live device in which the host asserts line 7, which ring 0 names: the ring is marked as cut by a line in this beat although
no cut is in force on it, which no run reaches. Output 0 is on with an empty mask. -/
def trippedUncut : State :=
  { State.reset with
    regs := [(A.LNK 0 A.LNK_CTRL, 1#32), (A.LNK 0 A.LNK_TRIPSEL, 0x80#32), (A.MOD_TRIP_SW, 0x80#32)]
    rings := { ringsReset with rings := { ringStReset with tripped := true } :: List.replicate 15 ringStReset }
    modu := { moduReset with lhb := { lhbReset with cfg := 0#32, on := true } :: List.replicate 11 lhbReset } }

/-- What the assertion of line 7 leaves there. -/
def trippedUncutAfter : State :=
  (trippedUncut.advance (trippedUncut.now + fabricPeriod * (trippedUncut.tripFilt 7 + 1))).tripOn 7

theorem trippedUncut_canon : trippedUncut.Canon := by decide +kernel
theorem trippedUncut_raw : trippedUncut.lineRaw 7 = true := by decide +kernel
theorem trippedUncut_named : trippedUncut.ringEn 0 = true ∧ (trippedUncut.tripSel 0).testBit 7 = true := by decide +kernel
theorem trippedUncutAfter_live : trippedUncutAfter.settle.live = true := by decide +kernel
theorem trippedUncutAfter_output : ∃ l ∈ trippedUncutAfter.settle.modu.lhb, l.on = true ∧ l.cfg = 0#32 := by decide +kernel

/-- The ring gets no CUT: a line is taken to have cut it already. -/
theorem trippedUncutAfter_uncut : (trippedUncutAfter.settle.ringSt 0).cut = false := by decide +kernel

theorem trippedUncut_answer : exec (.tripAssert 7) trippedUncut = .next trippedUncutAfter.settle := by
  refine congrArg Host.Outcome.next (if_pos ?_)
  decide +kernel

/-! ## A setting written since the last beat start -/

/-- A live device whose beats run: a host has written LHB_CFG of output 0 since the last beat start, and the engines still use
the word it held before (R24). -/
def cfgWritten : State :=
  { State.reset with
    regs := [(A.LHB 0 0, 0x800003C0#32)]
    ang := { angleReset with beats := true } }

theorem cfgWritten_written : cfgWritten.reg (A.LHB 0 0) = 0x800003C0#32 := by decide +kernel
theorem cfgWritten_live : (cfgWritten.lhbBoundary 0).settle.live = true := by decide +kernel

/-- The period boundary brings the word in use into force. -/
theorem cfgWritten_boundary : ((cfgWritten.lhbBoundary 0).settle.lhb 0).cfg = 0x3C0#32 := by decide +kernel

end Sys2Proof.Machine

open Sys2Proof Sys2Proof.Machine

/-- Refutes O15: in `trippedUncut` line 7 asserts, and ring 0 is enabled and names it; marked as cut by a line in this beat, the
ring gets no CUT, and the statement does not exclude that no cut is in force on it. -/
theorem not_tripLinesCut : ¬ Obligations.TripLinesCut := by
  unfold Obligations.TripLinesCut
  rintro ⟨hassert, -⟩
  obtain ⟨hen, hsel⟩ := trippedUncut_named
  obtain ⟨t, hnext, -, -, -, -, -, hcut, -⟩ :=
    hassert trippedUncut 7 (by decide) trippedUncut_canon rfl rfl trippedUncut_raw (by decide)
  have hsettle : trippedUncutAfter.settle = t.settle := Host.Outcome.next.inj (trippedUncut_answer.symm.trans hnext)
  have hrings : t.settle.rings = t.rings :=
    settle_rings_of_unnamed (hsettle ▸ trippedUncutAfter_live) (hsettle ▸ trippedUncutAfter_output)
  have huncut : (t.ringSt 0).cut = false := by
    rw [State.ringSt, ← hrings, ← hsettle]
    exact trippedUncutAfter_uncut
  exact absurd (hcut 0 (by decide) hen hsel) (by simp [huncut])

/-- Refutes O16: in `cfgWritten` the period boundary of output 0 brings into force the LHB_CFG that the engines use since the last
beat start (R24), where the statement has the word written since. -/
theorem not_localOutputsAndModulatorAct : ¬ Obligations.LocalOutputsAndModulatorAct := by
  unfold Obligations.LocalOutputsAndModulatorAct
  rintro ⟨hboundary, -⟩
  obtain ⟨t, hnext, -, -, hcfg, -, -, -, -, -, -, -, -, hframe⟩ := hboundary cfgWritten 0 (by decide) (by decide) rfl
  have hanswer : exec (.lhbPeriodBoundary 0) cfgWritten = .next (cfgWritten.lhbBoundary 0).settle := rfl
  have hsettle : (cfgWritten.lhbBoundary 0).settle = t.settle := Host.Outcome.next.inj (hanswer.symm.trans hnext)
  have hbeats : t.ang.beats = true := by rw [hframe]; rfl
  have hmodu : t.settle.modu = t.modu := settle_modu_of_beats (hsettle ▸ cfgWritten_live) hbeats
  have hused : (t.lhb 0).cfg = 0x3C0#32 := by
    rw [State.lhb, ← hmodu, ← hsettle]
    exact cfgWritten_boundary
  rw [hused, cfgWritten_written] at hcfg
  exact absurd hcfg (by decide)

end

section
/-! PROOFS. The words of the loop slots a host writes: staging, commit and set-point, and the release of a held slot and the
snapshot (R191, R192, R196, R199, R200, R202). -/

namespace Sys2Proof.Machine

/-! ## Writes a block admits -/

theorem gives_hostWord {s : State} {h page m o : Nat} {v : Word} {p : State → Prop} (ha : s.admits h page m = true)
    (hp : p (s.hostPut h o v)) : Gives (hostWord s h o v) p := by
  obtain ⟨hlive, hh⟩ := live_of_admits ha
  exact gives_byHost (f := fun s => s.hostPut h o v) hlive hh hp

theorem gives_slotPut {s : State} {h page m i b : Nat} {v : Word} {p : State → Prop} (ha : s.admits h page m = true)
    (hi : i < 1024) (hb : b < 0x80) (hp : p (s.hostPut h (A.SLOT i b) v)) : Gives (slotPut s h i b v) p := by
  obtain ⟨hlive, hh⟩ := live_of_admits ha
  exact gives_running (f := fun s => s.hostPut h (A.SLOT i b) v) hlive (by simp [hh, hi, hb]) hp

/-! ## Words of the slot table -/

/-- Where the words of a slot entry lie. -/
theorem slot_place {i b : Nat} (hi : i < 1024) (hb : b < 0x80) : 0x1100000 ≤ A.SLOT i b ∧ A.SLOT i b < 0x1120000 ∧
    (A.SLOT i b - 0x1100000) / 0x80 = i ∧ A.SLOT i b % 0x80 = b := by
  unfold A.SLOT
  omega

theorem pageOf_slot {i b : Nat} (hi : i < 1024) (hb : b < 0x80) : pageOf (A.SLOT i b) = 0x70 := by
  obtain ⟨hlo, hhi, -⟩ := slot_place hi hb
  unfold pageOf
  rw [if_neg (by omega), if_neg (by omega), if_pos (by omega)]

theorem tableWrite_slot {i b : Nat} (s : State) (h : Nat) (v : Word) (hi : i < 1024) (hb : b < 0x80) :
    s.tableWrite h (A.SLOT i b) v = s.access h (A.SLOT i b) fun s => s.slotWrite h i b v := by
  obtain ⟨hlo, hhi, hslot, hword⟩ := slot_place hi hb
  unfold State.tableWrite
  rw [if_neg (by omega), if_pos ⟨hlo, hhi⟩, hslot, hword]

/-- A host's write of a word of a slot entry that no check refuses. -/
theorem hostPut_slot {s t : State} {h i b : Nat} {v : Word} (hi : i < 1024) (hb : b < 0x80) (h4 : b % 4 = 0)
    (hw : (s.disarm h 0x70).slotWrite h i b v = (t, .ok)) : s.hostPut h (A.SLOT i b) v = t.mended (A.SLOT i b) := by
  obtain ⟨hlo, hhi, -, hword⟩ := slot_place hi hb
  refine hostPut_table (by omega) (by omega) (by omega) ?_
  rw [tableWrite_slot s h v hi hb]
  refine access_ok ?_
  rw [pageOf_slot hi hb]
  exact hw

/-- The second half of a pair in the window is a write of the word after the first. -/
theorem hostComplete_eq_hostPut {s : State} {h o : Nat} {v : Word} (ho : o + 4 < spaceBase) :
    s.hostComplete h o v = s.hostPut h (o + 4) (~~~ v) := by
  unfold State.hostComplete State.hostPut
  rw [if_neg (by omega)]

/-! ## Staging and commit (R199, R200) -/

/-- The state in which a word of a slot is staged. -/
def State.slotStaged (s : State) (h i b : Nat) (v : Word) : State :=
  (s.disarm h 0x70).modHosts fun q => { q with staging := Map.insert (h * 0x8000 + i * 0x20 + b / 4) v q.staging }

theorem hostPut_staging {s : State} {h i b : Nat} (v : Word) (ha : s.admits h 0x70 0x1FE = true) (hi : i < 1024) (hlo : 4 ≤ b)
    (hhi : b < 0x40) (h4 : b % 4 = 0) :
    s.hostPut h (A.SLOT i b) v = (s.slotStaged h i b v).mended (A.SLOT i b) := by
  refine hostPut_slot hi (by omega) h4 ?_
  unfold State.slotWrite
  dsimp only
  rw [if_neg (by omega), if_pos hhi, judged_ok (firstOf_ok (common_clear (s := s.disarm h 0x70) ha))]
  rfl

theorem hostPut_commit {s : State} {h i : Nat} {v : Word} (ha : s.admits h 0x70 mStop = true) (hi : i < 1024)
    (hok : s.slotEntryOk (s.slotRegs h i v) i = true) :
    s.hostPut h (A.SLOT i 0) v = ((s.disarm h 0x70).commitSlot h i (s.slotRegs h i v)).mended (A.SLOT i 0) := by
  have hentry : (s.disarm h 0x70).slotEntryOk ((s.disarm h 0x70).slotRegs h i v) i = true := hok
  refine hostPut_slot hi (by decide) rfl ?_
  unfold State.slotWrite
  dsimp only
  rw [if_pos rfl, hentry, if_pos (firstOf_ok (common_clear (s := s.disarm h 0x70) ha))]
  rfl

/-- No word of the committed set stays staged. -/
theorem commitSlot_drops (s : State) (h i : Nat) (regs : List (Nat × Word)) :
    ∀ p ∈ (s.commitSlot h i regs).hosts.staging, p.1 / 0x20 ≠ h * 0x400 + i := by
  intro p hp
  simpa using List.of_mem_filter hp

/-! ## Set-points (R191, R192) -/

/-- What waits once the word at `o` has been set: in RIDE that word too. -/
def State.waitsWith (s : State) (o : Nat) : List Nat :=
  if s.modes.cur = .ride ∧ !s.rideWait.contains o then o :: s.rideWait else s.rideWait

theorem waitsWith_eq (s : State) (o : Nat) :
    (if s.modes.cur = .ride ∧ !s.rideWait.contains o then { s with rideWait := o :: s.rideWait } else s) =
      { s with rideWait := s.waitsWith o } := by
  unfold State.waitsWith
  split <;> rfl

theorem mem_waitsWith {s : State} (o : Nat) (hride : s.modes.cur = .ride) : o ∈ s.waitsWith o := by
  unfold State.waitsWith
  split
  · exact List.mem_cons_self
  · rename_i hin
    simpa [hride] using hin

theorem waitsWith_of_not_ride {s : State} (o : Nat) (hride : s.modes.cur ≠ .ride) : s.waitsWith o = s.rideWait :=
  if_neg fun hc => hride hc.1

/-- The state in which a set-point is stored. -/
def State.setpointTaken (s : State) (h i : Nat) (v : Word) : State :=
  { ((s.disarm h 0x70).emptied h (A.SLOT i 0x40)).putReg (A.SLOT i 0x40) v with rideWait := s.waitsWith (A.SLOT i 0x40) }

theorem reg_setpointTaken {s : State} (hs : s.Canon) (h i : Nat) (v : Word) (o : Nat) :
    (s.setpointTaken h i v).reg o = if o = A.SLOT i 0x40 then v else s.reg o := by
  obtain ⟨hregs, -⟩ := hs
  by_cases ho : o = A.SLOT i 0x40
  · rw [if_pos ho, ho]
    exact Map.get_put_self hregs
  · rw [if_neg ho]
    exact Map.get_put_other ho

theorem complete_setpoint {s : State} {h i : Nat} {v : Word} (hi : i < 1024) (hp : s.pends h (A.SLOT i 0x40) mSet v = true) :
    s.hostComplete h (A.SLOT i 0x40) v = (s.setpointTaken h i v).mended (A.SLOT i 0x44) := by
  obtain ⟨ha, hv⟩ := pends_iff.mp hp
  rw [pageOf_slot hi (by decide)] at ha
  obtain ⟨-, hhi, -⟩ := slot_place (b := 0x40) hi (by decide)
  rw [hostComplete_eq_hostPut (by simp only [spaceBase]; omega)]
  refine hostPut_slot (b := 0x44) hi (by decide) rfl ?_
  unfold State.slotWrite
  dsimp only
  rw [if_neg (by decide), if_neg (by decide), if_neg (by decide), if_pos rfl,
    complement_ok (s := s.disarm h 0x70) hv rfl
      (firstOf_ok (common_clear (s := (s.disarm h 0x70).emptied h (A.SLOT i 0x40)) ha))]
  exact congrArg (·, Status.ok) (waitsWith_eq (((s.disarm h 0x70).emptied h (A.SLOT i 0x40)).putReg (A.SLOT i 0x40) v) _)

/-! ## Release (R196) -/

theorem judgeLoop_loop (s : State) : s.judgeLoop.loop = s.loop := by
  unfold State.judgeLoop State.causeIs
  split
  · exact causeOn_loop ..
  · rfl

/-- A held slot as its release leaves it. -/
def State.freedSlot (s : State) (i : Nat) (q : LoopSlot) : LoopSlot :=
  { q with
    st := if s.modes.cur.inMask (slotModes (s.sw i 0)) then .run else .idle, hcause := 0, released := true,
    frzRef := if (s.slot i).hcause = 2 then none else q.frzRef, frz := if (s.slot i).hcause = 2 then 0 else q.frz }

/-- Of the slots, a release changes the one it frees. -/
theorem releaseSlot_slots (s : State) (i : Nat) :
    (s.releaseSlot i).loop.slots = (s.modSlot i (s.freedSlot i)).loop.slots := by
  unfold State.releaseSlot
  dsimp only
  rw [judgeLoop_loop]
  cases s.ang.beats <;> rfl

theorem slot_congr {s t : State} (h : t.loop.slots = s.loop.slots) (j : Nat) : t.slot j = s.slot j := by
  unfold State.slot
  rw [h]

theorem mended_slot (s : State) (o j : Nat) : (s.mended o).slot j = s.slot j := slot_congr (by rw [State.mended_loop]) j

theorem slot_releaseSlot_self {s : State} {i : Nat} (h : Map.rising s.loop.slots = true) :
    (s.releaseSlot i).slot i = s.freedSlot i (s.slot i) :=
  (slot_congr (releaseSlot_slots s i) i).trans (slot_modSlot_self h)

theorem slot_releaseSlot_other {s : State} {i j : Nat} (h : j ≠ i) : (s.releaseSlot i).slot j = s.slot j :=
  (slot_congr (releaseSlot_slots s i) j).trans (slot_modSlot_other h)

theorem regWrite_release {r : Row} (hr : rowAt A.LPE_RELEASE = some r) (s : State) (h : Nat) (v : Word) :
    s.regWrite h A.LPE_RELEASE v = s.lpeRelease h v r := by
  have hcls : (rowAt A.LPE_RELEASE).map (·.cls) = some .wo := rfl
  rw [hr] at hcls
  rw [regWrite_rw hr (by simp [Option.some.inj hcls])]
  rfl

/-- A release that no check refuses frees the slot it names if that slot is held. -/
theorem hostPut_release {s : State} {h : Nat} {v : Word} {r : Row} (hr : rowAt A.LPE_RELEASE = some r) (hok : r.ok v = true)
    (ha : s.admits h 0x70 0x1FE = true)
    (hinputs : (s.slot (fld v 0 10)).st = .outHold → (s.slot (fld v 0 10)).hcause = 1 → s.inputsOk (fld v 0 10) = true) :
    s.hostPut h A.LPE_RELEASE v =
      (if (s.slot (fld v 0 10)).st = .outHold then (s.disarm h 0x70).releaseSlot (fld v 0 10) else s.disarm h 0x70).mended
        A.LPE_RELEASE := by
  have hready : ((s.slot (fld v 0 10)).st == .outHold && (s.slot (fld v 0 10)).hcause == 1 && !s.inputsOk (fld v 0 10)) = false := by
    rw [Bool.eq_false_iff]
    intro hc
    simp only [Bool.and_eq_true, beq_iff_eq, Bool.not_eq_true'] at hc
    obtain ⟨⟨hheld, hcause⟩, hbad⟩ := hc
    simp [hinputs hheld hcause] at hbad
  have hcheck : ∀ p ∈ [(!r.ok v, Status.complementMismatch), ((s.slot (fld v 0 10)).st == .outHold &&
      (s.slot (fld v 0 10)).hcause == 1 && !s.inputsOk (fld v 0 10), Status.notReady)], p.1 = false := by
    simp [hok, hready]
  refine hostPut_ok (by decide) (by decide) (by decide) (by decide) ?_
  rw [regWrite_release hr, State.lpeRelease]
  refine (judged_ok (firstOf_append (common_clear (s := s.disarm h 0x70) ha) hcheck)).trans ?_
  simp only [beq_iff_eq]
  rfl

/-! ## Snapshot (R202) -/

theorem regWrite_snap (s : State) (h : Nat) (v : Word) : s.regWrite h A.LPE_SNAP v =
    s.lpeSnap h v { first := A.LPE_SNAP, cls := .wo, mask := 0xFFFFFFFF#32, ok := fun v => v == 1#32 || v == 2#32 } := rfl

theorem hostPut_capture {s : State} {h : Nat} (ha : s.admits h 0x70 0x1FE = true) (h0 : (s.engine 0).inStep = true)
    (h1 : (s.engine 1).inStep = true) (hsnap : s.loop.snap = none) (hreq : s.loop.snapReq = false)
    (harm : s.loop.snapArm = false) :
    s.hostPut h A.LPE_SNAP 1#32 = (s.disarm h 0x70).snapAsk.mended A.LPE_SNAP := by
  refine hostPut_ok (by decide) (by decide) (by decide) (by decide) ?_
  rw [regWrite_snap, State.lpeSnap]
  refine judged_ok (firstOf_append (common_clear (s := s.disarm h 0x70) ha) ?_)
  have hboth : ((s.disarm h 0x70).engine 0).inStep = true ∧ ((s.disarm h 0x70).engine 1).inStep = true := ⟨h0, h1⟩
  simp [hboth, hsnap, hreq, harm, show pageOf A.LPE_SNAP = 0x70 from rfl]

theorem hostPut_free {s : State} {h : Nat} (ha : s.admits h 0x70 0x1FE = true) :
    s.hostPut h A.LPE_SNAP 2#32 = (s.disarm h 0x70).snapFree.mended A.LPE_SNAP := by
  refine hostPut_ok (by decide) (by decide) (by decide) (by decide) ?_
  rw [regWrite_snap, State.lpeSnap]
  exact judged_ok (firstOf_append (common_clear (s := s.disarm h 0x70) ha) (by simp))

end Sys2Proof.Machine

open Sys2Proof Sys2Proof.Machine

/-- Settles O17: each accepted write is the equation of its word (`hostPut_staging`, `hostPut_commit`, `complete_setpoint`,
`hostPut_release`, `hostPut_capture`, `hostPut_free`), and a release frees the slot it names alone. -/
theorem loopSlotsCommit : Obligations.LoopSlotsCommit := by
  unfold Obligations.LoopSlotsCommit
  refine ⟨?staging, ?commit, ?setpoint, ?release, ?notHeld, ?capture, ?free⟩
  case staging =>
    intro s h i b v ha hi hlo hhi h4
    refine gives_slotPut ha hi (by omega) ?_
    rw [hostPut_staging v ha hi hlo hhi h4, mended_eq]
    exact ⟨Map.find?_insert_self _ _ _, rfl⟩
  case commit =>
    intro s h i v ha hi hok
    refine gives_slotPut ha hi (by decide) ?_
    rw [hostPut_commit ha hi hok, mended_eq]
    exact ⟨rfl, commitSlot_drops (s.disarm h 0x70) h i (s.slotRegs h i v), rfl, rfl⟩
  case setpoint =>
    intro s h i v hs hi hp
    obtain ⟨hlive, hh⟩ := live_of_admits (pends_iff.mp hp).1
    refine gives_running (c := decide (h < 4) && decide (i < 1024)) (f := fun s => s.hostComplete h (A.SLOT i 0x40) v) hlive
      (by simp [hh, hi]) ?_
    rw [complete_setpoint hi hp, mended_eq]
    exact ⟨reg_setpointTaken hs h i v, rfl, mem_waitsWith _, waitsWith_of_not_ride _, rfl⟩
  case release =>
    intro s h v r hr hok ha hrising hheld hinputs
    refine gives_hostWord ha ?_
    rw [hostPut_release hr hok ha fun _ => hinputs, if_pos hheld]
    simp only [mended_slot]
    rw [slot_releaseSlot_self (s := s.disarm h 0x70) hrising]
    exact ⟨rfl, rfl, rfl, fun j hj => slot_releaseSlot_other hj⟩
  case notHeld =>
    intro s h v r hr hok ha hfree
    refine gives_hostWord ha ?_
    rw [hostPut_release hr hok ha fun hheld => absurd hheld hfree, if_neg hfree, mended_eq]
    rfl
  case capture =>
    intro s h ha h0 h1 hsnap hreq harm
    refine gives_hostWord ha ?_
    rw [hostPut_capture ha h0 h1 hsnap hreq harm, mended_eq]
    rfl
  case free =>
    intro s h ha
    refine gives_hostWord ha ?_
    rw [hostPut_free ha, mended_eq]
    rfl

end

section
/-! PROOFS. Transfers between FOLLOW and FORM, and the neutral guard (R217, R221, R222). -/

namespace Sys2Proof.Machine

theorem neutralOff_advance (s : State) (t : Nat) : (s.advance t).neutralOff =
    { s.advance t with grd := { s.grd with neut := false, neutLow := none, neutRun := 0 } } := rfl

end Sys2Proof.Machine

open Sys2Proof Sys2Proof.Machine

/-- Settles O19: a completed transfer decides the mode and posts its event (`State.toFormDone`, `State.toFollowDone`), NEUT is set
with its event, whose flag stands in every window (`flags_event`), and is cleared at the end of its second. -/
theorem transfersAndNeutral : Obligations.TransfersAndNeutral := by
  unfold Obligations.TransfersAndNeutral
  refine ⟨?toForm, ?toFollow, ?neutral, ?clear⟩
  case toForm =>
    intro s hlive hdue
    exact gives_running hlive hdue rfl
  case toFollow =>
    intro s hlive hdue
    exact gives_running hlive hdue rfl
  case neutral =>
    intro s hlive hs hdue
    obtain ⟨-, -, -, hirq, -⟩ := hs
    exact gives_running hlive hdue ⟨rfl, fun h hh => flags_event (s := s.modGrd _) hirq (by decide) hh⟩
  case clear =>
    intro s a hlive hneut hlow
    refine gives_running (f := State.neutralEnds) hlive hneut ?_
    simp only [State.neutralEnds, hlow]
    exact neutralOff_advance s _

end

section
/-! PROOFS. A transition that is still under way after a command shows that no mode has been entered and no lock missed behind it
(R46, R53, R54, R71), and the state between two beats that refutes `CloseSequenceAndOpening` (R24, R229, R230). -/

namespace Sys2Proof.Machine

/-! ## Entering a mode ends the transition under way (R53) -/

theorem foldl_modes {α : Type} {f : State → α → State} (h : ∀ s a, (f s a).modes = s.modes) (l : List α) (s : State) :
    (l.foldl f s).modes = s.modes := foldl_keeps h l s

theorem judgeWrite_modes (s : State) (result reason : Nat) : (s.judgeWrite result reason).modes = s.modes := by
  have hdue (t : State) : t.dueFollow.modes = t.modes := by
    unfold State.dueFollow
    split <;> rfl
  simp [State.judgeWrite, hdue]

theorem judgeAbort_modes (s : State) : s.judgeAbort.modes = s.modes := by
  unfold State.judgeAbort State.judgeEnd
  (repeat' split) <;> simp [judgeWrite_modes]

theorem preset_modes (s : State) (role : Nat) (x : Int) : (s.preset role x).modes = s.modes := by
  unfold State.preset
  split <;> rfl

theorem queueAll_modes (s : State) : s.queueAll.modes = s.modes := by
  unfold State.queueAll
  exact (foldl_modes (f := State.queueCell) (fun _ _ => rfl) _ _).trans (foldl_modes (fun s c => State.modTrk_modes s c _) _ _)

theorem cellsActive_modes (s : State) : s.cellsActive.modes = s.modes := by
  unfold State.cellsActive
  exact foldl_modes (fun s c => by split <;> rfl) _ _

theorem cellsFollow_modes (s : State) : s.cellsFollow.modes = s.modes := by
  unfold State.cellsFollow
  exact foldl_modes (fun s c => by split <;> rfl) _ _

theorem slotsEnter_modes (s : State) (old new : Mode) : (s.slotsEnter old new).modes = s.modes := by
  unfold State.slotsEnter
  exact foldl_modes (fun s (p : Nat × LoopSlot) => State.modSlot_modes s p.1 _) _ _

theorem sourceFor_modes (s : State) (m : Mode) : (s.sourceFor m).modes = s.modes := by
  unfold State.sourceFor
  dsimp only
  split <;> rfl

theorem dropEdit_modes (s : State) : s.dropEdit.modes = s.modes := by
  unfold State.dropEdit
  split <;> rfl

theorem enterHoldMode_modes (s : State) : s.enterHoldMode.modes = s.modes := by
  simp [State.enterHoldMode, (closeFails_ends _ _).1, judgeAbort_modes, State.rtiHold, State.groupsOff, groupOff_modes]

theorem leaveRide_modes (s : State) (m : Mode) : (s.leaveRide m).modes = s.modes := by
  unfold State.leaveRide
  dsimp only
  split <;> simp [State.thawTrackers, preset_modes]

theorem enterRun_modes (s : State) (m : Mode) : (s.enterRun m).modes = s.modes := by
  unfold State.enterRun
  dsimp only
  split <;> simp [queueAll_modes, State.sigStart]

/-- A transfer given up ends the transition it was. -/
theorem dropXfer_trans {s : State} (h : s.grd.xfer ≠ .none ∨ s.modes.trans = false) : s.dropXfer.modes.trans = false := by
  unfold State.dropXfer
  split
  · rename_i hnone
    exact h.resolve_left (absurd hnone)
  · exact abandon_trans _

/-- A latched cause ends the transition under way (R54). -/
theorem latched_trans (s : State) (bit : Nat) : (s.latched bit).modes.trans = false := by
  unfold State.latched
  dsimp only
  rw [holdActs_modes]
  split
  · exact abandon_trans _
  · split
    · exact abandon_trans _
    · rw [trigger_modes]
      exact abandon_trans _
  · exact abandon_trans _

theorem causeOn_trans {s : State} (bit : Nat) (h : s.modes.trans = false) : (s.causeOn bit).modes.trans = false := by
  unfold State.causeOn
  dsimp only
  (repeat' split)
  · exact h
  · exact h
  · exact latched_trans _ _

theorem judgeCells_trans {s : State} (h : s.modes.trans = false) : s.judgeCells.modes.trans = false := by
  unfold State.judgeCells State.causeIs
  split
  · exact causeOn_trans _ h
  · exact h

theorem enterRide_trans {s : State} (h : s.modes.trans = false) : s.enterRide.modes.trans = false := by
  simp [State.enterRide, trigger_modes, State.freezeTrackers, judgeAbort_modes, dropXfer_trans (.inr h)]

theorem modeActs_trans {s : State} (old m : Mode) (h : s.modes.trans = false) : (s.modeActs old m).modes.trans = false := by
  unfold State.modeActs
  (repeat' split) <;> simp [enterHoldMode_modes, enterRide_trans h, cellsActive_modes, leaveRide_modes, enterRun_modes, h]

theorem enterMode_trans (s : State) (m : Mode) : (s.enterMode m).modes.trans = false := by
  unfold State.enterMode
  dsimp only
  rw [State.event_modes]
  refine judgeCells_trans ?_
  dsimp only
  rw [dropEdit_modes, cellsFollow_modes]
  refine modeActs_trans _ _ ?_
  rw [sourceFor_modes, slotsEnter_modes]
  rfl

/-- A device still in transition has not entered a decided mode. -/
theorem modeNext_of_trans {s : State} (h : s.modeNext.modes.trans = true) : s.modeNext = s := by
  unfold State.modeNext at h ⊢
  split
  · rename_i m hm
    simp [hm, enterMode_trans] at h
  · rfl

/-! ## What follows a command (R71, R458) -/

/-- Missing lock ends the transition under way wherever it acts (R71, R224). -/
theorem afterLock_of_trans {s : State} (h : s.afterLock.modes.trans = true) : s.afterLock = s := by
  unfold State.afterLock at h ⊢
  dsimp only at h ⊢
  split
  · rfl
  · rename_i hlock
    rw [if_neg hlock] at h
    split
    · rename_i hleft
      rw [if_pos hleft, (stopRun_keepsRequest _).modes] at h
      exact absurd h (by simp)
    · rename_i hstays
      rw [if_neg hstays] at h
      split
      · rename_i hxfer
        rw [if_pos hxfer, dropXfer_trans (.inl (by simp [hxfer]))] at h
        exact absurd h (by decide)
      · rfl

theorem ptpFollow_modes_grd (s : State) : s.ptpFollow.modes = s.modes ∧ s.ptpFollow.grd = s.grd := by
  unfold State.ptpFollow
  dsimp only
  constructor <;> (repeat' split) <;> simp

theorem readyTime_modes_grd (s : State) : s.readyTime.modes = s.modes ∧ s.readyTime.grd = s.grd := by
  unfold State.readyTime
  split <;> exact ⟨rfl, rfl⟩

theorem flushOwn_modes_grd (n : Nat) (s : State) : (s.flushOwn n).modes = s.modes ∧ (s.flushOwn n).grd = s.grd := by
  induction n generalizing s with
  | zero => exact ⟨rfl, rfl⟩
  | succ n ih =>
    rw [State.flushOwn, (ih _).1, (ih _).2]
    have hraise (t : State) (x : Event × Option Bool) :
        (t.raiseAs x.2 x.1).modes = t.modes ∧ (t.raiseAs x.2 x.1).grd = t.grd := ⟨rfl, rfl⟩
    exact ⟨foldl_modes (fun t x => (hraise t x).1) _ _, foldl_keeps (fun t x => (hraise t x).2) _ _⟩

/-- A device still in transition has not been reset by the boundary-scan port. -/
theorem scanFollow_of_trans {s : State} (h : s.scanFollow.modes.trans = true) :
    s.modes.trans = true ∧ s.scanFollow.grd = s.grd := by
  unfold State.scanFollow State.scanEnds at h ⊢
  dsimp only at h ⊢
  split at h
  · rename_i hsame
    rw [if_pos hsame]
    exact ⟨h, rfl⟩
  · rename_i hchanges
    rw [if_neg hchanges]
    split at h
    · obtain ⟨q, hreset⟩ := intoReset_eq (s.modPwr fun p => { p with scan := none }) 7
      rw [hreset] at h
      exact absurd h (by simp [State.wiped, modesReset])
    · rename_i hidle
      rw [if_neg hidle]
      exact ⟨h, rfl⟩

/-- A device still in transition after a command has its grid unit as the command has left it. -/
theorem settle_grd_of_trans {s : State} (h : s.settle.modes.trans = true) : s.settle.grd = s.grd := by
  unfold State.settle at h ⊢
  dsimp only at h ⊢
  split
  · rename_i hdead
    rw [if_pos hdead] at h
    exact (scanFollow_of_trans h).2
  · rename_i hlive
    rw [if_neg hlive] at h
    obtain ⟨htrans, hgrd⟩ := scanFollow_of_trans h
    rw [hgrd]
    simp only [flushOwn_modes_grd, readyTime_modes_grd, ptpFollow_modes_grd] at htrans ⊢
    have hlock := afterLock_of_trans htrans
    rw [hlock] at htrans ⊢
    split
    · rfl
    · rename_i hbeats
      rw [if_neg hbeats] at htrans
      rw [modeNext_of_trans htrans]

/-! ## An opening asked for since the last beat start -/

/-- A device in FOLLOW whose beats run and whose currents have stayed below 0.02 pu for two cycles, every group closed. -/
def idleFollow : State :=
  { State.reset with
    modes := { modesReset with cur := .follow, prev := some .energize, tgt := .follow }
    ang := { angleReset with beats := true, lock := true }
    grd := { grdReset with step := 5, result := 1, lowBeats := 800 }
    saf := { safReset with groups := List.replicate 4 { groupReset with cmd := true, h := true, l := true, conf := 2 } } }

/-- It has accepted GRD_OPEN: the references are to fall, and the engines take that up at the next beat start (R24, R230; log
entry 228). -/
def openingAsked : State := idleFollow.openNow

theorem openingAsked_falls : openingAsked.grd.stop = .ramp 1 := by decide +kernel
theorem openingAsked_low : 2 * openingAsked.ang.div ≤ openingAsked.grd.lowBeats := by decide +kernel
theorem openingAsked_held : openingAsked.stopNow = .none := by decide +kernel

/-- What follows a command there leaves the opening as it is. -/
theorem openingAsked_settled : openingAsked.settle.modes.trans = true ∧ openingAsked.settle.grd.stop = .ramp 1 := by
  decide +kernel

/-- While the engines have no opening yet, none of its steps is taken. -/
theorem stopRun_of_none {s : State} (h : s.stopNow = .none) : s.stopRun = s := by
  have hstep : s.stopStep = s := by simp only [State.stopStep, h]
  simp only [State.stopRun, hstep]

theorem openingAsked_answer : exec .stopZeroCurrent openingAsked = .next openingAsked.settle := by
  have hruns : exec .stopZeroCurrent openingAsked = .next openingAsked.stopRun.settle :=
    congrArg Host.Outcome.next (if_pos (by decide +kernel))
  rw [hruns, stopRun_of_none openingAsked_held]

end Sys2Proof.Machine

open Sys2Proof Sys2Proof.Machine

/-- Refutes O18: in `openingAsked` a host has asked for the opening since the last beat start and the currents are low already.
STOP_ZERO_CURRENT then opens nothing, for the engines go on without an opening until the next beat start (log entry 228), where
the statement has the main group commanded off at once. -/
theorem not_closeSequenceAndOpening : ¬ Obligations.CloseSequenceAndOpening := by
  unfold Obligations.CloseSequenceAndOpening
  rintro ⟨-, -, -, -, -, -, -, -, -, -, -, -, -, hzero, -⟩
  obtain ⟨t, hnext, -, hopened⟩ := hzero openingAsked 1 (by decide +kernel) openingAsked_falls openingAsked_low
  have hsettle : openingAsked.settle = t.settle := Host.Outcome.next.inj (openingAsked_answer.symm.trans hnext)
  obtain ⟨htrans, hfalls⟩ := openingAsked_settled
  rw [hsettle] at htrans hfalls
  rw [settle_grd_of_trans htrans] at hfalls
  exact hopened 1 hfalls

end

section
/-! PROOFS. A cell whose target does not come from its tracker makes no step (R239, R240), and a state no run reaches in which such
a cell's tracker stands in TRACK: the case that refutes `TrackersSweepAndDispatch`. -/

namespace Sys2Proof.Machine

/-! ## What follows a command leaves the power unit -/

theorem flushOwn_bpt (n : Nat) (s : State) : (s.flushOwn n).bpt = s.bpt := by
  have hraise (t : State) (x : Event × Option Bool) : (t.raiseAs x.2 x.1).bpt = t.bpt := rfl
  induction n generalizing s with
  | zero => rfl
  | succ n ih =>
    rw [State.flushOwn, ih]
    exact foldl_keeps hraise _ _

theorem ptpFollow_bpt (s : State) : s.ptpFollow.bpt = s.bpt := by
  unfold State.ptpFollow
  dsimp only
  (repeat' split) <;> simp

theorem readyTime_bpt (s : State) : s.readyTime.bpt = s.bpt := by
  unfold State.readyTime
  split <;> rfl

/-- Neither a decided mode, missing lock nor the boundary-scan port acts after a command: beats run in lock, and no pin-driving
instruction is loaded. -/
def State.InLock (s : State) : Prop :=
  s.live = true ∧ s.ang.beats = true ∧ s.ang.lock = true ∧ s.pwr.scan = none ∧ s.pwr.ir = 1

theorem settle_bpt_of_inLock {s : State} (h : s.InLock) : s.settle.bpt = s.bpt := by
  obtain ⟨hlive, hbeats, hlock, hscan, hir⟩ := h
  have hafter : s.afterLock = s := if_pos hlock
  obtain ⟨-, hptp⟩ := ptpFollow_regs_pwr s
  have hready : s.ptpFollow.readyTime.pwr.scan = none ∧ s.ptpFollow.readyTime.pwr.ir = 1 := by
    unfold State.readyTime
    split <;> simp [hptp, hscan, hir]
  obtain ⟨-, hflush⟩ := flushOwn_regs_pwr 3 s.ptpFollow.readyTime
  have hstays : (s.ptpFollow.readyTime.flushOwn 3).scanFollow = s.ptpFollow.readyTime.flushOwn 3 := by
    simp [State.scanFollow, State.scanWanted, hflush, hready]
  simp [State.settle, hlive, hbeats, hafter, hstays, flushOwn_bpt, readyTime_bpt, ptpFollow_bpt]

/-! ## The end of a step period (R239, R240) -/

/-- The end of a period changes the trackers alone. -/
theorem periodEnd_eq (s : State) (c : Nat) :
    ∃ trackers, s.periodEnd c = { s with bpt := { s.bpt with cells := trackers } } := by
  unfold State.periodEnd
  dsimp only
  split <;> exact ⟨_, rfl⟩

/-- A cell that is not tracked takes its PMEAS and makes no step. -/
theorem periodEnd_steps_of_untracked {s : State} {c : Nat} (hw : Map.wf (fun _ => trackerReset) s.bpt.cells = true)
    (h : s.tracked c = false) : ((s.periodEnd c).trk c).steps = (s.trk c).steps := by
  have hoff : s.trkState c = .off := by simp [State.trkState, h]
  unfold State.periodEnd
  dsimp only
  rw [hoff]
  split
  · simp [trk_modTrk hw]
  · simp [trk_modTrk hw]

/-! ## A storage cell's tracker in TRACK -/

/-- A device in FOLLOW in which the period of cell 0 has run: a storage cell, which has no string to track, whose tracker stands
in TRACK all the same, which no run reaches: the change of its entry's type clears the tracker (R247). -/
def storageInTrack : State :=
  { State.reset with
    used := [(A.CELL 0 0, 0x80000004#32)]
    modes := { modesReset with cur := .follow, tgt := .follow }
    ang := { angleReset with beats := true, lock := true }
    rings := { ringsReset with cells := [(0, { cellLinkReset with st := .active })] }
    bpt := { bptReset with cells :=
      [(0, { trackerReset with st := .track, cycles := 255, last := { windowReset with beats := 1 } })] } }

theorem storageInTrack_canon : storageInTrack.Canon := ⟨rfl, rfl, rfl, rfl, rfl, rfl, rfl, rfl⟩
theorem storageInTrack_inLock : storageInTrack.InLock := ⟨rfl, rfl, rfl, rfl, rfl⟩
theorem storageInTrack_due : storageInTrack.periodDue 0 = true := rfl
theorem storageInTrack_valid : storageInTrack.windowVoid (storageInTrack.trk 0).last = false := rfl
theorem storageInTrack_untracked : storageInTrack.tracked 0 = false := rfl

end Sys2Proof.Machine

open Sys2Proof Sys2Proof.Machine

/-- Refutes O20: in `storageInTrack` the period of a storage cell ends with a valid window while its tracker stands in TRACK. A cell
that is not tracked makes no step (`periodEnd_steps_of_untracked`), where the statement has STEPS count one. -/
theorem not_trackersSweepAndDispatch : ¬ Obligations.TrackersSweepAndDispatch := by
  unfold Obligations.TrackersSweepAndDispatch
  rintro ⟨hperiod, -⟩
  obtain ⟨hlive, hlock⟩ := storageInTrack_inLock
  obtain ⟨t, hnext, -, hvalid, -, hframe⟩ := hperiod storageInTrack 0 hlive storageInTrack_canon storageInTrack_due
  obtain ⟨-, -, -, -, hstep, -⟩ := hvalid storageInTrack_valid
  obtain ⟨-, hcounted⟩ := hstep rfl
  have hanswer : exec (.trackerPeriodEnd 0) storageInTrack = .next (storageInTrack.periodEnd 0).settle :=
    congrArg Host.Outcome.next (if_pos (by rw [hlive, storageInTrack_due]; rfl))
  have hsettle : (storageInTrack.periodEnd 0).settle = t.settle := Host.Outcome.next.inj (hanswer.symm.trans hnext)
  have hbpt : t.bpt = (storageInTrack.periodEnd 0).bpt := by
    obtain ⟨trackers, hended⟩ := periodEnd_eq storageInTrack 0
    have hlockT : t.InLock := by rw [hframe]; exact ⟨hlive, hlock⟩
    have hlockEnd : (storageInTrack.periodEnd 0).InLock := by rw [hended]; exact ⟨hlive, hlock⟩
    rw [← settle_bpt_of_inLock hlockT, ← hsettle, settle_bpt_of_inLock hlockEnd]
  have hstays : (t.trk 0).steps = (storageInTrack.trk 0).steps := by
    obtain ⟨-, -, -, -, -, -, -, htrackers⟩ := storageInTrack_canon
    rw [← periodEnd_steps_of_untracked htrackers storageInTrack_untracked, State.trk, hbpt]
    rfl
  rw [hstays] at hcounted
  exact absurd hcounted (by decide)

end

section
/-! PROOFS. What judging the cause CELLS leaves of the cells, the pool and the pending flags (R49, R55, R350). -/

namespace Sys2Proof.Machine

/-! ## Flags that stand over a change -/

/-- No pending flag of the first table is cleared in the second, which stays canonical. -/
def FlagsStand (m n : List (Nat × Word)) : Prop :=
  Map.wf (fun _ => 0#32) m = true → Map.wf (fun _ => 0#32) n = true ∧
    ∀ k b, bitAt (Map.get (fun _ => 0#32) k m) b = true → bitAt (Map.get (fun _ => 0#32) k n) b = true

theorem FlagsStand.refl (m : List (Nat × Word)) : FlagsStand m m := fun hw => ⟨hw, fun _ _ hb => hb⟩

theorem FlagsStand.eventIf {m : List (Nat × Word)} {s : State} (h : FlagsStand m s.ev.irq) (c : Bool) (page n sub : Nat)
    (d : List Nat) : FlagsStand m (s.eventIf c page n sub d).ev.irq := by
  intro hw
  obtain ⟨hws, hms⟩ := h hw
  obtain ⟨hwf, hkeeps⟩ := eventIf_flags c page n sub d hws
  exact ⟨hwf, fun k b hb => by simpa [Fabric.flags] using hkeeps 0 k b (by simpa [Fabric.flags] using hms k b hb)⟩

theorem FlagsStand.event {m : List (Nat × Word)} {s : State} (h : FlagsStand m s.ev.irq) (page n sub : Nat) (d : List Nat) :
    FlagsStand m (s.event page n sub d).ev.irq := h.eventIf true page n sub d

theorem FlagsStand.trigger {m : List (Nat × Word)} {s : State} (h : FlagsStand m s.ev.irq) (src : Nat) (force : Bool) :
    FlagsStand m (s.trigger src force).ev.irq := by
  unfold State.trigger
  dsimp only
  split
  · exact h
  · split
    · exact h
    · split
      · refine FlagsStand.event ?_ _ _ _ _
        exact h
      · exact h

theorem FlagsStand.groupOff {m : List (Nat × Word)} {s : State} (h : FlagsStand m s.ev.irq) (g : Nat) :
    FlagsStand m (s.groupOff g).ev.irq := by
  unfold State.groupOff
  dsimp only
  split
  · split <;> exact h
  · refine FlagsStand.eventIf ?_ _ _ _ _ _
    exact h

theorem sendCut_irq (s : State) (k lines : Nat) : (s.sendCut k lines).ev.irq = s.ev.irq := by
  have hcell (first : Bool) (t : State) (c : Nat) : (t.cutCell first c).ev.irq = t.ev.irq := rfl
  unfold State.sendCut
  dsimp only
  refine (foldl_keeps (g := fun t : State => t.ev.irq) (hcell _) _ _).trans ?_
  (repeat' split) <;> rfl

theorem cutAll_irq (s : State) : s.cutAll.ev.irq = s.ev.irq := by
  refine foldl_keeps (g := fun t : State => t.ev.irq) (fun t k => ?_) _ s
  split
  · exact sendCut_irq t k 0
  · rfl

theorem FlagsStand.holdActs {m : List (Nat × Word)} {s : State} (h : FlagsStand m s.ev.irq) :
    FlagsStand m s.holdActs.ev.irq := by
  unfold State.holdActs State.groupsOff
  refine FlagsStand.groupOff (FlagsStand.groupOff (FlagsStand.groupOff (FlagsStand.groupOff ?_ 0) 1) 2) 3
  simpa only [State.send, cutAll_irq] using h

theorem FlagsStand.latched {m : List (Nat × Word)} {s : State} (h : FlagsStand m s.ev.irq) (bit : Nat) :
    FlagsStand m (s.latched bit).ev.irq := by
  have hacts := h.holdActs
  unfold State.latched
  dsimp only
  generalize s.holdActs = u at hacts ⊢
  split
  · refine FlagsStand.event ?_ _ _ _ _
    exact hacts
  · split
    · exact hacts
    · refine FlagsStand.trigger (FlagsStand.event ?_ _ _ _ _) _ _
      exact hacts
  · exact hacts

theorem FlagsStand.causeOn {m : List (Nat × Word)} {s : State} (h : FlagsStand m s.ev.irq) (bit : Nat) :
    FlagsStand m (s.causeOn bit).ev.irq := by
  unfold State.causeOn
  dsimp only
  split
  · exact h
  · split
    · exact h
    · refine FlagsStand.latched ?_ bit
      exact h

theorem FlagsStand.judgeCells {m : List (Nat × Word)} {s : State} (h : FlagsStand m s.ev.irq) :
    FlagsStand m s.judgeCells.ev.irq := by
  unfold State.judgeCells State.causeIs
  split
  · exact h.causeOn _
  · exact h

/-! ## Cells and pool -/

theorem sendCut_cells (s : State) (k lines : Nat) : (s.sendCut k lines).rings.cells = s.rings.cells := by
  have hcell (first : Bool) (t : State) (c : Nat) : (t.cutCell first c).rings.cells = t.rings.cells := rfl
  unfold State.sendCut
  dsimp only
  refine (foldl_keeps (g := fun t : State => t.rings.cells) (hcell _) _ _).trans ?_
  (repeat' split) <;> rfl

theorem cutAll_cells (s : State) : s.cutAll.rings.cells = s.rings.cells := by
  refine foldl_keeps (g := fun t : State => t.rings.cells) (fun t k => ?_) _ s
  split
  · exact sendCut_cells t k 0
  · rfl

theorem holdActs_cells (s : State) : s.holdActs.rings.cells = s.rings.cells := by
  simp [State.holdActs, State.groupsOff, groupOff_rings_modu, cutAll_cells]

theorem holdActs_bpt (s : State) : s.holdActs.bpt = s.bpt := by
  simpa only [State.besideCut] using congrArg State.bpt (holdActs_besideCut s)

/-- A latched cause reaches neither the cells on the rings nor the power unit that keeps their pool. -/
theorem latched_cells_bpt (s : State) (bit : Nat) :
    (s.latched bit).rings.cells = s.rings.cells ∧ (s.latched bit).bpt = s.bpt := by
  obtain ⟨m, -, -, -, heq⟩ := latched_eq s bit
  rw [heq]
  simp only [holdActs_cells, holdActs_bpt, and_self]

theorem causeOn_cells_bpt (s : State) (bit : Nat) :
    (s.causeOn bit).rings.cells = s.rings.cells ∧ (s.causeOn bit).bpt = s.bpt := by
  cases h : s.modes.cond.testBit bit with
  | true => rw [causeOn_present h]; exact ⟨rfl, rfl⟩
  | false =>
    cases hl : s.modes.latch.testBit bit with
    | true => rw [causeOn_again h hl]; exact ⟨rfl, rfl⟩
    | false => rw [causeOn_latches h hl]; exact latched_cells_bpt (s.withCause bit) bit

theorem judgeCells_cells_bpt (s : State) : s.judgeCells.rings.cells = s.rings.cells ∧ s.judgeCells.bpt = s.bpt := by
  unfold State.judgeCells State.causeIs
  split
  · exact causeOn_cells_bpt s _
  · exact ⟨rfl, rfl⟩

end Sys2Proof.Machine
end

section
/-! PROOFS. Cells taken out and spares put in place (R255, R256): what each operation makes of the cells, of the pool and of the
words, and the write of BPT_SUBST. -/

namespace Sys2Proof

theorem fld_setFld_role (w : Word) : fld (setFld w 0 2 0) 0 2 = 0 := by
  have hmask : maskOf 0 2 = 3#32 := by decide
  have hclear : (w &&& ~~~ 3#32).extractLsb' 0 2 = 0#2 := by
    ext i hi
    interval_cases i <;> simp
  have hfield := congrArg BitVec.toNat hclear
  simpa [fld, setFld, hmask, BitVec.extractLsb'_toNat] using hfield

end Sys2Proof

namespace Sys2Proof.Machine

/-! ## One cell -/

section
variable {s : State} {c : Nat} {f : CellLink → CellLink}

theorem cell_congr {t : State} (h : t.rings.cells = s.rings.cells) (x : Nat) : t.cell x = s.cell x := by
  unfold State.cell
  rw [h]

theorem cell_modCell_self (hw : Map.wf (fun _ => cellLinkReset) s.rings.cells = true) : (s.modCell c f).cell c = f (s.cell c) :=
  Map.get_put_self hw

theorem cell_modCell_other {x : Nat} (h : x ≠ c) : (s.modCell c f).cell x = s.cell x := Map.get_put_other h

theorem modCell_wf (hw : Map.wf (fun _ => cellLinkReset) s.rings.cells = true) :
    Map.wf (fun _ => cellLinkReset) (s.modCell c f).rings.cells = true := Map.wf_put hw

end

/-! ## A spare stands in (R255, R256) -/

/-- A spare that stands in takes the state the failed cell had, and no other cell changes. -/
theorem standIn_cells (s : State) (failed spare : Nat) (was : CellState) : (s.standIn failed spare was).rings.cells =
    (s.modCell spare fun q => { q with st := was }).rings.cells := by
  unfold State.standIn State.emptied_
  dsimp only
  rw [State.eventIf_rings, State.event_rings]
  split <;> rfl

/-- Its role is active at once. -/
theorem standIn_regs (s : State) (failed spare : Nat) (was : CellState) :
    (s.standIn failed spare was).regs = (s.setRole spare 0).regs := by
  unfold State.standIn State.emptied_
  dsimp only
  rw [State.eventIf_regs, State.event_regs]
  split <;> rfl

/-- The pool counts a substitution more and knows whom the spare stands in for, which waits for its bypass to open if it
is to run. -/
theorem standIn_bpt (s : State) (failed spare : Nat) (was : CellState) : ∃ trackers w, w.spare = spare ∧
    (s.standIn failed spare was).bpt = { s.bpt with
      cells := trackers, subs := satInc 16 s.bpt.subs 1
      standIn := (spare, failed) :: s.bpt.standIn.filter fun p => p.1 != spare
      waiting := if was = .active then s.bpt.waiting ++ [w] else s.bpt.waiting } := by
  unfold State.standIn State.emptied_
  dsimp only
  rw [State.eventIf_bpt, State.event_bpt]
  split <;> exact ⟨_, ⟨failed, spare, _, _⟩, rfl, rfl⟩

theorem FlagsStand.standIn {m : List (Nat × Word)} {s : State} (h : FlagsStand m s.ev.irq) (failed spare : Nat)
    (was : CellState) : FlagsStand m (s.standIn failed spare was).ev.irq := by
  unfold State.standIn State.emptied_
  dsimp only
  refine FlagsStand.eventIf (FlagsStand.event ?_ _ _ _ _) _ _ _ _ _
  split <;> exact h

/-- A substitution puts an idle spare of the pool in place, where there is one. -/
theorem substitute_cases (s : State) (failed : Nat) (was : CellState) : s.substitute failed was = s ∨
    ∃ spare, s.spareIdle spare = true ∧ s.substitute failed was = s.standIn failed spare was := by
  unfold State.substitute
  split
  · exact .inl rfl
  · rename_i c hc
    refine .inr ⟨c, ?_, rfl⟩
    have hmem := List.mem_of_mem_head? hc
    obtain ⟨i, -, hi⟩ := List.mem_filterMap.mp hmem
    split at hi
    · split at hi
      · rename_i hidle
        simp only [Bool.and_eq_true] at hidle
        obtain ⟨⟨⟨hidle, -⟩, -⟩, -⟩ := hidle
        cases hi
        exact hidle
      · cases hi
    · cases hi

theorem not_mem_spent_of_spareIdle {s : State} {c : Nat} (h : s.spareIdle c = true) : c ∉ s.bpt.spent := by
  unfold State.spareIdle at h
  intro hc
  simp [hc] at h

/-! ## A cell is taken out (R255, R257) -/

section
variable {s : State} {c reason : Nat}

theorem takeOut_cells : (s.takeOut c reason).rings.cells =
    ((s.modCell c fun q => { q with st := .bypassed, reason := reason, charged := 0 }).wantBypass c true).rings.cells := rfl

theorem takeOut_wf (hw : Map.wf (fun _ => cellLinkReset) s.rings.cells = true) :
    Map.wf (fun _ => cellLinkReset) (s.takeOut c reason).rings.cells = true := by
  rw [takeOut_cells]
  exact modCell_wf (modCell_wf hw)

/-- A cell taken out is BYPASSED with its reason, and its bypass is to be latched. -/
theorem cell_takeOut_self (hw : Map.wf (fun _ => cellLinkReset) s.rings.cells = true) : (s.takeOut c reason).cell c =
    { s.cell c with st := .bypassed, reason := reason, charged := 0, latchReq := some true, latchNew := true } := by
  rw [cell_congr takeOut_cells, State.wantBypass, cell_modCell_self (modCell_wf hw), cell_modCell_self hw]

theorem cell_takeOut_other {x : Nat} (h : x ≠ c) : (s.takeOut c reason).cell x = s.cell x := by
  rw [cell_congr takeOut_cells, State.wantBypass, cell_modCell_other h, cell_modCell_other h]

/-- It is awaited to close its bypass. -/
theorem closingUntil_takeOut : ((s.takeOut c reason).closingUntil c).isSome = true := by
  have hclosing : (s.takeOut c reason).bpt.closing = Map.insert c (s.now + s.subTout) s.bpt.closing := rfl
  rw [State.closingUntil, hclosing, Map.find?_insert_self]
  rfl

end

/-! ## A spare that did not open its bypass (R255) -/

/-- The spare is commanded closed and spent, and waits no longer. -/
def State.giveUp (s : State) (w : Subst) : State :=
  let s1 := (s.modCell w.spare fun q => { q with st := .bypassed }).wantBypass w.spare true
  { s1 with bpt := { s1.bpt with
    waiting := s1.bpt.waiting.filter fun v => v.spare != w.spare, spent := w.spare :: s1.bpt.spent,
    subFail := satInc 16 s1.bpt.subFail 1 } }

/-- The next spare is tried in the modes of R62. -/
def State.tryNext (s : State) (w : Subst) : State :=
  if s.modes.cur.within substModes then s.substitute w.failed .active else s

theorem subFailed_eq (s : State) (w : Subst) :
    s.subFailed w = (((s.giveUp w).event 0x90 5 w.spare [w.failed]).tryNext w).judgeCells := by
  unfold State.subFailed State.giveUp
  dsimp only
  generalize State.event _ 0x90 5 w.spare [w.failed] = u
  rfl

/-- A cell is BYPASSED and spent, the n-th spare that failed to open, and waits for nothing. -/
def State.GivenUp (s : State) (c n : Nat) : Prop :=
  (s.cell c).st = .bypassed ∧ c ∈ s.bpt.spent ∧ s.bpt.subFail = n ∧ ∀ x ∈ s.bpt.waiting, x.spare ≠ c

theorem State.GivenUp.congr {s t : State} {c n : Nat} (h : s.GivenUp c n)
    (heq : t.rings.cells = s.rings.cells ∧ t.bpt = s.bpt) : t.GivenUp c n := by
  obtain ⟨hcells, hbpt⟩ := heq
  unfold State.GivenUp
  rw [cell_congr hcells, hbpt]
  exact h

theorem givenUp_giveUp {s : State} {w : Subst} (hw : Map.wf (fun _ => cellLinkReset) s.rings.cells = true) :
    (s.giveUp w).GivenUp w.spare (satInc 16 s.bpt.subFail 1) := by
  have hcells : (s.giveUp w).rings.cells =
      ((s.modCell w.spare fun q => { q with st := .bypassed }).wantBypass w.spare true).rings.cells := rfl
  refine ⟨?_, List.mem_cons_self, rfl, fun x hx => by simpa using List.of_mem_filter hx⟩
  rw [cell_congr hcells, State.wantBypass, cell_modCell_self (modCell_wf hw), cell_modCell_self hw]

/-- Another spare that stands in leaves it so. -/
theorem State.GivenUp.standIn {s : State} {c n spare : Nat} (h : s.GivenUp c n) (hne : c ≠ spare) (failed : Nat)
    (was : CellState) : (s.standIn failed spare was).GivenUp c n := by
  obtain ⟨hst, hspent, hcount, hwaiting⟩ := h
  obtain ⟨trackers, v, hv, hbpt⟩ := standIn_bpt s failed spare was
  refine ⟨?_, ?_, ?_, ?_⟩
  · rw [cell_congr (standIn_cells ..), cell_modCell_other hne, hst]
  · rwa [hbpt]
  · rwa [hbpt]
  · rw [hbpt]
    intro x hx
    dsimp only at hx
    split at hx
    · rcases List.mem_append.mp hx with hold | hnew
      · exact hwaiting x hold
      · rw [List.mem_singleton.mp hnew, hv]
        exact hne.symm
    · exact hwaiting x hx

/-- The spare tried next is another: a spent one stands idle no more. -/
theorem State.GivenUp.tryNext {s : State} {c n : Nat} (h : s.GivenUp c n) (w : Subst) : (s.tryNext w).GivenUp c n := by
  unfold State.tryNext
  split
  · obtain hnone | ⟨spare, hidle, hin⟩ := substitute_cases s w.failed .active
    · rwa [hnone]
    · have hne : c ≠ spare := by
        obtain ⟨-, hspent, -⟩ := h
        exact fun hc => not_mem_spent_of_spareIdle hidle (hc ▸ hspent)
      rw [hin]
      exact h.standIn hne w.failed .active
  · exact h

theorem FlagsStand.tryNext {m : List (Nat × Word)} {s : State} (h : FlagsStand m s.ev.irq) (w : Subst) :
    FlagsStand m (s.tryNext w).ev.irq := by
  unfold State.tryNext
  split
  · obtain hnone | ⟨spare, -, hin⟩ := substitute_cases s w.failed .active
    · rwa [hnone]
    · rw [hin]
      exact h.standIn _ _ _
  · exact h

theorem givenUp_subFailed {s : State} {w : Subst} (hw : Map.wf (fun _ => cellLinkReset) s.rings.cells = true) :
    (s.subFailed w).GivenUp w.spare (satInc 16 s.bpt.subFail 1) := by
  have hposted : ((s.giveUp w).event 0x90 5 w.spare [w.failed]).GivenUp w.spare (satInc 16 s.bpt.subFail 1) :=
    (givenUp_giveUp hw).congr ⟨rfl, rfl⟩
  rw [subFailed_eq]
  exact (hposted.tryNext w).congr (judgeCells_cells_bpt _)

/-- Neither the next spare nor the cause CELLS clears a flag. -/
theorem flagsStand_subFailed (s : State) (w : Subst) :
    FlagsStand ((s.giveUp w).event 0x90 5 w.spare [w.failed]).ev.irq (s.subFailed w).ev.irq := by
  rw [subFailed_eq]
  generalize (s.giveUp w).event 0x90 5 w.spare [w.failed] = u
  exact ((FlagsStand.refl _).tryNext w).judgeCells

theorem flags_subFailed {s : State} (w : Subst) (hw : Map.wf (fun _ => 0#32) s.ev.irq = true) {h : Nat} (hh : h < 4) :
    bitAt ((s.subFailed w).ev.flags h 0x90) 5 = true := by
  have hgiven : Map.wf (fun _ => 0#32) (s.giveUp w).ev.irq = true := hw
  have hposted (d : List Nat) : Map.wf (fun _ => 0#32) ((s.giveUp w).event 0x90 5 w.spare d).ev.irq = true :=
    ((FlagsStand.refl _).event 0x90 5 w.spare d hgiven).1
  obtain ⟨-, hstand⟩ := flagsStand_subFailed s w (hposted _)
  exact hstand _ _ (flags_event hgiven (by decide) hh)

end Sys2Proof.Machine
end

section
/-! PROOFS. The write of BPT_SUBST, by which a host has a spare stand in (R14, R256). -/

namespace Sys2Proof.Machine

theorem rowAt_subst : rowAt A.BPT_SUBST = some
    { first := A.BPT_SUBST, cls := .rwc, reset := 0x1FF01FF#32, mask := 0x1FF01FF#32, modes := mService,
      ok := fun v => inR v 0 9 0 383 && inR v 16 9 0 383 } := rfl

theorem rwcWrite_subst (s : State) (h : Nat) (vn : Word) (r : Row) : s.rwcWrite h A.BPT_SUBST vn r = s.bptSubst h vn := rfl

/-- The state in which a substitution is judged: the write consumed and its word stored. -/
def State.substTaken (s : State) (h : Nat) (v : Word) : State :=
  ((s.disarm h 0x90).emptied h A.BPT_SUBST).putReg A.BPT_SUBST v

/-- A cell that still serves leaves it, for REASON 8. -/
def State.serviceEnds (s : State) (c : Nat) : State :=
  if (s.cell c).st = .active ∨ (s.cell c).st = .charged then s.takeOut c 8 else s

/-- The state a spare takes over from a cell. -/
def State.inherited (s : State) (c : Nat) : CellState := if (s.cell c).st = .active then .active else .charged

/-- The state a substitution leaves. -/
def State.substituted (s : State) (h : Nat) (v : Word) : State :=
  ((s.substTaken h v).serviceEnds (fld v 0 9)).standIn (fld v 0 9) (fld v 16 9) (s.inherited (fld v 0 9))

/-- What R256 asks of the two cells a value names. -/
def State.substFits (s : State) (v : Word) : Bool :=
  let st := (s.cell (fld v 0 9)).st
  !((s.cell (fld v 16 9)).st != .spare || s.cellPhase (fld v 16 9) != s.cellPhase (fld v 0 9) ||
    !(st == .active || st == .charged || st == .bypassed))

theorem substFits_of {s : State} {v : Word} (hspare : (s.cell (fld v 16 9)).st = .spare)
    (hphase : s.cellPhase (fld v 16 9) = s.cellPhase (fld v 0 9))
    (hfailed : (s.cell (fld v 0 9)).st = .active ∨ (s.cell (fld v 0 9)).st = .charged ∨ (s.cell (fld v 0 9)).st = .bypassed) :
    s.substFits v = true := by
  unfold State.substFits
  rcases hfailed with hst | hst | hst <;> simp [hspare, hphase, hst]

/-- A completed substitution that no check refuses: the value fits, and no spare waits in its phase. -/
theorem complete_subst {s : State} {h : Nat} {v : Word} (hp : s.pends h A.BPT_SUBST mService v = true)
    (hfits : s.substFits v = true) (hwaits : ∀ w ∈ s.bpt.waiting, w.phase ≠ s.cellPhase (fld v 0 9)) :
    s.hostComplete h A.BPT_SUBST v = (s.substituted h v).mended (A.BPT_SUBST + 4) := by
  obtain ⟨ha, hv⟩ := pends_iff.mp hp
  refine hostComplete_ok (by decide) (by decide) (by decide) (by decide) (by decide) rowAt_subst rfl ?_
  rw [rwcWrite_subst, State.bptSubst]
  refine complement_ok (s := s.disarm h 0x90) hv rfl ?_
  have hfree : (s.bpt.waiting.any fun w => w.phase == s.cellPhase (fld v 0 9)) = false := by simpa using hwaits
  refine firstOf_append (l := s.common h 0x90 mService (s.substFits v)) ?_ ?_
  · rw [hfits]
    exact common_clear ha
  · intro q hq
    rw [List.mem_singleton.mp hq]
    exact hfree

/-! ## What it leaves -/

theorem cell_mended (s : State) (o x : Nat) : (s.mended o).cell x = s.cell x := cell_congr (by rw [State.mended_rings]) x

theorem reg_mended (s : State) (o x : Nat) : (s.mended o).reg x = s.reg x := by rw [State.reg, State.mended_regs]; rfl

theorem closingUntil_mended (s : State) (o x : Nat) : (s.mended o).closingUntil x = s.closingUntil x := by
  rw [State.closingUntil, State.mended_bpt]
  rfl

section
variable {s : State} {c : Nat}

theorem serviceEnds_of_serving (h : (s.cell c).st = .active ∨ (s.cell c).st = .charged) :
    s.serviceEnds c = s.takeOut c 8 := if_pos h

theorem serviceEnds_of_bypassed (h : (s.cell c).st = .bypassed) : s.serviceEnds c = s := if_neg (by simp [h])

theorem serviceEnds_wf (hw : Map.wf (fun _ => cellLinkReset) s.rings.cells = true) :
    Map.wf (fun _ => cellLinkReset) (s.serviceEnds c).rings.cells = true := by
  unfold State.serviceEnds
  split
  · exact takeOut_wf hw
  · exact hw

theorem cell_serviceEnds_other {x : Nat} (h : x ≠ c) : (s.serviceEnds c).cell x = s.cell x := by
  unfold State.serviceEnds
  split
  · exact cell_takeOut_other h
  · rfl

/-- Whatever it was, the cell is BYPASSED then. -/
theorem serviceEnds_st (hw : Map.wf (fun _ => cellLinkReset) s.rings.cells = true)
    (h : (s.cell c).st = .active ∨ (s.cell c).st = .charged ∨ (s.cell c).st = .bypassed) :
    ((s.serviceEnds c).cell c).st = .bypassed := by
  obtain hserves | hst := or_assoc.mpr h
  · rw [serviceEnds_of_serving hserves, cell_takeOut_self hw]
  · rw [serviceEnds_of_bypassed hst, hst]

theorem serviceEnds_regs : (s.serviceEnds c).regs = s.regs := by
  unfold State.serviceEnds
  split <;> rfl

theorem serviceEnds_subs : (s.serviceEnds c).bpt.subs = s.bpt.subs := by
  unfold State.serviceEnds
  split <;> rfl

end

section
variable {s : State} (h : Nat) (v : Word)

theorem cell_substituted_other {x : Nat} (hx : x ≠ fld v 16 9) :
    (s.substituted h v).cell x = ((s.substTaken h v).serviceEnds (fld v 0 9)).cell x := by
  rw [State.substituted, cell_congr (standIn_cells ..), cell_modCell_other hx]

/-- The spare takes over the state of the failed cell. -/
theorem cell_substituted_spare (hw : Map.wf (fun _ => cellLinkReset) s.rings.cells = true) :
    ((s.substituted h v).cell (fld v 16 9)).st = s.inherited (fld v 0 9) := by
  rw [State.substituted, cell_congr (standIn_cells ..), cell_modCell_self (serviceEnds_wf (s := s.substTaken h v) hw)]

/-- The failed cell is BYPASSED; where it still served, for REASON 8 and with its bypass to be latched. -/
theorem cell_substituted_failed (hw : Map.wf (fun _ => cellLinkReset) s.rings.cells = true) (hne : fld v 0 9 ≠ fld v 16 9)
    (hserves : (s.cell (fld v 0 9)).st = .active ∨ (s.cell (fld v 0 9)).st = .charged) :
    (s.substituted h v).cell (fld v 0 9) = { s.cell (fld v 0 9) with
      st := .bypassed, reason := 8, charged := 0, latchReq := some true, latchNew := true } := by
  rw [cell_substituted_other h v hne, serviceEnds_of_serving (s := s.substTaken h v) hserves,
    cell_takeOut_self (s := s.substTaken h v) hw]
  rfl

/-- One that is BYPASSED already stays as it is. -/
theorem cell_substituted_bypassed (hne : fld v 0 9 ≠ fld v 16 9) (hst : (s.cell (fld v 0 9)).st = .bypassed) :
    (s.substituted h v).cell (fld v 0 9) = s.cell (fld v 0 9) := by
  rw [cell_substituted_other h v hne, serviceEnds_of_bypassed (s := s.substTaken h v) hst]
  rfl

theorem cell_substituted_third {x : Nat} (hf : x ≠ fld v 0 9) (hp : x ≠ fld v 16 9) :
    (s.substituted h v).cell x = s.cell x := by
  rw [cell_substituted_other h v hp, cell_serviceEnds_other hf]
  rfl

/-- The pool after it: a substitution more, whom the spare stands in for, and the waits of the cell taken out. -/
theorem substituted_pool : (s.substituted h v).bpt.subs = satInc 16 s.bpt.subs 1 ∧
    (fld v 16 9, fld v 0 9) ∈ (s.substituted h v).bpt.standIn ∧
    (s.substituted h v).bpt.closing = ((s.substTaken h v).serviceEnds (fld v 0 9)).bpt.closing := by
  obtain ⟨trackers, w, -, hbpt⟩ := standIn_bpt ((s.substTaken h v).serviceEnds (fld v 0 9)) (fld v 0 9) (fld v 16 9)
    (s.inherited (fld v 0 9))
  rw [State.substituted, hbpt]
  exact ⟨congrArg (satInc 16 · 1) serviceEnds_subs, List.mem_cons_self, rfl⟩

/-- A cell taken out by it is awaited to close its bypass. -/
theorem closingUntil_substituted (hserves : (s.cell (fld v 0 9)).st = .active ∨ (s.cell (fld v 0 9)).st = .charged) :
    ((s.substituted h v).closingUntil (fld v 0 9)).isSome = true := by
  obtain ⟨-, -, hclosing⟩ := substituted_pool (s := s) h v
  rw [State.closingUntil, hclosing, serviceEnds_of_serving (s := s.substTaken h v) hserves]
  exact closingUntil_takeOut

/-- The words after it: the spare's role is active, and BPT_SUBST holds the value. -/
theorem reg_substituted (hregs : Map.wf resetWord s.regs = true) :
    fld ((s.substituted h v).reg (A.CELL (fld v 16 9) 0)) 0 2 = 0 ∧ (s.substituted h v).reg A.BPT_SUBST = v := by
  have hother : A.BPT_SUBST ≠ A.CELL (fld v 16 9) 0 := by
    show 0x90080 ≠ 0x1000000 + 0x100 * fld v 16 9 + 0
    omega
  have hstored : Map.wf resetWord (s.substTaken h v).regs = true := Map.wf_put hregs
  rw [State.reg, State.reg, State.substituted, standIn_regs, State.setRole, State.putBoth, serviceEnds_regs]
  refine ⟨?_, ?_⟩
  · rw [Map.get_put_self hstored]
    exact fld_setFld_role _
  · rw [Map.get_put_other hother]
    exact Map.get_put_self hregs

end

end Sys2Proof.Machine

open Sys2Proof Sys2Proof.Machine

/-- Settles O21: a spare that did not open is given up, and the next spare and the cause CELLS leave it so
(`givenUp_subFailed`, `flags_subFailed`); a bypass not confirmed is reported by its event; a host's substitution is the equation
of its write (`complete_subst`), read off what taking out and standing in make of cells, pool and words. -/
theorem substitutionsSettle : Obligations.SubstitutionsSettle := by
  unfold Obligations.SubstitutionsSettle
  refine ⟨?subFail, ?bypassFail, ?manual⟩
  case subFail =>
    intro s c w hlive hs hw
    obtain ⟨-, -, -, hirq, -, -, hcells, -⟩ := hs
    have hc : w.spare = c := by simpa using List.find?_some hw
    refine gives_running (f := fun s => s.subEnds c) hlive (by rw [hw]; rfl) ?_
    simp only [State.subEnds, hw]
    obtain ⟨hst, hspent, hcount, hwaiting⟩ := givenUp_subFailed (s := s.advance w.due) (w := w) hcells
    rw [hc] at hst hspent hwaiting
    exact ⟨hst, hspent, hcount, hwaiting, fun h hh => flags_subFailed (s := s.advance w.due) w hirq hh⟩
  case bypassFail =>
    intro s c a hlive hs hc
    obtain ⟨-, -, -, hirq, -⟩ := hs
    refine gives_running (f := fun s => s.bypassEnds c) hlive (by rw [hc]; rfl) ?_
    simp only [State.bypassEnds, hc]
    refine ⟨?_, fun h hh => flags_event ?_ (by decide) hh, rfl⟩
    · rw [State.event_bpt]
      intro p hp
      simpa using List.of_mem_filter hp
    · exact hirq
  case manual =>
    intro s h f p v hs hp hf hq hspare hphase hfailed hwaits
    obtain ⟨hlive, hh⟩ := live_of_admits (pends_iff.mp hp).1
    refine gives_byHost (f := fun s => s.hostComplete h A.BPT_SUBST v) hlive hh ?_
    subst hf hq
    rw [complete_subst hp (substFits_of hspare hphase hfailed) hwaits]
    obtain ⟨hregs, -, -, -, -, -, hcells, -⟩ := hs
    have hne : fld v 0 9 ≠ fld v 16 9 := fun heq => by
      rw [heq, hspare] at hfailed
      simp at hfailed
    obtain ⟨hrole, hword⟩ := reg_substituted h v hregs
    obtain ⟨hsubs, hstand, -⟩ := substituted_pool (s := s) h v
    simp only [cell_mended, reg_mended, closingUntil_mended, State.mended_bpt]
    refine ⟨?_, cell_substituted_spare h v hcells, hrole, hsubs, hstand, fun hserves => ?_, fun hst => ?_, fun x hf hp => ?_,
      hword⟩
    · rw [cell_substituted_other h v hne]
      exact serviceEnds_st (s := s.substTaken h v) hcells hfailed
    · rw [cell_substituted_failed h v hcells hne hserves]
      exact ⟨rfl, rfl, fun _ => closingUntil_substituted h v hserves⟩
    · rw [cell_substituted_bypassed h v hne hst]
    · rw [cell_substituted_third h v hf hp]

end

section
/-! PROOFS. Ride-through and islanding: the return from RIDE, a trip of the profile, the end of a chip, the action on a detection
and reconnection (R273, R274, R279 to R284). -/

namespace Sys2Proof.Machine

/-! ## What a cause leaves of the unit -/

theorem latched_rti (s : State) (bit : Nat) : (s.latched bit).rti = s.rti := by
  obtain ⟨m, -, -, -, heq⟩ := latched_eq s bit
  have hcut := congrArg State.rti (holdActs_besideCut s)
  rw [heq]
  exact hcut

theorem causeOn_rti (s : State) (bit : Nat) : (s.causeOn bit).rti = s.rti := by
  cases h : s.modes.cond.testBit bit with
  | true => rw [causeOn_present h]
  | false =>
    cases hl : s.modes.latch.testBit bit with
    | true => rw [causeOn_again h hl]
    | false =>
      rw [causeOn_latches h hl, latched_rti]
      rfl

/-! ## Return and trip (R273, R274) -/

/-- A return is decided for the mode RIDE came from, where HOLD is not decided already. -/
theorem decideReturn_advance {s : State} (u : Nat) (h : s.modes.next ≠ some .hold) : (s.advance u).decideReturn =
    { s.advance u with modes := { s.modes with next := some s.modes.rideFrom, tgt := s.modes.rideFrom } } := if_neg h

theorem returning_next {s : State} (h : s.returning = true) : s.modes.next = none := by
  simp only [State.returning, Bool.and_eq_true, Option.isNone_iff_eq_none] at h
  exact h.2

/-- A row is met in FOLLOW, FORM and RIDE alone. -/
theorem rowMet_running {s : State} {row : Nat} (h : s.rowMet = some row) : s.modes.cur ≠ .hold ∧ s.modes.cur ≠ .service := by
  unfold State.rowMet at h
  constructor <;> intro hcur <;> simp [hcur] at h

/-- The unit notes the row that has been met. -/
def State.tripNoted (s : State) (row : Nat) : State :=
  (s.modRti fun r => { r with tripWhy := row, latches := satInc 16 r.latches 1, reconFrom := none, reconDone := false }).event
    0xA0 2 row

theorem profileTrip_eq {s : State} {row : Nat} (h : s.modes.cond.testBit cProfile = false) :
    s.profileTrip row = (s.tripNoted row).causeOn cProfile := if_neg (by simp [h])

/-! ## The end of a chip (R279 to R281) -/

/-- A chip has ended: the next one is at hand, no more than 63 valid ones count, arming stands, and only the unit and the events it
raises have changed. -/
def ChipEnded (s t : State) : Prop :=
  t.rti.chipDue = false ∧ t.rti.chipPos = (s.rti.chipPos + 1) % 63 ∧ t.rti.vnBeats = 0 ∧ t.rti.validN ≤ 63 ∧
  (s.rti.armed = true → t.rti.armed = true) ∧ t = { s with rti := t.rti, ev := t.ev, reco := t.reco }

theorem ChipEnded.event {s t : State} (h : ChipEnded s t) (page n sub : Nat) (d : List Nat) (st : Status) :
    ChipEnded s (t.event page n sub d st) := by
  obtain ⟨hdue, hpos, hbeats, hvalid, harmed, hframe⟩ := h
  refine ⟨hdue, hpos, hbeats, hvalid, harmed, ?_⟩
  rw [hframe]
  rfl

theorem ChipEnded.eventIf {s t : State} (h : ChipEnded s t) (c : Bool) (page n sub : Nat) (d : List Nat) :
    ChipEnded s (t.eventIf c page n sub d) := by
  unfold State.eventIf
  split
  · exact h.event _ _ _ _ _
  · exact h

/-- A detection, and ISL cleared, are changes of the unit beside the chip. -/
theorem ChipEnded.detected {s t : State} (h : ChipEnded s t) (isl : Bool) (detect : Option Nat) :
    ChipEnded s (t.modRti fun r => { r with isl := isl, detect := detect }) := by
  obtain ⟨hdue, hpos, hbeats, hvalid, harmed, hframe⟩ := h
  refine ⟨hdue, hpos, hbeats, hvalid, harmed, ?_⟩
  rw [hframe]
  rfl

theorem chipEnd_ended {s : State} (hdue : s.rti.chipDue = true) (hvalid : s.rti.validN ≤ 63) : ChipEnded s s.chipEnd := by
  unfold State.chipEnd
  rw [if_neg (by simp [hdue])]
  extract_lets r en good mean win z mag full validN arms s1 s2 s3
  have hcount : validN ≤ 63 := by
    show (if good then min (s.rti.validN + 1) 63 else s.rti.validN) ≤ 63
    split <;> omega
  have hcounted : ChipEnded s s1 := ⟨rfl, rfl, rfl, hcount, fun h => by simp [s1, h], rfl⟩
  have hdetected : ChipEnded s s3 := by
    have hreported : ChipEnded s s2 := hcounted.eventIf _ _ _ _ _
    show ChipEnded s (if _ then _ else s2)
    split
    · exact hreported.detected s2.rti.isl (some 1)
    · exact hreported
  split
  · exact (hdetected.detected false s3.rti.detect).event _ _ _ _ _
  · exact hdetected

/-! ## The action on a detection (R282) -/

theorem toAct_running {s : State} {w : Nat} (h : s.toAct = some w) : s.modes.cur = .follow ∨ s.modes.cur = .form := by
  unfold State.toAct at h
  split at h
  · rename_i hcur
    simpa using hcur
  · cases h

/-- The unit with a detection taken: ISL stands, no reconnection is under way, and the detector that fired begins anew. -/
def State.islandedUnit (s : State) (why : Nat) : Rti :=
  { s.rti with
    isl := true, islWhy := why, detect := none, reconFrom := none, reconDone := false, timers := s.firedTimers why }

/-- A detection has been reported, whatever the action on it. -/
def State.islanded (s : State) (why : Nat) : State := ((s.modRti fun _ => s.islandedUnit why).event 0xA0 3 why).trigger 5

theorem islanded_onlyEvents (s : State) (why : Nat) : OnlyEvents { s with rti := s.islandedUnit why } (s.islanded why) := by
  unfold State.islanded
  rw [OnlyEvents, trigger_onlyEvents]
  rfl

/-- ISLACT 2 reports alone, and so does any but TRIP in FORM. -/
theorem islandAct_reports {s : State} (why : Nat) (hcur : s.modes.cur = .follow ∨ s.modes.cur = .form)
    (hact : s.rti.islact = 2 ∨ s.modes.cur = .form ∧ s.rti.islact ≠ 0) : s.islandAct why = s.islanded why := by
  unfold State.islandAct
  dsimp only
  rcases hcur with hcur | hcur
  · have hreport : s.rti.islact = 2 := hact.resolve_right fun h => by simp [hcur] at h
    rw [hcur]
    exact if_pos hreport
  · have hreport : s.rti.islact ≠ 0 := hact.elim (fun h => by omega) fun h => h.2
    rw [hcur]
    exact if_neg hreport

/-- ISLACT 0 is TRIP, and so is 1 in FOLLOW while a stop to WATCH is in progress (R54). -/
theorem islandAct_trips {s : State} (why : Nat) (hcur : s.modes.cur = .follow ∨ s.modes.cur = .form)
    (hact : s.rti.islact = 0 ∨ s.modes.cur = .follow ∧ s.rti.islact = 1 ∧ s.modes.next ≠ some .form ∧
      (s.grd.stop ≠ .none ∨ s.modes.next = some .watch)) : s.islandAct why = (s.islanded why).causeOn cIsland := by
  unfold State.islandAct
  dsimp only
  rcases hcur with hcur | hcur
  · rw [hcur]
    rcases hact with htrip | ⟨-, htransfer, hform, hwatch⟩
    · exact (if_neg (by omega)).trans ((if_neg (by omega)).trans (if_neg (by omega)))
    · refine (if_neg (by omega)).trans ((if_neg fun h => hform h.2).trans (if_neg fun ⟨_, hstop, _, hnext⟩ => ?_))
      exact hwatch.elim (fun h => h hstop) hnext
  · have htrip : s.rti.islact = 0 := hact.resolve_right fun h => by simp [hcur] at h
    rw [hcur]
    exact if_pos htrip

/-- ISLACT 1 in FOLLOW begins the transfer to FORM, or makes the one under way an islanding transfer. -/
theorem islandAct_transfers {s : State} (why : Nat) (hcur : s.modes.cur = .follow) (hact : s.rti.islact = 1)
    (hhold : s.modes.next ≠ some .hold) (hwatch : s.modes.next ≠ some .watch) (hform : s.modes.next ≠ some .form)
    (hstop : s.grd.stop = .none) (hroles : s.formRoles = true) :
    ∃ m g, g.xfer = .toForm true ∧ s.islandAct why = { s.islanded why with modes := m, grd := g } := by
  unfold State.islandAct
  dsimp only
  rw [hcur]
  dsimp only
  rw [if_neg (by omega), if_neg fun h => hform h.2, if_pos ⟨hact, hstop, hhold, hwatch⟩]
  split
  · exact ⟨_, { (s.islanded why).grd with xfer := .toForm true, chase := 0, chaseNext := 0 }, rfl, rfl⟩
  · rw [if_pos hroles]
    exact ⟨_, { (s.islanded why).grd with xfer := .toForm true, xferAt := 0 }, rfl, rfl⟩

/-! ## Reconnection (R284) -/

/-- At an instant at which both causes end, the unit has reported it and the latched bits stay. -/
theorem reconEnds_advance (s : State) (u : Nat) :
    let t := (s.advance u).reconEnds
    t.rti.reconDone = true ∧ t.rti.reconFrom = none ∧ t.modes.cond.testBit cProfile = false ∧
    t.modes.cond.testBit cIsland = false ∧ t.modes.latch = s.modes.latch ∧ t.clock = (s.advance u).clock := by
  refine ⟨rfl, rfl, ?_, ?_, rfl, rfl⟩ <;> simp [State.reconEnds, State.causeOff, testBit_setBit]

end Sys2Proof.Machine

open Sys2Proof Sys2Proof.Machine

/-- Settles O22: a trip is noted and then a cause that appears (`profileTrip_eq`), a chip's end keeps what `ChipEnded` says through
its events, and a detection is reported, tripped on or made a transfer as ISLACT and the state decide (`islandAct_reports`,
`islandAct_trips`, `islandAct_transfers`). -/
theorem rideAndIslandingAct : Obligations.RideAndIslandingAct := by
  unfold Obligations.RideAndIslandingAct
  refine ⟨?returns, ?trip, ?chip, ?islandTrips, ?islandForms, ?islandReports, ?passive, ?back, ?recon⟩
  case returns =>
    intro s hlive hret
    refine gives_running (f := fun s => (s.advance s.returnAt).decideReturn) hlive hret ?_
    have hnext : s.modes.next ≠ some .hold := by simp [returning_next hret]
    exact decideReturn_advance s.returnAt hnext
  case trip =>
    intro s row hlive hrow hcond
    refine gives_running (f := fun s => s.profileTrip row) hlive (by simp [hrow]) ?_
    rw [profileTrip_eq hcond, causeOn_rti]
    obtain ⟨hpresent, hlatched⟩ := causeOn_appears (s := s.tripNoted row) hcond
    obtain ⟨hhold, hservice⟩ := rowMet_running hrow
    exact ⟨rfl, rfl, hpresent, hlatched, rfl, rfl, fun hnew =>
      causeOn_holds (s := s.tripNoted row) hcond hnew hhold hservice⟩
  case chip =>
    intro s hlive hdue hvalid
    refine gives_running (f := State.chipEnd) hlive hdue ?_
    exact chipEnd_ended hdue hvalid
  case islandTrips =>
    intro s w hlive hw hact hcond
    refine gives_running (f := fun s => s.islandAct (s.toAct.getD 0)) hlive (by rw [hw]; rfl) ?_
    have hislanded := islanded_onlyEvents s w
    have hfirst : (s.islanded w).modes.cond.testBit cIsland = false := by rw [hislanded]; exact hcond
    rw [hw, Option.getD_some, islandAct_trips w (toAct_running hw) hact, causeOn_rti, hislanded]
    rw [hislanded] at hfirst
    exact ⟨rfl, rfl, rfl, causeOn_appears hfirst⟩
  case islandForms =>
    intro s w hlive hw hcur hact hhold hwatch hform hstop hroles
    refine gives_running (f := fun s => s.islandAct (s.toAct.getD 0)) hlive (by rw [hw]; rfl) ?_
    obtain ⟨m, g, hxfer, heq⟩ := islandAct_transfers w hcur hact hhold hwatch hform hstop hroles
    rw [hw, Option.getD_some, heq, islanded_onlyEvents s w]
    exact ⟨rfl, rfl, rfl, hxfer, rfl⟩
  case islandReports =>
    intro s w hlive hw hact
    refine gives_running (f := fun s => s.islandAct (s.toAct.getD 0)) hlive (by rw [hw]; rfl) ?_
    rw [hw, Option.getD_some, islandAct_reports w (toAct_running hw) hact]
    exact islanded_onlyEvents s w
  case passive =>
    intro s w hlive hfires hdetect
    exact gives_running (f := fun s => s.modRti fun r => { r with detect := some w }) hlive (by simp [hfires, hdetect]) rfl
  case back =>
    intro s hlive hs hdue
    refine gives_running (f := fun s => (s.modRti fun r => { r with isl := false }).event 0xA0 7) hlive hdue ?_
    obtain ⟨-, -, -, hirq, -⟩ := hs
    exact ⟨rfl, fun h hh => flags_event hirq (by decide) hh⟩
  case recon =>
    intro s hlive hruns
    refine gives_running (f := fun s => (s.advance s.reconAt).reconEnds) hlive hruns ?_
    exact reconEnds_advance s s.reconAt

end

section
/-! PROOFS. The profile edit (R268): the commands of RTI_PEDIT, the words staged, and the end of the flash write. -/

namespace Sys2Proof.Map
variable {α : Type} [DecidableEq α]

/-- Entries written over a table at an offset: a key away from all of them reads as before. -/
theorem get_foldl_put_other {d : Nat → α} {off x : Nat} {l : List (Nat × α)} (h : ∀ e ∈ l, x ≠ off + e.1)
    (m : List (Nat × α)) : get d x (l.foldl (fun m e => put d (off + e.1) e.2 m) m) = get d x m := by
  induction l generalizing m with
  | nil => rfl
  | cons e l ih =>
    rw [List.foldl_cons, ih fun q hq => h q (List.mem_cons_of_mem _ hq), get_put_other (h e List.mem_cons_self)]

/-- A canonical table written over another at an offset: its own entries are read there, and elsewhere what was. -/
theorem get_foldl_put {a : α} {l : List (Nat × α)} (hl : wf (fun _ => a) l = true) (off k : Nat) (m : List (Nat × α)) :
    get (fun _ => a) (off + k) (l.foldl (fun m e => put (fun _ => a) (off + e.1) e.2 m) m) =
      if get (fun _ => a) k l = a then get (fun _ => a) (off + k) m else get (fun _ => a) k l := by
  induction l generalizing m with
  | nil => exact (if_pos rfl).symm
  | cons e l ih =>
    obtain ⟨j, w⟩ := e
    simp only [wf, Bool.and_eq_true, decide_eq_true_eq] at hl
    obtain ⟨⟨hw, habove⟩, hl⟩ := hl
    rw [List.foldl_cons, ih hl]
    by_cases hj : j = k
    · subst hj
      have hlater : get (fun _ => a) j l = a := get_below (rising_of_wf hl) habove
      simp [hlater, get, put, hw, get_insert_self]
    · rw [get_put_other (by omega), get, if_neg hj]

end Sys2Proof.Map

namespace Sys2Proof.Machine

/-! ## RTI_PEDIT -/

theorem rowAt_pedit : rowAt A.RTI_PEDIT = some
    { first := A.RTI_PEDIT, cls := .rwc, mask := 0x70F#32, modes := mEdit, ok := fun v => inR v 0 4 1 3 } := rfl

theorem rwcWrite_pedit (s : State) (h : Nat) (vn : Word) (r : Row) : s.rwcWrite h A.RTI_PEDIT vn r = s.pedit h vn := rfl

/-- A completed edit command that is not refused. -/
theorem complete_pedit {s t : State} {h : Nat} {v : Word} (hb : (s.disarm h 0xA0).pedit h (~~~ v) = (t, .ok)) :
    s.hostComplete h A.RTI_PEDIT v = t.mended (A.RTI_PEDIT + 4) := by
  refine hostComplete_ok (by decide) (by decide) (by decide) (by decide) (by decide) rowAt_pedit rfl ?_
  rw [rwcWrite_pedit]
  exact hb

theorem gives_editCmd {s : State} {h c p : Nat} {P : State → Prop}
    (hp : s.pends h A.RTI_PEDIT mEdit (wd (c + 0x100 * p)) = true) (h8 : p < 8)
    (hP : P (s.hostComplete h A.RTI_PEDIT (wd (c + 0x100 * p)))) : Gives (editCmd s h c p) P := by
  obtain ⟨hlive, hh⟩ := live_of_admits (pends_iff.mp hp).1
  exact gives_running (f := fun s => s.hostComplete h A.RTI_PEDIT (wd (c + 0x100 * p))) hlive (by simp [hh, h8]) hP

/-- The fields of the command's word: CMD and PROFILE. -/
theorem fld_editCmd {c p : Nat} (hc : c < 4) (hp : p < 8) :
    fld (wd (c + 0x100 * p)) 0 4 = c ∧ fld (wd (c + 0x100 * p)) 8 3 = p := by
  have hall : ∀ c < 4, ∀ p < 8, fld (wd (c + 0x100 * p)) 0 4 = c ∧ fld (wd (c + 0x100 * p)) 8 3 = p := by decide
  exact hall c hc p hp

/-- The state in which an edit command takes effect: the write consumed and its word stored. -/
def State.editTaken (s : State) (h : Nat) (v : Word) : State := (s.emptied h A.RTI_PEDIT).putReg A.RTI_PEDIT v

section
variable {s : State} {h p : Nat} (ha : s.admits h 0xA0 mEdit = true) (h8 : p < 8)
include ha h8

/-- LOAD opens an edit on the words of a profile, with SEAL_3 open and neither an edit nor a write under way. -/
theorem pedit_load (hv : s.pendingOf h A.RTI_PEDIT = some (wd (1 + 0x100 * p))) (hseal : s.sealClosed 3 = false)
    (hedit : s.rti.edit = none) (hbusy : s.rti.busy = none) : s.pedit h (~~~ wd (1 + 0x100 * p)) =
      ((s.editTaken h (wd (1 + 0x100 * p))).modRti fun r => { r with edit := some p, staging := profWords r.store p }, .ok) := by
  obtain ⟨hcmd, hprof⟩ := fld_editCmd (c := 1) (by decide) h8
  have hseal' : (s.emptied h A.RTI_PEDIT).sealClosed 3 = false := hseal
  have hclear := common_clear (s := s.emptied h A.RTI_PEDIT) ha
  rw [State.pedit, complementAcc_ok hv rfl rfl]
  dsimp only
  rw [hcmd, hprof, firstOf_append hclear (by simp [hseal', hedit, hbusy])]
  rfl

/-- COMMIT of an edit that is accepted begins its write. -/
theorem pedit_commit (hv : s.pendingOf h A.RTI_PEDIT = some (wd (2 + 0x100 * p))) (hseal : s.sealClosed 3 = false)
    (hbusy : s.rti.busy = none) (hstatus : s.commitStatus p = .ok) : s.pedit h (~~~ wd (2 + 0x100 * p)) =
      ((s.editTaken h (wd (2 + 0x100 * p))).commitProfile p, .ok) := by
  obtain ⟨hcmd, hprof⟩ := fld_editCmd (c := 2) (by decide) h8
  have hseal' : (s.emptied h A.RTI_PEDIT).sealClosed 3 = false := hseal
  have hstatus' : (s.emptied h A.RTI_PEDIT).commitStatus p = .ok := hstatus
  have hclear := common_clear (s := s.emptied h A.RTI_PEDIT) ha
  rw [State.pedit, complementAcc_ok hv rfl rfl]
  dsimp only
  rw [hcmd, hprof, hstatus', firstOf_append hclear (by simp [hseal', hbusy])]
  rfl

/-- ABANDON drops the edit of the profile it names; SEAL_3 does not matter to it. -/
theorem pedit_abandon (hv : s.pendingOf h A.RTI_PEDIT = some (wd (3 + 0x100 * p))) (hedit : s.rti.edit = some p)
    (hbusy : s.rti.busy = none) : s.pedit h (~~~ wd (3 + 0x100 * p)) =
      ((s.editTaken h (wd (3 + 0x100 * p))).modRti fun r => { r with edit := none, staging := [] }, .ok) := by
  obtain ⟨hcmd, hprof⟩ := fld_editCmd (c := 3) (by decide) h8
  have hclear := common_clear (s := s.emptied h A.RTI_PEDIT) ha
  rw [State.pedit, complementAcc_ok hv rfl rfl]
  dsimp only
  rw [hcmd, hprof, firstOf_append hclear (by simp [hedit])]
  simp [hedit, State.dropEdit, hbusy, State.editTaken]

end

/-! ## Words of the profile store -/

/-- Where the words of a profile lie. -/
theorem profile_place {p b : Nat} (hp : p < 8) (hb : b < 0x400) : 0x1400000 ≤ A.PROFILE p b ∧ A.PROFILE p b < 0x1402000 ∧
    (A.PROFILE p b - 0x1400000) / 0x400 = p ∧ A.PROFILE p b % 0x400 = b := by
  unfold A.PROFILE
  omega

theorem pageOf_profile {p b : Nat} (hp : p < 8) (hb : b < 0x400) : pageOf (A.PROFILE p b) = 0xA0 := by
  obtain ⟨hlo, -⟩ := profile_place hp hb
  unfold pageOf
  rw [if_neg (by omega), if_neg (by omega), if_neg (by omega), if_neg (by omega)]

theorem tableWrite_profile {p b : Nat} (s : State) (h : Nat) (v : Word) (hp : p < 8) (hb : b < 0x400) :
    s.tableWrite h (A.PROFILE p b) v = s.access h (A.PROFILE p b) fun s => s.profileWrite h p b v := by
  obtain ⟨hlo, hhi, hprof, hword⟩ := profile_place hp hb
  unfold State.tableWrite
  rw [if_neg (by omega), if_neg (by omega), if_neg (by omega), if_pos ⟨hlo, hhi⟩, hprof, hword]

/-- The state in which a word of the open edit is staged. -/
def State.profileStaged (s : State) (h b : Nat) (v : Word) : State :=
  (s.disarm h 0xA0).modRti fun r => { r with staging := Map.put (fun _ => 0#32) (b / 4) v r.staging }

/-- A word of the profile under edit is staged. -/
theorem hostPut_profile {s : State} {h p b : Nat} (v : Word) (ha : s.admits h 0xA0 mEdit = true) (hp : p < 8) (hb : b < 0x400)
    (h4 : b % 4 = 0) (hedit : s.rti.edit = some p) :
    s.hostPut h (A.PROFILE p b) v = (s.profileStaged h b v).mended (A.PROFILE p b) := by
  obtain ⟨hlo, hhi, -, hword⟩ := profile_place hp hb
  refine hostPut_table (by omega) (by omega) (by omega) ?_
  rw [tableWrite_profile s h v hp hb]
  refine access_ok ?_
  rw [pageOf_profile hp hb]
  exact judged_ok (firstOf_append (common_clear (s := s.disarm h 0xA0) ha) (by simp [hedit]))

/-! ## The end of the flash write -/

/-- The profile store once the staged words have replaced a profile. -/
def Rti.written (r : Rti) (p : Nat) : List (Nat × Word) :=
  r.staging.foldl (fun m e => Map.put (fun _ => 0#32) (256 * p + e.1) e.2 m) (r.store.filter fun e => e.1 / 256 != p)

/-- The profile written reads as what was staged. -/
theorem written_self {r : Rti} {b : Nat} (p : Nat) (hw : Map.wf (fun _ => 0#32) r.staging = true) (hb : b < 256) :
    Map.get (fun _ => 0#32) (256 * p + b) (r.written p) = Map.get (fun _ => 0#32) b r.staging := by
  have hempty : Map.get (fun _ => 0#32) (256 * p + b) (r.store.filter fun e => e.1 / 256 != p) = 0#32 :=
    Map.get_filter_drop _ fun v => by simp; omega
  rw [Rti.written, Map.get_foldl_put hw, hempty]
  split
  · exact Eq.symm ‹_›
  · rfl

/-- Every other profile reads as before. -/
theorem written_other {r : Rti} {p q b : Nat} (hkeys : ∀ e ∈ r.staging, e.1 < 256) (hq : q ≠ p) (hb : b < 256) :
    Map.get (fun _ => 0#32) (256 * q + b) (r.written p) = Map.get (fun _ => 0#32) (256 * q + b) r.store := by
  rw [Rti.written, Map.get_foldl_put_other fun e he => by have := hkeys e he; omega]
  exact Map.get_filter_keep _ fun v => by simp; omega

theorem profileDone_eq {s : State} {p : Nat} (h : s.rti.busy = some p) : s.profileDone =
    (s.modRti fun r => { r with busy := none, lastStat := .ok, store := r.written p, staging := [] }).event 0xA0 5 p := by
  rw [State.profileDone, h]
  rfl

end Sys2Proof.Machine

open Sys2Proof Sys2Proof.Machine

/-- Settles O23: each command is the equation of its write (`pedit_load`, `pedit_commit`, `pedit_abandon`, `hostPut_profile`), and
the end of a write puts the staged words over a store without that profile (`written_self`, `written_other`). -/
theorem profilesAreEdited : Obligations.ProfilesAreEdited := by
  unfold Obligations.ProfilesAreEdited
  refine ⟨?load, ?stage, ?commit, ?abandon, ?written⟩
  case load =>
    intro s h p h8 hp hseal hedit hbusy
    obtain ⟨ha, hv⟩ := pends_iff.mp hp
    refine gives_editCmd hp h8 ?_
    rw [complete_pedit (pedit_load (s := s.disarm h 0xA0) ha h8 hv hseal hedit hbusy), mended_eq]
    rfl
  case stage =>
    intro s h p b v h8 hb h4 ha hedit hrising
    obtain ⟨hlive, hh⟩ := live_of_admits ha
    refine gives_running (f := fun s => s.hostPut h (A.PROFILE p b) v) hlive (by simp [hh, h8, hb]) ?_
    rw [hostPut_profile v ha h8 hb h4 hedit, mended_eq]
    exact ⟨Map.get_put_of_rising hrising, fun k hk => Map.get_put_other hk, rfl⟩
  case commit =>
    intro s h p h8 hp hseal hbusy hstatus
    obtain ⟨ha, hv⟩ := pends_iff.mp hp
    refine gives_editCmd hp h8 ?_
    rw [complete_pedit (pedit_commit (s := s.disarm h 0xA0) ha h8 hv hseal hbusy hstatus), mended_eq]
    rfl
  case abandon =>
    intro s h p h8 hp hbusy hedit
    obtain ⟨ha, hv⟩ := pends_iff.mp hp
    refine gives_editCmd hp h8 ?_
    rw [complete_pedit (pedit_abandon (s := s.disarm h 0xA0) ha h8 hv hedit hbusy), mended_eq]
    rfl
  case written =>
    intro s p hlive hbusy _ hstaging hkeys
    refine gives_running (f := fun s => (s.profileMended (s.rti.busy.getD 0)).profileDone) hlive (by rw [hbusy]; rfl) ?_
    rw [profileDone_eq (s := s.profileMended _) hbusy]
    exact ⟨rfl, rfl, rfl, fun b hb => written_self p hstaging hb, fun q b hq hb => written_other hkeys hq hb, rfl⟩

end

section
/-! PROOFS. The pending flags over an event (R350, R361). -/

namespace Sys2Proof.Machine

/-- No event clears a flag. -/
theorem flags_event_mono {s : State} {page n sub h p b : Nat} {d : List Nat} {st : Status}
    (hw : Map.wf (fun _ => 0#32) s.ev.irq = true) (hb : bitAt (s.ev.flags h p) b = true) :
    bitAt ((s.event page n sub d st).ev.flags h p) b = true := by
  rw [Fabric.flags, State.event, State.raise, raiseAs_irq]
  split
  · obtain ⟨-, hkeeps⟩ := foldl_flagIn_keeps (page := page) (bit := n) [0, 1, 2, 3] hw
    rw [setFlag_irq, closeDue_irq]
    exact hkeeps h p b hb
  · exact hb

end Sys2Proof.Machine

open Sys2Proof Sys2Proof.Machine

/-- Settles O54: an event is a change of the fabric and the recorder alone; its flag is set in every window (`flags_event`), and
those that stand stay (`flags_event_mono`). -/
theorem eventsSetFlags : Obligations.EventsSetFlags := by
  unfold Obligations.EventsSetFlags
  intro s page n sub d st hcanon _
  obtain ⟨-, -, -, hirq, -⟩ := hcanon
  exact ⟨rfl, fun hn h hh => flags_event hirq hn hh, fun h p b _ _ hb => flags_event_mono hirq hb⟩

end

section
/-! PROOFS. Ring space as a host writes it: what is read after a store, and a host's write of one word (R344, R345, R351). -/

namespace Sys2Proof.Machine

/-! ## Bytes of numbers -/

theorem leBytes_succ (n v : Nat) : leBytes (n + 1) v = BitVec.ofNat 8 v :: leBytes n (v / 256) := rfl

theorem leNat_cons (b : Byte) (l : List Byte) : leNat (b :: l) = b.toNat + 256 * leNat l := rfl

@[simp] theorem length_leBytes (n v : Nat) : (leBytes n v).length = n := by
  induction n generalizing v with
  | zero => rfl
  | succ n ih => rw [leBytes_succ, List.length_cons, ih]

/-- The bytes of a number spell the number. -/
theorem leNat_leBytes (n v : Nat) : leNat (leBytes n v) = v % 256 ^ n := by
  induction n generalizing v with
  | zero => exact (Nat.mod_one v).symm
  | succ n ih =>
    simp only [leBytes_succ, leNat_cons, ih, BitVec.toNat_ofNat, pow_succ']
    exact (Nat.mod_mul ..).symm

/-! ## What is read after a store -/

theorem memStore_cons (m : List Host.Cell) (a : Nat) (y : Byte) (b : List Byte) :
    memStore m a (y :: b) = memStore (Map.put memEmpty a y m) (a + 1) b := rfl

theorem memStore_wf {m : List Host.Cell} (h : Memory.wf m = true) (a : Nat) (b : List Byte) :
    Memory.wf (memStore m a b) = true := by
  induction b generalizing m a with
  | nil => exact h
  | cons x b ih => exact ih (Map.wf_put h) (a + 1)

/-- A byte below the span stored stands. -/
theorem get_memStore_below {m : List Host.Cell} {a x : Nat} (b : List Byte) (hx : x < a) :
    Map.get memEmpty x (memStore m a b) = Map.get memEmpty x m := by
  induction b generalizing m a with
  | nil => rfl
  | cons y b ih => rw [memStore_cons, ih (by omega), Map.get_put_other (by omega)]

/-- A byte above the span stored stands. -/
theorem get_memStore_above {m : List Host.Cell} {a x : Nat} (b : List Byte) (hx : a + b.length ≤ x) :
    Map.get memEmpty x (memStore m a b) = Map.get memEmpty x m := by
  induction b generalizing m a with
  | nil => rfl
  | cons y b ih =>
    simp only [List.length_cons] at hx
    rw [memStore_cons, ih (by omega), Map.get_put_other (by omega)]

namespace Fabric

variable {f : Fabric}

theorem read_succ (a n : Nat) : f.read a (n + 1) = f.byte a :: f.read (a + 1) n := rfl

theorem byte_write_other {a x : Nat} (b : List Byte) (hx : x < a ∨ a + b.length ≤ x) : (f.write a b).byte x = f.byte x :=
  hx.elim (get_memStore_below b) (get_memStore_above b)

/-- What is stored is read back. -/
theorem read_write_self (hf : Memory.wf f.mem = true) (a : Nat) (b : List Byte) : (f.write a b).read a b.length = b := by
  induction b generalizing f a with
  | nil => rfl
  | cons y b ih =>
    have hrest := ih (f := f.write a [y]) (memStore_wf hf a [y]) (a + 1)
    have hfirst : (f.write a (y :: b)).byte a = y := by
      simp only [byte, write, memStore_cons]
      rw [get_memStore_below _ (Nat.lt_succ_self a), Map.get_put_self hf]
    rw [List.length_cons, read_succ, hfirst]
    exact congrArg _ hrest

/-- What lies outside the span stored reads as before. -/
theorem read_write_other {a x n : Nat} (b : List Byte) (hx : x + n ≤ a ∨ a + b.length ≤ x) :
    (f.write a b).read x n = f.read x n := by
  induction n generalizing x with
  | zero => rfl
  | succ n ih => rw [read_succ, read_succ, byte_write_other b (by omega), ih (by omega)]

end Fabric

/-! ## A host's write of one word -/

/-- A word of ring space that is stored reads back. -/
theorem spaceRead_write_self {s : State} {a : Nat} (v : Word) (hw : Memory.wf s.ev.mem = true) (ha : a < 0x2000000)
    (h4 : a % 4 = 0) : ({ s with ev := s.ev.write a (leBytes 4 v.toNat) } : State).spaceRead a = v := by
  have hback := Fabric.read_write_self hw a (leBytes 4 v.toNat)
  rw [length_leBytes] at hback
  have haddr : a / 4 * 4 = a := by omega
  rw [State.spaceRead, if_pos ha, haddr, hback, leNat_leBytes, wd]
  exact BitVec.eq_of_toNat_eq (by simpa using v.isLt)

/-- Every other word stays. -/
theorem spaceRead_write_other {s : State} {a b : Nat} (v : Word) (h4 : a % 4 = 0) (hb : b / 4 ≠ a / 4) :
    ({ s with ev := s.ev.write a (leBytes 4 v.toNat) } : State).spaceRead b = s.spaceRead b := by
  have hother : (s.ev.write a (leBytes 4 v.toNat)).read (b / 4 * 4) 4 = s.ev.read (b / 4 * 4) 4 :=
    Fabric.read_write_other _ (by rw [length_leBytes]; omega)
  rw [State.spaceRead, State.spaceRead, hother]

theorem spaceBarred_eq_false {s : State} {h a : Nat} (hb : s.spaceBarred h a = false) : a < 0x2000000 ∧ a % 4 = 0 := by
  simp only [State.spaceBarred, Bool.or_eq_false_iff, decide_eq_false_iff_not, not_le, not_not] at hb
  exact hb.1

/-- A transfer of a whole word is the write of that word. -/
theorem transfer_wholeWord {s : State} {h o : Nat} {way : BitVec 8} {v : Word} (hw : wholeWord h way = true) :
    s.transfer h way o v = s.hostPut h o v := by
  cases hpcie : onPcie h with
  | true =>
    rw [wholeWord, hpcie, if_pos rfl] at hw
    rw [State.transfer, hpcie, if_pos rfl, if_pos (beq_iff_eq.mp hw)]
  | false =>
    rw [wholeWord, hpcie, if_neg Bool.false_ne_true] at hw
    rw [State.transfer, hpcie, if_neg Bool.false_ne_true, if_pos (beq_iff_eq.mp hw)]

theorem hostPut_space {s : State} {h a : Nat} {v : Word} :
    s.hostPut h (spaceBase + a) v = if a % 4 = 0 then s.spaceWrite h a v else s.event 0 36 0xFFFF [spaceBase + a] := by
  have hmod : (spaceBase + a) % 4 = a % 4 := by simp only [spaceBase]; omega
  rw [State.hostPut, if_pos (by omega), hmod, Nat.add_sub_cancel_left]

theorem spaceWrite_open {s : State} {h a : Nat} {v : Word} (hb : s.spaceBarred h a = false) :
    s.spaceWrite h a v = { s with ev := s.ev.write a (leBytes 4 v.toNat) } := by
  rw [State.spaceWrite, hb]
  rfl

/-- A barred write of ring space is an event and nothing else. -/
theorem hostPut_space_barred {s : State} {h a : Nat} {v : Word} (hb : s.spaceBarred h a = true) :
    OnlyEvents s (s.hostPut h (spaceBase + a) v) := by
  rw [hostPut_space, State.spaceWrite, if_pos hb]
  split <;> rfl

end Sys2Proof.Machine

open Sys2Proof Sys2Proof.Machine

/-- Settles O57: an open write stores its word in ring space (`spaceRead_write_self`, `spaceRead_write_other`); a barred one and
one of part of a word are events. -/
theorem ringSpaceReadsBack : Obligations.RingSpaceReadsBack := by
  unfold Obligations.RingSpaceReadsBack
  refine ⟨?stored, ?barred, ?part⟩
  case stored =>
    intro s h a way v hlive hh hway hw hopen
    obtain ⟨ha, h4⟩ := spaceBarred_eq_false hopen
    refine gives_byHost (f := fun s => s.transfer h way (spaceBase + a) v) hlive hh ?_
    rw [transfer_wholeWord hway, hostPut_space, if_pos h4, spaceWrite_open hopen]
    exact ⟨spaceRead_write_self v hw ha h4, fun b hb => spaceRead_write_other v h4 hb, memStore_wf hw a _, rfl⟩
  case barred =>
    intro s h a way v hlive hh hway hbarred
    refine gives_byHost (f := fun s => s.transfer h way (spaceBase + a) v) hlive hh ?_
    rw [transfer_wholeWord hway]
    exact hostPut_space_barred hbarred
  case part =>
    intro s h o way v hlive hh hway
    refine gives_byHost (f := fun s => s.transfer h way o v) hlive (by omega) ?_
    have hpcie : onPcie h = true := decide_eq_true hh
    have hbytes : ¬ way.extractLsb' 0 4 = 0xF#4 := by simpa [wholeWord, hpcie] using hway
    rw [State.transfer, if_pos hpcie, if_neg hbytes]
    exact rfl

end

section
/-! PROOFS. An image applied for a host that is none of the four (R346, R402): the case that refutes `InvariantsAreKept`. -/

namespace Sys2Proof.Machine

/-- The image of configuration slot 0 claims the block of page 0x20, and an apply of it is under way for a host with the index
7, which the operation's entry can hold. Nothing is claimed. -/
def applyingForSeven : State :=
  { State.reset with
    mem := { memReset with
      ci := [{ valid := true, type := 1, bytes := List.replicate 128 0#8 ++ leBytes 4 0x20024 ++ leBytes 4 0xC1000000 }]
      ciOp := some (2, 0, 7, []) }
    pending := [.ciOperationEnd true true] }

theorem applyingForSeven_step : step applyingForSeven = .next (({ applyingForSeven with pending := [] }).ciEnds true true).settle := rfl

theorem applyingForSeven_claims : (({ applyingForSeven with pending := [] }).ciEnds true true).settle.hosts.claims = [(0x20, 7)] := by
  decide

end Sys2Proof.Machine

open Sys2Proof Sys2Proof.Machine

/-- Refutes O51: in `applyingForSeven` no claim has a holder that is no host, and after the end of the apply one has. -/
theorem not_invariantsAreKept : ¬ Obligations.InvariantsAreKept := by
  unfold Obligations.InvariantsAreKept
  rintro ⟨-, hkept⟩
  obtain ⟨-, hhosts⟩ := hkept applyingForSeven _ (by decide) applyingForSeven_step
  rw [applyingForSeven_claims] at hhosts
  exact absurd (hhosts (0x20, 7) (by simp)) (by decide)

end

section
/-! PROOFS. The end of the guard with a JOIN waiting for it (R291, R306): the case that refutes `PontilIsLeased`. -/

namespace Sys2Proof.Machine

/-- The guard runs after engine A, halted, has lost the pontil; engine B is off, and a JOIN of A waits for the guard's end. -/
def guardBeforeJoin : State :=
  { State.reset with
    gaf := { gafReset with
      guard := some 0
      engines := [{ engineReset with st := .halted, joinLater := some 0 }, engineReset] } }

/-- The state the statement has at the guard's end. -/
def guardBeforeJoinEnded : State :=
  { guardBeforeJoin.advance 0 with gaf := { guardBeforeJoin.gaf with guard := none, released := false, forcing := false } }

theorem guardBeforeJoin_answer : exec .guardEnd guardBeforeJoin = .next guardBeforeJoin.guardEnd.settle := rfl

theorem guardBeforeJoin_joins : (guardBeforeJoin.guardEnd.settle.engine 0).st = .test := by decide

theorem guardBeforeJoinEnded_halted : (guardBeforeJoinEnded.settle.engine 0).st = .halted := by decide

end Sys2Proof.Machine

open Sys2Proof Sys2Proof.Machine

/-- Refutes O24: at the guard's end in `guardBeforeJoin` no engine is granted, and the JOIN that waited begins; the statement has
the engines stay as they were. -/
theorem not_pontilIsLeased : ¬ Obligations.PontilIsLeased := by
  unfold Obligations.PontilIsLeased
  rintro ⟨-, -, -, hguard⟩
  obtain ⟨t, hnext, -, hunfit, -⟩ := hguard guardBeforeJoin 0 rfl rfl rfl (by decide) rfl
  obtain ⟨-, -, -, hsame⟩ := hunfit rfl
  have ht : t = guardBeforeJoinEnded := hsame rfl
  rw [ht, guardBeforeJoin_answer] at hnext
  have hst : (guardBeforeJoin.guardEnd.settle.engine 0).st = (guardBeforeJoinEnded.settle.engine 0).st :=
    congrArg (fun s : State => (s.engine 0).st) (Host.Outcome.next.inj hnext)
  rw [guardBeforeJoin_joins, guardBeforeJoinEnded_halted] at hst
  exact absurd hst (by decide)

end

section
/-! PROOFS. A configuration image written while the flash die has failed (R42, R401): the case that refutes
`ConfigurationImagesRun`. -/

namespace Sys2Proof.Machine

/-! ## What follows a command at rest leaves the memories -/

theorem raiseAs_mem (s : State) (settled : Option Bool) (e : Event) : (s.raiseAs settled e).mem = s.mem := rfl

theorem flushOwn_mem (n : Nat) (s : State) : (s.flushOwn n).mem = s.mem := by
  induction n generalizing s with
  | zero => rfl
  | succ n ih =>
    rw [State.flushOwn, ih]
    exact foldl_keeps (fun s (x : Event × Option Bool) => raiseAs_mem s x.2 x.1) _ _

theorem ptpFollow_mem (s : State) : s.ptpFollow.mem = s.mem := by
  unfold State.ptpFollow
  dsimp only
  (repeat' split) <;> simp

theorem readyTime_mem (s : State) : s.readyTime.mem = s.mem := by
  unfold State.readyTime
  split <;> rfl

theorem settle_mem_of_atRest {s : State} (hs : s.AtRest) : s.settle.mem = s.mem := by
  have hlock : s.afterLock = s := by simp [State.afterLock, hs.cur, hs.xfer]
  have hnext : s.modeNext = s := by simp [State.modeNext, hs.next]
  obtain ⟨-, hpwr⟩ := ptpFollow_regs_pwr s
  have hready : s.ptpFollow.readyTime.pwr.scan = none ∧ s.ptpFollow.readyTime.pwr.ir = 1 := by
    unfold State.readyTime
    split <;> simp [hpwr, hs.scan, hs.ir]
  obtain ⟨-, hflushed⟩ := flushOwn_regs_pwr 3 s.ptpFollow.readyTime
  have hscan : (s.ptpFollow.readyTime.flushOwn 3).scanFollow = s.ptpFollow.readyTime.flushOwn 3 := by
    simp [State.scanFollow, State.scanWanted, hflushed, hready]
  simp [State.settle, hs.live, hs.beats, hnext, hlock, hscan, flushOwn_mem, readyTime_mem, ptpFollow_mem]

/-- Slot 0 holds an image, the flash die has failed since, and host 0, which has claimed the block, has placed a WRITE of the
slot. -/
def writeAfterFlash : State :=
  { State.reset with
    pwr := { State.reset.pwr with ready := setBit State.reset.pwr.ready 25 true }
    hosts := { hostsReset with claims := [(0xF8, 0)], holder := [(winKey 0 A.MEM_CI_CMD, 1#32)] }
    mem := { memReset with
      flashFail := true
      ci := { valid := true, type := 1, bytes := [] } :: memReset.ci.tail } }

theorem writeAfterFlash_canon : writeAfterFlash.Canon := by decide
theorem writeAfterFlash_pends : writeAfterFlash.pends 0 A.MEM_CI_CMD mStop 1#32 = true := by decide
theorem writeAfterFlash_rest : writeAfterFlash.AtRest := ⟨by decide, rfl, rfl, rfl, rfl, rfl, rfl⟩

theorem writeAfterFlash_answer :
    exec (.ciWrite 0 0) writeAfterFlash = .next (writeAfterFlash.hostComplete 0 A.MEM_CI_CMD (wd (1 + 0x10 * 0))).settle := by
  refine congrArg Host.Outcome.next (if_pos ?_)
  decide

/-- The flash takes no erasure, and the slot keeps its image. -/
theorem writeAfterFlash_keeps :
    ((writeAfterFlash.hostComplete 0 A.MEM_CI_CMD (wd (1 + 0x10 * 0))).settle.ciSlot 0).valid = true := by
  decide

end Sys2Proof.Machine

open Sys2Proof Sys2Proof.Machine

/-- Refutes O40: in `writeAfterFlash` the flash die has failed, and an accepted WRITE leaves slot 0 valid. -/
theorem not_configurationImagesRun : ¬ Obligations.ConfigurationImagesRun := by
  unfold Obligations.ConfigurationImagesRun
  rintro ⟨hwrite, -⟩
  obtain ⟨t, hnext, -, hempty, -, hframe⟩ :=
    hwrite writeAfterFlash 0 0 writeAfterFlash_canon (by decide) rfl rfl writeAfterFlash_pends
  have hsettle := Host.Outcome.next.inj (writeAfterFlash_answer.symm.trans hnext)
  have hrest : t.AtRest := by
    obtain ⟨hlive, hbeats, hmode, hcur, hxfer, hscan, hir⟩ := writeAfterFlash_rest
    rw [hframe]
    exact ⟨hlive, hbeats, hmode, hcur, hxfer, hscan, hir⟩
  have hslot := writeAfterFlash_keeps
  rw [hsettle, State.ciSlot, settle_mem_of_atRest hrest] at hslot
  exact absurd (hempty.symm.trans hslot) (by decide)

end

section
/-! PROOFS. What follows every command, in a device that runs after it and enters no mode: the hosts' side is as the command
left it, and no group is energised (R53, R71). -/

namespace Sys2Proof.Machine

/-- The end of an instruction in force is a reset. -/
theorem scanEnds_held {s : State} {i : Nat} (h : s.pwr.scan = some i) : s.scanEnds.pwr.held = true := by
  obtain ⟨q, hreset⟩ := intoReset_eq (s.modPwr fun p => { p with scan := none }) 7
  simp [State.scanEnds, h, hreset]

/-- A device that runs after the boundary-scan port has been looked at ran before, and has changed only in what the port
holds. -/
theorem scanFollow_of_live {s : State} (hlive : s.scanFollow.live = true) :
    s.live = true ∧ ∃ p, s.scanFollow = { s with pwr := p } := by
  unfold State.scanFollow at hlive ⊢
  split
  · rename_i hsame
    rw [if_pos hsame] at hlive
    exact ⟨hlive, s.pwr, rfl⟩
  · rename_i hchanges
    rw [if_neg hchanges] at hlive
    cases hscan : s.pwr.scan with
    | none =>
      simp only [State.scanEnds, hscan, Option.isSome_none, Bool.false_eq_true, if_false] at hlive ⊢
      exact ⟨hlive, _, rfl⟩
    | some i => simp [State.live, State.modPwr, scanEnds_held hscan] at hlive

/-- After a command of a device that then runs come the mode decided, lock, the masters, readiness and events; then the
boundary-scan port. -/
theorem settle_of_live {s : State} (hlive : s.settle.live = true) :
    ∃ p, s.settle = { s.followed.afterLock.ptpFollow.readyTime.flushOwn 3 with pwr := p } := by
  unfold State.settle at hlive ⊢
  unfold State.followed
  cases hs : s.live with
  | false =>
    simp only [hs, Bool.not_false, if_true] at hlive
    simp [(scanFollow_of_live hlive).1] at hs
  | true =>
    simp only [hs, Bool.not_true, Bool.false_eq_true, if_false, Bool.false_or] at hlive ⊢
    exact (scanFollow_of_live hlive).2

/-- An output that is on with an empty mask after a command shows that no mode has been entered. -/
theorem followed_of_unnamed {s : State} (hlive : s.settle.live = true)
    (hout : ∃ l ∈ s.settle.modu.lhb, l.on = true ∧ l.cfg = 0#32) : s.followed = s := by
  obtain ⟨-, hmodu⟩ := settle_rings_modu hlive
  obtain ⟨l, hl, hon, hcfg⟩ := hout
  unfold State.followed at hmodu ⊢
  split
  · rfl
  · rename_i hruns
    by_contra hentered
    rw [hmodu, if_neg hruns] at hl
    obtain ⟨m, hm⟩ := modeNext_outputsNamed hentered l hl hon
    simp [Lhb.inMode, hcfg] at hm

/-! ## Hosts and safety block -/

theorem raiseAs_hosts_saf (s : State) (settled : Option Bool) (e : Event) :
    (s.raiseAs settled e).hosts = s.hosts ∧ (s.raiseAs settled e).saf = s.saf := ⟨rfl, rfl⟩

theorem flushOwn_hosts_saf (n : Nat) (s : State) : (s.flushOwn n).hosts = s.hosts ∧ (s.flushOwn n).saf = s.saf := by
  induction n generalizing s with
  | zero => exact ⟨rfl, rfl⟩
  | succ n ih =>
    rw [State.flushOwn, (ih _).1, (ih _).2]
    exact ⟨foldl_keeps (fun s (x : Event × Option Bool) => (raiseAs_hosts_saf s x.2 x.1).1) _ _,
      foldl_keeps (fun s (x : Event × Option Bool) => (raiseAs_hosts_saf s x.2 x.1).2) _ _⟩

theorem readyTime_hosts_saf (s : State) : s.readyTime.hosts = s.hosts ∧ s.readyTime.saf = s.saf := by
  unfold State.readyTime
  split <;> exact ⟨rfl, rfl⟩

theorem ptpFollow_hosts_saf (s : State) : s.ptpFollow.hosts = s.hosts ∧ s.ptpFollow.saf = s.saf := by
  unfold State.ptpFollow
  dsimp only
  constructor <;> (repeat' split) <;> simp

theorem groupOff_hosts (s : State) (g : Nat) : (s.groupOff g).hosts = s.hosts := by
  unfold State.groupOff
  dsimp only
  (repeat' split) <;> simp

theorem stopStep_hosts (s : State) : s.stopStep.hosts = s.hosts := by
  unfold State.stopStep State.openMain
  dsimp only
  (repeat' split) <;> simp [groupOff_hosts]

theorem closeFails_hosts_saf (s : State) (result : Nat) :
    (s.closeFails result).hosts = s.hosts ∧ (s.closeFails result).saf = s.saf := by
  unfold State.closeFails State.closeEnds
  split <;> simp

theorem closeAborts_hosts_saf (s : State) (result : Nat) :
    (s.closeAborts result).hosts = s.hosts ∧ (s.closeAborts result).saf = s.saf := by
  unfold State.closeAborts State.beginStop
  split <;> simp [closeFails_hosts_saf]

theorem dropXfer_hosts_saf (s : State) : s.dropXfer.hosts = s.hosts ∧ s.dropXfer.saf = s.saf := by
  unfold State.dropXfer
  split <;> exact ⟨rfl, rfl⟩

theorem afterLock_hosts (s : State) : s.afterLock.hosts = s.hosts := by
  unfold State.afterLock State.stopRun
  dsimp only
  (repeat' split) <;> simp [stopStep_hosts, closeAborts_hosts_saf, closeFails_hosts_saf, dropXfer_hosts_saf]

theorem settle_hosts_of_unnamed {s : State} (hlive : s.settle.live = true)
    (hout : ∃ l ∈ s.settle.modu.lhb, l.on = true ∧ l.cfg = 0#32) : s.settle.hosts = s.hosts := by
  obtain ⟨p, hp⟩ := settle_of_live hlive
  rw [hp, followed_of_unnamed hlive hout]
  simp only [flushOwn_hosts_saf, readyTime_hosts_saf, ptpFollow_hosts_saf, afterLock_hosts]

/-! ## Groups -/

theorem groupOff_self_h (s : State) (g : Nat) : ((s.groupOff g).group g).h = false := by
  have hself : ∀ {f : Group → Group}, (f (s.group g)).h = false → ((s.modGroup g f).group g).h = false := by
    intro f hf
    by_cases hg : g < s.saf.groups.length
    · simpa only [State.group, State.modGroup, getD_modAt, hg, and_self, if_true] using hf
    · simp only [State.group, State.modGroup, getD_modAt, hg, and_false, if_false]
      rw [List.getD_eq_default _ _ (Nat.le_of_not_lt hg)]
      rfl
  unfold State.groupOff
  dsimp only
  split
  · split
    · exact hself rfl
    · rename_i hboth
      simp only [Bool.or_eq_true, not_or, Bool.not_eq_true] at hboth
      exact hboth.1
  · rw [eventIf_group]
    exact hself rfl

/-- A group whose high switch is on after a group was commanded off had it on before. -/
theorem groupOff_h {s : State} {k g : Nat} (h : ((s.groupOff k).group g).h = true) : (s.group g).h = true := by
  by_cases hk : g = k
  · rw [hk, groupOff_self_h] at h
    exact absurd h (by decide)
  · rwa [groupOff_other hk] at h

theorem stopStep_h {s : State} {g : Nat} (h : (s.stopStep.group g).h = true) : (s.group g).h = true := by
  unfold State.stopStep State.openMain at h
  dsimp only at h
  split at h
  · exact h
  · split at h
    · exact groupOff_h h
    · exact h
  · split at h
    · exact groupOff_h h
    · exact h
  · split at h
    · split at h <;> exact h
    · exact h

theorem stopRun_h {s : State} {g : Nat} (h : (s.stopRun.group g).h = true) : (s.group g).h = true :=
  stopStep_h (stopStep_h (stopStep_h h))

theorem afterLock_h {s : State} {g : Nat} (h : (s.afterLock.group g).h = true) : (s.group g).h = true := by
  unfold State.afterLock at h
  dsimp only at h
  split at h
  · exact h
  · split at h
    · have hstopped := stopRun_h h
      revert hstopped
      simp only [State.group]
      split <;> simp [closeAborts_hosts_saf, closeFails_hosts_saf]
    · split at h
      · simpa only [State.group, dropXfer_hosts_saf] using h
      · exact h

/-- What follows a command energises no group. -/
theorem settle_h_of_unnamed {s : State} {g : Nat} (hlive : s.settle.live = true)
    (hout : ∃ l ∈ s.settle.modu.lhb, l.on = true ∧ l.cfg = 0#32) (h : (s.settle.group g).h = true) : (s.group g).h = true := by
  obtain ⟨p, hp⟩ := settle_of_live hlive
  rw [hp, followed_of_unnamed hlive hout] at h
  refine afterLock_h ?_
  simpa only [State.group, flushOwn_hosts_saf, readyTime_hosts_saf, ptpFollow_hosts_saf] using h

end Sys2Proof.Machine
end

section
/-! PROOFS. An image session opened in a slot that an engine joins from, by a host whose version is no longer served (R305,
R307, R360): the case that refutes `ImageCommandsAreTaken`. -/

namespace Sys2Proof.Machine

/-- Engine A joins from slot 0, engine B is active from slot 1, whose image serves version 2 alone; host 0, which has claimed the
Gaffer's block and speaks version 1, has IMAGE_OPEN of slot 0 at the head of ring 0, its completions going to ring 1. Output 0
is on with an empty mask. -/
def openWhileJoining : State :=
  { State.reset with
    pwr := { State.reset.pwr with ready := setBit State.reset.pwr.ready 22 true }
    hosts := { hostsReset with claims := [(0xB8, 0)], sel := [1, 0, 0, 0] }
    modu := { moduReset with lhb := { lhbReset with cfg := 0#32, on := true } :: List.replicate 11 lhbReset }
    gaf := { gafReset with
      engines := [engineReset, { engineReset with st := .active, slot := 1 }]
      slots := [slotErased, { slotErased with hstv := (2, 2) }] }
    ev := { fabricReset with
      holding := false
      rings := { ringReset with en := true, pair := 1, tail := 1 } ::
        { ringReset with en := true, type := 1, base := 0x1000 } :: List.replicate 62 ringReset
      mem := [(0, 0x10#8), (6, 2#8), (9, 0xFF#8)] } }

/-- What the command leaves. -/
def openWhileJoiningAfter : State := openWhileJoining.runCmd 0 0x10 State.imageOpens

theorem openWhileJoining_canRun : openWhileJoining.canRun 0 0x10 1 = true := by decide
theorem openWhileJoining_slot :
    byteFld (openWhileJoining.cmdBytes 0) 8 1 = 0 ∧ byteFld (openWhileJoining.cmdBytes 0) 9 1 = 255 := by decide
theorem openWhileJoining_common : ∀ p ∈ openWhileJoining.imgCommon (openWhileJoining.ringOwner 0), p.1 = false := by
  decide
theorem openWhileJoining_idle : openWhileJoining.slotRunning 0 = false := by decide

theorem openWhileJoining_answer : exec (.imageOpen 0) openWhileJoining = .next openWhileJoiningAfter.settle := by
  refine congrArg Host.Outcome.next (if_pos ?_)
  decide

set_option maxRecDepth 100000 in
/-- The failed rejoin has the versions followed, which ends the command with VERSION and posts its completion; the output is as
it was. -/
theorem openWhileJoiningAfter_settled : openWhileJoiningAfter.settle.live = true ∧
    (∃ l ∈ openWhileJoiningAfter.settle.modu.lhb, l.on = true ∧ l.cfg = 0#32) ∧
    openWhileJoiningAfter.settle.hosts.taken.map (fun x => x.opcode) = [] := by
  decide

end Sys2Proof.Machine

open Sys2Proof Sys2Proof.Machine

/-- Refutes O33: in `openWhileJoining` an accepted IMAGE_OPEN no longer waits for its end once it is carried out. -/
theorem not_imageCommandsAreTaken : ¬ Obligations.ImageCommandsAreTaken := by
  unfold Obligations.ImageCommandsAreTaken
  rintro ⟨hopen, -⟩
  obtain ⟨hslot, hcomplement⟩ := openWhileJoining_slot
  obtain ⟨t, hnext, -, -, -, -, htaken⟩ :=
    hopen openWhileJoining 0 rfl openWhileJoining_canRun (by rw [hslot]; decide) (by rw [hslot, hcomplement])
      openWhileJoining_common rfl (by rw [hslot]; exact openWhileJoining_idle) rfl
  have hsettle := Host.Outcome.next.inj (openWhileJoining_answer.symm.trans hnext)
  obtain ⟨hlive, houtput, hdone⟩ := openWhileJoiningAfter_settled
  have hkept := settle_hosts_of_unnamed (s := t) (hsettle ▸ hlive) (hsettle ▸ houtput)
  rw [← hkept, ← hsettle, hdone] at htaken
  exact absurd htaken (by decide)

end

section
/-! PROOFS. The cross-link agrees that a group is to be off, and the close sequence then energises it (R225, R227, R315): the case
that refutes `ChannelsSampleAndFault`. -/

namespace Sys2Proof.Machine

/-- In ENERGIZE a close sequence waits in its second step, the synchro-check having held since time 0, and everything permits
closing. Output 0 is on with an empty mask. -/
def closingInStep : State :=
  { State.reset with
    pwr := { State.reset.pwr with ready := setBit State.reset.pwr.ready 17 true }
    clock := { clockReset with mono := ms 4000 }
    modes := { modesReset with cur := .energize, tgt := .energize }
    ang := { angleReset with lock := true }
    modu := { moduReset with lhb := { lhbReset with cfg := 0#32, on := true } :: List.replicate 11 lhbReset }
    grd := { grdReset with step := 2, scFrom := some 0 }
    saf := { safReset with
      xOk := true, yOk := true, link := true
      seals := List.replicate 8 { sealReset with known := true } } }

/-- What an exchange of verdicts that hold every group off leaves. -/
def closingInStepAfter : State := (closingInStep.exchange true false 0#4 0#4).closeRun.stopRun

theorem closingInStep_answer :
    exec (.crossLinkExchange true false 0#4 0#4) closingInStep = .next closingInStepAfter.settle := by
  refine congrArg Host.Outcome.next (if_pos ?_)
  decide

theorem closingInStep_sampling : closingInStep.sampling = true := by decide
theorem closingInStepAfter_live : closingInStepAfter.settle.live = true := by decide
theorem closingInStepAfter_output : ∃ l ∈ closingInStepAfter.settle.modu.lhb, l.on = true ∧ l.cfg = 0#32 := by
  decide

/-- The series group is energised. -/
theorem closingInStepAfter_on : ∃ g, g < 4 ∧ (closingInStepAfter.settle.group g).h = true := by decide

end Sys2Proof.Machine

open Sys2Proof Sys2Proof.Machine

/-- Refutes O28: in `closingInStep` both channels hold every group off in an exchange that agrees, and the series group is
energised by the end of the command. -/
theorem not_channelsSampleAndFault : ¬ Obligations.ChannelsSampleAndFault := by
  unfold Obligations.ChannelsSampleAndFault
  rintro ⟨-, -, -, -, hagree, -⟩
  obtain ⟨t, hnext, -, -, -, -, hoff⟩ := hagree closingInStep 0#4 closingInStep_sampling rfl
  have hsettle := Host.Outcome.next.inj (closingInStep_answer.symm.trans hnext)
  obtain ⟨g, hg, hon⟩ := closingInStepAfter_on
  rw [hsettle] at hon
  have hkept := settle_h_of_unnamed (s := t) (hsettle ▸ closingInStepAfter_live) (hsettle ▸ closingInStepAfter_output) hon
  rw [(hoff g hg (by simp)).1] at hkept
  exact absurd hkept (by decide)

end

section
/-! PROOFS. The boundary-scan port: an instruction is loaded, and what the pins of its chain then show (R456 to R459). -/

namespace Sys2Proof.Machine

/-! ## The chain -/

/-- The place of a driven pin in the chain. -/
def Pin.place : Pin → Nat
  | .lhbPul k => 2 * k
  | .lhbEn k => 2 * k + 1
  | .dob k => 24 + k
  | .txDis k => 28 + k
  | .portTx k => 62 + k
  | .pcieTx k => 100 + k
  | .hpIo k => 104 + k
  | .hpInt k => 110 + k
  | _ => 0

theorem drivenPins_places : drivenPins.map Pin.place = List.range 114 := by decide

theorem drivenPins_nodup : drivenPins.Nodup := .of_map Pin.place (drivenPins_places ▸ List.nodup_range)

/-- A pin-driving instruction leaves a pin outside the chain of driven pins to its own block. -/
theorem pin_of_undriven {s : State} {p : Pin} (hp : p ∉ drivenPins) : s.pin p = s.pinOwn p := by
  have hnone : drivenPins.findIdx? (fun q => q == p) = none := by
    rw [List.findIdx?_eq_none_iff]
    intro q hq
    exact beq_false_of_ne fun h => hp (h ▸ hq)
  unfold State.pin
  split
  · rfl
  · rw [hnone]

/-- A driven pin has the level of its cell; under HIGHZ it has none. -/
theorem pin_of_driven {s : State} {i code : Nat} {p : Pin} (hscan : s.pwr.scan = some code) (hp : drivenPins[i]? = some p) :
    s.pin p = if code = 0x06 then .highZ else .of (s.pwr.cells.getD i false) := by
  obtain ⟨hi, hget⟩ := List.getElem?_eq_some_iff.mp hp
  have hidx : drivenPins.findIdx? (fun q => q == p) = some i := by
    rw [List.findIdx?_eq_some_iff_getElem]
    refine ⟨hi, by simp [hget], fun j hj => ?_⟩
    have hne : drivenPins[j] ≠ p := fun h => by
      have := (List.Nodup.getElem_inj_iff drivenPins_nodup).mp (h.trans hget.symm)
      omega
    simpa using hne
  unfold State.pin
  rw [hscan]
  simp only [hidx]

/-! ## An instruction is loaded while none that drives pins is in force -/

theorem scanEnds_idle {s : State} (h : s.pwr.scan = none) : s.scanEnds = s := by
  simp [State.scanEnds, h]

/-- An instruction stands in the register. -/
def State.loaded (s : State) (code : Nat) (byp : Bool) : State := { s with pwr := { s.pwr with ir := code, tapBypass := byp } }

/-- No pin shows which instruction the register holds. -/
theorem pin_loaded (s : State) (p : Pin) (code : Nat) (byp : Bool) : (s.loaded code byp).pin p = s.pin p := by
  have hown : (s.loaded code byp).pinOwn p = s.pinOwn p := by cases p <;> rfl
  unfold State.pin
  rw [hown]
  rfl

theorem tapPassive_idle {s : State} {code : Nat} {byp : Bool} (htap : s.tapOn = true) (h : s.pwr.scan = none) :
    s.tapPassive code byp = s.loaded code byp := by
  rw [State.tapPassive, if_pos htap, scanEnds_idle h]
  rfl

theorem scanWanted_some {s : State} (htap : s.tapOn = true) (hir : 3 ≤ s.pwr.ir ∧ s.pwr.ir ≤ 7) (hallowed : s.scanAllowed = true) :
    s.scanWanted = some s.pwr.ir := by
  simp [State.scanWanted, htap, hir, hallowed]

theorem scanWanted_barred {s : State} (hallowed : s.scanAllowed = false) : s.scanWanted = none := by
  simp [State.scanWanted, hallowed]

/-- The instruction loaded takes effect where its conditions hold. -/
theorem scanFollow_takes {s : State} (htap : s.tapOn = true) (h : s.pwr.scan = none) (hir : 3 ≤ s.pwr.ir ∧ s.pwr.ir ≤ 7)
    (hallowed : s.scanAllowed = true) : s.scanFollow =
      { s with pwr := { s.pwr with scan := some s.pwr.ir, tapBypass := decide (0x06 ≤ s.pwr.ir) } } := by
  have hwanted := scanWanted_some htap hir hallowed
  rw [State.scanFollow, if_neg (by simp [hwanted, h]), scanEnds_idle h]
  simp only [hwanted]
  rfl

theorem tapDrives_idle {s : State} {code : Nat} (htap : s.tapOn = true) (h : s.pwr.scan = none) :
    s.tapDrives code = (s.loaded code true).scanFollow := by
  simp only [State.tapDrives, htap, h, scanEnds_idle h]
  rfl

theorem tapDrives_allowed {s : State} {code : Nat} (htap : s.tapOn = true) (h : s.pwr.scan = none) (hcode : 3 ≤ code ∧ code ≤ 7)
    (hallowed : s.scanAllowed = true) : s.tapDrives code =
      { s with pwr := { s.pwr with ir := code, scan := some code, tapBypass := decide (0x06 ≤ code) } } := by
  rw [tapDrives_idle htap h]
  exact scanFollow_takes (s := s.loaded code true) htap h hcode hallowed

theorem tapDrives_barred {s : State} {code : Nat} (htap : s.tapOn = true) (h : s.pwr.scan = none)
    (hallowed : s.scanAllowed = false) : s.tapDrives code = s.loaded code true := by
  have hwanted : (s.loaded code true).scanWanted = (s.loaded code true).pwr.scan := by
    rw [scanWanted_barred (s := s.loaded code true) hallowed]
    exact h.symm
  rw [tapDrives_idle htap h, State.scanFollow, if_pos hwanted]

/-- The fields of IDCODE below the silicon revision, whatever that is (R456). -/
theorem idcode_fields (s : State) :
    s.idcode.getLsbD 0 = true ∧ fld s.idcode 1 11 = 0x2C5 ∧ fld s.idcode 12 16 = 0x9384 := by
  have hrevs : ∀ k : Fin 16, let w := at_ 28 4 k ||| at_ 12 16 0x9384 ||| at_ 1 11 0x2C5 ||| bitW 0 true
      w.getLsbD 0 = true ∧ fld w 1 11 = 0x2C5 ∧ fld w 12 16 = 0x9384 := by decide
  have hrev : at_ 28 4 s.part.srev = at_ 28 4 (s.part.srev % 16) := by simp [at_]
  rw [State.idcode, hrev]
  exact hrevs ⟨s.part.srev % 16, Nat.mod_lt _ (by decide)⟩

/-! ## Cells are shifted -/

/-- Each cell captures the level of its pin, and the levels are shifted out. -/
theorem capture_eq (s : State) : ∃ (bits : List Bool) (n : Nat), bits.length = drivenPins.length + observedPins.length ∧
    (∀ (i : Nat) (p : Pin), (drivenPins ++ observedPins)[i]? = some p → bits[i]? = some ((s.pin p).bit (s.open_ i))) ∧
    s.capture = { s with ev := { s.ev with out := .tdo bits :: s.ev.out }, free := s.free + n } := by
  refine ⟨(drivenPins ++ observedPins).zipIdx.map fun x => (s.pin x.1).bit (s.open_ x.2),
    (drivenPins ++ observedPins).length, ?_, fun i p hp => ?_, rfl⟩
  · rw [List.length_map, List.length_zipIdx, List.length_append]
  · rw [List.getElem?_map, List.getElem?_zipIdx, hp, Option.map_some, Option.map_some, Nat.zero_add]

/-- What an instruction under which cells are shifted leaves and shows, once it is in force. -/
abbrev DrivesCells (s t : State) (code : Nat) (c : List Bool) : Prop :=
  t = { s with pwr := { s.pwr with ir := code, scan := some code, tapBypass := false, cells := c },
               ev := { s.ev with out := t.ev.out }, free := t.free } ∧
  (∃ bits : List Bool, t.ev.out = .tdo bits :: s.ev.out) ∧
  (∀ (i : Nat) (p : Pin), drivenPins[i]? = some p → t.pin p = .of (c.getD i false)) ∧
  (∀ p, p ∉ drivenPins → t.pin p = t.pinOwn p)

theorem extest_drives {s : State} {code : Nat} {c : List Bool} (htap : s.tapOn = true) (h : s.pwr.scan = none)
    (hcode : 3 ≤ code ∧ code ≤ 5) (hallowed : s.scanAllowed = true) (hc : c ≠ []) :
    DrivesCells s ((s.tapDrives code).shiftCells c) code c := by
  have hbyp : decide (0x06 ≤ code) = false := by simp; omega
  have hcells : c.isEmpty = false := by simpa using hc
  rw [tapDrives_allowed htap h ⟨hcode.1, by omega⟩ hallowed, hbyp]
  obtain ⟨bits, n, -, -, hshift⟩ := capture_eq { s with pwr := { s.pwr with ir := code, scan := some code, tapBypass := false } }
  rw [State.shiftCells, hcells, if_pos (by rfl), hshift]
  refine ⟨rfl, ⟨bits, rfl⟩, fun i p hp => ?_, fun p hp => pin_of_undriven hp⟩
  exact (pin_of_driven rfl hp).trans (if_neg (by omega))

theorem extest_barred {s : State} {code : Nat} {c : List Bool} (htap : s.tapOn = true) (h : s.pwr.scan = none)
    (hallowed : s.scanAllowed = false) : (s.tapDrives code).shiftCells c = s.loaded code true := by
  have hidle : (s.loaded code true).pwr.scan = none := h
  rw [tapDrives_barred htap h hallowed, State.shiftCells, hidle]
  rfl

/-! ## An instruction in force ends -/

theorem intoReset_pwr (s : State) (bit : Nat) :
    (s.intoReset bit).pwr.scan = s.pwr.scan ∧ (s.intoReset bit).pwr.ir = s.pwr.ir ∧ (s.intoReset bit).pwr.held = true ∧
      (s.intoReset bit).pwr.dark = false ∧ (s.intoReset bit).pwr.cause.testBit bit = true := by
  obtain ⟨q, hreset⟩ := intoReset_eq s bit
  rw [hreset]
  refine ⟨rfl, rfl, rfl, rfl, ?_⟩
  dsimp only
  split
  · simp [testBit_setBit]
  · simp [Nat.testBit_two_pow_self]

/-- An instruction in force ends with a reset of cause SCAN as its conditions lapse. -/
theorem scanFollow_ends {s : State} {i : Nat} (hlive : s.live = false) (h : s.pwr.scan = some i) (hallowed : s.scanAllowed = false) :
    s.scanFollow.pwr.scan = none ∧ s.scanFollow.pwr.held = true ∧ s.scanFollow.pwr.cause.testBit 7 = true ∧
      s.scanFollow.pwr.tapBypass = true := by
  have hoff : ({ s with pwr := { s.pwr with scan := none } } : State).safOn = false := by
    simp only [State.safOn, Bool.and_eq_false_iff]
    exact .inl hlive
  have hends : s.scanEnds = ({ s with pwr := { s.pwr with scan := none } } : State).intoReset 7 := by
    rw [State.scanEnds, h]
    rfl
  have hbarred : s.scanEnds.scanAllowed = false := by
    rw [hends, State.intoReset, hoff]
    exact hallowed
  have hnone := scanWanted_barred hbarred
  obtain ⟨-, -, hheld, -, hcause⟩ := intoReset_pwr { s with pwr := { s.pwr with scan := none } } 7
  rw [← hends] at hheld hcause
  rw [State.scanFollow, if_neg (by simp [scanWanted_barred hallowed, h])]
  refine ⟨hnone, hheld, hcause, ?_⟩
  simp only [State.modPwr, hnone, Option.isNone_none, Bool.true_or]

end Sys2Proof.Machine

open Sys2Proof Sys2Proof.Machine

/-- Settles O48: a passive instruction is loaded (`tapPassive_idle`), one that drives pins takes effect or is BYPASS
(`tapDrives_allowed`, `tapDrives_barred`), which settles what the pins show (`pin_of_driven`, `pin_of_undriven`); one in force
ends in a reset (`intoReset_pwr`, `scanFollow_ends`). -/
theorem boundaryScanInstructions : Obligations.BoundaryScanInstructions := by
  unfold Obligations.BoundaryScanInstructions
  have hextest : ∀ (s : State) (code : Nat) (c : List Bool), s.tapOn = true → s.pwr.scan = none → s.scanAllowed = true →
      c ≠ [] → 3 ≤ code ∧ code ≤ 5 → Gives (answer s s.tapOn fun s => (s.tapDrives code).shiftCells c) fun t =>
        DrivesCells s t code c := fun s code c htap h hallowed hc hcode =>
    gives_answer htap (extest_drives htap h hcode hallowed hc)
  have hbypass : ∀ (s : State) (code : Nat) (c : List Bool), s.tapOn = true → s.pwr.scan = none → s.scanAllowed = false →
      Gives (answer s s.tapOn fun s => (s.tapDrives code).shiftCells c) fun t =>
        t = s.loaded code true ∧ ∀ p, t.pin p = s.pin p := by
    intro s code c htap h hallowed
    refine gives_answer (f := fun s => (s.tapDrives code).shiftCells c) htap ?_
    rw [extest_barred htap h hallowed]
    exact ⟨rfl, fun p => pin_loaded s p code true⟩
  have hbarred : ∀ (s : State) (code : Nat), s.tapOn = true → s.pwr.scan = none → s.scanAllowed = false →
      Gives (answer s s.tapOn fun s => s.tapDrives code) fun t => t = s.loaded code true ∧ ∀ p, t.pin p = s.pin p := by
    intro s code htap h hallowed
    refine gives_answer (f := fun s => s.tapDrives code) htap ?_
    rw [tapDrives_barred htap h hallowed]
    exact ⟨rfl, fun p => pin_loaded s p code true⟩
  refine ⟨?tapReset, ?idcode, ?sample, ?extest, ?extestBarred, ?pulse, ?pulseBarred, ?train, ?trainBarred, ?highz, ?clamp,
    ?highzBarred, ?clampBarred, ?allowed, ?bypass, ?resetEnds, ?lapses, ?takes⟩
  case tapReset =>
    intro s htap h
    refine gives_answer (f := State.tapReset) htap ?_
    rw [State.tapReset, scanEnds_idle h]
    rfl
  case idcode =>
    intro s htap h
    refine gives_answer (f := fun s => (s.tapPassive 0x01 false).send (.tdo (wordBits s.idcode))) htap ?_
    rw [tapPassive_idle htap h]
    obtain ⟨hbit0, hmaker, hpart⟩ := idcode_fields s
    exact ⟨rfl, rfl, hbit0, hmaker, hpart, rfl⟩
  case sample =>
    intro s c htap h
    refine gives_answer (f := fun s => (s.tapPassive 0x02 false).capture.modPwr fun p => { p with cells := c }) htap ?_
    rw [tapPassive_idle htap h]
    obtain ⟨bits, n, hlength, hbits, hcapture⟩ := capture_eq (s.loaded 0x02 false)
    rw [hcapture]
    refine ⟨⟨bits, rfl, hlength, fun i p hp => ?_⟩, rfl⟩
    rw [hbits i p hp, pin_loaded]
    exact ⟨fun hlevel => by rcases hlevel with hlevel | hlevel <;> rw [hlevel] <;> rfl,
      fun hlevel => by rcases hlevel with hlevel | hlevel <;> rw [hlevel] <;> rfl⟩
  case extest => exact fun s c htap h hallowed hc => hextest s 3 c htap h hallowed hc (by decide)
  case extestBarred => exact fun s c htap h hallowed => hbypass s 3 c htap h hallowed
  case pulse => exact fun s c htap h hallowed hc => hextest s 4 c htap h hallowed hc (by decide)
  case pulseBarred => exact fun s c htap h hallowed => hbypass s 4 c htap h hallowed
  case train => exact fun s c htap h hallowed hc => hextest s 5 c htap h hallowed hc (by decide)
  case trainBarred => exact fun s c htap h hallowed => hbypass s 5 c htap h hallowed
  case highz =>
    intro s htap h hallowed
    refine gives_answer (f := fun s => s.tapDrives 0x06) htap ?_
    rw [tapDrives_allowed htap h (by decide) hallowed]
    refine ⟨rfl, fun p hp => ?_, fun p hp => pin_of_undriven hp⟩
    obtain ⟨i, hi⟩ := List.getElem?_of_mem hp
    exact (pin_of_driven (code := 6) rfl hi).trans (if_pos rfl)
  case clamp =>
    intro s htap h hallowed
    refine gives_answer (f := fun s => s.tapDrives 0x07) htap ?_
    rw [tapDrives_allowed htap h (by decide) hallowed]
    exact ⟨rfl, fun i p hp => (pin_of_driven (code := 7) rfl hp).trans (if_neg (by decide)), fun p hp => pin_of_undriven hp⟩
  case highzBarred => exact fun s htap h hallowed => hbarred s 6 htap h hallowed
  case clampBarred => exact fun s htap h hallowed => hbarred s 7 htap h hallowed
  case allowed =>
    intro s
    simp [State.scanAllowed]
  case bypass =>
    intro s c htap h hc
    have hcode : (!(decide (1 ≤ c.toNat) && decide (c.toNat ≤ 7))) = true := by
      rcases hc with rfl | hc
      · rfl
      · simp; omega
    refine gives_answer (f := fun s => s.tapPassive c.toNat true) (by rw [htap, hcode]; rfl) ?_
    exact tapPassive_idle htap h
  case resetEnds =>
    intro s i htap h
    refine gives_answer (f := State.tapReset) htap ?_
    obtain ⟨hscan, -, hheld, hdark, hcause⟩ := intoReset_pwr (s.modPwr fun p => { p with scan := none }) 7
    rw [State.tapReset, State.scanEnds, h]
    exact ⟨hscan, rfl, hheld, hdark, hcause⟩
  case lapses =>
    intro s i hlive h hallowed
    rw [State.settle, hlive]
    exact scanFollow_ends hlive h hallowed
  case takes =>
    intro s hlive h htap h3 h7 hallowed
    rw [State.settle, hlive, if_pos (by rfl), scanFollow_takes htap h ⟨h3, h7⟩ hallowed]

end

section
/-! PROOFS. The rails: what the domain of the sentinel leaves of them, and what a step of one rail changes (R411 to R422). -/

namespace Sys2Proof.Machine

/-! ## The sentinel's steps -/

/-- The state without the sentinel's domain, the events and the time, all that a step of the domain reaches. -/
def State.besideDomain (s : State) : State := { s with sen := senReset, ev := fabricReset, reco := recoReset, clock := clockReset }

theorem foldl_besideDomain {α : Type} {f : State → α → State} (h : ∀ s a, (f s a).besideDomain = s.besideDomain) (l : List α)
    (s : State) : (l.foldl f s).besideDomain = s.besideDomain :=
  foldl_keeps (g := State.besideDomain) h l s

@[simp] theorem modSen_besideDomain (s : State) (f : Sentinel → Sentinel) : (s.modSen f).besideDomain = s.besideDomain := rfl

@[simp] theorem advance_besideDomain (s : State) (t : Nat) : (s.advance t).besideDomain = s.besideDomain := rfl

@[simp] theorem sendAll_besideDomain (s : State) (l : List Out) : (s.sendAll l).besideDomain = s.besideDomain := rfl

@[simp] theorem event_besideDomain (s : State) (page n sub : Nat) (d : List Nat) (st : Status) :
    (s.event page n sub d st).besideDomain = s.besideDomain := rfl

@[simp] theorem senPost_besideDomain (s : State) (n : Nat) (b : List Byte) : (s.senPost n b).besideDomain = s.besideDomain := rfl

@[simp] theorem alertStart_besideDomain (s : State) : s.alertStart.besideDomain = s.besideDomain := by
  rw [alertStart_eq]
  rfl

@[simp] theorem senCommit_besideDomain (s : State) (type subject detail time flags : Nat) :
    (s.senCommit type subject detail time flags).besideDomain = s.besideDomain := by
  rw [show s.senCommit type subject detail time flags = _ from senCommit_eq s type subject detail time flags]
  rfl

@[simp] theorem senEntryAt_besideDomain (s : State) (type subject detail time : Nat) (bound : Bool) :
    (s.senEntryAt type subject detail time bound).besideDomain = s.besideDomain := by
  unfold State.senEntryAt
  dsimp only
  split <;> simp

@[simp] theorem senEntry_besideDomain (s : State) (type subject detail : Nat) :
    (s.senEntry type subject detail).besideDomain = s.besideDomain := senEntryAt_besideDomain _ _ _ _ _ _

@[simp] theorem senFlush_besideDomain (s : State) : s.senFlush.besideDomain = s.besideDomain := by
  rw [State.senFlush, alertStart_besideDomain]
  refine foldl_besideDomain (fun t e => ?_) _ _
  dsimp only
  split <;> rfl

@[simp] theorem alertAbort_besideDomain (s : State) : s.alertAbort.besideDomain = s.besideDomain := by
  have hevent (c : Bool) (u : State) (n sub : Nat) (hu : u.besideDomain = s.besideDomain) :
      (if c then u.event 0x12 n sub else u).besideDomain = s.besideDomain := by
    split
    · exact hu
    · exact hu
  unfold State.alertAbort
  split
  · rfl
  · dsimp only
    have hsent {t : Nat} {g : Sentinel → Sentinel} {l : List Out} :
        (((s.advance t).modSen g).sendAll l).besideDomain = s.besideDomain := rfl
    split
    · rw [senEntry_besideDomain, senFlush_besideDomain]
      exact hevent _ _ _ _ (hevent _ _ _ _ hsent)
    · rw [senFlush_besideDomain]
      exact hevent _ _ _ _ hsent

@[simp] theorem stampNow_besideDomain (s : State) : s.stampNow.besideDomain = s.besideDomain := rfl

@[simp] theorem goBlind_besideDomain (s : State) : s.goBlind.besideDomain = s.besideDomain := by
  unfold State.goBlind
  dsimp only
  rw [modSen_besideDomain, senEntryAt_besideDomain, stampNow_besideDomain, alertAbort_besideDomain]

@[simp] theorem endBlind_besideDomain (s : State) : s.endBlind.besideDomain = s.besideDomain := by
  unfold State.endBlind
  split <;> simp

@[simp] theorem senCharge_besideDomain (s : State) : s.senCharge.besideDomain = s.besideDomain := rfl

@[simp] theorem senDies_besideDomain (s : State) : s.senDies.besideDomain = s.besideDomain := rfl

theorem senAuxUp_besideDomain (s : State) : s.senAuxUp.besideDomain = s.besideDomain := by
  unfold State.senAuxUp
  split <;> simp

theorem senAuxDown_besideDomain (s : State) : s.senAuxDown.besideDomain = s.besideDomain := by
  unfold State.senAuxDown
  (repeat' split) <;> simp

/-- What a step of the domain leaves: the rails, the clocks and the supply. -/
theorem kept_of_besideDomain {s t : State} (h : t.besideDomain = s.besideDomain) :
    t.rail = s.rail ∧ t.clk = s.clk ∧ t.pwr = s.pwr :=
  ⟨show t.besideDomain.rail = s.besideDomain.rail by rw [h], show t.besideDomain.clk = s.besideDomain.clk by rw [h],
    show t.besideDomain.pwr = s.besideDomain.pwr by rw [h]⟩

/-! ## Channels -/

theorem railCh_modCh {s : State} {c : Nat} (f : RailCh → RailCh) (hc : c < s.rail.ch.length) :
    (s.modCh c f).railCh c = f (s.railCh c) :=
  (getD_modAt _ _ _ _ _).trans (if_pos ⟨rfl, hc⟩)

theorem railCh_modCh_other {s : State} {c d : Nat} (f : RailCh → RailCh) (hd : d ≠ c) : (s.modCh c f).railCh d = s.railCh d :=
  (getD_modAt _ _ _ _ _).trans (if_neg fun h => hd h.1)

theorem modRailOf_core (s : State) (f : RailCh → RailCh) {c : Nat} (hc : c < 2) : s.modRailOf c f = (s.modCh 0 f).modCh 1 f := by
  rw [State.modRailOf, railOf, if_pos hc]
  rfl

theorem modRailOf_single (s : State) (f : RailCh → RailCh) {c : Nat} (hc : 2 ≤ c) : s.modRailOf c f = s.modCh c f := by
  rw [State.modRailOf, railOf, if_neg (by omega)]
  rfl

/-- Every channel of the rail is changed. -/
theorem railCh_modRailOf {s : State} {c d : Nat} (f : RailCh → RailCh) (hlen : s.rail.ch.length = 4) (hc : c < 4)
    (hd : d ∈ railOf c) : (s.modRailOf c f).railCh d = f (s.railCh d) := by
  unfold railOf at hd
  split at hd
  next h =>
    rw [modRailOf_core s f h]
    obtain rfl | rfl : d = 0 ∨ d = 1 := by simpa using hd
    · rw [railCh_modCh_other f (by decide), railCh_modCh f (by omega)]
    · rw [railCh_modCh f (by simp [State.modCh, State.modRail, length_modAt, hlen]), railCh_modCh_other f (by decide)]
  next h =>
    rw [List.mem_singleton.mp hd, modRailOf_single s f (by omega), railCh_modCh f (by omega)]

/-- No other channel is. -/
theorem railCh_modRailOf_other {s : State} {c d : Nat} (f : RailCh → RailCh) (hd : d ∉ railOf c) :
    (s.modRailOf c f).railCh d = s.railCh d := by
  unfold railOf at hd
  split at hd
  next h =>
    obtain ⟨h0, h1⟩ : d ≠ 0 ∧ d ≠ 1 := by simpa using hd
    rw [modRailOf_core s f h, railCh_modCh_other f h1, railCh_modCh_other f h0]
  next h => rw [modRailOf_single s f (by omega), railCh_modCh_other f (by simpa using hd)]

theorem modRailOf_eq (s : State) (c : Nat) (f : RailCh → RailCh) :
    s.modRailOf c f = { s with rail := { s.rail with ch := (s.modRailOf c f).rail.ch } } := by
  by_cases hc : c < 2
  · rw [modRailOf_core s f hc]; rfl
  · rw [modRailOf_single s f (by omega)]; rfl

theorem mem_railOf (c : Nat) (hc : c < 4) : c ∈ railOf c := by
  unfold railOf
  split
  · simp; omega
  · simp

end Sys2Proof.Machine

end

section
/-! PROOFS. The rails start in order, fail and latch (R411, R417 to R419, R450, R451). -/

namespace Sys2Proof.Machine

/-! ## Every channel goes down, and a rail starts -/

theorem railCh_railsDown {s : State} {c : Nat} (hlen : s.rail.ch.length = 4) (hc : c < 4) :
    (s.railsDown.railCh c).st = .off ∧ (s.railsDown.railCh c).pg = false := by
  have hc' : c < s.rail.ch.length := by omega
  simp [State.railCh, State.railsDown, State.modRail, List.getD_eq_getElem?_getD, List.getElem?_map, List.getElem?_eq_getElem hc']

theorem length_railsDown {s : State} (hlen : s.rail.ch.length = 4) : s.railsDown.rail.ch.length = 4 :=
  (List.length_map _).trans hlen

/-- Every channel of the rail is in its soft start; no other channel changes. -/
theorem railCh_railStart {s : State} {c d : Nat} (hlen : s.rail.ch.length = 4) (hc : c < 4) (hd : d ∈ railOf c) :
    ((s.railStart c).railCh d).st = .soft := by
  unfold State.railStart
  dsimp only
  rw [railCh_modRailOf _ hlen hc hd]

theorem railCh_railStart_other {s : State} {c d : Nat} (hd : d ∉ railOf c) : (s.railStart c).railCh d = s.railCh d :=
  railCh_modRailOf_other _ hd

theorem railStart_eq (s : State) (c : Nat) :
    s.railStart c = { s with rail := { s.rail with ch := (s.railStart c).rail.ch } } := modRailOf_eq s c _

/-! ## Into reset and into the dark -/

/-- A reset leaves each channel in the state it was in (R451). -/
theorem railsReset_ch {s : State} {c : Nat} (hc : c < 4) : (s.railsReset.ch.getD c (railChReset 0 0)).st = (s.railCh c).st ∧
    (s.railsReset.ch.getD c (railChReset 0 0)).pg = (s.railCh c).pg := by
  have hget : (List.range 4)[c]? = some c := List.getElem?_range hc
  simp only [State.railsReset, List.getD_eq_getElem?_getD, List.getElem?_map, hget, Option.map_some, Option.getD_some]
  split <;> exact ⟨rfl, rfl⟩

/-- The channels of a device that has gone into reset. -/
theorem railCh_intoReset {s : State} {bit c : Nat} (hc : c < 4) :
    ((s.intoReset bit).railCh c).st = (s.railCh c).st ∧ ((s.intoReset bit).railCh c).pg = (s.railCh c).pg := by
  obtain ⟨q, hreset⟩ := intoReset_eq s bit
  rw [hreset]
  exact railsReset_ch (s := s) hc

/-- Where the supply is gone the device is in reset and dark, and the rails are as in a reset. -/
theorem goDark_eq (s : State) : ∃ q : Sentinel, s.goDark =
    { s.wiped with
      sen := q
      pwr := { s.pwr with dark := true, held := true, ready := 0, readyT := none, late := 0, sources := 0, scan := none } } := by
  have hs : ∃ q : Sentinel, (if s.safOn then s.senTakes else s) = { s with sen := q } := by
    split
    · exact ⟨_, senTakes_eq s⟩
    · exact ⟨s.sen, rfl⟩
  obtain ⟨q, hq⟩ := hs
  refine ⟨q, ?_⟩
  unfold State.goDark
  rw [hq]
  rfl

theorem goDark_keeps (s : State) : (∃ ch : List RailCh, s.goDark.rail = { s.rail with ch := ch }) ∧
    s.goDark.clock.mono = s.clock.mono ∧ s.goDark.pwr.dark = true ∧ s.goDark.pwr.held = true := by
  obtain ⟨q, hdark⟩ := goDark_eq s
  rw [hdark]
  exact ⟨⟨_, rfl⟩, rfl, rfl, rfl⟩

theorem railCh_goDark {s : State} {c : Nat} (hc : c < 4) :
    (s.goDark.railCh c).st = (s.railCh c).st ∧ (s.goDark.railCh c).pg = (s.railCh c).pg := by
  obtain ⟨q, hdark⟩ := goDark_eq s
  rw [hdark]
  exact railsReset_ch (s := s) hc

/-! ## Power-on -/

/-- The power-on start: RC_0 and RC_1 are in soft start, the others off, and the device is in reset (R411). -/
theorem powerUp_eq (s : State) (hlen : s.rail.ch.length = 4) : ∃ ch : List RailCh,
    s.powerUp.rail = { s.railsDown.rail with ch := ch } ∧
    (s.powerUp.railCh 0).st = .soft ∧ (s.powerUp.railCh 1).st = .soft ∧
    (s.powerUp.railCh 2).st = .off ∧ (s.powerUp.railCh 3).st = .off ∧
    s.powerUp.pwr.held = true ∧ s.powerUp.pwr.dark = false ∧ s.powerUp.pwr.ir = 1 ∧
    (s.pwr.dark = true → s.powerUp.pwr.cause = 1) := by
  have hdown := length_railsDown hlen
  have hch (c : Nat) (hc : c < 4) : (s.powerUp.railCh c).st = ((s.railsDown.railStart 0).railCh c).st :=
    (railCh_intoReset (bit := 0) hc).1
  rw [hch 0 (by decide), hch 1 (by decide), hch 2 (by decide), hch 3 (by decide),
    railCh_railStart hdown (by decide) (by decide), railCh_railStart hdown (by decide) (by decide),
    railCh_railStart_other (by decide), railCh_railStart_other (by decide)]
  obtain ⟨q, hreset⟩ := intoReset_eq (s.railsDown.railStart 0) 0
  unfold State.powerUp
  rw [hreset]
  refine ⟨_, rfl, rfl, rfl, (railCh_railsDown hlen (by decide)).1, (railCh_railsDown hlen (by decide)).1, rfl, rfl, rfl, ?_⟩
  intro hdark
  have hd : (s.railsDown.railStart 0).pwr.dark = true := hdark
  simp [State.modPwr, hd]

/-! ## Power good -/

/-- The next rail in order starts where it is off. -/
def State.startsNext (s : State) (d : Nat) : State := if (s.railCh d).st = .off then s.railStart d else s

theorem startsNext_off {s : State} {d : Nat} (h : (s.railCh d).st = .off) : s.startsNext d = s.railStart d := if_pos h

theorem startsNext_on {s : State} {d : Nat} (h : (s.railCh d).st ≠ .off) : s.startsNext d = s := if_neg h

theorem startsNext_eq (s : State) (d : Nat) : s.startsNext d = { s with rail := { s.rail with ch := (s.startsNext d).rail.ch } } := by
  by_cases h : (s.railCh d).st = .off
  · rw [startsNext_off h]
    exact railStart_eq s d
  · rw [startsNext_on h]

theorem railCh_startsNext {s : State} {d : Nat} (hlen : s.rail.ch.length = 4) (hd : d < 4) (hoff : (s.railCh d).st = .off) :
    ((s.startsNext d).railCh d).st = .soft := by
  rw [startsNext_off hoff]
  exact railCh_railStart hlen hd (mem_railOf d hd)

theorem railCh_startsNext_other {s : State} {c d : Nat} (hc : c ∉ railOf d) : (s.startsNext d).railCh c = s.railCh c := by
  by_cases h : (s.railCh d).st = .off
  · rw [startsNext_off h]
    exact railCh_railStart_other hc
  · rw [startsNext_on h]

/-- A rail has power good, and with it its source of reset ends. -/
def State.goodRail (s : State) (c : Nat) : State :=
  let s1 := s.modRailOf c fun q => { q with pg := true, pgDue := none }
  s1.resetSource (if c < 2 then 2 else 3) (if c < 3 then false else s1.pwr.sources.testBit 3)

theorem goodRail_rail (s : State) (c : Nat) :
    (s.goodRail c).rail = (s.modRailOf c fun q => { q with pg := true, pgDue := none }).rail := rfl

theorem goodRail_eq (s : State) (c : Nat) : s.goodRail c =
    { s with rail := { s.rail with ch := (s.goodRail c).rail.ch }, pwr := { s.pwr with sources := (s.goodRail c).pwr.sources } } := by
  have hrail := modRailOf_eq s c fun q => { q with pg := true, pgDue := none }
  unfold State.goodRail
  rw [hrail]
  rfl

theorem length_goodRail {s : State} (c : Nat) (hlen : s.rail.ch.length = 4) : (s.goodRail c).rail.ch.length = 4 := by
  rw [goodRail_rail]
  by_cases hc : c < 2
  · rw [modRailOf_core _ _ hc]
    exact (length_modAt _ _ _).trans ((length_modAt _ _ _).trans hlen)
  · rw [modRailOf_single _ _ (Nat.le_of_not_lt hc)]
    exact (length_modAt _ _ _).trans hlen

theorem railCh_goodRail {s : State} {c : Nat} (hlen : s.rail.ch.length = 4) (hc : c < 4) : ((s.goodRail c).railCh c).pg = true := by
  have hgood := railCh_modRailOf (fun q => { q with pg := true, pgDue := none }) hlen hc (mem_railOf c hc)
  exact congrArg RailCh.pg hgood

theorem railCh_goodRail_other {s : State} {c d : Nat} (hd : d ∉ railOf c) : (s.goodRail c).railCh d = s.railCh d :=
  railCh_modRailOf_other (fun q => { q with pg := true, pgDue := none }) hd

theorem railGood_eq {s : State} {c : Nat} (hc : c < 4) (hon : s.railOn = true) (hst : (s.railCh c).st = .on)
    (hpg : (s.railCh c).pg = false) : s.railGood c =
      if c < 2 then (s.goodRail c).startsNext 2 else if c = 2 then (s.goodRail c).startsNext 3 else s.goodRail c := by
  unfold State.railGood
  rw [if_neg (by simp [hon, hst, hpg]; omega)]
  rfl

/-- Power good of a rail, and the start of the next one that is off (R411). -/
theorem goodRail_starts {s : State} {c : Nat} (hlen : s.rail.ch.length = 4) (hc : c < 4) :
    let t := if c < 2 then (s.goodRail c).startsNext 2 else if c = 2 then (s.goodRail c).startsNext 3 else s.goodRail c
    (t.railCh c).pg = true ∧ (c < 3 → t.pwr.sources.testBit (if c < 2 then 2 else 3) = false) ∧
      (c < 2 → (s.railCh 2).st = .off → (t.railCh 2).st = .soft) ∧ (c = 2 → (s.railCh 3).st = .off → (t.railCh 3).st = .soft) ∧
      t = { s with rail := { s.rail with ch := t.rail.ch }, pwr := { s.pwr with sources := t.pwr.sources } } := by
  have hgood := railCh_goodRail hlen hc
  have hlen' := length_goodRail c hlen
  have hsources (h : c < 3) : (s.goodRail c).pwr.sources.testBit (if c < 2 then 2 else 3) = false := by
    have hset : (s.goodRail c).pwr.sources = setBit (s.modRailOf c fun q => { q with pg := true, pgDue := none }).pwr.sources
        (if c < 2 then 2 else 3) (if c < 3 then false else _) := rfl
    rw [hset, testBit_setBit, if_pos rfl, if_pos h]
  have hframe {t : State} (ht : t = { s.goodRail c with rail := { (s.goodRail c).rail with ch := t.rail.ch } }) :
      t = { s with rail := { s.rail with ch := t.rail.ch }, pwr := { s.pwr with sources := t.pwr.sources } } := by
    generalize t.rail.ch = ch at ht
    subst ht
    rw [goodRail_eq s c]
  dsimp only
  split
  next h =>
    have hnot : c ∉ railOf 2 := by simp [railOf]; omega
    refine ⟨?_, fun h3 => ?_, fun _ hoff => ?_, fun h2 => by omega, hframe (startsNext_eq _ 2)⟩
    · rw [railCh_startsNext_other hnot, hgood]
    · rw [startsNext_eq]
      simpa [h] using hsources h3
    · refine railCh_startsNext hlen' (by decide) ?_
      rw [railCh_goodRail_other (by simp [railOf, h]), hoff]
  next h =>
    split
    next h2 =>
      have hnot : c ∉ railOf 3 := by simp [railOf]; omega
      refine ⟨?_, fun h3 => ?_, fun h' => absurd h' h, fun _ hoff => ?_, hframe (startsNext_eq _ 3)⟩
      · rw [railCh_startsNext_other hnot, hgood]
      · rw [startsNext_eq]
        simpa [h] using hsources h3
      · refine railCh_startsNext hlen' (by decide) ?_
        rw [railCh_goodRail_other (by simp [railOf, h2]), hoff]
    next h2 => exact ⟨hgood, by simpa [h] using hsources, fun h' => absurd h' h, fun h' => absurd h' h2, hframe rfl⟩

/-! ## The end of soft start -/

/-- A channel at the end of its soft start: its reference stands at the target (R417). -/
def RailCh.atTarget (preb : Bool) (now : Nat) (q : RailCh) : RailCh :=
  { q with st := .on, vFrom := q.vTgt, vAt := now, slew := 10000, preb := preb, pgDue := some now }

theorem softEnded {s u : State} {c n : Nat} {p : Bool} (hrail : u.rail = s.rail) (hlen : s.rail.ch.length = 4) (hc : c < 4) :
    let t := u.modRailOf c (RailCh.atTarget p n)
    (t.railCh c).st = .on ∧ (t.railCh c).preb = p ∧ (t.railCh c).vFrom = (s.railCh c).vTgt ∧ t.clock = u.clock ∧
      (∀ d, d ∉ railOf c → t.railCh d = s.railCh d) ∧ t = { u with rail := { s.rail with ch := t.rail.ch } } := by
  have hch : s.railCh = u.railCh := funext fun d => by rw [State.railCh, State.railCh, hrail]
  have heq := modRailOf_eq u c (RailCh.atTarget p n)
  dsimp only
  rw [hch, ← hrail, railCh_modRailOf _ (hrail ▸ hlen) hc (mem_railOf c hc)]
  exact ⟨rfl, rfl, rfl, (congrArg State.clock heq).trans rfl, fun d hd => railCh_modRailOf_other _ hd, heq⟩

/-! ## A latch -/

theorem senEntry_eq (s : State) (type subject detail : Nat) :
    ∃ (q : Sentinel) (f : Fabric) (r : Recorder), s.senEntry type subject detail = { s with sen := q, ev := f, reco := r } := by
  unfold State.senEntry State.senEntryAt
  split
  · exact ⟨_, _, _, rfl⟩
  · exact ⟨_, _, _, senCommit_eq s type subject detail _ _⟩

/-- A latch stops every channel and leaves the device dark (R419). -/
theorem latchOff_stops (s : State) (c k : Nat) (hlen : s.rail.ch.length = 4) :
    (s.latchOff c k).clock.mono = s.clock.mono ∧ (s.latchOff c k).rail.latch = some (c, k) ∧
    (s.latchOff c k).rail.last = some (c, k) ∧ (∀ d, d < 4 → ((s.latchOff c k).railCh d).st = .off) ∧
    (s.latchOff c k).pwr.dark = true := by
  obtain ⟨q, f, r, hentry⟩ :=
    senEntry_eq (s.railsDown.modRail fun r => { r with latch := some (c, k), last := some (c, k) }) 4 c k
  unfold State.latchOff
  dsimp only
  rw [hentry]
  obtain ⟨⟨ch, hrail⟩, hmono, hdark, -⟩ := goDark_keeps (({ s.railsDown.modRail fun r =>
    { r with latch := some (c, k), last := some (c, k) } with sen := q, ev := f, reco := r } : State).modClk fun k =>
      { k with good := [false, false], lock := [false, false, false, false], hold := none })
  exact ⟨hmono, (congrArg Rail.latch hrail).trans rfl, (congrArg Rail.last hrail).trans rfl,
    fun d hd => (railCh_goDark hd).1.trans (railCh_railsDown hlen hd).1, hdark⟩

/-- A latch whose condition is met is taken at its instant (R418). -/
theorem railLatch_eq {s : State} {c k : Nat} (hdue : s.latchDue c k = true) : ∃ u : State, s.railLatch c k = u.latchOff c k ∧
    u.rail = s.rail ∧ ∀ a, k = 4 → (s.railCh c).pgDue = some a → u.clock.mono = (s.advance (a + ms 5)).clock.mono := by
  rw [State.railLatch, if_pos hdue]
  refine ⟨_, rfl, ?_, fun a hk ha => ?_⟩
  · split
    · split
      · exact State.advance_rail s _
      · rfl
    · rfl
  · rw [ha]
    dsimp only
    rw [if_pos hk]

end Sys2Proof.Machine

open Sys2Proof Sys2Proof.Machine

/-- Settles O42: power-on by `powerUp_eq`, the fall of the auxiliary input by `goDark_eq`, power good by `railGood_eq`, its loss
by `intoReset_pwr`, a latch by `latchOff_stops`. -/
theorem railsStartAndStop : Obligations.RailsStartAndStop := by
  unfold Obligations.RailsStartAndStop
  refine ⟨?rise, ?fall, ?soft, ?good, ?loss, ?lost, ?latch, ?restart⟩
  case rise =>
    intro s r haux hlen
    refine gives_answer (f := fun s => s.auxRise r) (by simp [haux]) ?_
    rw [State.auxRise, if_neg (by simp [haux])]
    obtain ⟨ch, hrail, h0, h1, h2, h3, hheld, hdark, hir, hcause⟩ := powerUp_eq
      ((s.modRail fun r' => { r' with aux := true, rc3sel := some r, latch := none }).modRail fun r' =>
        { r' with lastReport := r'.lastValid }) hlen
    obtain ⟨hkrail, hkclk, hkpwr⟩ := kept_of_besideDomain (senAuxUp_besideDomain
      ((((s.modRail fun r' => { r' with aux := true, rc3sel := some r, latch := none }).modRail fun r' =>
        { r' with lastReport := r'.lastValid }).powerUp.modClk fun k =>
          { k with good := [false, false], lock := [false, false, false, false], hold := none })))
    dsimp only
    simp only [State.railCh, hkrail, hkclk, hkpwr]
    refine ⟨congrArg Rail.aux hrail, congrArg Rail.rc3sel hrail, congrArg Rail.latch hrail, h0, h1, h2, h3, hheld, hdark, hcause,
      hir, rfl⟩
  case fall =>
    intro s haux hlen
    refine gives_answer (f := State.auxFall) haux ?_
    rw [State.auxFall, if_neg (by simp [haux])]
    dsimp only
    obtain ⟨hkrail, hkclk, hkpwr⟩ := kept_of_besideDomain (senAuxDown_besideDomain
      (((s.railsDown.modRail fun r => { r with aux := false, latch := none, rc3sel := none, lastValid := s.rail.latch.isSome }).modClk
        fun k => { k with good := [false, false], lock := [false, false, false, false], hold := none }).goDark))
    have hch (c : Nat) (hc : c < 4) := railCh_goDark (s := (s.railsDown.modRail fun r =>
      { r with aux := false, latch := none, rc3sel := none, lastValid := s.rail.latch.isSome }).modClk
        fun k => { k with good := [false, false], lock := [false, false, false, false], hold := none }) hc
    simp only [State.railCh, hkrail, hkpwr]
    obtain ⟨⟨ch, hrail⟩, -, hdark, hheld⟩ := goDark_keeps ((s.railsDown.modRail fun r =>
      { r with aux := false, latch := none, rc3sel := none, lastValid := s.rail.latch.isSome }).modClk
        fun k => { k with good := [false, false], lock := [false, false, false, false], hold := none })
    refine ⟨?_, ?_, ?_, fun c hc => ⟨(hch c hc).1.trans (railCh_railsDown hlen hc).1, (hch c hc).2.trans (railCh_railsDown hlen hc).2⟩,
      hdark, hheld, ?_, ?_⟩
    · rw [hrail]; rfl
    · rw [hrail]; rfl
    · rw [hrail]; rfl
    · rw [hrail]; rfl
    · rw [hrail]; rfl
  case soft =>
    intro s c p hc hlen hon hst
    refine gives_answer (f := fun s => s.softEnd c p) (by simpa using hc) ?_
    rw [State.softEnd, if_pos (by simp [hon, hst])]
    exact softEnded (State.advance_rail s _) hlen hc
  case good =>
    intro s c hc hlen hon hst hpg
    refine gives_answer (f := fun s => s.railGood c) (by simpa using hc) ?_
    rw [railGood_eq hc hon hst hpg]
    exact goodRail_starts hlen hc
  case loss =>
    intro s c hc hlen hon hst hpg
    refine gives_answer (f := fun s => s.corePgLoss c) (by simp; omega) ?_
    rw [State.corePgLoss, if_pos (by simp [hon, hst, hpg, hc])]
    obtain ⟨-, -, hheld, -, hcause⟩ := intoReset_pwr (s.modRailOf c fun q => { q with pg := false }) (if c < 2 then 2 else 3)
    have hch := railCh_modRailOf (fun q => { q with pg := false }) hlen (by omega) (mem_railOf c (by omega))
    obtain ⟨-, hlow⟩ := railCh_intoReset (s := s.modRailOf c fun q => { q with pg := false }) (bit := if c < 2 then 2 else 3)
      (c := c) (by omega)
    refine ⟨hlow.trans (congrArg RailCh.pg hch), hheld, ?_, hcause, ?_⟩
    · exact (testBit_setBit _ _ _ _).trans (if_pos rfl)
    · simp only [State.live, State.resetSource, State.modPwr, Bool.and_eq_false_iff, Bool.not_eq_false']
      exact .inr hheld
  case lost =>
    intro s hcanon hlen hon hst hpg
    obtain ⟨-, -, -, hirq, -⟩ := hcanon
    refine gives_answer (f := State.pgLost) hon ?_
    rw [State.pgLost, if_pos (by simp [hon, hst, hpg])]
    exact ⟨railCh_modCh _ (by omega), fun c hc => railCh_modCh_other _ hc,
      fun h hh => flags_event (s := s.modCh 3 _) hirq (by decide) hh, rfl⟩
  case latch =>
    intro s c k hlen hdue
    have hc : c < 4 := by
      simp only [State.latchDue, Bool.and_eq_true, decide_eq_true_eq] at hdue
      omega
    refine gives_answer (f := fun s => s.railLatch c k) (by simpa using hc) ?_
    obtain ⟨u, hlatched, hrail, hmono⟩ := railLatch_eq hdue
    obtain ⟨hclock, hlatch, hlast, hoff, hdark⟩ := latchOff_stops u c k (hrail ▸ hlen)
    rw [hlatched]
    exact ⟨fun a hk ha => hclock.trans (hmono a hk ha), hlatch, hlast, hoff, hdark, by simp [State.live, hdark]⟩
  case restart =>
    intro s haux hlatch hlen
    refine gives_answer (f := State.railRestart) hlatch ?_
    rw [State.railRestart, if_pos ⟨haux, hlatch⟩]
    obtain ⟨ch, hrail, h0, h1, -, -, hheld, hdark, -, -⟩ := powerUp_eq
      (s.modRail fun r => { r with latch := none, lastValid := true, lastReport := true }) hlen
    rw [hrail]
    exact ⟨rfl, rfl, rfl, h0, h1, hdark, hheld⟩

end

section
/-! PROOFS. Rail protection, voltage commands, burst mode and the synchronised clock (R412 to R418, R420 to R422). -/

namespace Sys2Proof.Machine

/-! ## One channel changes -/

theorem chRuns_iff {s : State} {c : Nat} : s.chRuns c = true ↔ s.railOn = true ∧ c < 4 ∧ (s.railCh c).st ≠ .off := by
  simp [State.chRuns, and_assoc]

/-- A change of a channel changes that channel alone. -/
theorem modCh_alone {s : State} {c : Nat} (f : RailCh → RailCh) (hlen : s.rail.ch.length = 4) (hc : c < 4) :
    (s.modCh c f).railCh c = f (s.railCh c) ∧ (∀ d, d ≠ c → (s.modCh c f).railCh d = s.railCh d) ∧
      s.modCh c f = { s with rail := { s.rail with ch := (s.modCh c f).rail.ch } } :=
  ⟨railCh_modCh f (by omega), fun _ hd => railCh_modCh_other f hd, rfl⟩

/-- An event that is raised where a condition holds leaves everything but the events. -/
theorem eventIf_eq (s : State) (b : Bool) (page n sub : Nat) : ∃ (f : Fabric) (r : Recorder),
    s.eventIf b page n sub = { s with ev := f, reco := r } ∧
    (b = true → Map.wf (fun _ => 0#32) s.ev.irq = true → n < 32 → ∀ h, h < 4 → bitAt (f.flags h page) n = true) := by
  cases b with
  | false => exact ⟨s.ev, s.reco, rfl, fun hb => absurd hb (by decide)⟩
  | true => exact ⟨_, _, rfl, fun _ hw hn h hh => flags_event hw hn hh⟩

/-! ## A switching cycle starts -/

/-- What the start of a cycle makes of its channel (R413 to R416). -/
def State.cycle (s : State) (c : Nat) (q : RailCh) : RailCh :=
  { q with
    ilim := q.ilimNow, negc := q.negcNow, ilimNow := false, negcNow := false,
    consec := if q.bstuv ∨ q.ilimNow then q.consec else 0,
    last8 := (q.last8 * 2 + b2n q.ilimNow) % 256,
    bstuv := q.bstuv && !q.bstOk, bstOk := false,
    limit := fld (s.chCfg c) 16 8, phase := s.phaseOf c }

/-- What it makes of the switching clock, in the cycle of RC_0 (R412, R413). -/
def State.clockNext (s : State) (r : Rail) : Rail :=
  let want := s.syncEn && r.sync.isSome
  if r.follow && !s.syncEn then { r with follow := false, move := 0, kHz := s.fsw, goal := s.fsw }
  else if want && !r.follow then { r with follow := true, move := 64, goal := r.sync.getD r.goal }
  else if r.move ≠ 0 then
    { r with move := r.move - 1, kHz := (((r.kHz : Int) + quo ((r.goal : Int) - r.kHz) r.move)).toNat }
  else if r.follow then { r with kHz := r.goal } else { r with kHz := s.fsw, goal := s.fsw }

/-- The clock leaves the channels and the protection of the controller. -/
theorem clockNext_keeps (s : State) (r : Rail) : (s.clockNext r).ch = r.ch ∧ (s.clockNext r).aux = r.aux ∧
    (s.clockNext r).latch = r.latch ∧ (s.clockNext r).lossPend = r.lossPend ∧ (s.clockNext r).wasLost = r.wasLost := by
  unfold State.clockNext
  dsimp only
  (repeat' split) <;> exact ⟨rfl, rfl, rfl, rfl, rfl⟩

theorem switchCycle_eq {s : State} {c : Nat} (hrun : s.chRuns c = true) : s.switchCycle c =
    if c ≠ 0 then (s.burstLeaves c).modCh c (s.cycle c)
    else ((s.burstLeaves c).modCh c (s.cycle c)).modRail ((s.burstLeaves c).modCh c (s.cycle c)).clockNext := by
  obtain ⟨hon, hc, hst⟩ := (chRuns_iff).mp hrun
  unfold State.switchCycle
  rw [if_neg (by simp [hon, hst]; omega)]
  rfl

/-- Nothing leaves burst mode where that is not due. -/
theorem burstLeaves_none {s : State} {c : Nat} (h : s.rail.burstEnds.contains c = false) : s.burstLeaves c = s := by
  rw [State.burstLeaves, h]
  rfl

/-- A rail out of burst mode. -/
def State.burstEnded (s : State) (c : Nat) : State :=
  (s.modRailOf c fun q => { q with burst := false }).modRail fun r => { r with
    burstEnds := r.burstEnds.filter fun d => !(railOf c).contains d }

theorem railCh_burstEnded {s : State} {c d : Nat} (hlen : s.rail.ch.length = 4) (hc : c < 4) (hd : d ∈ railOf c) :
    (s.burstEnded c).railCh d = { s.railCh d with burst := false } :=
  railCh_modRailOf (fun q => { q with burst := false }) hlen hc hd

theorem railCh_burstEnded_other {s : State} {c d : Nat} (hd : d ∉ railOf c) : (s.burstEnded c).railCh d = s.railCh d :=
  railCh_modRailOf_other (fun q => { q with burst := false }) hd

theorem burstEnded_eq (s : State) (c : Nat) : s.burstEnded c = { s with rail := { s.rail with
    ch := (s.burstEnded c).rail.ch, burstEnds := s.rail.burstEnds.filter fun d => !(railOf c).contains d } } := by
  have hrail := modRailOf_eq s c fun q => { q with burst := false }
  unfold State.burstEnded
  rw [hrail]
  rfl

theorem burstLeaves_due {s : State} {c : Nat} (h : s.rail.burstEnds.contains c = true) :
    s.burstLeaves c = if s.rail.lossPend = true then (s.burstEnded c).syncGone else s.burstEnded c := by
  have hloss : (s.burstEnded c).rail.lossPend = s.rail.lossPend := by rw [burstEnded_eq]
  rw [State.burstLeaves, if_pos h, ← hloss]
  rfl

/-- What the end of burst mode leaves. -/
theorem burstLeaves_keeps (s : State) (c : Nat) :
    (s.burstLeaves c).regs = s.regs ∧ (s.burstLeaves c).rail.aux = s.rail.aux ∧ (s.burstLeaves c).rail.latch = s.rail.latch := by
  cases h : s.rail.burstEnds.contains c with
  | false => rw [burstLeaves_none h]; exact ⟨rfl, rfl, rfl⟩
  | true =>
    rw [burstLeaves_due h, burstEnded_eq]
    split <;> exact ⟨rfl, rfl, rfl⟩

/-- The channels once burst mode has been left where that was due. -/
theorem railCh_burstLeaves {s : State} {c : Nat} (hlen : s.rail.ch.length = 4) (hc : c < 4) :
    (s.burstLeaves c).rail.ch.length = 4 ∧ (∃ b, (s.burstLeaves c).railCh c = { s.railCh c with burst := b }) ∧
    (∀ d, d ∉ railOf c → (s.burstLeaves c).railCh d = s.railCh d) ∧
    (s.rail.burstEnds.contains c = true → ∀ d ∈ railOf c, ((s.burstLeaves c).railCh d).burst = false) := by
  cases h : s.rail.burstEnds.contains c with
  | false => rw [burstLeaves_none h]; exact ⟨hlen, ⟨_, rfl⟩, fun _ _ => rfl, fun h' => absurd h' (by decide)⟩
  | true =>
    have hch : (s.burstLeaves c).rail.ch = (s.burstEnded c).rail.ch := by
      rw [burstLeaves_due h]
      split <;> rfl
    have hget (d : Nat) : (s.burstLeaves c).railCh d = (s.burstEnded c).railCh d := by rw [State.railCh, hch, State.railCh]
    refine ⟨?_, ⟨false, (hget c).trans (railCh_burstEnded hlen hc (mem_railOf c hc))⟩,
      fun d hd => (hget d).trans (railCh_burstEnded_other hd), fun _ d hd => ?_⟩
    · rw [hch]
      by_cases h2 : c < 2
      · simpa [State.burstEnded, State.modRail, modRailOf_core _ _ h2, State.modCh, length_modAt] using hlen
      · simpa [State.burstEnded, State.modRail, modRailOf_single _ _ (Nat.le_of_not_lt h2), State.modCh, length_modAt] using hlen
    · rw [hget, railCh_burstEnded hlen hc hd]

end Sys2Proof.Machine

end

section
/-! PROOFS. The obligation on rail protection, voltage commands, burst mode and the synchronised clock (R412 to R418, R420 to
R422). -/

namespace Sys2Proof.Machine

/-- A change of a channel that is reported. -/
theorem modCh_reported {s : State} {c n : Nat} (f : RailCh → RailCh) (b : Bool) (hlen : s.rail.ch.length = 4) (hc : c < 4)
    (hirq : Map.wf (fun _ => 0#32) s.ev.irq = true) (hn : n < 32) :
    let t := (s.modCh c f).eventIf b 0x11 n c
    t.railCh c = f (s.railCh c) ∧ (∀ d, d ≠ c → t.railCh d = s.railCh d) ∧
      (b = true → ∀ h, h < 4 → bitAt (t.ev.flags h 0x11) n = true) ∧
      t = { s with rail := { s.rail with ch := t.rail.ch }, ev := t.ev, reco := t.reco } := by
  obtain ⟨f', r, heq, hflag⟩ := eventIf_eq (s.modCh c f) b 0x11 n c
  obtain ⟨hself, hothers, -⟩ := modCh_alone f hlen hc
  dsimp only
  rw [heq]
  exact ⟨hself, hothers, fun hb => hflag hb hirq hn, rfl⟩

/-! ## The controller drives a channel -/

/-- A channel under its controller's signals. -/
def RailCh.driven (pulse enable : Bool) (q : RailCh) : RailCh := { q with pulse := pulse, enable := enable }

theorem drive_eq {s : State} {c : Nat} {p e : Bool} (hrun : s.chRuns c = true) :
    s.drive c p e = s.modCh c (RailCh.driven p e) := by
  obtain ⟨hon, hc, hst⟩ := chRuns_iff.mp hrun
  unfold State.drive
  rw [if_neg (by simp [hon, hst]; omega)]
  rfl

theorem chRuns_driven {s : State} {c : Nat} {p e : Bool} (hlen : s.rail.ch.length = 4) (hrun : s.chRuns c = true) :
    (s.modCh c (RailCh.driven p e)).chRuns c = true := by
  obtain ⟨hon, hc, hst⟩ := chRuns_iff.mp hrun
  refine chRuns_iff.mpr ⟨hon, hc, ?_⟩
  rw [railCh_modCh _ (by omega)]
  exact hst

/-- The switches of a running channel are its decoder's. -/
theorem railSwitches_running {s : State} {c : Nat} (hrun : s.chRuns c = true) :
    s.railSwitches c = ((s.railCh c).high, (s.railCh c).low) := by
  unfold State.railSwitches
  exact if_pos hrun

/-- Without a protection that acts the switches follow the signals. -/
theorem decoder_free {q : RailCh} {p e : Bool} (hlimit : q.ilimNow = false) (hreverse : q.negcNow = false) (hboot : q.bstuv = false)
    (hov : q.ov = false) (hdriver : q.drvuv = false) (hp : q.pulse = p) (he : q.enable = e) :
    (q.high, q.low) = (e && p, e && !p) := by
  simp [RailCh.high, RailCh.low, hlimit, hreverse, hboot, hov, hdriver, hp, he]

/-! ## The cycle and its signals -/

/-- The state as the cycle of a channel has started. -/
theorem switchCycle_channels {s : State} {c : Nat} (hlen : s.rail.ch.length = 4) (hrun : s.chRuns c = true) :
    (s.switchCycle c).rail.ch.length = 4 ∧ (s.switchCycle c).chRuns c = true ∧
    (∃ b, (s.switchCycle c).railCh c = s.cycle c { s.railCh c with burst := b }) ∧
    (∀ d, d ≠ c → (s.switchCycle c).railCh d = (s.burstLeaves c).railCh d) ∧
    ((s.switchCycle c).railCh c).burst = ((s.burstLeaves c).railCh c).burst := by
  obtain ⟨hon, hc, hst⟩ := chRuns_iff.mp hrun
  obtain ⟨hlen', ⟨b, hself⟩, -, -⟩ := railCh_burstLeaves (s := s) (c := c) hlen hc
  obtain ⟨-, haux, hlatch⟩ := burstLeaves_keeps s c
  obtain ⟨hcycled, hothers, -⟩ := modCh_alone (s.cycle c) hlen' hc
  have hrail : (s.switchCycle c).rail.ch = ((s.burstLeaves c).modCh c (s.cycle c)).rail.ch ∧
      (s.switchCycle c).rail.aux = s.rail.aux ∧ (s.switchCycle c).rail.latch = s.rail.latch := by
    rw [switchCycle_eq hrun]
    split
    · exact ⟨rfl, haux, hlatch⟩
    · obtain ⟨hch, haux', hlatch', -⟩ := clockNext_keeps ((s.burstLeaves c).modCh c (s.cycle c))
        ((s.burstLeaves c).modCh c (s.cycle c)).rail
      exact ⟨hch, haux'.trans haux, hlatch'.trans hlatch⟩
  obtain ⟨hch, haux', hlatch'⟩ := hrail
  have hget (d : Nat) : (s.switchCycle c).railCh d = ((s.burstLeaves c).modCh c (s.cycle c)).railCh d := by
    rw [State.railCh, hch, State.railCh]
  have hchannel : (s.switchCycle c).railCh c = s.cycle c { s.railCh c with burst := b } := by rw [hget, hcycled, hself]
  refine ⟨?_, chRuns_iff.mpr ⟨?_, hc, ?_⟩, ⟨b, hchannel⟩, fun d hd => (hget d).trans (hothers d hd), ?_⟩
  · rw [hch]
    simpa [State.modCh, State.modRail, length_modAt] using hlen'
  · rwa [State.railOn, haux', hlatch', ← State.railOn]
  · rw [hchannel]
    exact hst
  · rw [hget, hcycled]
    rfl

/-- The next cycle of RC_0 runs on the internal oscillator, or follows the reference. -/
theorem clockNext_switches {s : State} {r : Rail} :
    (r.follow = true → s.syncEn = false → (s.clockNext r).follow = false ∧ (s.clockNext r).kHz = s.fsw ∧ (s.clockNext r).move = 0) ∧
    (r.follow = false → s.syncEn = true → r.sync.isSome = true → (s.clockNext r).follow = true ∧ (s.clockNext r).move = 64) ∧
    (r.follow = false → r.sync = none → r.move = 0 → (s.clockNext r).kHz = s.fsw) := by
  refine ⟨fun hf he => ?_, fun hf he hs => ?_, fun hf hs hm => ?_⟩
  · simp [State.clockNext, hf, he]
  · simp [State.clockNext, hf, he, hs]
  · simp [State.clockNext, hf, hs, hm]

/-- The loss of the reference that waited for the end of burst mode takes effect with it (R422). -/
theorem burstLeaves_loss {s : State} {c : Nat} (h : s.rail.burstEnds.contains c = true) (hloss : s.rail.lossPend = true) :
    (s.burstLeaves c).rail.lossPend = false ∧ (s.burstLeaves c).rail.wasLost = true ∧
    (Map.wf (fun _ => 0#32) s.ev.irq = true → ∀ k, k < 4 → bitAt ((s.burstLeaves c).ev.flags k 0x11) 2 = true) := by
  rw [burstLeaves_due h, if_pos hloss]
  refine ⟨rfl, rfl, fun hw k hk => flags_event (s := (s.burstEnded c).modRail _) ?_ (by decide) hk⟩
  rw [burstEnded_eq]
  exact hw

/-- What the start of a cycle makes of the clock and the events. -/
theorem switchCycle_rest {s : State} {c : Nat} (hrun : s.chRuns c = true) :
    (s.switchCycle c).ev = (s.burstLeaves c).ev ∧ (s.switchCycle c).rail.lossPend = (s.burstLeaves c).rail.lossPend ∧
    (s.switchCycle c).rail.wasLost = (s.burstLeaves c).rail.wasLost ∧
    (c ≠ 0 → s.switchCycle c = (s.burstLeaves c).modCh c (s.cycle c)) ∧
    (c = 0 → (s.switchCycle c).rail = ((s.burstLeaves c).modCh c (s.cycle c)).clockNext
      ((s.burstLeaves c).modCh c (s.cycle c)).rail) := by
  rw [switchCycle_eq hrun]
  split
  next h => exact ⟨rfl, rfl, rfl, fun _ => rfl, fun h' => absurd h' h⟩
  next h =>
    obtain ⟨-, -, -, hloss, hlost⟩ := clockNext_keeps ((s.burstLeaves c).modCh c (s.cycle c))
      ((s.burstLeaves c).modCh c (s.cycle c)).rail
    exact ⟨rfl, hloss, hlost, fun h' => absurd h' h, fun _ => rfl⟩

/-! ## A voltage command -/

theorem rowAt_vset {c : Nat} (hc : c < 4) (h1 : c ≠ 1) :
    ∃ r, rowAt (A.RAIL_VSET c) = some r ∧ r.cls = .rwc ∧ r.modes = mStop := by
  obtain rfl | rfl | rfl : c = 0 ∨ c = 2 ∨ c = 3 := by omega
  · exact ⟨_, rfl, rfl, rfl⟩
  · exact ⟨_, rfl, rfl, rfl⟩
  · exact ⟨_, rfl, rfl, rfl⟩

theorem rwcWrite_vset (s : State) {h c : Nat} (vn : Word) (r : Row) (hc : c < 4) : s.rwcWrite h (A.RAIL_VSET c) vn r =
    s.rwcComplement h (A.RAIL_VSET c) vn (fun v s => s.common h 0x11 r.modes (s.vsetOk c v)) fun v s => s.vset c v := by
  obtain rfl | rfl | rfl | rfl : c = 0 ∨ c = 1 ∨ c = 2 ∨ c = 3 := by omega
  · rfl
  · rfl
  · rfl
  · rfl

/-- The state in which a voltage command takes effect: the write consumed. -/
def State.vsetTaken (s : State) (h c : Nat) : State := (s.disarm h (pageOf (A.RAIL_VSET c + 4))).emptied h (A.RAIL_VSET c)

theorem vsetOk_rail {s : State} {c : Nat} {v : Word} (hok : s.vsetOk c v = true) : c ≠ 1 := by
  rintro rfl
  exact absurd hok (by simp [State.vsetOk])

/-- A voltage command that no check refuses. -/
theorem complete_vset {s : State} {h c : Nat} {v : Word} (hc : c < 4) (hp : s.pends h (A.RAIL_VSET c) mStop v = true)
    (hok : s.vsetOk c v = true) :
    s.hostComplete h (A.RAIL_VSET c) v = ((s.vsetTaken h c).vset c v).mended (A.RAIL_VSET c + 4) := by
  obtain ⟨ha, hv⟩ := pends_iff.mp hp
  have hne := vsetOk_rail hok
  obtain ⟨r, hr, hcls, hmodes⟩ := rowAt_vset hc hne
  have hpage : pageOf (A.RAIL_VSET c) = 0x11 := by
    obtain rfl | rfl | rfl : c = 0 ∨ c = 2 ∨ c = 3 := by omega
    · rfl
    · rfl
    · rfl
  rw [hpage] at ha
  have hnone : rowAt (A.RAIL_VSET c + 4) = none := by
    obtain rfl | rfl | rfl : c = 0 ∨ c = 2 ∨ c = 3 := by omega
    · rfl
    · rfl
    · rfl
  have hlisted : listed ((A.RAIL_VSET c + 4) / 0x1000) = true := by
    have : (A.RAIL_VSET c + 4) / 0x1000 = 0x11 := by unfold A.RAIL_VSET; omega
    rw [this]
    rfl
  refine hostComplete_ok (by unfold A.RAIL_VSET; omega) (by unfold A.RAIL_VSET; omega) hlisted (by unfold A.RAIL_VSET; omega)
    hnone hr hcls ?_
  rw [rwcWrite_vset _ _ _ hc, hmodes]
  refine complement_ok (s := s.disarm h (pageOf (A.RAIL_VSET c + 4))) hv rfl (firstOf_ok ?_)
  have hok' : ((s.disarm h (pageOf (A.RAIL_VSET c + 4))).emptied h (A.RAIL_VSET c)).vsetOk c v = true := hok
  rw [hok']
  exact common_clear ha

/-- A rail is to leave burst mode. -/
theorem burstExit_eq (s : State) (c : Nat) : ∃ l, s.burstExit c = { s with rail := { s.rail with burstEnds := l } } ∧
    ((s.railCh c).burst = true → (∀ d ∈ railOf c, d ∈ l) ∧ ∀ d ∈ s.rail.burstEnds, d ∈ l) := by
  unfold State.burstExit
  split
  next h =>
    refine ⟨_, rfl, fun _ => ⟨fun d hd => ?_, fun d hd => List.mem_append_left _ hd⟩⟩
    by_cases hin : d ∈ s.rail.burstEnds
    · exact List.mem_append_left _ hin
    · exact List.mem_append_right _ (by simpa [hin] using hd)
  next h => exact ⟨s.rail.burstEnds, rfl, fun h' => absurd h' h⟩

/-- The reference of a channel that starts to move (R420). -/
def RailCh.moving (now tgt slew : Nat) (q : RailCh) : RailCh := { q with vFrom := q.vNow now, vAt := now, vTgt := tgt, slew := slew }

/-- An accepted voltage stores its word, ends burst mode and moves the reference. -/
theorem vset_eq (s : State) (c : Nat) (v : Word) : ∃ (u : State) (l : List Nat),
    u = { s with regs := Map.put resetWord (A.RAIL_VSET c) v s.regs, rail := { s.rail with burstEnds := l } } ∧
    s.vset c v = u.modRailOf c (RailCh.moving u.now (1000 * v.toNat) (u.slewOf c)) ∧
    ((s.railCh c).burst = true → ∀ d ∈ railOf c, d ∈ l) := by
  obtain ⟨l, heq, hends⟩ := burstExit_eq (s.putReg (A.RAIL_VSET c) v) c
  refine ⟨_, l, rfl, ?_, fun hb => (hends hb).1⟩
  unfold State.vset
  rw [heq]
  rfl

/-- The slew is that of the configuration word, which a voltage command does not write. -/
theorem slewOf_vset {s : State} {c : Nat} {v : Word} {r : Rail} (hc : c ≠ 1) :
    ({ s with regs := Map.put resetWord (A.RAIL_VSET c) v s.regs, rail := r } : State).slewOf c = s.slewOf c := by
  have hne : A.RAIL_CH_CFG c ≠ A.RAIL_VSET c := by
    unfold A.RAIL_CH_CFG A.RAIL_VSET
    omega
  simp only [State.slewOf, State.chCfg, State.reg, if_neg hc, Map.get_put_other hne]

end Sys2Proof.Machine

open Sys2Proof Sys2Proof.Machine

/-- Settles O43: a protection changes its channel alone (`modCh_alone`), a cycle's start by `switchCycle_channels` and
`burstLeaves_due`, a voltage command by `complete_vset` and `vset_eq`, burst mode by `burstExit_eq`. -/
theorem railsProtectAndFollowCommands : Obligations.RailsProtectAndFollowCommands := by
  unfold Obligations.RailsProtectAndFollowCommands
  refine ⟨?limit, ?reverse, ?boot, ?bootBack, ?overVolt, ?driver, ?cycle, ?within, ?never, ?command, ?entry, ?exit, ?valid, ?lost⟩
  case limit =>
    intro s c hlen hrun hboot hlimit
    obtain ⟨hon, hc, hst⟩ := chRuns_iff.mp hrun
    refine gives_answer (f := fun s => s.limitActs c) (by simpa using hc) ?_
    rw [State.limitActs, if_neg (by simp [hrun, hboot, hlimit])]
    obtain ⟨hself, hothers, hframe⟩ := modCh_alone
      (fun q => { q with ilimNow := true, consec := min (q.consec + 1) 63, cntI := satInc 16 q.cntI 1 }) hlen hc
    refine ⟨fun hfew => ?_, fun hmany => ?_⟩
    · rw [if_neg (by omega), hself, Nat.min_eq_left (by omega)]
      exact ⟨rfl, hothers, hframe⟩
    · rw [if_pos (by omega)]
      obtain ⟨-, hlatch, -, hoff, -⟩ := latchOff_stops
        (s.modCh c fun q => { q with ilimNow := true, consec := min (q.consec + 1) 63, cntI := satInc 16 q.cntI 1 }) c 1
        (by simpa [State.modCh, State.modRail, length_modAt] using hlen)
      exact ⟨hlatch, hoff⟩
  case reverse =>
    intro s c hlen hrun
    obtain ⟨-, hc, -⟩ := chRuns_iff.mp hrun
    refine gives_answer (f := fun s => s.reverseActs c) (by simpa using hc) ?_
    rw [State.reverseActs, if_pos hrun]
    exact modCh_alone _ hlen hc
  case boot =>
    intro s c hcanon hlen hrun hboot
    obtain ⟨-, -, -, hirq, -⟩ := hcanon
    obtain ⟨-, hc, -⟩ := chRuns_iff.mp hrun
    refine gives_answer (f := fun s => s.bootLow c) (by simpa using hc) ?_
    rw [State.bootLow, if_pos (by simp [hrun, hboot])]
    exact modCh_reported _ _ hlen hc hirq (by decide)
  case bootBack =>
    intro s c hlen hrun hboot
    obtain ⟨-, hc, -⟩ := chRuns_iff.mp hrun
    refine gives_answer (f := fun s => s.bootBack c) (by simpa using hc) ?_
    rw [State.bootBack, if_pos (by simp [hrun, hboot])]
    exact modCh_alone _ hlen hc
  case overVolt =>
    intro s c a hcanon hlen hrun hov
    obtain ⟨-, -, -, hirq, -⟩ := hcanon
    obtain ⟨-, hc, -⟩ := chRuns_iff.mp hrun
    refine gives_answer (f := fun s => s.overVolt c a) (by simpa using hc) ?_
    rw [State.overVolt, if_pos (by simp [hrun, hov])]
    obtain ⟨hself, hothers, hflag, hframe⟩ := modCh_reported (fun q => { q with ov := a }) (a && s.live) hlen hc hirq
      (show 5 < 32 by decide)
    exact ⟨hself, hothers, fun ha hlive => hflag (by simp [ha, hlive]), hframe⟩
  case driver =>
    intro s c l hlen hrun
    obtain ⟨-, hc, -⟩ := chRuns_iff.mp hrun
    refine gives_answer (f := fun s => s.driverUv c l) (by simpa using hc) ?_
    rw [State.driverUv, if_pos hrun]
    exact modCh_alone _ hlen hc
  case cycle =>
    intro s c p e hlen hrun
    obtain ⟨-, hc, -⟩ := chRuns_iff.mp hrun
    refine gives_answer (f := fun s => (s.switchCycle c).drive c p e) (by simpa using hc) ?_
    obtain ⟨hlen', hrun', ⟨b, hcycled⟩, hothers, hburst⟩ := switchCycle_channels hlen hrun
    obtain ⟨hev, hloss, hlost, hframe, hclock⟩ := switchCycle_rest hrun
    obtain ⟨-, -, hrails, hleft⟩ := railCh_burstLeaves (s := s) (c := c) hlen hc
    obtain ⟨hself, hothers', -⟩ := modCh_alone (RailCh.driven p e) hlen' hc
    have hruns := chRuns_driven (p := p) (e := e) hlen' hrun'
    dsimp only
    rw [drive_eq hrun', railSwitches_running hruns]
    have hchannel : ((s.switchCycle c).modCh c (RailCh.driven p e)).railCh c =
        RailCh.driven p e (s.cycle c { s.railCh c with burst := b }) := by rw [hself, hcycled]
    have hb : b = ((s.burstLeaves c).railCh c).burst := by rw [← hburst, hcycled]; rfl
    rw [hchannel]
    refine ⟨rfl, rfl, rfl, rfl, rfl, rfl, rfl, rfl, rfl, rfl, rfl, fun hov hdriver hboot => ?_, fun d hd => ?_, fun hends => ?_,
      fun hends => ?_⟩
    · refine decoder_free rfl rfl ?_ hov hdriver rfl rfl
      rcases hboot with hlow | hback
      · simp [State.cycle, RailCh.driven, hlow]
      · simp [State.cycle, RailCh.driven, hback]
    · have hne : d ≠ c := fun h => hd (h ▸ mem_railOf c hc)
      rw [hothers' d hne, hothers d hne, hrails d hd]
    · refine ⟨fun d hd => ?_, fun hpend => ?_⟩
      · by_cases hdc : d = c
        · rw [hdc, hchannel]
          exact hb.trans (hleft hends c (mem_railOf c hc))
        · rw [hothers' d hdc, hothers d hdc]
          exact hleft hends d hd
      · obtain ⟨hnone, hwas, hflags⟩ := burstLeaves_loss hends hpend
        refine ⟨hloss.trans hnone, hlost.trans hwas, fun hcanon k hk => ?_⟩
        obtain ⟨-, -, -, hirq, -⟩ := hcanon
        have hev' : ((s.switchCycle c).modCh c (RailCh.driven p e)).ev = (s.burstLeaves c).ev := hev
        rw [hev']
        exact hflags hirq k hk
    · rw [burstLeaves_none hends] at hothers hburst hframe hclock hb
      refine ⟨fun d hd => (hothers' d hd).trans (hothers d hd), hb, fun h0 => ?_, fun h0 hf he => ?_, fun h0 hf he hs => ?_,
        fun h0 hf hs hm => ?_⟩
      · rw [hframe h0]
        rfl
      all_goals
        have hrail : ((s.switchCycle c).modCh c (RailCh.driven p e)).rail =
          { ((s.modCh c (s.cycle c)).clockNext (s.modCh c (s.cycle c)).rail) with
            ch := ((s.switchCycle c).modCh c (RailCh.driven p e)).rail.ch } := by
          rw [← hclock h0]
          rfl
        rw [hrail]
        obtain ⟨hown, hfollows, hsettles⟩ := clockNext_switches (s := s.modCh c (s.cycle c)) (r := (s.modCh c (s.cycle c)).rail)
      · exact hown hf he
      · exact hfollows hf he hs
      · exact hsettles hf hs hm
  case within =>
    intro s c p e hlen hrun
    obtain ⟨-, hc, -⟩ := chRuns_iff.mp hrun
    refine gives_answer (f := fun s => s.drive c p e) (by simpa using hc) ?_
    rw [if_neg Bool.false_ne_true, drive_eq hrun]
    obtain ⟨hself, hothers, hframe⟩ := modCh_alone (RailCh.driven p e) hlen hc
    have hruns := chRuns_driven (p := p) (e := e) hlen hrun
    refine ⟨hself, hothers, fun he => ?_, fun hlimit hreverse hboot hov hdriver => ?_, hframe⟩
    · rw [railSwitches_running hruns, hself]
      simp [RailCh.high, RailCh.low, RailCh.driven, he]
    · rw [railSwitches_running hruns, hself]
      exact decoder_free hlimit hreverse hboot hov hdriver rfl rfl
  case never =>
    intro s c
    refine ⟨fun hboth => ?_, fun hidle => if_neg (Bool.eq_false_iff.mp hidle)⟩
    unfold State.railSwitches at hboth
    split at hboth
    · obtain ⟨hhigh, hlow⟩ := Prod.mk.inj hboth
      simp only [RailCh.high, RailCh.low, Bool.and_eq_true, Bool.not_eq_true'] at hhigh hlow
      obtain ⟨⟨-, hpulse⟩, -⟩ := hhigh
      obtain ⟨⟨-, hnone⟩, -⟩ := hlow
      rw [hpulse] at hnone
      exact absurd hnone (by decide)
    · exact absurd hboth (by decide)
  case command =>
    intro s h c v hcanon hc hlen hp hok
    obtain ⟨hregs, -⟩ := hcanon
    have h1 := vsetOk_rail hok
    obtain ⟨hlive, hh⟩ := live_of_admits (pends_iff.mp hp).1
    refine gives_running (f := fun s => s.hostComplete h (A.RAIL_VSET c) v) hlive (by simp [hh, hc]) ?_
    obtain ⟨u, l, hu, hvset, hends⟩ := vset_eq (s.vsetTaken h c) c v
    have hslew : u.slewOf c = s.slewOf c := by
      rw [hu]
      exact slewOf_vset (s := s.vsetTaken h c) h1
    have hrailCh : u.railCh = s.railCh := by rw [hu]; rfl
    have hnow : u.now = s.now := by rw [hu]; rfl
    have hlen' : u.rail.ch.length = 4 := by rw [hu]; exact hlen
    rw [complete_vset hc hp hok, hvset, mended_eq]
    obtain ⟨w, hw⟩ : ∃ w, w = u.modRailOf c (RailCh.moving s.now (1000 * v.toNat) (s.slewOf c)) := ⟨_, rfl⟩
    have hself : w.railCh c = RailCh.moving s.now (1000 * v.toNat) (s.slewOf c) (s.railCh c) := by
      rw [hw, railCh_modRailOf _ hlen' hc (mem_railOf c hc), hrailCh]
    have hothers (d : Nat) (hd : d ∉ railOf c) : w.railCh d = s.railCh d := by rw [hw, railCh_modRailOf_other _ hd, hrailCh]
    obtain ⟨ch, hframe⟩ : ∃ ch, w = { u with rail := { u.rail with ch := ch } } := ⟨_, hw ▸ modRailOf_eq u c _⟩
    have hwregs : w.regs = Map.put resetWord (A.RAIL_VSET c) v s.regs := by rw [hframe, hu]; rfl
    have hwends : w.rail.burstEnds = l := by rw [hframe, hu]
    rw [hslew, hnow, ← hw]
    have hreg (o : Nat) : ({ w with mem := { w.mem with corrupt := (w.mended (A.RAIL_VSET c + 4)).mem.corrupt } } : State).reg o =
        Map.get resetWord o (Map.put resetWord (A.RAIL_VSET c) v s.regs) := congrArg (Map.get resetWord o) hwregs
    have hch (d : Nat) : ({ w with mem := { w.mem with corrupt := (w.mended (A.RAIL_VSET c + 4)).mem.corrupt } } : State).railCh d =
        w.railCh d := rfl
    simp only [hreg, hch, hself, hwends]
    refine ⟨Map.get_put_self hregs, fun o ho => Map.get_put_other ho, rfl, rfl, rfl, rfl, rfl, hothers, hends, ?_⟩
    rw [hframe, hu]
    rfl
  case entry =>
    intro s c hlen hrun hpg hall
    obtain ⟨-, hc, -⟩ := chRuns_iff.mp hrun
    refine gives_answer (f := fun s => s.burstEntry c) (by simpa using hc) ?_
    rw [State.burstEntry, if_pos (by simpa [hrun, hpg] using hall)]
    exact ⟨fun d hd => railCh_modRailOf _ hlen hc hd, fun d hd => railCh_modRailOf_other _ hd, modRailOf_eq s c _⟩
  case exit =>
    intro s c hcanon hc hlen hburst
    refine gives_answer (f := fun s => s.burstExit c) (by simpa using hc) ?_
    obtain ⟨l, heq, hends⟩ := burstExit_eq s c
    rw [heq]
    exact ⟨(hends hburst).1, (hends hburst).2, rfl⟩
  case valid =>
    intro s k hcanon hon hlo hhi
    obtain ⟨-, -, -, hirq, -⟩ := hcanon
    refine gives_answer (f := fun s => s.syncValid k) hon ?_
    rw [State.syncValid, if_pos (by simp [hon, hlo, hhi])]
    cases hf : s.rail.follow with
    | true =>
      simp only [Bool.not_true, Bool.and_false, Bool.false_eq_true, if_false, if_true]
      exact ⟨rfl, rfl, fun _ h => absurd h (by decide), rfl, rfl, fun _ => ⟨hf, rfl⟩, fun _ h => absurd h (by decide)⟩
    | false =>
      cases he : s.syncEn with
      | false =>
        exact ⟨rfl, rfl, fun h => absurd h (by decide), rfl, rfl, fun h => absurd h (by decide), fun _ _ => rfl⟩
      | true =>
        simp only [Bool.not_false, Bool.and_true, if_true, State.eventIf_rail]
        refine ⟨rfl, rfl, fun _ _ => ⟨rfl, rfl, rfl, fun hwas h hh => ?_, fun hwas => ?_⟩, rfl, rfl, fun h => absurd h (by decide),
          fun h => absurd h (by decide)⟩
        · rw [hwas]
          exact flags_event (s := State.modRail _ _) hirq (by decide) hh
        · rw [hwas]
          rfl
  case lost =>
    intro s hcanon hon hsync
    obtain ⟨-, -, -, hirq, -⟩ := hcanon
    refine gives_answer (f := State.syncLost) hon ?_
    have hpresent : s.rail.sync.isNone = false := Option.isNone_eq_false_iff.mpr hsync
    rw [State.syncLost, if_neg (by simp [hpresent])]
    cases hf : s.rail.follow with
    | false =>
      exact ⟨rfl, rfl, fun _ => rfl, fun h => absurd h (by decide), fun h => absurd h (by decide)⟩
    | true =>
      cases hall : s.rail.ch.all fun q => q.burst with
      | true =>
        refine ⟨rfl, rfl, fun h => absurd h (by decide), fun _ ⟨q, hq, hout⟩ => ?_, fun _ _ => rfl⟩
        rw [List.all_eq_true.mp hall q hq] at hout
        exact absurd hout (by decide)
      | false =>
        refine ⟨rfl, rfl, fun h => absurd h (by decide), fun _ _ => ⟨rfl, rfl, rfl, rfl, fun h hh => ?_⟩, fun _ hburst => ?_⟩
        · exact flags_event (s := State.modRail _ _) hirq (by decide) hh
        · rw [List.all_eq_true.mpr hburst] at hall
          exact absurd hall (by decide)

end

section
/-! PROOFS. What the networks send, and the LANs and links they follow (R372 to R374, R377, R381 to R384, R387). -/

namespace Sys2Proof.Machine

/-! ## Frames on the station ports -/

theorem foldl_send {α : Type} (g : α → Out) (l : List α) (s : State) :
    l.foldl (fun (t : State) a => t.send (g a)) s = { s with ev := { s.ev with out := (l.reverse.map g) ++ s.ev.out } } := by
  induction l generalizing s with
  | nil => rfl
  | cons a l ih =>
    rw [List.foldl_cons, ih]
    simp only [State.send, List.reverse_cons, List.map_append, List.map_cons, List.map_nil, List.append_assoc, List.cons_append,
      List.nil_append]

theorem netFrame_of_regs {s u : State} (hregs : u.regs = s.regs) (p dst appid : Nat) (tr : Option (Nat × Nat × Nat)) (pdu : Pdu) :
    u.netFrame p dst appid tr pdu = s.netFrame p dst appid tr pdu := by
  simp only [State.netFrame, State.netMac, State.addressAt, State.reg, hregs]

/-- Pdelay messages leave in the order of their parts. -/
theorem sendPdelay_eq {s u : State} (hregs : u.regs = s.regs) (p : Nat) (parts : List Nat) : u.sendPdelay p parts =
    { u with ev := { u.ev with out := (parts.reverse.map fun k =>
      s.netFrame p 0 0 none (.pdelay k (fld (s.reg A.NET_PTP_CFG) 0 8))) ++ u.ev.out } } := by
  rw [State.sendPdelay, foldl_send fun k => u.netFrame p 0 0 none (.pdelay k (fld (u.reg A.NET_PTP_CFG) 0 8))]
  simp only [netFrame_of_regs hregs, State.reg, hregs]

/-- A sender changes its sequence, what has left, and the supply of open values. -/
theorem prpSend_eq (s : State) (dst appid : Nat) (pdu : Pdu) : ∃ size n, size < 4096 ∧ s.prpSend dst appid pdu =
    { s with
      net := { s.net with prpSeq := if [1, 0].filter s.portOn = [] then s.net.prpSeq else (s.net.prpSeq + 1) % 65536 }
      ev := { s.ev with out := (([1, 0].filter s.portOn).map fun p =>
        s.netFrame p dst appid (some (s.net.prpSeq, 0xA + p, size)) pdu) ++ s.ev.out }
      free := s.free + n } := by
  have hreverse : [1, 0].filter s.portOn = ([0, 1].filter s.portOn).reverse := (List.filter_reverse (l := [0, 1])).symm ▸ rfl
  unfold State.prpSend
  rw [hreverse]
  generalize [0, 1].filter s.portOn = on
  cases on with
  | nil => exact ⟨0, 0, by decide, rfl⟩
  | cons p on =>
    refine ⟨(s.open_ 0).toNat % 4096, 1, Nat.mod_lt _ (by decide), ?_⟩
    have hne : ¬ (p :: on).reverse = [] := by simp
    rw [if_neg hne]
    dsimp only
    rw [if_neg (by simp), foldl_send fun p => s.netFrame p dst appid (some (s.net.prpSeq, 0xA + p, (s.open_ 0).toNat % 4096)) pdu]
    rfl

/-- A state that sends a frame as another would send it. -/
theorem prpSend_sends {s u : State} (hon : u.portOn = s.portOn) (hregs : u.regs = s.regs) (hseq : u.net.prpSeq = s.net.prpSeq)
    (hout : u.ev.out = s.ev.out) (dst appid : Nat) (pdu : Pdu) :
    let t := u.prpSend dst appid pdu
    s.SendsOn dst appid pdu t ∧
    t = { u with net := { u.net with prpSeq := t.net.prpSeq }, ev := { u.ev with out := t.ev.out }, free := t.free } := by
  have hframe (p : Nat) (tr : Option (Nat × Nat × Nat)) : u.netFrame p dst appid tr pdu = s.netFrame p dst appid tr pdu :=
    netFrame_of_regs hregs p dst appid tr pdu
  obtain ⟨size, n, hsize, heq⟩ := prpSend_eq u dst appid pdu
  dsimp only
  rw [heq]
  refine ⟨⟨?_, size, hsize, ?_⟩, rfl⟩
  · simp only [hon, hseq]
  · simp only [hon, hseq, hout, hframe]

/-- Time passes until a period after the last. -/
theorem every_eq (s : State) (last : Option Nat) (d : Nat) :
    s.every last d = { s with clock := (s.every last d).clock, sen := (s.every last d).sen } ∧
    ∀ a, last = some a → a + d ≤ (s.every last d).now := by
  cases last with
  | none => exact ⟨rfl, nofun⟩
  | some t =>
    refine ⟨rfl, fun a h => ?_⟩
    obtain rfl := Option.some.inj h
    simp only [State.every, State.now, State.advance]
    omega

/-! ## Publications and streams -/

theorem pub_modPub {s : State} {n m : Nat} {f : Pub → Pub} (hr : Map.rising s.net.pubs = true) :
    (s.modPub n f).pub m = if m = n then f (s.pub n) else s.pub m := by
  split
  next h =>
    subst h
    exact Map.get_put_of_rising hr
  next h => exact Map.get_put_other h

/-- A publication that is sent again: the next sqNum, after the interval given (R381). -/
def Pub.again (k now : Nat) (q : Pub) : Pub := { q with sqNum := (q.sqNum + 1) % 2 ^ 32, ms := k, due := now + Machine.ms k }

theorem pubAgain_eq {s : State} {n : Nat} (hon : s.netOn = true) (hn : n < 16) (hsent : (s.pub n).sent = true)
    (hen : bitAt (s.pubw n 0) 0 = true) : s.pubAgain n = ((s.advance (s.pub n).due).modPub n
      (Pub.again (min (2 * (s.pub n).ms) (s.pubT0 n)) (s.advance (s.pub n).due).now)).pubSend n := by
  unfold State.pubAgain
  dsimp only
  rw [if_neg (by simp [hon, hsent, hen]; omega)]
  rfl

/-- The frame of a publication's present state, by the words of its entry. -/
theorem pubSend_eq {s u : State} {n : Nat} {q : Pub} (hregs : u.regs = s.regs) (hq : u.pub n = q) : u.pubSend n =
    u.prpSend (s.addressAt (A.NET_PUB n 8)) (fld (s.pubw n 4) 0 16) (.goose n (fld (s.pubw n 0) 8 4) (s.pubw n 0x10)
      (wd q.stNum) (wd q.sqNum) (2 * s.pubT0 n) q.vals) := by
  simp only [State.pubSend, State.pubw, State.pubT0, State.addressAt, State.reg, hregs, hq]

theorem svSample_eq {s : State} {m t0 a1 : Nat} {sum0 sum1 : Int} {old new : List (Validity × Int)} (hon : s.netOn = true)
    (hm : m < 2) (hen : bitAt (s.reg (A.NET_SV m 0)) 0 = true) (hvals : s.net.smpVals = [(a1, sum1, new), (t0, sum0, old)])
    (hle : t0 ≤ ((a1 : Int) - (sum1 - sum0)).toNat)
    (hnext : (svNext s.svRate (max (t0 - 1) (s.net.smpLast.getD m 0))).1 ≤ ((a1 : Int) - (sum1 - sum0)).toNat) : s.svSample m =
      ((s.modNet fun n => { n with smpLast := setAt (svNext s.svRate (max (t0 - 1) (s.net.smpLast.getD m 0))).1 m n.smpLast }).took
        10).prpSend (s.addressAt (A.NET_SV m 8)) (fld (s.reg (A.NET_SV m 4)) 0 16) (.sv m (fld (s.reg (A.NET_SV m 0)) 8 4)
          (fld (s.reg (A.NET_SV m 12)) 16 16) (svNext s.svRate (max (t0 - 1) (s.net.smpLast.getD m 0))).2 s.clock.sync.smp
          (s.svWords (fld (s.reg (A.NET_SV m 0)) 1 1) (svNext s.svRate (max (t0 - 1) (s.net.smpLast.getD m 0))).1 t0
            ((a1 : Int) - (sum1 - sum0)).toNat old new)) := by
  unfold State.svSample
  rw [hvals]
  dsimp only
  rw [if_pos (by simp only [hon, hen, hm, hnext, hle, decide_true, Bool.and_self])]

end Sys2Proof.Machine

end

section
/-! PROOFS. The obligation on what the networks send and the links they follow (R372 to R374, R377, R381 to R384, R387). -/

namespace Sys2Proof.Machine

theorem live_of_netOn {s : State} (h : s.netOn = true) : s.live = true := (Bool.and_eq_true_iff.mp h).1

theorem portOn_iff {s : State} {p : Nat} :
    s.portOn p = true ↔ s.netOn = true ∧ p < 4 ∧ (s.reg A.NET_CFG).getLsbD p = true := by
  simp [State.portOn, and_assoc]

theorem ptpPort_iff {s : State} {p : Nat} : s.ptpPort p = true ↔
    s.portOn p = true ∧ p < 2 ∧ (s.reg A.NET_PTP_CFG).getLsbD (8 + p) = true ∧ s.net.link.testBit p = true := by
  simp [State.ptpPort, and_assoc]

theorem live_of_portOn {s : State} {p : Nat} (h : s.portOn p = true) : s.live = true := live_of_netOn ((portOn_iff).mp h).1

theorem live_of_ptpPort {s : State} {p : Nat} (h : s.ptpPort p = true) : s.live = true := live_of_portOn ((ptpPort_iff).mp h).1

theorem ptpTakes_iff {s : State} {p d : Nat} :
    s.ptpTakes p d = true ↔ s.ptpPort p = true ∧ fld (s.reg A.NET_PTP_CFG) 0 8 = d := by
  simp [State.ptpTakes]

/-- An enabled port stamps what it receives. -/
theorem rxFrame_on {s : State} {p : Nat} (h : s.portOn p = true) :
    s.rxFrame p = s.modNet fun n => { n with rxStamp := setAt s.devNs p n.rxStamp } := if_pos h

/-! ## The LANs -/

/-- A LAN judged lost or present (R373). -/
theorem prpPath_eq {s : State} {lan : Nat} {lost : Bool} (hon : s.netOn = true) (hl : lan < 2)
    (hok : s.net.prpOk.getD lan false = lost) : s.prpPath lan lost =
      ((if lost then s.advance (s.net.lanAt.getD lan 0 + 3 * ms (fld (s.reg A.NET_PRP_CFG) 0 16)) else s).modNet fun n => { n with
        prpOk := setAt (!lost) lan n.prpOk, lanAt := if lost then n.lanAt else setAt s.now lan n.lanAt }).event 0xE0 4 lan
          [b2n lost] := by
  unfold State.prpPath
  rw [if_pos (by simp [hon, hl, hok, -List.getD_eq_getElem?_getD])]

/-- What the judgement of a LAN changes, after the time it took. -/
theorem lanJudged {s : State} {lan d : Nat} {lost : Bool} (hl : lan < 2) (hlen : s.net.prpOk.length = 2)
    (hirq : Map.wf (fun _ => 0#32) s.ev.irq = true) :
    let t := ((if lost then s.advance (s.net.lanAt.getD lan 0 + d) else s).modNet fun n => { n with
      prpOk := setAt (!lost) lan n.prpOk, lanAt := if lost then n.lanAt else setAt s.now lan n.lanAt }).event 0xE0 4 lan [b2n lost]
    t.net.prpOk.getD lan lost = !lost ∧ (∀ k, k ≠ lan → t.net.prpOk.getD k false = s.net.prpOk.getD k false) ∧
      (∀ h, h < 4 → bitAt (t.ev.flags h 0xE0) 4 = true) ∧ (lost = true → s.net.lanAt.getD lan 0 + d ≤ t.now) ∧
      t = { s with net := { s.net with prpOk := t.net.prpOk, lanAt := t.net.lanAt }, ev := t.ev, reco := t.reco,
                   clock := t.clock, sen := t.sen } := by
  have hl' : lan < s.net.prpOk.length := by omega
  cases lost with
  | false =>
    exact ⟨getD_setAt_self hl', fun k hk => getD_setAt_other hk,
      fun h hh => flags_event (s := State.modNet _ _) hirq (by decide) hh, fun h => absurd h (by decide), rfl⟩
  | true =>
    rw [if_pos rfl]
    obtain ⟨c, q, hadv, hle⟩ : ∃ c q, s.advance (s.net.lanAt.getD lan 0 + d) = { s with clock := c, sen := q } ∧
        s.net.lanAt.getD lan 0 + d ≤ c.mono := ⟨_, _, rfl, (every_eq s (some (s.net.lanAt.getD lan 0)) d).2 _ rfl⟩
    rw [hadv]
    exact ⟨getD_setAt_self hl', fun k hk => getD_setAt_other hk,
      fun h hh => flags_event (s := State.modNet _ _) hirq (by decide) hh, fun _ => hle, rfl⟩

/-- A frame counts its LAN as present. -/
theorem prpPath_present {s : State} {p : Nat} (hon : s.netOn = true) (hp : p < 2) (hlen : s.net.prpOk.length = 2) :
    (s.prpPath p false).net.prpOk.getD p false = true ∧
    (∀ k, k ≠ p → (s.prpPath p false).net.prpOk.getD k false = s.net.prpOk.getD k false) ∧
    ∃ ok at_ f r, s.prpPath p false = { s with net := { s.net with prpOk := ok, lanAt := at_ }, ev := f, reco := r } := by
  cases hok : s.net.prpOk.getD p false with
  | false =>
    rw [prpPath_eq hon hp hok]
    have hp' : p < s.net.prpOk.length := by omega
    exact ⟨getD_setAt_self hp', fun k hk => getD_setAt_other hk, _, _, _, _, rfl⟩
  | true =>
    have hsame : s.prpPath p false = s := if_neg (by simp [hok, -List.getD_eq_getElem?_getD])
    rw [hsame]
    exact ⟨hok, fun _ _ => rfl, _, _, _, _, rfl⟩

/-- The frames with a trailer taken within FORGET, once a frame has come. -/
def State.prpSeen (s : State) (src seq : Nat) : List (Nat × Nat × Nat) :=
  if s.prpDup src seq then s.prpKept else s.prpKept ++ [(src, seq, s.now)]

theorem prpSeen_dup {s : State} {src seq : Nat} (h : s.prpDup src seq = true) : s.prpSeen src seq = s.prpKept := if_pos h

theorem prpSeen_new {s : State} {src seq : Nat} (h : s.prpDup src seq = false) :
    s.prpSeen src seq = s.prpKept ++ [(src, seq, s.now)] := by
  rw [State.prpSeen, h]
  rfl

/-- What a frame with a trailer changes. -/
theorem prpFrame_eq {s : State} {p : Nat} (src seq : Nat) (hp : s.portOn p = true) (h2 : p < 2) : s.prpFrame p src seq true =
    ((s.rxFrame p).modNet fun n => { n with
      seen := s.prpSeen src seq, lanAt := setAt s.now p n.lanAt,
      dup := if s.prpDup src seq then (n.dup + 1) % 65536 else n.dup }).prpPath p false := by
  unfold State.prpFrame
  rw [if_neg (by simp [hp]; omega), if_neg (by decide)]
  rfl

theorem prpDup_iff {s : State} {src seq : Nat} : s.prpDup src seq = true ↔
    ∃ a, (src, seq, a) ∈ s.net.seen ∧ s.now < a + ms (fld (s.reg A.NET_PRP_CFG) 16 16) := by
  simp [State.prpDup, State.prpKept, and_comm, and_left_comm]

end Sys2Proof.Machine

open Sys2Proof Sys2Proof.Machine

/-- Settles O35: what is sent on the station ports by `prpSend_sends`, a LAN by `prpPath_eq` and `prpFrame_eq`. -/
theorem networksSendAndFollowLinks : Obligations.NetworksSendAndFollowLinks := by
  unfold Obligations.NetworksSendAndFollowLinks
  refine ⟨?ask, ?answer, ?supervise, ?retransmit, ?sample, ?frame, ?path, ?link⟩
  case ask =>
    intro s p hp hlenAt hlenTx
    obtain ⟨-, h2, -, -⟩ := (ptpPort_iff).mp hp
    refine gives_running (f := fun s => s.pdelayAsk p) (live_of_ptpPort hp) rfl ?_
    rw [State.pdelayAsk, if_pos hp]
    obtain ⟨heq, hle⟩ := every_eq s (s.net.pdelayAt.getD p none) (ms 1000)
    dsimp only
    generalize s.every (s.net.pdelayAt.getD p none) (ms 1000) = u at heq hle
    obtain ⟨c, q, rfl⟩ : ∃ c q, u = { s with clock := c, sen := q } := ⟨_, _, heq⟩
    have hat : p < s.net.pdelayAt.length := by omega
    have htx : p < s.net.txStamp.length := by omega
    rw [sendPdelay_eq (s := s) (hregs := ?regs)]
    case regs => rfl
    exact ⟨getD_setAt_self hat, fun k hk => getD_setAt_other hk, hle, getD_setAt_self htx, rfl⟩
  case answer =>
    intro s p d hp hlen
    obtain ⟨hport, hd⟩ := (ptpTakes_iff).mp hp
    obtain ⟨hon, h2, -, -⟩ := (ptpPort_iff).mp hport
    refine gives_running (f := fun s => s.pdelayAnswer p d) (live_of_ptpPort hport) rfl ?_
    rw [State.pdelayAnswer, if_pos hp, rxFrame_on hon, sendPdelay_eq (s := s) (hregs := ?regs), hd]
    case regs => rfl
    have htx : p < s.net.txStamp.length := by omega
    exact ⟨getD_setAt_self htx, rfl⟩
  case supervise =>
    intro s hon
    refine gives_running (f := State.prpSupervision) (live_of_netOn hon) rfl ?_
    rw [State.prpSupervision, if_pos hon]
    obtain ⟨heq, hle⟩ := every_eq s s.net.prpAt (ms (fld (s.reg A.NET_PRP_CFG) 0 16))
    dsimp only
    generalize s.every s.net.prpAt (ms (fld (s.reg A.NET_PRP_CFG) 0 16)) = u at heq hle
    obtain ⟨c, q, rfl⟩ : ∃ c q, u = { s with clock := c, sen := q } := ⟨_, _, heq⟩
    obtain ⟨hsends, hframe⟩ := prpSend_sends (s := s)
      (u := State.modNet { s with clock := c, sen := q } fun n => { n with prpAt := some c.mono }) rfl rfl rfl rfl 0 0 .supervision
    exact ⟨hle, hsends, hframe⟩
  case retransmit =>
    intro s n hon hn hsent hen hr
    refine gives_running (f := fun s => s.pubAgain n) (live_of_netOn hon) (by simpa using hn) ?_
    rw [pubAgain_eq hon hn hsent hen]
    obtain ⟨c, q, hadv⟩ : ∃ c q, s.advance (s.pub n).due = { s with clock := c, sen := q } := ⟨_, _, rfl⟩
    rw [hadv]
    dsimp only
    obtain ⟨u, hu⟩ : ∃ u, u = State.modPub { s with clock := c, sen := q } n
      (Pub.again (min (2 * (s.pub n).ms) (s.pubT0 n)) ({ s with clock := c, sen := q } : State).now) := ⟨_, rfl⟩
    have hpub (m : Nat) : u.pub m = if m = n then
        Pub.again (min (2 * (s.pub n).ms) (s.pubT0 n)) c.mono (s.pub n) else s.pub m := by
      rw [hu]
      exact pub_modPub (s := { s with clock := c, sen := q }) hr
    have hself := (hpub n).trans (if_pos rfl)
    obtain ⟨hsends, hframe⟩ := prpSend_sends (s := s) (u := u) (by rw [hu]; rfl) (by rw [hu]; rfl) (by rw [hu]; rfl) (by rw [hu]; rfl)
      (s.addressAt (A.NET_PUB n 8)) (fld (s.pubw n 4) 0 16) (.goose n (fld (s.pubw n 0) 8 4) (s.pubw n 0x10)
        (wd (s.pub n).stNum) (wd (((s.pub n).sqNum + 1) % 2 ^ 32)) (2 * s.pubT0 n) (s.pub n).vals)
    have hsent' : u.pubSend n = u.prpSend (s.addressAt (A.NET_PUB n 8)) (fld (s.pubw n 4) 0 16) (.goose n (fld (s.pubw n 0) 8 4)
        (s.pubw n 0x10) (wd (s.pub n).stNum) (wd (((s.pub n).sqNum + 1) % 2 ^ 32)) (2 * s.pubT0 n) (s.pub n).vals) :=
      pubSend_eq (by rw [hu]; rfl) hself
    rw [← hu, hsent']
    generalize u.prpSend _ _ _ = t at hsends hframe
    have hpubs (m : Nat) : t.pub m = u.pub m := by rw [hframe]; rfl
    have hclock : t.clock = c := by rw [hframe, hu]; rfl
    refine ⟨hclock, ?_, fun m hm => ?_, hsends, ?_⟩
    · rw [hpubs, hself, State.now, hclock]
      rfl
    · rw [hpubs, hpub, if_neg hm]
    · rw [hframe, hu]
      rfl
  case sample =>
    intro s m t0 a1 sum0 sum1 old new hon hm hlen hen hvals
    dsimp only
    intro hle hnext
    refine gives_running (f := fun s => s.svSample m) (live_of_netOn hon) (by simpa using hm) ?_
    rw [svSample_eq hon hm hen hvals hle hnext]
    generalize svNext s.svRate (max (t0 - 1) (s.net.smpLast.getD m 0)) = x
    obtain ⟨hsends, hframe⟩ := prpSend_sends (s := s)
      (u := (s.modNet fun n => { n with smpLast := setAt x.1 m n.smpLast }).took 10) rfl rfl rfl rfl (s.addressAt (A.NET_SV m 8))
      (fld (s.reg (A.NET_SV m 4)) 0 16) (.sv m (fld (s.reg (A.NET_SV m 0)) 8 4) (fld (s.reg (A.NET_SV m 12)) 16 16) x.2
        s.clock.sync.smp (s.svWords (fld (s.reg (A.NET_SV m 0)) 1 1) x.1 t0 ((a1 : Int) - (sum1 - sum0)).toNat old new))
    have hm' : m < s.net.smpLast.length := by omega
    generalize State.prpSend _ _ _ _ = t at hsends hframe
    have hlast : t.net.smpLast = setAt x.1 m s.net.smpLast := by rw [hframe]; rfl
    rw [hlast]
    refine ⟨getD_setAt_self hm', fun k hk => getD_setAt_other hk, hsends, ?_⟩
    rw [hframe]
    rfl
  case frame =>
    intro s p src seq hp h2 hlen
    refine gives_running (f := fun s => s.prpFrame p src seq true) (live_of_portOn hp) (by simpa using h2) ?_
    rw [prpFrame_eq src seq hp h2, rxFrame_on hp]
    obtain ⟨hpresent, hothers, ok, at_, f, r, heq⟩ := prpPath_present (s := (s.modNet fun n => { n with
      rxStamp := setAt s.devNs p n.rxStamp }).modNet fun n => { n with
        seen := s.prpSeen src seq, lanAt := setAt s.now p n.lanAt,
        dup := if s.prpDup src seq then (n.dup + 1) % 65536 else n.dup }) (p := p) ((portOn_iff).mp hp).1 h2 hlen
    dsimp only
    refine ⟨fun hcopy => ?_, fun hnew => ?_, hpresent, hothers, ?_⟩
    · have hdup := (prpDup_iff).mpr hcopy
      rw [heq]
      exact ⟨if_pos hdup, fun x hx => List.mem_of_mem_filter (prpSeen_dup hdup ▸ hx : x ∈ s.prpKept)⟩
    · have hdup : s.prpDup src seq = false := Bool.eq_false_iff.mpr fun h => by
        obtain ⟨a, ha, hlate⟩ := (prpDup_iff).mp h
        have := hnew a ha
        omega
      have hseen : (src, seq, s.now) ∈ s.prpSeen src seq := by
        rw [prpSeen_new hdup]
        exact List.mem_append_right _ (List.mem_singleton.mpr rfl)
      rw [heq]
      exact ⟨if_neg (Bool.eq_false_iff.mp hdup), hseen⟩
    · rw [heq]
      rfl
  case path =>
    intro s lan lost hcanon hon hl hlen hok
    obtain ⟨-, -, -, hirq, -⟩ := hcanon
    refine gives_running (f := fun s => s.prpPath lan lost) (live_of_netOn hon) (by simpa using hl) ?_
    rw [prpPath_eq hon hl hok]
    exact lanJudged hl hlen hirq
  case link =>
    intro s p up hcanon hon h4 hchange
    obtain ⟨-, -, -, hirq, -⟩ := hcanon
    refine gives_running (f := fun s => s.linkChange p up) (live_of_netOn hon) (by simpa using h4) ?_
    rw [State.linkChange, if_pos (by simp [hon, h4, hchange])]
    refine ⟨(testBit_setBit _ _ _ _).trans (if_pos rfl), fun k hk => (testBit_setBit _ _ _ _).trans (if_neg hk), fun h2 hdown => ?_,
      fun hup => ?_, fun h hh => flags_event (s := State.modNet _ _) hirq (by decide) hh, rfl⟩
    · refine if_neg fun hport => ?_
      obtain ⟨-, -, -, hlink⟩ := (ptpPort_iff).mp hport
      have hlow := (testBit_setBit s.net.link p p up).trans (if_pos rfl)
      have hup : up = true := hlow.symm.trans hlink
      exact absurd (hup.symm.trans hdown) (by decide)
    · rw [hup]
      exact if_neg (by simp)

end

section
/-! PROOFS. The masters of the station ports (R374, R375, R377). -/

namespace Sys2Proof.Machine

/-! ## What follows a change of the masters -/

theorem masterOf_eq (s : State) (p : Nat) : s.masterOf p = if s.ptpPort p then s.net.masters.getD p none else none := by
  rw [State.masterOf, List.getD_eq_getElem?_getD]
  cases s.net.masters[p]? <;> rfl

theorem masterOf_some {s : State} {p : Nat} {m : Master} (h : s.masterOf p = some m) : s.ptpPort p = true := by
  rw [masterOf_eq] at h
  by_contra hp
  rw [if_neg hp] at h
  exact absurd h (by simp)

/-- The port followed is the one that would be followed if it were already. -/
theorem ptpBest_follows {s u : State} (hm : u.masterOf = s.masterOf) (hp : u.net.port = s.ptpBest.getD s.net.port) :
    u.ptpBest = s.ptpBest := by
  unfold State.ptpBest at hp ⊢
  rw [hm]
  cases h0 : s.masterOf 0 with
  | none => cases s.masterOf 1 <;> rfl
  | some a =>
    cases h1 : s.masterOf 1 with
    | none => rfl
    | some b =>
      rw [h0, h1] at hp
      dsimp only at hp ⊢
      by_cases htie : a.rank = b.rank
      · rw [if_pos htie] at hp ⊢
        rw [if_pos htie, hp]
        rfl
      · rw [if_neg htie, if_neg htie]

/-- The port followed and the state follow the masters: the port is that of the best one, a new one is not calibrated, and STATE
says what they give (R375). -/
theorem ptpFollow_eq (s : State) : ∃ (port ptp : Nat) (cal : Bool) (f : Fabric) (r : Recorder),
    s.ptpFollow = { s with net := { s.net with port := port, calibrated := cal, ptp := ptp }, ev := f, reco := r } ∧
    port = s.ptpBest.getD s.net.port ∧ (port ≠ s.net.port → cal = false) ∧ s.ptpFollow.ptpState = ptp := by
  have hmoved (u : State) : ∃ (ptp : Nat) (f : Fabric) (r : Recorder),
      (if u.ptpState = u.net.ptp then u else (u.modNet fun n => { n with ptp := u.ptpState }).event 0xE0 1 0xFFFF [u.ptpState]) =
        { u with net := { u.net with ptp := ptp }, ev := f, reco := r } ∧ u.ptpState = ptp := by
    split
    next h => exact ⟨u.net.ptp, u.ev, u.reco, rfl, h⟩
    next h => exact ⟨u.ptpState, _, _, rfl, rfl⟩
  have hstate (u : State) (ptp : Nat) (f : Fabric) (r : Recorder) :
      State.ptpState { u with net := { u.net with ptp := ptp }, ev := f, reco := r } = u.ptpState := rfl
  unfold State.ptpFollow
  dsimp only
  by_cases hsame : s.ptpBest.getD s.net.port = s.net.port
  · obtain ⟨ptp, f, r, heq, hptp⟩ := hmoved s
    have hno : (s.ptpBest.getD s.net.port != s.net.port) = false := by rw [hsame, bne_self_eq_false]
    rw [hno, if_neg Bool.false_ne_true, heq]
    exact ⟨s.net.port, ptp, s.net.calibrated, f, r, rfl, hsame.symm, fun h => absurd rfl h, (hstate s ptp f r).trans hptp⟩
  · obtain ⟨ptp, f, r, heq, hptp⟩ := hmoved ((s.modNet fun n => { n with
      port := s.ptpBest.getD s.net.port, calibrated := false }).event 0xE0 2 (s.ptpBest.getD s.net.port))
    rw [if_pos (bne_iff_ne.mpr hsame), heq]
    exact ⟨s.ptpBest.getD s.net.port, ptp, false, f, r, rfl, rfl, fun _ => rfl, (hstate _ ptp f r).trans hptp⟩

/-- The masters, the port followed and the state once they have been followed. -/
theorem ptpFollow_follows (s : State) :
    s.ptpFollow.masterOf = s.masterOf ∧ s.ptpFollow.net.port = s.ptpFollow.ptpBest.getD s.net.port ∧
    s.ptpFollow.net.ptp = s.ptpFollow.ptpState ∧ s.ptpFollow.net.syncAt = s.net.syncAt ∧
    (s.ptpFollow.net.port ≠ s.net.port → s.ptpFollow.net.calibrated = false) ∧
    s.ptpFollow = { s with net := s.ptpFollow.net, ev := s.ptpFollow.ev, reco := s.ptpFollow.reco } := by
  obtain ⟨port, ptp, cal, f, r, heq, hport, hcal, hstate⟩ := ptpFollow_eq s
  rw [hstate, heq]
  have hbest := ptpBest_follows (s := s)
    (u := { s with net := { s.net with port := port, calibrated := cal, ptp := ptp }, ev := f, reco := r }) rfl hport
  rw [hbest]
  exact ⟨rfl, hport, rfl, rfl, hcal, rfl⟩

/-! ## Announce messages -/

/-- The master a port keeps once it has put one in place, or taken it away. -/
theorem masterOf_setAt {s : State} {x : Option Master} {p : Nat} (k : Nat) (hp : s.ptpPort p = true)
    (hx : x = none ∨ p < s.net.masters.length) :
    (s.modNet fun n => { n with masters := setAt x p n.masters }).masterOf k = if k = p then x else s.masterOf k := by
  have hport : (s.modNet fun n => { n with masters := setAt x p n.masters }).ptpPort k = s.ptpPort k := rfl
  have hget : (s.modNet fun n => { n with masters := setAt x p n.masters }).net.masters.getD k none =
      if k = p ∧ p < s.net.masters.length then x else s.net.masters.getD k none := getD_modAt _ p k s.net.masters none
  rw [masterOf_eq, hport, hget, masterOf_eq]
  by_cases hk : k = p
  · subst hk
    rw [if_pos hp, if_pos rfl]
    by_cases hlen : k < s.net.masters.length
    · rw [if_pos ⟨rfl, hlen⟩]
    · have hnone := hx.resolve_right hlen
      rw [if_neg (fun h => hlen h.2), hnone]
      exact List.getD_eq_default _ _ (by omega)
  · rw [if_neg (fun h : k = p ∧ p < s.net.masters.length => hk h.1), if_neg hk]

/-- An Announce of the domain: the master put in place, or the better one that is left. -/
theorem announce_eq {s : State} {p d gm cls utc rank : Nat} (ht : s.ptpTakes p d = true) :
    ((∀ m, s.masterOf p = some m → m.gm = gm ∨ rank < m.rank) → s.announce p d gm cls utc rank =
      ((s.rxFrame p).modNet fun n => { n with
        masters := setAt (some { gm := gm, cls := cls, utc := utc, rank := rank, heard := s.now }) p n.masters }).ptpFollow) ∧
    (∀ m, s.masterOf p = some m → m.gm ≠ gm → m.rank ≤ rank → s.announce p d gm cls utc rank = s.rxFrame p) := by
  unfold State.announce
  rw [if_pos ht]
  refine ⟨fun hbetter => if_pos ?_, fun m hm hgm hrank => if_neg ?_⟩
  · cases hm : s.masterOf p with
    | none => rfl
    | some m => simpa using hbetter m hm
  · rw [hm]
    simpa [hgm] using hrank

end Sys2Proof.Machine

open Sys2Proof Sys2Proof.Machine

/-- Settles O36: an Announce by `announce_eq` and `masterOf_setAt`, and what follows a change of the masters by
`ptpFollow_follows`. -/
theorem mastersAreFollowed : Obligations.MastersAreFollowed := by
  unfold Obligations.MastersAreFollowed
  refine ⟨?announce, ?timeout, ?delay⟩
  case announce =>
    intro s p d gm cls utc rank ht hlen
    obtain ⟨hport, -⟩ := ptpTakes_iff.mp ht
    obtain ⟨hon, h2, -, -⟩ := ptpPort_iff.mp hport
    refine gives_running (f := fun s => s.announce p d gm.toNat cls.toNat utc.toNat rank) (live_of_ptpPort hport)
      (by simp; omega) ?_
    obtain ⟨hplace, hleave⟩ := announce_eq (gm := gm.toNat) (cls := cls.toNat) (utc := utc.toNat) (rank := rank) ht
    by_cases hbetter : ∀ m, s.masterOf p = some m → m.gm = gm.toNat ∨ rank < m.rank
    · rw [hplace hbetter, rxFrame_on hon]
      obtain ⟨hmasters, hpt, hptp, hsync, hcal, hframe⟩ := ptpFollow_follows ((s.modNet fun n => { n with
        rxStamp := setAt s.devNs p n.rxStamp }).modNet fun n => { n with
          masters := setAt (some { gm := gm.toNat, cls := cls.toNat, utc := utc.toNat, rank := rank, heard := s.now }) p n.masters })
      have hmaster (k : Nat) := masterOf_setAt (s := s.modNet fun n => { n with rxStamp := setAt s.devNs p n.rxStamp })
        (x := some { gm := gm.toNat, cls := cls.toNat, utc := utc.toNat, rank := rank, heard := s.now }) k hport
        (.inr (hlen ▸ h2))
      refine ⟨fun _ => ⟨?_, hpt, hptp⟩, fun m hm hgm hrank => ?_, fun k hk => ?_, hsync, hcal, ?_⟩
      · rw [hmasters, hmaster, if_pos rfl]
      · exact absurd (hbetter m hm) (by simp [hgm]; omega)
      · rw [hmasters, hmaster, if_neg hk]
        rfl
      · rw [hframe]
        rfl
    · push Not at hbetter
      obtain ⟨m, hm, hgm, hrank⟩ := hbetter
      rw [hleave m hm hgm hrank, rxFrame_on hon]
      exact ⟨fun h => absurd (h m hm) (by simp [hgm]; omega), fun _ _ _ _ => rfl, fun _ _ => rfl, rfl, fun h => absurd rfl h, rfl⟩
  case timeout =>
    intro s p m hm
    have hport := masterOf_some hm
    refine gives_running (f := fun s => s.announceTimeout p) (live_of_ptpPort hport) rfl ?_
    obtain ⟨c, q, hadv⟩ : ∃ c q, s.advance (m.heard + ms 3000) = { s with clock := c, sen := q } := ⟨_, _, rfl⟩
    have hout : s.announceTimeout p = (State.modNet { s with clock := c, sen := q } fun n => { n with
        masters := setAt none p n.masters }).ptpFollow := by rw [State.announceTimeout, hm, ← hadv]
    rw [hout, hadv]
    obtain ⟨hmasters, hpt, hptp, -, -, hframe⟩ := ptpFollow_follows (State.modNet { s with clock := c, sen := q } fun n => { n with
      masters := setAt none p n.masters })
    have hmaster (k : Nat) := masterOf_setAt (s := { s with clock := c, sen := q }) (x := none) k hport (.inl rfl)
    refine ⟨?_, fun k hk => ?_, ?_, hpt, hptp, ?_⟩
    · rw [hmasters, hmaster, if_pos rfl]
    · rw [hmasters, hmaster, if_neg hk]
      rfl
    · rw [hframe]
      rfl
    · rw [hframe]
      rfl
  case delay =>
    intro s p d v ht hlen hlenRx hv
    obtain ⟨hport, -⟩ := ptpTakes_iff.mp ht
    obtain ⟨hon, h2, -, -⟩ := ptpPort_iff.mp hport
    refine gives_running (f := fun s => s.pdelayResp p d v) (live_of_ptpPort hport) (by simp; omega) ?_
    rw [State.pdelayResp, if_pos ht, rxFrame_on hon, Nat.mod_eq_of_lt hv]
    have hp : p < s.net.delay.length := by omega
    have hrx : p < s.net.rxStamp.length := by omega
    exact ⟨getD_setAt_self hp, fun k hk => getD_setAt_other hk, getD_setAt_self hrx, rfl⟩

end

section
/-! PROOFS. Subscriptions (R373, R378 to R380, R385, R386). -/

namespace Sys2Proof.Machine

/-! ## The table of subscriptions -/

theorem sub_modSub {s : State} (n m : Nat) (f : Sub → Sub) (hr : Map.rising s.net.subs = true) :
    (s.modSub n f).sub m = if m = n then f (s.sub n) else s.sub m := by
  split
  next h =>
    subst h
    exact Map.get_put_of_rising hr
  next h => exact Map.get_put_other h

theorem rising_modSub {s : State} (n : Nat) (f : Sub → Sub) (hr : Map.rising s.net.subs = true) :
    Map.rising (s.modSub n f).net.subs = true :=
  Map.rising_put (d := fun _ => subReset) (k := n) (v := f (s.sub n)) hr

/-- A port's counts after a frame accepted or discarded. -/
theorem portCount_counts {s : State} {p : Nat} (ok : Bool) (hp : p < s.net.cnt.length) :
    (s.portCount p ok).net.cnt.getD p (0, 0) =
      if ok then (satInc 16 (s.net.cnt.getD p (0, 0)).1 1, (s.net.cnt.getD p (0, 0)).2)
      else ((s.net.cnt.getD p (0, 0)).1, satInc 16 (s.net.cnt.getD p (0, 0)).2 1) :=
  (getD_modAt _ p p s.net.cnt (0, 0)).trans (if_pos ⟨rfl, hp⟩)

/-! ## Frames of the station pair -/

/-- What a station entry becomes of a newer frame that it accepts (R379, R380). -/
def State.taking (s : State) (f : GooseFrame) (n : Nat) (q : Sub) : Sub :=
  { q with
    num := some (f.stNum.toNat, f.sqNum.toNat), last := wd s.devNs, due := some (s.now + ms f.tal), test := f.test,
    talExp := false,
    value := if f.test then q.value else (match s.subMember n f with | some m => memberValue m | none => 0#32),
    valid := if f.test then q.valid else true }

theorem subTakes_eq {s u : State} (hregs : u.regs = s.regs) (hclock : u.clock = s.clock) (n : Nat) (f : GooseFrame) :
    u.subTakes n f = u.modSub n (s.taking f n) := by
  have hmember : u.subMember n f = s.subMember n f := by simp only [State.subMember, State.subw, State.reg, hregs]
  have hnow : u.now = s.now := congrArg Clock.mono hclock
  have hdev : u.devNs = s.devNs := by rw [State.devNs, hclock, State.devNs]
  rw [State.subTakes, hmember, hnow, hdev]
  rfl

/-- Each entry of a list takes the frame once. -/
theorem foldl_subTakes {s : State} (f : GooseFrame) (l : List Nat) {u : State} (hl : l.Nodup) (hregs : u.regs = s.regs)
    (hclock : u.clock = s.clock) (hr : Map.rising u.net.subs = true) :
    let t := l.foldl (fun (t : State) n => t.subTakes n f) u
    (∀ m, t.sub m = if m ∈ l then s.taking f m (u.sub m) else u.sub m) ∧
      t = { u with net := { u.net with subs := t.net.subs } } := by
  induction l generalizing u with
  | nil => exact ⟨fun m => (if_neg List.not_mem_nil).symm, rfl⟩
  | cons n l ih =>
    obtain ⟨hn, hl⟩ := List.nodup_cons.mp hl
    rw [List.foldl_cons, subTakes_eq hregs hclock]
    obtain ⟨hsub, hframe⟩ := ih (u := u.modSub n (s.taking f n)) hl hregs hclock (rising_modSub n _ hr)
    refine ⟨fun m => ?_, ?_⟩
    · rw [hsub, sub_modSub n m _ hr]
      by_cases hm : m = n
      · subst hm
        rw [if_neg hn, if_pos rfl, if_pos List.mem_cons_self]
      · rw [if_neg hm]
        simp only [List.mem_cons, hm, false_or]
    · rw [hframe]
      rfl

/-- The entries that take a frame of the station pair. -/
def State.takers (s : State) (f : GooseFrame) : List Nat :=
  ((s.subsOf 0).filter fun n => s.subAccepts n f).filter fun n => (s.sub n).judge f == 0

theorem mem_takers {s : State} {f : GooseFrame} {n : Nat} :
    n ∈ s.takers f ↔ n ∈ s.subsOf 0 ∧ s.subAccepts n f = true ∧ (s.sub n).judge f = 0 := by
  simp [State.takers, and_comm, and_left_comm]

theorem nodup_subsOf (s : State) (pair : Nat) : (s.subsOf pair).Nodup := List.nodup_range.filter _

/-- A frame on the station pair: it is taken where it is newer, or discarded, or a duplicate (R379). -/
theorem gooseStation_takes {s u : State} {f : GooseFrame} (hregs : u.regs = s.regs) (hclock : u.clock = s.clock)
    (hsubs : u.net.subs = s.net.subs) (hr : Map.rising s.net.subs = true) (hp : f.port < u.net.cnt.length) :
    let t := u.gooseStation f
    (∀ n, t.sub n = if n ∈ s.takers f then s.taking f n (s.sub n) else s.sub n) ∧
    (∀ n ∈ s.takers f, (t.net.cnt.getD f.port (0, 0)).1 = satInc 16 (u.net.cnt.getD f.port (0, 0)).1 1) ∧
    ((∀ n ∈ s.subsOf 0, s.subAccepts n f = false) →
      (t.net.cnt.getD f.port (0, 0)).2 = satInc 16 (u.net.cnt.getD f.port (0, 0)).2 1) ∧
    t = { u with net := { u.net with subs := t.net.subs, cnt := t.net.cnt } } := by
  have hsub (n : Nat) : u.sub n = s.sub n := by rw [State.sub, hsubs, State.sub]
  have htakers : ((u.subsOf 0).filter fun n => u.subAccepts n f).filter (fun n => (u.sub n).judge f == 0) = s.takers f := by
    simp only [State.takers, State.subsOf, State.subAccepts, State.subMatches, State.subMember, State.addressAt, State.subw,
      State.reg, hregs, hsub]
  have hnone : (∀ n ∈ s.subsOf 0, s.subAccepts n f = false) → (u.subsOf 0).filter (fun n => u.subAccepts n f) = [] := by
    intro h
    have hgood : (u.subsOf 0).filter (fun n => u.subAccepts n f) = (s.subsOf 0).filter fun n => s.subAccepts n f := by
      simp only [State.subsOf, State.subAccepts, State.subMatches, State.subMember, State.addressAt, State.subw, State.reg, hregs]
    rw [hgood, List.filter_eq_nil_iff]
    exact fun n hn => by simp [h n hn]
  unfold State.gooseStation
  dsimp only
  rw [htakers]
  cases hempty : (s.takers f).isEmpty with
  | true =>
    have hnil := List.isEmpty_iff.mp hempty
    rw [hnil, if_pos rfl]
    have hframe (c : Bool) : (if c then u else u.portCount f.port false) = { u with net := { u.net with
        subs := u.net.subs, cnt := (if c then u else u.portCount f.port false).net.cnt } } := by cases c <;> rfl
    have hkept (c : Bool) (n : Nat) : (if c then u else u.portCount f.port false).sub n = s.sub n := by
      rw [hframe c]
      exact hsub n
    refine ⟨fun n => (hkept _ n).trans (if_neg List.not_mem_nil).symm, fun n hn => absurd hn List.not_mem_nil, fun h => ?_, ?_⟩
    · rw [hnone h]
      exact congrArg Prod.snd (portCount_counts false hp)
    · rw [hframe]
  | false =>
    obtain ⟨htaken, hframe⟩ := foldl_subTakes (s := s) f (s.takers f) (u := u)
      (((nodup_subsOf s 0).filter _).filter _) hregs hclock (hsubs ▸ hr)
    rw [if_neg Bool.false_ne_true]
    generalize (s.takers f).foldl (fun (s : State) n => s.subTakes n f) u = w at htaken hframe
    have hcnt : w.net.cnt = u.net.cnt := by rw [hframe]
    have hcounts := portCount_counts (s := w) true (hcnt ▸ hp)
    rw [hcnt] at hcounts
    refine ⟨fun n => (htaken n).trans (by rw [hsub]), fun n _ => congrArg Prod.fst hcounts, fun h => ?_, ?_⟩
    · have hnil : s.takers f = [] := List.eq_nil_iff_forall_not_mem.mpr fun n hn => by
        obtain ⟨hin, hacc, -⟩ := (mem_takers).mp hn
        rw [h n hin] at hacc
        exact absurd hacc (by decide)
      rw [hnil] at hempty
      exact absurd hempty (by decide)
    · rw [hframe]
      rfl

/-! ## What a copy on the station pair leaves -/

theorem prpPath_frame (s : State) (p : Nat) : ∃ ok at_ f r,
    s.prpPath p false = { s with net := { s.net with prpOk := ok, lanAt := at_ }, ev := f, reco := r } := by
  unfold State.prpPath
  split
  · exact ⟨_, _, _, _, rfl⟩
  · exact ⟨_, _, _, _, rfl⟩

theorem prpFrame_frame {s : State} {p : Nat} (src seq : Nat) (hp : s.portOn p = true) (h2 : p < 2) : ∃ ok at_ f r,
    s.prpFrame p src seq true = { s with
      net := { s.net with
        rxStamp := setAt s.devNs p s.net.rxStamp, seen := s.prpSeen src seq, prpOk := ok, lanAt := at_,
        dup := if s.prpDup src seq then (s.net.dup + 1) % 65536 else s.net.dup }
      ev := f, reco := r } := by
  rw [prpFrame_eq src seq hp h2, rxFrame_on hp]
  obtain ⟨ok, at_, f, r, heq⟩ := prpPath_frame ((s.modNet fun n => { n with rxStamp := setAt s.devNs p n.rxStamp }).modNet fun n =>
    { n with seen := s.prpSeen src seq, lanAt := setAt s.now p n.lanAt,
             dup := if s.prpDup src seq then (n.dup + 1) % 65536 else n.dup }) p
  exact ⟨ok, at_, f, r, heq⟩

/-- A frame of the station pair without a trailer, or the first copy, is judged by the entries; the second copy is dropped. -/
theorem goose_station {s : State} {f : GooseFrame} (hp : s.portOn f.port = true) (h2 : f.port < 2) :
    ∃ u : State, u.regs = s.regs ∧ u.clock = s.clock ∧ u.net.subs = s.net.subs ∧ u.net.cnt = s.net.cnt ∧
      u = { s with
        net := { s.net with rxStamp := u.net.rxStamp, seen := u.net.seen, dup := u.net.dup, prpOk := u.net.prpOk,
                            lanAt := u.net.lanAt },
        ev := u.ev, reco := u.reco } ∧
      ((∃ q, f.trailer = some q ∧ s.prpDup f.source q = true) → s.goose f = u ∧ u.net.dup = (s.net.dup + 1) % 65536) ∧
      ((∀ q, f.trailer = some q → s.prpDup f.source q = false) → s.goose f = u.gooseStation f ∧ u.net.dup = s.net.dup) := by
  unfold State.goose
  rw [if_neg (by simp [hp]), if_pos h2]
  cases htrailer : f.trailer with
  | none =>
    have hplain : s.prpFrame f.port f.source 0 false = s.rxFrame f.port := by
      unfold State.prpFrame
      rw [if_neg (by simp [hp]; omega), if_pos (by rfl)]
    dsimp only
    rw [hplain, rxFrame_on hp]
    exact ⟨s.modNet fun n => { n with rxStamp := setAt s.devNs f.port n.rxStamp }, rfl, rfl, rfl, rfl, rfl,
      fun ⟨q, hq, _⟩ => absurd hq (by simp), fun _ => ⟨rfl, rfl⟩⟩
  | some seq =>
    obtain ⟨ok, at_, g, r, heq⟩ := prpFrame_frame f.source seq hp h2
    generalize hu : s.prpFrame f.port f.source seq true = u at heq
    refine ⟨u, by rw [heq], by rw [heq], by rw [heq], by rw [heq], by rw [heq], fun ⟨q, hq, hdup⟩ => ?_, fun hnew => ?_⟩
    · obtain rfl := Option.some.inj hq
      refine ⟨(if_pos hdup).trans hu, ?_⟩
      rw [heq]
      exact if_pos hdup
    · have hdup : ¬ s.prpDup f.source seq = true := by rw [hnew seq rfl]; decide
      refine ⟨(if_neg hdup).trans (by rw [hu]), ?_⟩
      rw [heq]
      exact if_neg hdup

end Sys2Proof.Machine

end

section
/-! PROOFS. The obligation on subscriptions: frames of the protection pair, and the deadlines (R379, R385, R386). -/

namespace Sys2Proof.Machine

/-! ## Frames of the protection pair -/

/-- What an entry of the protection pair becomes of a frame that it accepts (R380). -/
def State.proTaking (s : State) (f : GooseFrame) (q : Sub) : Sub :=
  { q with num := some (f.stNum.toNat, f.sqNum.toNat), last := wd s.devNs, valid := true, test := false }

/-- Each entry of a list takes the frame once, and hands its envelope over. -/
theorem foldl_proTakes {s : State} (f : GooseFrame) (e : Nat → Nat × List Byte × Nat × Nat) (l : List Nat) {u : State}
    (hl : l.Nodup) (hclock : u.clock = s.clock) (hr : Map.rising u.net.subs = true) :
    let t := l.foldl (fun (t : State) n => (t.proTakes n f).modNet fun q => { q with handed := q.handed ++ [e n] }) u
    (∀ m, t.sub m = if m ∈ l then s.proTaking f (u.sub m) else u.sub m) ∧ t.net.handed = u.net.handed ++ l.map e ∧
      t = { u with net := { u.net with subs := t.net.subs, handed := t.net.handed } } := by
  induction l generalizing u with
  | nil => exact ⟨fun m => (if_neg List.not_mem_nil).symm, (List.append_nil _).symm, rfl⟩
  | cons n l ih =>
    obtain ⟨hn, hl⟩ := List.nodup_cons.mp hl
    have htakes : u.proTakes n f = u.modSub n (s.proTaking f) := by
      rw [State.proTakes, State.devNs, hclock]
      rfl
    rw [List.foldl_cons, htakes]
    obtain ⟨hsub, hhanded, hframe⟩ := ih (u := (u.modSub n (s.proTaking f)).modNet fun q => { q with handed := q.handed ++ [e n] })
      hl hclock (rising_modSub n _ hr)
    have hone (m : Nat) : ((u.modSub n (s.proTaking f)).modNet fun q => { q with handed := q.handed ++ [e n] }).sub m =
        if m = n then s.proTaking f (u.sub n) else u.sub m := sub_modSub n m _ hr
    refine ⟨fun m => ?_, ?_, ?_⟩
    · rw [hsub, hone]
      by_cases hm : m = n
      · subst hm
        rw [if_neg hn, if_pos rfl, if_pos List.mem_cons_self]
      · rw [if_neg hm]
        simp only [List.mem_cons, hm, false_or]
    · exact hhanded.trans (List.append_assoc u.net.handed [e n] (l.map e))
    · rw [hframe]
      rfl

theorem nodup_proTakers (s : State) (f : GooseFrame) : (s.proTakers f).Nodup := ((nodup_subsOf s 1).filter _).filter _

/-- A frame on the protection pair as the port has stamped it. -/
theorem goose_protection {s : State} {f : GooseFrame} (hp : s.portOn f.port = true) (h2 : 2 ≤ f.port) :
    s.goose f = (s.modNet fun n => { n with rxStamp := setAt s.devNs f.port n.rxStamp }).gooseProtection f := by
  unfold State.goose
  rw [if_neg (by simp [hp]), if_neg (by omega), rxFrame_on hp]

end Sys2Proof.Machine

open Sys2Proof Sys2Proof.Machine

/-- Settles O37: a frame of the station pair by `goose_station` and `gooseStation_takes`, one of the protection pair by
`goose_protection` and `foldl_proTakes`. -/
theorem subscriptionsFollow : Obligations.SubscriptionsFollow := by
  unfold Obligations.SubscriptionsFollow
  refine ⟨?station, ?protection, ?timeout⟩
  case station =>
    intro s f hp h2 hr hlen
    refine gives_running (f := fun s => s.goose f) (live_of_portOn hp) (by simp; omega) ?_
    obtain ⟨u, hregs, hclock, hsubs, hcnt, hframe, hsecond, hfirst⟩ := goose_station hp h2
    by_cases hdup : ∃ q, f.trailer = some q ∧ s.prpDup f.source q = true
    · obtain ⟨hgoose, hcount⟩ := hsecond hdup
      obtain ⟨q, hq, hcopy⟩ := hdup
      rw [hgoose]
      refine ⟨fun _ => ⟨hcount, hsubs, hcnt⟩, fun hnew => ?_, fun n _ => by rw [State.sub, hsubs, State.sub], ?_⟩
      · rw [hnew q hq] at hcopy
        exact absurd hcopy (by decide)
      · rw [hframe]
    · have hnew : ∀ q, f.trailer = some q → s.prpDup f.source q = false :=
        fun q hq => Bool.eq_false_iff.mpr fun h => hdup ⟨q, hq, h⟩
      obtain ⟨hgoose, hcount⟩ := hfirst hnew
      rw [hgoose]
      obtain ⟨htaken, haccepted, hdiscarded, hframe'⟩ := gooseStation_takes (f := f) hregs hclock hsubs hr
        (show f.port < u.net.cnt.length by rw [hcnt]; omega)
      generalize u.gooseStation f = t at htaken haccepted hdiscarded hframe'
      rw [hcnt] at haccepted hdiscarded
      refine ⟨fun h => absurd h hdup, fun _ => ⟨fun n hn hacc hjudge => ?_, hdiscarded, ?_⟩, fun n hn => ?_, ?_⟩
      · have hin := mem_takers.mpr ⟨hn, hacc, hjudge⟩
        rw [htaken, if_pos hin]
        refine ⟨rfl, rfl, rfl, rfl, rfl, fun htest => ⟨if_pos htest, if_pos htest⟩, fun htest => ?_, haccepted n hin⟩
        have hreal : ¬ f.test = true := by rw [htest]; decide
        refine ⟨if_neg hreal, fun m hm => (if_neg hreal).trans ?_⟩
        rw [hm]
      · rw [hframe']
        exact hcount
      · refine (htaken n).trans (if_neg fun hin => ?_)
        obtain ⟨h1, h2, h3⟩ := mem_takers.mp hin
        rcases hn with hn | hn | hn
        · exact hn h1
        · rw [h2] at hn
          exact absurd hn (by decide)
        · exact hn h3
      · rw [hframe', hframe]
  case protection =>
    intro s f hcanon hp h2 hlen hr
    obtain ⟨-, -, -, hirq, -⟩ := hcanon
    obtain ⟨-, h4, -⟩ := portOn_iff.mp hp
    refine gives_running (f := fun s => s.goose f) (live_of_portOn hp) (by simpa using h4) ?_
    rw [goose_protection hp h2]
    obtain ⟨u, hu⟩ : ∃ u, s.modNet (fun n => { n with rxStamp := setAt s.devNs f.port n.rxStamp }) = u := ⟨_, rfl⟩
    have hnamed : u.proNamed f = s.proNamed f := by rw [← hu]; rfl
    have htakers : u.proTakers f = s.proTakers f := by rw [← hu]; rfl
    have henvelope : (fun n => u.envelopeOf n f) = fun n => s.envelopeOf n f := by rw [← hu]; rfl
    have hframe : u = { s with net := u.net } := by rw [← hu]; rfl
    obtain ⟨hother, hmalf, hhanded, hcnt, hsubs, hirq', hclock⟩ : u.net.other = s.net.other ∧ u.net.malf = s.net.malf ∧
        u.net.handed = s.net.handed ∧ u.net.cnt = s.net.cnt ∧ u.net.subs = s.net.subs ∧
        Map.wf (fun _ => 0#32) u.ev.irq = true ∧ u.clock = s.clock := by
      rw [← hu]
      exact ⟨rfl, rfl, rfl, rfl, rfl, hirq, rfl⟩
    have hp' : f.port < u.net.cnt.length := by rw [hcnt]; omega
    have hsub (n : Nat) : u.sub n = s.sub n := by rw [State.sub, hsubs, State.sub]
    rw [hu, State.gooseProtection, hnamed, htakers]
    cases hnone : (s.proNamed f).isEmpty with
    | true =>
      have hnil := List.isEmpty_iff.mp hnone
      have htaken : s.proTakers f = [] := by rw [State.proTakers, hnil]; rfl
      have hcounts := portCount_counts (s := u.modNet fun n => { n with other := satInc 16 n.other 1 }) (p := f.port) false hp'
      rw [if_pos rfl, htaken, ← hother, ← hmalf, ← hhanded, ← hcnt, ← hsubs]
      refine ⟨fun _ => ⟨rfl, rfl, rfl⟩, fun h => absurd hnil h, fun _ => ⟨congrArg Prod.snd hcounts, rfl⟩,
        fun h => absurd rfl h, fun n hn => absurd hn List.not_mem_nil, fun n _ => hsub n, ?_⟩
      rw [hframe]
      rfl
    | false =>
      have hsome : s.proNamed f ≠ [] := fun h => by simp [h] at hnone
      rw [if_neg Bool.false_ne_true]
      cases hempty : (s.proTakers f).isEmpty with
      | true =>
        have htaken := List.isEmpty_iff.mp hempty
        have hcounts := portCount_counts (s := u.modNet fun n => { n with malf := satInc 16 n.malf 1 }) (p := f.port) false hp'
        rw [if_pos rfl, htaken, ← hother, ← hmalf, ← hhanded, ← hcnt, ← hsubs]
        refine ⟨fun h => absurd h hsome, fun _ _ => ⟨rfl, rfl, rfl, fun h hh => flags_event (s := State.portCount _ _ _) hirq' (by decide) hh⟩,
          fun _ => ⟨congrArg Prod.snd hcounts, rfl⟩, fun h => absurd rfl h, fun n hn => absurd hn List.not_mem_nil, fun n _ => hsub n, ?_⟩
        rw [hframe]
        rfl
      | false =>
        have hne : s.proTakers f ≠ [] := fun h => by simp [h] at hempty
        obtain ⟨htaken, hhanded', hframe'⟩ := foldl_proTakes (s := s) f (fun n => u.envelopeOf n f) (s.proTakers f) (u := u)
          (nodup_proTakers s f) hclock (hsubs ▸ hr)
        rw [if_neg Bool.false_ne_true]
        generalize (s.proTakers f).foldl _ u = w at htaken hhanded' hframe'
        have hcnt' : w.net.cnt = s.net.cnt := by rw [hframe', ← hcnt]
        have hcounts := portCount_counts (s := w) (p := f.port) true (by rw [hcnt']; omega)
        rw [hcnt'] at hcounts
        rw [henvelope, hhanded] at hhanded'
        have hkept : (w.portCount f.port true).net.malf = s.net.malf ∧ (w.portCount f.port true).net.other = s.net.other := by
          rw [hframe', ← hmalf, ← hother]
          exact ⟨rfl, rfl⟩
        refine ⟨fun h => absurd h hsome, fun _ h => absurd h hne, fun h => absurd h hne,
          fun _ => ⟨hhanded', congrArg Prod.fst hcounts, hkept⟩, fun n hn => ?_, fun n hn => ?_, ?_⟩
        · have hself : (w.portCount f.port true).sub n = s.proTaking f (u.sub n) := (htaken n).trans (if_pos hn)
          rw [hself]
          exact ⟨rfl, rfl, rfl⟩
        · exact ((htaken n).trans (if_neg hn)).trans (hsub n)
        · rw [hframe', hframe]
          rfl
  case timeout =>
    intro s n a hcanon hlive hr hdue
    obtain ⟨-, -, -, hirq, -⟩ := hcanon
    refine gives_running (f := fun s => s.subTimeout n) hlive rfl ?_
    obtain ⟨c, q, hadv⟩ : ∃ c q, s.advance a = { s with clock := c, sen := q } := ⟨_, _, rfl⟩
    have hout : s.subTimeout n = (State.modSub { s with clock := c, sen := q } n fun q => { q with
        valid := false, talExp := true, due := none }).event 0xE0 3 n := by rw [State.subTimeout, hdue, ← hadv]
    rw [hout, hadv]
    have hsub (m : Nat) := sub_modSub (s := { s with clock := c, sen := q }) n m
      (fun q => { q with valid := false, talExp := true, due := none }) hr
    exact ⟨(hsub n).trans (if_pos rfl), fun m hm => (hsub m).trans (if_neg hm),
      fun h hh => flags_event (s := State.modSub _ _ _) hirq (by decide) hh, rfl⟩

end

section
/-! PROOFS. Entries of the sentinel's log: what writing, posting and alerting one leaves of the domain (R439 to R442, R445). -/

namespace Sys2Proof.Machine

/-! ## What an entry leaves -/

/-- What the watch of the inputs rests on: readings, baseline, and whether the domain works. -/
def Sentinel.watching (q : Sentinel) : List (Nat × Nat) × Nat × Nat × Nat × Nat × Bool × Nat :=
  (q.cand, q.baseSeal, q.baseBad, q.baseTamp, q.unjudged, q.alive, q.band)

/-- Where the alert output stands. -/
def Sentinel.alarm (q : Sentinel) : Option AlertFrame × Nat × Nat × Option Nat × Bool × List (Nat × Nat × Nat × Nat × Nat) :=
  (q.frame, q.abort, q.aborts, q.retryAt, q.txSusp, q.waiting)

theorem base_of_watching {p q : Sentinel} (h : p.watching = q.watching) : p.base = q.base := by
  simp only [Sentinel.watching, Prod.mk.injEq] at h
  obtain ⟨-, hseal, hbad, htamp, -⟩ := h
  funext i
  rw [Sentinel.base, hseal, hbad, htamp, Sentinel.base]

theorem cand_of_watching {p q : Sentinel} (h : p.watching = q.watching) : p.cand = q.cand := congrArg Prod.fst h

theorem unjudged_of_watching {p q : Sentinel} (h : p.watching = q.watching) : p.unjudged = q.unjudged :=
  congrArg (fun x => x.2.2.2.2.1) h

theorem alertStart_keeps (s : State) : s.alertStart.sen.watching = s.sen.watching ∧
    s.alertStart.sen.waiting = s.sen.waiting ∧ s.alertStart.sen.log = s.sen.log ∧ s.alertStart.sen.aborts = s.sen.aborts := by
  unfold State.alertStart
  dsimp only
  (repeat' split) <;> exact ⟨rfl, rfl, rfl, rfl⟩

/-- While a retry is still to come no frame starts (R442). -/
theorem alertStart_barred {s : State} {t : Nat} (h : s.sen.retryAt = some t) (ht : s.now < t) : s.alertStart = s := by
  unfold State.alertStart
  simp only [h, ht, decide_true, Bool.or_true, Bool.true_or, if_true]
  split <;> rfl

/-- An entry is written and, while the sentinel is ready, posted. -/
def State.senWrite (s : State) (type subject detail time flags : Nat) : State :=
  let b := senBytes type subject detail time flags
  let s1 := s.modSen fun q => q.commit b
  if s1.senOn then s1.senPost s.sen.next b else s1

theorem senCommit_write (s : State) (type subject detail time flags : Nat) :
    s.senCommit type subject detail time flags = (s.senWrite type subject detail time flags).alertStart := rfl

/-- Posting sets the flag of the entry's event. -/
theorem senPost_irq (s : State) (n : Nat) (b : List Byte) : (s.senPost n b).ev.irq =
    if (senKey b).1 % 256 < 32 then (s.ev.setFlag ((senKey b).1 / 256) ((senKey b).1 % 256)).irq else s.ev.irq := by
  have hraised : (if (senKey b).1 % 256 < 32 then s.followIrqs (s.ev.setFlag ((senKey b).1 / 256) ((senKey b).1 % 256))
      else s.ev).irq = if (senKey b).1 % 256 < 32 then (s.ev.setFlag ((senKey b).1 / 256) ((senKey b).1 % 256)).irq
        else s.ev.irq := by
    split
    · exact followIrqs_irq _ _
    · rfl
  rw [← hraised]
  unfold State.senPost State.senPosted State.recTag
  dsimp only
  split
  · exact (postHosts_irq _ _ _ _).trans (logItem_irq _ _ _)
  · exact (postHosts_irq _ _ _ _).trans (logItem_irq _ _ _)

/-- Posting leaves the flags that stand. -/
theorem FlagsStand.senPost {m : List (Nat × Word)} {s : State} (h : FlagsStand m s.ev.irq) (n : Nat) (b : List Byte) :
    FlagsStand m (s.senPost n b).ev.irq := by
  rw [senPost_irq]
  split
  · intro hw
    obtain ⟨hws, hms⟩ := h hw
    obtain ⟨hwf, hkeeps⟩ := foldl_flagIn_keeps (page := (senKey b).1 / 256) (bit := (senKey b).1 % 256) [0, 1, 2, 3] hws
    rw [setFlag_irq]
    exact ⟨hwf, fun k b hb => by simpa using hkeeps 0 k b (by simpa using hms k b hb)⟩
  · exact h

/-- What writing an entry leaves. -/
theorem senWrite_keeps (s : State) (type subject detail time flags : Nat) :
    let t := s.senWrite type subject detail time flags
    t.sen.watching = s.sen.watching ∧ t.sen.alarm = s.sen.alarm ∧ t.sen.refused = s.sen.refused ∧
    t = { s with sen := t.sen, ev := t.ev, reco := t.reco } ∧ (∀ m, FlagsStand m s.ev.irq → FlagsStand m t.ev.irq) := by
  unfold State.senWrite
  dsimp only
  split
  · exact ⟨rfl, rfl, rfl, rfl, fun m h => FlagsStand.senPost (s := s.modSen _) h _ _⟩
  · exact ⟨rfl, rfl, rfl, rfl, fun m h => h⟩

theorem senCommit_watching (s : State) (type subject detail time flags : Nat) :
    (s.senCommit type subject detail time flags).sen.watching = s.sen.watching := by
  rw [senCommit_write]
  exact (alertStart_keeps _).1.trans (senWrite_keeps s type subject detail time flags).1

theorem senEntryAt_watching (s : State) (type subject detail time : Nat) (bound : Bool) :
    (s.senEntryAt type subject detail time bound).sen.watching = s.sen.watching := by
  unfold State.senEntryAt
  dsimp only
  split
  · rfl
  · exact senCommit_watching _ _ _ _ _ _

theorem key_mem_insert {α : Type} (k : Nat) (v : α) (m : List (Nat × α)) : k ∈ (Map.insert k v m).map fun p => p.1 := by
  induction m with
  | nil => exact List.mem_singleton.mpr rfl
  | cons p m ih =>
    obtain ⟨j, w⟩ := p
    unfold Map.insert
    split
    · exact List.mem_cons_self
    · split
      · exact List.mem_cons_self
      · exact List.mem_cons_of_mem _ ih

/-- An entry is committed at the next place, or waits for the end of a frame. -/
theorem senEntryAt_goes (s : State) (type subject detail time : Nat) (bound : Bool) :
    let t := s.senEntryAt type subject detail time bound
    (s.sen.frame = none → t.sen.next = (s.sen.next + 1) % 256 ∧ s.sen.next ∈ t.sen.log.map fun p => p.1) ∧
    (s.sen.frame.isSome = true → t.sen.next = s.sen.next ∧ t.sen.waiting.length = s.sen.waiting.length + 1) := by
  unfold State.senEntryAt
  dsimp only
  refine ⟨fun hnone => ?_, fun hsome => ?_⟩
  · rw [hnone, if_neg (by simp)]
    have hplaces := senCommit_places s type subject detail time (senFlags s.sen.syncd bound)
    simp only [Sentinel.places, Prod.mk.injEq] at hplaces
    obtain ⟨hlog, hnext, -⟩ := hplaces
    rw [hlog, hnext]
    exact ⟨rfl, key_mem_insert _ _ _⟩
  · rw [hsome, if_pos rfl]
    exact ⟨rfl, List.length_append⟩

end Sys2Proof.Machine

end

section
/-! PROOFS. The sentinel's watch: what one sample and one confirmed reading leave of each input (R438). -/

namespace Sys2Proof.Machine

/-! ## The baseline -/

/-- The readings an input can have: three for a switch, two for a tamper loop. -/
abbrev readings (i : Nat) : Nat := if i < 8 then 2 else 1

theorem base_rebase_self (q : Sentinel) {i r : Nat} (hr : r ≤ readings i) : (q.rebase i r).base i = r := by
  unfold Sentinel.rebase Sentinel.base
  by_cases hi : i < 8
  · simp only [readings, hi, if_true] at hr
    obtain rfl | rfl | rfl : r = 0 ∨ r = 1 ∨ r = 2 := by omega
    all_goals simp [hi, testBit_setBit, b2n]
  · simp only [readings, hi, if_false] at hr
    obtain rfl | rfl : r = 0 ∨ r = 1 := by omega
    all_goals simp [hi, testBit_setBit, b2n]

theorem base_rebase_other (q : Sentinel) {i j r : Nat} (hj : j ≠ i) : (q.rebase i r).base j = q.base j := by
  unfold Sentinel.rebase Sentinel.base
  by_cases hi : i < 8
  · simp only [hi, if_true, testBit_setBit, hj, if_false]
    split
    · split
      · rfl
      · split <;> simp [testBit_setBit, hj]
    · rfl
  · by_cases hj8 : j < 8
    · simp [hi, hj8]
    · have hoff : j - 8 ≠ i - 8 := by omega
      simp [hi, hj8, testBit_setBit, hoff]

theorem rebase_rest (q : Sentinel) (i r : Nat) :
    (q.rebase i r).cand = q.cand ∧ (q.rebase i r).unjudged = q.unjudged ∧ (q.rebase i r).alive = q.alive ∧
    (q.rebase i r).band = q.band ∧ (q.rebase i r).frame = q.frame ∧ (q.rebase i r).next = q.next ∧
    (q.rebase i r).waiting = q.waiting := by
  unfold Sentinel.rebase
  split <;> exact ⟨rfl, rfl, rfl, rfl, rfl, rfl, rfl⟩

/-! ## What a change of one input leaves -/

/-- Beside what events do, only the watch of the listed inputs differs. -/
def WatchOf (l : List Nat) (s t : State) : Prop :=
  t = { s with sen := t.sen, ev := t.ev, reco := t.reco } ∧ t.sen.alive = s.sen.alive ∧ t.sen.band = s.sen.band ∧
  t.sen.cand.length = s.sen.cand.length ∧ ∀ j, j ∉ l → t.sen.cand.getD j (0, 0) = s.sen.cand.getD j (0, 0) ∧
    t.sen.base j = s.sen.base j ∧ t.sen.unjudged.testBit j = s.sen.unjudged.testBit j

theorem WatchOf.refl (l : List Nat) (s : State) : WatchOf l s s := ⟨rfl, rfl, rfl, rfl, fun _ _ => ⟨rfl, rfl, rfl⟩⟩

theorem WatchOf.trans {l m : List Nat} {s t u : State} (h : WatchOf l s t) (g : WatchOf m t u) : WatchOf (l ++ m) s u := by
  obtain ⟨hframe, halive, hband, hlen, hrest⟩ := h
  obtain ⟨gframe, galive, gband, glen, grest⟩ := g
  refine ⟨?_, galive.trans halive, gband.trans hband, glen.trans hlen, fun j hj => ?_⟩
  · rw [hframe] at gframe
    exact gframe
  · obtain ⟨hl, hm⟩ := not_or.mp (mt List.mem_append.mpr hj)
    obtain ⟨hcand, hbase, hun⟩ := hrest j hl
    obtain ⟨gcand, gbase, gun⟩ := grest j hm
    exact ⟨gcand.trans hcand, gbase.trans hbase, gun.trans hun⟩

theorem WatchOf.mono {l m : List Nat} {s t : State} (h : WatchOf l s t) (hm : ∀ j, j ∈ l → j ∈ m) : WatchOf m s t := by
  obtain ⟨hframe, halive, hband, hlen, hrest⟩ := h
  exact ⟨hframe, halive, hband, hlen, fun j hj => hrest j fun hl => hj (hm j hl)⟩

/-- Whether an input is watched rests on its own watch and on what no sample changes. -/
theorem senWatches_of_watchOf {l : List Nat} {s t : State} {i : Nat} (h : WatchOf l s t) (hi : i ∉ l) :
    t.senWatches i = s.senWatches i := by
  obtain ⟨hframe, halive, hband, -, hrest⟩ := h
  obtain ⟨-, -, hun⟩ := hrest i hi
  have hrail : t.rail = s.rail := (congrArg State.rail hframe).trans rfl
  have hsaf : t.safOn = s.safOn := (congrArg State.safOn hframe).trans rfl
  have hreg : t.reg A.SEN_TAMP_CFG = s.reg A.SEN_TAMP_CFG := (congrArg (fun x : State => x.reg A.SEN_TAMP_CFG) hframe).trans rfl
  rw [State.senWatches, State.senWorks, halive, hband, hun, hrail, hsaf, hreg, State.senWatches, State.senWorks]

theorem WatchOf.of_watching {s t : State} (hframe : t = { s with sen := t.sen, ev := t.ev, reco := t.reco })
    (h : t.sen.watching = s.sen.watching) (l : List Nat) : WatchOf l s t := by
  have hbase := base_of_watching h
  simp only [Sentinel.watching, Prod.mk.injEq] at h
  obtain ⟨hcand, -, -, -, hun, halive, hband⟩ := h
  exact ⟨hframe, halive, hband, by rw [hcand], fun j _ => ⟨by rw [hcand], by rw [hbase], by rw [hun]⟩⟩

/-! ## A reading is judged -/

/-- The input has been judged. -/
def State.inputJudged (s : State) (i : Nat) : State := s.modSen fun q => { q with unjudged := setBit q.unjudged i false }

theorem inputJudged_watchOf (s : State) (i : Nat) : WatchOf [i] s (s.inputJudged i) := by
  refine ⟨rfl, rfl, rfl, rfl, fun j hj => ⟨rfl, rfl, ?_⟩⟩
  have hne : j ≠ i := by simpa using hj
  simp [State.inputJudged, State.modSen, testBit_setBit, hne]

theorem rebase_watchOf (s : State) (i r : Nat) : WatchOf [i] s (s.modSen fun q => q.rebase i r) := by
  obtain ⟨hcand, hun, halive, hband, -⟩ := rebase_rest s.sen i r
  refine ⟨rfl, halive, hband, congrArg List.length hcand, fun j hj => ⟨?_, base_rebase_other _ (by simpa using hj), ?_⟩⟩
  · exact congrArg (fun l => l.getD j (0, 0)) hcand
  · exact congrArg (fun w => w.testBit j) hun

theorem senEntryAt_watchOf (s : State) (type subject detail time : Nat) (bound : Bool) (l : List Nat) :
    WatchOf l s (s.senEntryAt type subject detail time bound) :=
  .of_watching (senEntryAt_eq s type subject detail time bound) (senEntryAt_watching s type subject detail time bound) l

/-- A reading that is not confirmed changes nothing. -/
theorem senChange_unconfirmed {s : State} {i : Nat} (h : s.senWatches i = false ∨ (s.sen.cand.getD i (0, 0)).2 < 2) :
    s.senChange i = s := by
  unfold State.senChange
  dsimp only
  obtain h | h := h
  · simp [h]
  · rw [decide_eq_true h, Bool.or_true, if_pos rfl]

/-- A confirmed reading: the input is judged and, where the reading differs from the baseline, the baseline moves and an entry
is made. -/
theorem senChange_confirmed {s : State} {i : Nat} (hwatch : s.senWatches i = true)
    (hconf : ¬ (s.sen.cand.getD i (0, 0)).2 < 2) :
    let r := (s.sen.cand.getD i (0, 0)).1
    (r = s.sen.base i → s.senChange i = s.inputJudged i) ∧
    (r ≠ s.sen.base i → ∃ type subject time bound,
      s.senChange i = ((s.inputJudged i).modSen fun q => q.rebase i r).senEntryAt type subject r time bound) := by
  have hgo : (!s.senWatches i || decide ((s.sen.cand.getD i (0, 0)).2 < 2)) = false := by
    rw [hwatch, decide_eq_false hconf]
    rfl
  unfold State.senChange
  dsimp only
  rw [hgo, if_neg Bool.false_ne_true]
  refine ⟨fun heq => if_pos heq, fun hne => ?_⟩
  rw [if_neg hne]
  split
  · exact ⟨_, _, _, _, rfl⟩
  · exact ⟨_, _, _, _, rfl⟩

theorem senChange_watchOf (s : State) (i : Nat) : WatchOf [i] s (s.senChange i) := by
  by_cases hconf : (s.sen.cand.getD i (0, 0)).2 < 2
  · rw [senChange_unconfirmed (.inr hconf)]
    exact .refl _ _
  · cases hwatch : s.senWatches i with
    | false =>
      rw [senChange_unconfirmed (.inl hwatch)]
      exact .refl _ _
    | true =>
      obtain ⟨hsame, hmoved⟩ := senChange_confirmed hwatch hconf
      by_cases hr : (s.sen.cand.getD i (0, 0)).1 = s.sen.base i
      · rw [hsame hr]
        exact inputJudged_watchOf s i
      · obtain ⟨type, subject, time, bound, heq⟩ := hmoved hr
        rw [heq]
        exact (((inputJudged_watchOf s i).trans (rebase_watchOf _ i _)).trans
          (senEntryAt_watchOf _ type subject _ time bound [i])).mono (by simp)

/-- Once confirmed, a reading is the baseline, and the input is judged. -/
theorem senChange_base {s : State} {i : Nat} (hwatch : s.senWatches i = true) (hconf : ¬ (s.sen.cand.getD i (0, 0)).2 < 2)
    (hr : (s.sen.cand.getD i (0, 0)).1 ≤ readings i) :
    (s.senChange i).sen.base i = (s.sen.cand.getD i (0, 0)).1 ∧ (s.senChange i).sen.unjudged.testBit i = false := by
  obtain ⟨hsame, hmoved⟩ := senChange_confirmed hwatch hconf
  by_cases hbase : (s.sen.cand.getD i (0, 0)).1 = s.sen.base i
  · rw [hsame hbase]
    exact ⟨hbase.symm, by simp [State.inputJudged, State.modSen, testBit_setBit]⟩
  · obtain ⟨type, subject, time, bound, heq⟩ := hmoved hbase
    have hwatching := senEntryAt_watching ((s.inputJudged i).modSen fun q => q.rebase i (s.sen.cand.getD i (0, 0)).1)
      type subject (s.sen.cand.getD i (0, 0)).1 time bound
    rw [heq, base_of_watching hwatching, unjudged_of_watching hwatching]
    refine ⟨base_rebase_self _ hr, ?_⟩
    obtain ⟨-, hun, -⟩ := rebase_rest (s.inputJudged i).sen i (s.sen.cand.getD i (0, 0)).1
    refine (congrArg (fun w => w.testBit i) hun).trans ?_
    simp [State.inputJudged, State.modSen, testBit_setBit]

theorem senChange_cand (s : State) (i : Nat) : (s.senChange i).sen.cand = s.sen.cand := by
  by_cases hconf : (s.sen.cand.getD i (0, 0)).2 < 2
  · rw [senChange_unconfirmed (.inr hconf)]
  · cases hwatch : s.senWatches i with
    | false => rw [senChange_unconfirmed (.inl hwatch)]
    | true =>
      obtain ⟨hsame, hmoved⟩ := senChange_confirmed hwatch hconf
      by_cases hr : (s.sen.cand.getD i (0, 0)).1 = s.sen.base i
      · rw [hsame hr]
        rfl
      · obtain ⟨type, subject, time, bound, heq⟩ := hmoved hr
        rw [heq, cand_of_watching (senEntryAt_watching _ _ _ _ _ _)]
        exact (rebase_rest _ _ _).1

/-! ## One input of a sample -/

/-- An input that is watched is read, and its reading judged. -/
def State.senRead (s : State) (i r : Nat) : State :=
  if !s.senWatches i then s
  else
    (s.modSen fun q =>
      let c := q.cand.getD i (0, 0)
      { q with cand := setAt (r, if 0 < c.2 ∧ c.1 = r then min (c.2 + 1) 2 else 1) i q.cand }).senChange i

/-- The readings of a sample: switches of three values, tamper loops inverted by POL. -/
def State.senReading (s : State) (no nc : BitVec 8) (tamp : BitVec 2) (i : Nat) : Nat :=
  if i < 8 then (match sealRead (no.getLsbD i) (nc.getLsbD i) with | some v => b2n v | none => 2)
  else b2n (xor (tamp.getLsbD (i - 8)) ((fld (s.reg A.SEN_TAMP_CFG) 4 2).testBit (i - 8)))

theorem senSample_reads (s : State) (no nc : BitVec 8) (tamp : BitVec 2) : s.senSample no nc tamp =
    (List.range 10).foldl (fun u i => u.senRead i (s.senReading no nc tamp i))
      (if s.senWorks then s.modSen fun q => { q with comAt := some s.now } else s) := rfl

theorem b2n_le (b : Bool) : b2n b ≤ 1 := by
  cases b <;> simp [b2n]

theorem senReading_le (s : State) (no nc : BitVec 8) (tamp : BitVec 2) (i : Nat) :
    s.senReading no nc tamp i ≤ readings i := by
  unfold State.senReading readings
  split
  · split
    · next v _ => exact (b2n_le v).trans (by decide)
    · exact Nat.le_refl 2
  · exact b2n_le _

theorem cand_watchOf (s : State) (i : Nat) (c : Nat × Nat) :
    WatchOf [i] s (s.modSen fun q => { q with cand := setAt c i q.cand }) := by
  refine ⟨rfl, rfl, rfl, length_setAt _ _ _, fun j hj => ⟨getD_setAt_other (by simpa using hj), rfl, rfl⟩⟩

theorem senRead_watchOf (s : State) (i r : Nat) : WatchOf [i] s (s.senRead i r) := by
  unfold State.senRead
  split
  · exact .refl _ _
  · exact ((cand_watchOf s i _).trans (senChange_watchOf _ i)).mono (by simp)

/-- What the sample of one watched input gives. -/
theorem senRead_reads {s : State} {i r : Nat} (hwatch : s.senWatches i = true) (hi : i < s.sen.cand.length)
    (hr : r ≤ readings i) :
    let c := s.sen.cand.getD i (0, 0)
    let t := s.senRead i r
    (t.sen.cand.getD i (0, 0)).1 = r ∧ (c.1 = r → 0 < c.2 → t.sen.base i = r) ∧
    ((c.1 ≠ r ∨ c.2 = 0) → t.sen.base i = s.sen.base i) := by
  dsimp only
  unfold State.senRead
  rw [hwatch, Bool.not_true, if_neg Bool.false_ne_true]
  generalize hn : (if 0 < (s.sen.cand.getD i (0, 0)).2 ∧ (s.sen.cand.getD i (0, 0)).1 = r then
    min ((s.sen.cand.getD i (0, 0)).2 + 1) 2 else 1) = n
  obtain ⟨u, hu⟩ : ∃ u, u = s.modSen fun q => { q with cand := setAt (r, n) i q.cand } := ⟨_, rfl⟩
  have hcand : u.sen.cand.getD i (0, 0) = (r, n) := by
    rw [hu]
    exact getD_setAt_self hi
  have hbase : u.sen.base = s.sen.base := by rw [hu]; rfl
  have hw : u.senWatches i = true := by rw [hu]; exact hwatch
  have hread : (s.modSen fun q =>
      let c := q.cand.getD i (0, 0)
      { q with cand := setAt (r, if 0 < c.2 ∧ c.1 = r then min (c.2 + 1) 2 else 1) i q.cand }) = u := by
    rw [hu, ← hn]
    rfl
  rw [hread]
  refine ⟨?_, fun hsame hpos => ?_, fun hfirst => ?_⟩
  · rw [senChange_cand, hcand]
  · rw [if_pos ⟨hpos, hsame⟩] at hn
    have hbased := (senChange_base hw (by rw [hcand]; show ¬ n < 2; omega) (by rw [hcand]; exact hr)).1
    rw [hbased, hcand]
  · rw [if_neg (by rintro ⟨hpos, hsame⟩; obtain h | h := hfirst; exact h hsame; omega)] at hn
    rw [senChange_unconfirmed (.inr (by rw [hcand, ← hn]; exact Nat.one_lt_two)), hbase]

/-! ## The whole sample -/

theorem senReads_watchOf (r : Nat → Nat) (l : List Nat) (s : State) :
    WatchOf l s (l.foldl (fun u i => u.senRead i (r i)) s) := by
  induction l generalizing s with
  | nil => exact .refl _ _
  | cons i l ih => exact (senRead_watchOf s i (r i)).trans (ih _)

/-- The place of an input in a list that names it once. -/
theorem split_of_mem_nodup {l : List Nat} {i : Nat} (hi : i ∈ l) (hl : l.Nodup) : ∃ a b, l = a ++ i :: b ∧ i ∉ a ∧ i ∉ b := by
  obtain ⟨a, b, rfl⟩ := List.append_of_mem hi
  have hnot := (List.nodup_cons.mp (List.nodup_middle.mp hl)).1
  exact ⟨a, b, rfl, fun h => hnot (List.mem_append_left _ h), fun h => hnot (List.mem_append_right _ h)⟩

/-- SENTINEL_SAMPLE (R438). -/
theorem senSample_samples {s : State} (no nc : BitVec 8) (tamp : BitVec 2) {i : Nat} (hlen : s.sen.cand.length = 10)
    (hi : i < 10) :
    let t := s.senSample no nc tamp
    let r := s.senReading no nc tamp i
    let c := s.sen.cand.getD i (0, 0)
    (s.senWatches i = false → t.sen.cand.getD i (0, 0) = c ∧ t.sen.base i = s.sen.base i) ∧
    (s.senWatches i = true → (t.sen.cand.getD i (0, 0)).1 = r) ∧
    (s.senWatches i = true → c.1 = r → 0 < c.2 → t.sen.base i = r) ∧
    (s.senWatches i = true → (c.1 ≠ r ∨ c.2 = 0) → t.sen.base i = s.sen.base i) ∧
    t = { s with sen := t.sen, ev := t.ev, reco := t.reco } := by
  dsimp only
  rw [senSample_reads]
  generalize hread : s.senReading no nc tamp = r
  have hle : r i ≤ readings i := hread ▸ senReading_le s no nc tamp i
  have hopen : WatchOf [] s (if s.senWorks then s.modSen fun q => { q with comAt := some s.now } else s) := by
    split
    · exact ⟨rfl, rfl, rfl, rfl, fun _ _ => ⟨rfl, rfl, rfl⟩⟩
    · exact .refl _ _
  obtain ⟨a, b, hab, hia, hib⟩ := split_of_mem_nodup (List.mem_range.mpr hi) List.nodup_range
  have hall := hopen.trans (senReads_watchOf r (List.range 10) _)
  have hbefore := hopen.trans (senReads_watchOf r a _)
  rw [hab, List.foldl_append] at hall ⊢
  rw [List.foldl_cons] at hall ⊢
  generalize hu : a.foldl (fun (u : State) i => u.senRead i (r i)) _ = u at hbefore hall ⊢
  rw [List.nil_append] at hbefore
  obtain ⟨-, -, -, -, hafter⟩ := senReads_watchOf r b (u.senRead i (r i))
  obtain ⟨hcandAfter, hbaseAfter, -⟩ := hafter i hib
  have hwatches := senWatches_of_watchOf hbefore hia
  obtain ⟨-, -, -, hlenBefore, hrest⟩ := hbefore
  obtain ⟨hcandBefore, hbaseBefore, -⟩ := hrest i hia
  rw [hcandAfter, hbaseAfter, ← hwatches, ← hcandBefore, ← hbaseBefore]
  have hiu : i < u.sen.cand.length := by omega
  refine ⟨fun hoff => ?_, fun hon => ?_, fun hon => ?_, fun hon => ?_, hall.1⟩
  · rw [State.senRead, hoff, Bool.not_false, if_pos rfl]
    exact ⟨rfl, rfl⟩
  · exact (senRead_reads hon hiu hle).1
  · exact (senRead_reads hon hiu hle).2.1
  · exact (senRead_reads hon hiu hle).2.2

/-! ## A confirmed change -/

theorem entry_isSome {q : Sentinel} {i : Nat} (h : i ∈ q.log.map fun p => p.1) : (q.entry i).isSome = true := by
  obtain ⟨p, hp, rfl⟩ := List.mem_map.mp h
  rw [Sentinel.entry, Option.isSome_map, List.find?_isSome]
  exact ⟨p, hp, by simp⟩

/-- SENTINEL_READING_CHANGE (R438). -/
theorem senConfirm_confirms {s : State} {i : Nat} (hlen : s.sen.cand.length = 10) (hpend : s.senPending i = true)
    (hr : (s.sen.cand.getD i (0, 0)).1 ≤ readings i) :
    let t := s.senConfirm i
    t.sen.base i = (s.sen.cand.getD i (0, 0)).1 ∧ (∀ j, j < 10 → j ≠ i → t.sen.base j = s.sen.base j) ∧
    t.sen.unjudged.testBit i = false ∧
    (s.sen.frame = none → t.sen.next = (s.sen.next + 1) % 256 ∧ (t.sen.entry s.sen.next).isSome = true) ∧
    (s.sen.frame.isSome = true → t.sen.next = s.sen.next ∧ t.sen.waiting.length = s.sen.waiting.length + 1) ∧
    t = { s with sen := t.sen, ev := t.ev, reco := t.reco } := by
  simp only [State.senPending, Bool.and_eq_true, decide_eq_true_eq, bne_iff_ne] at hpend
  obtain ⟨⟨⟨hi, hwatch⟩, -⟩, hdiffers⟩ := hpend
  obtain ⟨u, hu⟩ : ∃ u, u = s.modSen fun q => { q with cand := modAt (fun c => (c.1, 2)) i q.cand } := ⟨_, rfl⟩
  have hconfirm : s.senConfirm i = u.senChange i := by rw [hu]; rfl
  have hcand : u.sen.cand.getD i (0, 0) = ((s.sen.cand.getD i (0, 0)).1, 2) := by
    rw [hu]
    exact (getD_modAt _ _ _ _ _).trans (if_pos ⟨rfl, by omega⟩)
  have hsame : WatchOf [i] s u := by
    rw [hu]
    refine ⟨rfl, rfl, rfl, length_modAt _ _ _, fun j hj => ⟨?_, rfl, rfl⟩⟩
    exact (getD_modAt _ _ _ _ _).trans (if_neg fun h => hj (List.mem_singleton.mpr h.1))
  have hw : u.senWatches i = true := by rw [hu]; exact hwatch
  have hbase : u.sen.base = s.sen.base := by rw [hu]; rfl
  have hu2 : ¬ (u.sen.cand.getD i (0, 0)).2 < 2 := by rw [hcand]; exact Nat.lt_irrefl 2
  obtain ⟨hbased, hjudged⟩ := senChange_base hw hu2 (by rw [hcand]; exact hr)
  obtain ⟨-, hmoved⟩ := senChange_confirmed hw hu2
  obtain ⟨hframe, -, -, -, hothers⟩ := (hsame.trans (senChange_watchOf u i)).mono (m := [i]) (by simp)
  obtain ⟨type, subject, time, bound, hentry⟩ := hmoved (by rw [hcand, hbase]; exact hdiffers)
  obtain ⟨-, -, -, -, hrframe, hrnext, hrwaiting⟩ := rebase_rest (u.inputJudged i).sen i (u.sen.cand.getD i (0, 0)).1
  obtain ⟨hcommits, hwaits⟩ := senEntryAt_goes ((u.inputJudged i).modSen fun q => q.rebase i (u.sen.cand.getD i (0, 0)).1)
    type subject (u.sen.cand.getD i (0, 0)).1 time bound
  have hnext : ((u.inputJudged i).modSen fun q => q.rebase i (u.sen.cand.getD i (0, 0)).1).sen.next = s.sen.next := by
    rw [State.modSen, hrnext, hu]
    rfl
  have hfr : ((u.inputJudged i).modSen fun q => q.rebase i (u.sen.cand.getD i (0, 0)).1).sen.frame = s.sen.frame := by
    rw [State.modSen, hrframe, hu]
    rfl
  have hwt : ((u.inputJudged i).modSen fun q => q.rebase i (u.sen.cand.getD i (0, 0)).1).sen.waiting = s.sen.waiting := by
    rw [State.modSen, hrwaiting, hu]
    rfl
  rw [← hentry, hnext, hfr] at hcommits
  rw [← hentry, hnext, hfr, hwt] at hwaits
  rw [hconfirm]
  refine ⟨by rw [hbased, hcand], fun j _ hj => (hothers j (by simpa using hj)).2.1, hjudged, fun hnone => ?_, hwaits, hframe⟩
  obtain ⟨hstep, hkey⟩ := hcommits hnone
  exact ⟨hstep, entry_isSome hkey⟩

end Sys2Proof.Machine

end

section
/-! PROOFS. The sentinel's alert output: a frame starts, ends, is aborted and is tried again (R441, R442). -/

namespace Sys2Proof.Machine

/-! ## A frame starts -/

/-- Why no frame may start (R442). -/
def State.alertBarred (s : State) : Bool :=
  !s.sen.alive || s.sen.frame.isSome || s.sen.txSusp || s.sen.prot.testBit 3 ||
    (match s.sen.retryAt with | some t => decide (s.now < t) | none => false) || !(s.rail.aux || decide (2 ≤ s.sen.band))

/-- Where nothing bars it the oldest pending entry's frame starts, or is refused below SEN_TX. -/
theorem alertStart_tries {s : State} {i : Nat} {b : List Byte} {l : List (Nat × List Byte)}
    (hpend : s.alertsPending = (i, b) :: l) (hfree : s.alertBarred = false) : s.alertStart =
      if s.rail.aux = true ∨ 3700 ≤ s.sen.vcell then
        s.modSen fun q => { q with frame := some { entry := i, start := s.now, bytes := s.alertBytes i b },
                                   refused := false, retryAt := none, prot := setBit q.prot 1 false }
      else if s.sen.refused then s
      else s.modSen fun q => { q with refused := true, defer := satInc 8 q.defer 1 } := by
  unfold State.alertStart
  rw [hpend]
  exact if_neg (Bool.eq_false_iff.mp hfree)

theorem alertBarred_false {s : State} (halive : s.sen.alive = true) (hframe : s.sen.frame = none) (hsusp : s.sen.txSusp = false)
    (hprot : s.sen.prot.testBit 3 = false) (hretry : s.sen.retryAt = none) (hsupply : s.rail.aux = true ∨ 2 ≤ s.sen.band) :
    s.alertBarred = false := by
  have hon : (s.rail.aux || decide (2 ≤ s.sen.band)) = true := by simpa using hsupply
  simp [State.alertBarred, halive, hframe, hsusp, hprot, hretry, hon]

/-- ALERT_FRAME_START (R442). -/
theorem alertStart_starts {s : State} {i : Nat} {b : List Byte} {l : List (Nat × List Byte)}
    (hpend : s.alertsPending = (i, b) :: l) (hfree : s.alertBarred = false) (hframe : s.sen.frame = none) :
    let t := s.alertStart
    (s.rail.aux = true ∨ 3700 ≤ s.sen.vcell →
      t.sen.frame = some { entry := i, start := s.now, bytes := s.alertBytes i b } ∧ t.sen.refused = false) ∧
    (¬ (s.rail.aux = true ∨ 3700 ≤ s.sen.vcell) → s.sen.refused = false →
      t.sen.frame = none ∧ t.sen.refused = true ∧ t.sen.defer = satInc 8 s.sen.defer 1) ∧
    t = { s with sen := t.sen } := by
  dsimp only
  refine ⟨fun hup => ?_, fun hlow hfirst => ?_, alertStart_eq s⟩
  · rw [alertStart_tries hpend hfree, if_pos hup]
    exact ⟨rfl, rfl⟩
  · rw [alertStart_tries hpend hfree, if_neg hlow, hfirst, if_neg Bool.false_ne_true]
    exact ⟨hframe, rfl, rfl⟩

/-! ## The end of a frame -/

/-- The entries that waited for the end of the frame are written. -/
def State.senWrites (s : State) (w : List (Nat × Nat × Nat × Nat × Nat)) : State :=
  w.foldl (fun s e => s.senWrite e.1 e.2.1 e.2.2.1 e.2.2.2.1 e.2.2.2.2) s

theorem senFlush_writes (s : State) :
    s.senFlush = ((s.modSen fun q => { q with waiting := [] }).senWrites s.sen.waiting).alertStart := rfl

theorem senWrites_keeps (s : State) (w : List (Nat × Nat × Nat × Nat × Nat)) :
    let t := s.senWrites w
    t.sen.alarm = s.sen.alarm ∧ t.clock = s.clock ∧ (∀ m, FlagsStand m s.ev.irq → FlagsStand m t.ev.irq) := by
  induction w generalizing s with
  | nil => exact ⟨rfl, rfl, fun _ h => h⟩
  | cons e w ih =>
    obtain ⟨-, halarm, -, hframe, hflags⟩ := senWrite_keeps s e.1 e.2.1 e.2.2.1 e.2.2.2.1 e.2.2.2.2
    obtain ⟨ialarm, iclock, iflags⟩ := ih (s.senWrite e.1 e.2.1 e.2.2.1 e.2.2.2.1 e.2.2.2.2)
    exact ⟨ialarm.trans halarm, iclock.trans ((congrArg State.clock hframe).trans rfl), fun m h => iflags m (hflags m h)⟩

theorem waiting_of_alarm {p q : Sentinel} (h : p.alarm = q.alarm) : p.waiting = q.waiting := congrArg (fun x => x.2.2.2.2.2) h

theorem aborts_of_alarm {p q : Sentinel} (h : p.alarm = q.alarm) : p.aborts = q.aborts := congrArg (fun x => x.2.2.1) h

theorem retryAt_of_alarm {p q : Sentinel} (h : p.alarm = q.alarm) : p.retryAt = q.retryAt := congrArg (fun x => x.2.2.2.1) h

theorem alertStart_clock (s : State) : s.alertStart.clock = s.clock := (congrArg State.clock (alertStart_eq s)).trans rfl

theorem alertStart_ev (s : State) : s.alertStart.ev = s.ev := (congrArg State.ev (alertStart_eq s)).trans rfl

theorem senFlush_keeps (s : State) :
    s.senFlush.clock = s.clock ∧ s.senFlush.sen.aborts = s.sen.aborts ∧ s.senFlush.sen.waiting = [] := by
  rw [senFlush_writes]
  obtain ⟨halarm, hclock, -⟩ := senWrites_keeps (s.modSen fun q => { q with waiting := [] }) s.sen.waiting
  refine ⟨(alertStart_clock _).trans hclock, ?_, ?_⟩
  · exact (alertStart_keeps _).2.2.2.trans ((aborts_of_alarm halarm).trans rfl)
  · exact (alertStart_keeps _).2.1.trans (waiting_of_alarm halarm)

/-- While a retry is still to come the entries that waited are written and no frame starts. -/
theorem senFlush_barred {s : State} {a : Nat} (ha : s.sen.retryAt = some a) (hnow : s.now < a) :
    s.senFlush.sen.alarm = { s.sen with waiting := [] }.alarm ∧ s.senFlush.clock = s.clock ∧
    (∀ m, FlagsStand m s.ev.irq → FlagsStand m s.senFlush.ev.irq) := by
  obtain ⟨halarm, hclock, hflags⟩ := senWrites_keeps (s.modSen fun q => { q with waiting := [] }) s.sen.waiting
  rw [senFlush_writes, alertStart_barred (t := a)]
  · exact ⟨halarm, hclock, hflags⟩
  · exact (retryAt_of_alarm halarm).trans ha
  · exact (congrArg Clock.mono hclock).trans_lt hnow

/-- And no more does an entry made then start one. -/
theorem senEntry_barred {s : State} {a : Nat} (type subject detail : Nat) (hframe : s.sen.frame = none)
    (ha : s.sen.retryAt = some a) (hnow : s.now < a) :
    let t := s.senEntry type subject detail
    t.sen.alarm = s.sen.alarm ∧ t.clock = s.clock ∧ (∀ m, FlagsStand m s.ev.irq → FlagsStand m t.ev.irq) := by
  obtain ⟨-, halarm, -, hrest, hflags⟩ := senWrite_keeps s type subject detail s.senNs (senFlags s.sen.syncd false)
  have hclock : (s.senWrite type subject detail s.senNs (senFlags s.sen.syncd false)).clock = s.clock :=
    (congrArg State.clock hrest).trans rfl
  have hnone : ¬ s.sen.frame.isSome = true := by simp [hframe]
  dsimp only
  unfold State.senEntry State.senEntryAt
  dsimp only
  rw [if_neg hnone, senCommit_write, alertStart_barred ((retryAt_of_alarm halarm).trans ha)
    ((congrArg Clock.mono hclock).trans_lt hnow)]
  exact ⟨halarm, hclock, hflags⟩

theorem keys_mark (q : Sentinel) (i m : Nat) : (q.mark i m).log.map (fun p => p.1) = q.log.map fun p => p.1 := by
  rw [Sentinel.mark, List.map_map]
  refine List.map_congr_left fun p _ => ?_
  dsimp only [Function.comp]
  split <;> rfl

theorem entry_mark {q : Sentinel} {i : Nat} {b : List Byte} (m : Nat) (h : q.entry i = some b) :
    (q.mark i m).entry i = some (clearMark m b) := by
  have hkeys : ((fun p : Nat × List Byte => p.1 == i) ∘ fun p => if p.1 == i then (p.1, clearMark m p.2) else p) =
      fun p => p.1 == i := by
    funext p
    dsimp only [Function.comp]
    split <;> rfl
  obtain ⟨p, hfind, rfl⟩ := Option.map_eq_some_iff.mp h
  have hp := List.find?_some hfind
  rw [Sentinel.entry, Sentinel.mark, List.find?_map, hkeys, hfind, Option.map_some, Option.map_some, if_pos hp]

/-- With nothing waiting the next frame is tried at once. -/
theorem senFlush_empty {s : State} (h : s.sen.waiting = []) :
    s.senFlush = (s.modSen fun q => { q with waiting := [] }).alertStart := by
  rw [senFlush_writes, h]
  rfl

theorem advance_log (s : State) (a : Nat) :
    (s.advance a).sen.log = s.sen.log ∧ (s.advance a).sen.alarm = s.sen.alarm ∧ (s.advance a).ev = s.ev := by
  refine ⟨?_, ?_, rfl⟩ <;> (simp only [State.advance]; split <;> rfl)

/-- A frame has left at a time, and its entry is marked. -/
def State.alertSent (s : State) (f : AlertFrame) (a : Nat) : State :=
  ((s.advance a).modSen fun q => { (q.mark f.entry 2) with frame := none, aborts := 0 }).sendAll (f.bytes.map Out.alert)

theorem alertSent_keeps (s : State) (f : AlertFrame) (a : Nat) :
    let t := s.alertSent f a
    t.clock = (s.advance a).clock ∧ t.sen.aborts = 0 ∧ t.sen.waiting = s.sen.waiting ∧
    t.sen.log = (s.sen.mark f.entry 2).log ∧ t.ev = { s.ev with out := (f.bytes.map Out.alert).reverse ++ s.ev.out } := by
  obtain ⟨hlog, halarm, -⟩ := advance_log s a
  refine ⟨rfl, rfl, (waiting_of_alarm halarm : (s.advance a).sen.waiting = s.sen.waiting), ?_, rfl⟩
  rw [Sentinel.mark, ← hlog]
  rfl

/-- What the end of a frame gives (R442). -/
theorem alertEnded_gives (s : State) (f : AlertFrame) (a : Nat) :
    let t := (s.alertSent f a).senFlush
    t.clock = (s.advance a).clock ∧ t.sen.aborts = 0 ∧ t.sen.waiting = [] ∧
    (s.sen.waiting = [] → t.ev = { s.ev with out := (f.bytes.map Out.alert).reverse ++ s.ev.out } ∧
      t.sen.log.map (fun p => p.1) = s.sen.log.map (fun p => p.1) ∧
      ∀ b, s.sen.entry f.entry = some b → t.sen.entry f.entry = some (clearMark 2 b)) := by
  obtain ⟨hclock, haborts, hwaiting, hlog, hev⟩ := alertSent_keeps s f a
  obtain ⟨fclock, faborts, fwaiting⟩ := senFlush_keeps (s.alertSent f a)
  refine ⟨fclock.trans hclock, faborts.trans haborts, fwaiting, fun hnone => ?_⟩
  have hflush := senFlush_empty (hwaiting.trans hnone)
  have hmarked : (s.alertSent f a).senFlush.sen.log = (s.sen.mark f.entry 2).log := by
    rw [hflush]
    exact (alertStart_keeps _).2.2.1.trans hlog
  refine ⟨?_, ?_, fun b hb => ?_⟩
  · rw [hflush, alertStart_ev]
    exact hev
  · rw [hmarked, keys_mark]
  · rw [Sentinel.entry, hmarked]
    exact entry_mark 2 hb

theorem alertComplete_ended {s : State} {f : AlertFrame} (h : s.sen.frame = some f) :
    s.alertComplete = (s.alertSent f (f.start + 20 * alertByte)).senFlush := by
  unfold State.alertComplete
  rw [h]
  rfl

/-! ## A frame is aborted -/

/-- The output after a frame aborted at a time, with what has left and the pause until a retry. -/
def State.alertCut (s : State) (f : AlertFrame) (k a pause : Nat) : State :=
  let susp := decide (4 ≤ s.sen.aborts + 1)
  let s1 := s.advance a
  (s1.modSen fun q => { q with
    frame := none, abort := satInc 8 q.abort 1, aborts := if susp then 0 else q.aborts + 1,
    retryAt := some (s1.now + pause), txSusp := q.txSusp || susp }).sendAll ((f.bytes.take k).map Out.alert)

theorem alertCut_keeps (s : State) (f : AlertFrame) (k a pause : Nat) :
    let t := s.alertCut f k a pause
    t.clock = (s.advance a).clock ∧ t.sen.frame = none ∧ t.sen.abort = satInc 8 s.sen.abort 1 ∧
    t.sen.retryAt = some (t.now + pause) ∧ t.sen.txSusp = (s.sen.txSusp || decide (3 ≤ s.sen.aborts)) ∧
    t.sen.aborts = (if 3 ≤ s.sen.aborts then 0 else s.sen.aborts + 1) ∧ t.ev.irq = s.ev.irq ∧ t.senOn = s.senOn := by
  obtain ⟨-, halarm, -⟩ := advance_log s a
  simp only [Sentinel.alarm, Prod.mk.injEq] at halarm
  obtain ⟨-, habort, haborts, -, hsusp, -⟩ := halarm
  have hfour : decide (4 ≤ s.sen.aborts + 1) = decide (3 ≤ s.sen.aborts) := decide_eq_decide.mpr (by omega)
  refine ⟨rfl, rfl, ?_, rfl, ?_, ?_, rfl, rfl⟩
  · rw [← habort]
    rfl
  · rw [← hsusp, ← hfour]
    rfl
  · have hcut : (s.alertCut f k a pause).sen.aborts =
        if decide (4 ≤ s.sen.aborts + 1) = true then 0 else (s.advance a).sen.aborts + 1 := rfl
    rw [hcut, hfour, haborts]
    simp only [decide_eq_true_eq]

/-- The abort is reported, and the suspension it may bring. -/
def State.alertTold (s : State) (f : AlertFrame) (susp : Bool) : State :=
  let s4 := if s.senOn then s.event 0x12 2 f.entry else s
  if susp then (if s4.senOn then s4.event 0x12 3 else s4) else s4

theorem alertAbort_cut {s : State} {f : AlertFrame} (h : s.sen.frame = some f) :
    let k := min 20 ((s.now - f.start) / alertByte + 1)
    let susp := decide (4 ≤ s.sen.aborts + 1)
    let s5 := (s.alertCut f k (f.start + k * alertByte) (ms 60000)).alertTold f susp
    s.alertAbort = if susp then s5.senFlush.senEntry 0xA 0xFF 0xFF else s5.senFlush := by
  unfold State.alertAbort
  rw [h]
  rfl

/-- An event of the sentinel's page, where it can raise events. -/
theorem senTold_keeps (s : State) (n sub : Nat) :
    let t := if s.senOn then s.event 0x12 n sub else s
    t.sen = s.sen ∧ t.clock = s.clock ∧ (∀ m, FlagsStand m s.ev.irq → FlagsStand m t.ev.irq) := by
  dsimp only
  split
  · exact ⟨rfl, rfl, fun _ h => h.event _ _ _ _⟩
  · exact ⟨rfl, rfl, fun _ h => h⟩

theorem alertTold_keeps (s : State) (f : AlertFrame) (susp : Bool) :
    let t := s.alertTold f susp
    t.sen = s.sen ∧ t.clock = s.clock ∧
    (Map.wf (fun _ => 0#32) s.ev.irq = true → Map.wf (fun _ => 0#32) t.ev.irq = true) ∧
    (s.senOn = true → Map.wf (fun _ => 0#32) s.ev.irq = true →
      ∀ h, h < 4 → bitAt (t.ev.flags h 0x12) 2 = true) := by
  obtain ⟨hsen, hclock, hstand⟩ := senTold_keeps s 2 f.entry
  have hset (hon : s.senOn = true) (hwf : Map.wf (fun _ => 0#32) s.ev.irq = true) (h : Nat) (hh : h < 4) :
      bitAt ((if s.senOn then s.event 0x12 2 f.entry else s).ev.flags h 0x12) 2 = true := by
    rw [if_pos hon]
    exact flags_event hwf (by decide) hh
  dsimp only
  unfold State.alertTold
  generalize (if s.senOn then s.event 0x12 2 f.entry else s) = u at hsen hclock hstand hset ⊢
  obtain ⟨gsen, gclock, gstand⟩ := senTold_keeps u 3 0xFFFF
  cases susp with
  | false => exact ⟨hsen, hclock, fun hwf => (hstand _ (.refl _) hwf).1, hset⟩
  | true =>
    refine ⟨gsen.trans hsen, gclock.trans hclock, fun hwf => (gstand _ (.refl _) (hstand _ (.refl _) hwf).1).1, fun hon hwf h hh => ?_⟩
    obtain ⟨hwfu, -⟩ := hstand _ (.refl _) hwf
    obtain ⟨-, hkeeps⟩ := gstand _ (.refl _) hwfu
    exact hkeeps _ _ (hset hon hwf h hh)

/-- The entries that waited are written after an abort, and the entry of a suspension. -/
theorem alertTold_flush {u : State} {p : Nat} (hnone : u.sen.frame = none) (hretry : u.sen.retryAt = some (u.now + p)) (hp : 0 < p)
    (susp : Bool) :
    let t := if susp then u.senFlush.senEntry 0xA 0xFF 0xFF else u.senFlush
    t.sen.alarm = { u.sen with waiting := [] }.alarm ∧ t.clock = u.clock ∧
    (∀ m, FlagsStand m u.ev.irq → FlagsStand m t.ev.irq) := by
  have hlater : u.now < u.now + p := Nat.lt_add_of_pos_right hp
  obtain ⟨halarm, hclock, hstand⟩ := senFlush_barred hretry hlater
  cases susp with
  | false => exact ⟨halarm, hclock, hstand⟩
  | true =>
    obtain ⟨ealarm, eclock, estand⟩ := senEntry_barred 0xA 0xFF 0xFF ((congrArg Prod.fst halarm).trans hnone)
      ((retryAt_of_alarm halarm).trans hretry) ((congrArg Clock.mono hclock).trans_lt hlater)
    exact ⟨ealarm.trans halarm, eclock.trans hclock, fun m h => estand m (hstand m h)⟩

/-- What an abort with its reports gives. -/
theorem alertCut_gives {s : State} {pause : Nat} (f : AlertFrame) (k a : Nat) (susp : Bool) (hpause : 0 < pause)
    (hirq : Map.wf (fun _ => 0#32) s.ev.irq = true) :
    let u := (s.alertCut f k a pause).alertTold f susp
    let t := if susp then u.senFlush.senEntry 0xA 0xFF 0xFF else u.senFlush
    t.clock = (s.advance a).clock ∧ t.sen.frame = none ∧ t.sen.abort = satInc 8 s.sen.abort 1 ∧
    t.sen.retryAt = some (t.now + pause) ∧ t.sen.txSusp = (s.sen.txSusp || decide (3 ≤ s.sen.aborts)) ∧
    t.sen.aborts = (if 3 ≤ s.sen.aborts then 0 else s.sen.aborts + 1) ∧
    (s.senOn = true → ∀ h, h < 4 → bitAt (t.ev.flags h 0x12) 2 = true) := by
  obtain ⟨cclock, cframe, cabort, cretry, csusp, caborts, cirq, con⟩ := alertCut_keeps s f k a pause
  generalize s.alertCut f k a pause = u at cclock cframe cabort cretry csusp caborts cirq con
  obtain ⟨tsen, tclock, twf, tflags⟩ := alertTold_keeps u f susp
  dsimp only
  generalize u.alertTold f susp = v at tsen tclock twf tflags
  have hnow : v.now = u.now := congrArg Clock.mono tclock
  obtain ⟨halarm, hclock, hstand⟩ := alertTold_flush (u := v) (p := pause) (by rw [tsen]; exact cframe)
    (by rw [tsen, hnow]; exact cretry) hpause susp
  generalize (if susp then v.senFlush.senEntry 0xA 0xFF 0xFF else v.senFlush) = t at halarm hclock hstand
  simp only [Sentinel.alarm, Prod.mk.injEq, tsen] at halarm
  obtain ⟨hframe, habort, haborts, hretry, hsusp, -⟩ := halarm
  have hnow' : t.now = u.now := (congrArg Clock.mono hclock).trans hnow
  rw [hnow']
  refine ⟨hclock.trans (tclock.trans cclock), hframe.trans cframe, habort.trans cabort, hretry.trans cretry, hsusp.trans csusp,
    haborts.trans caborts, fun hon h hh => ?_⟩
  have hwf : Map.wf (fun _ => 0#32) u.ev.irq = true := cirq ▸ hirq
  obtain ⟨-, hkeeps⟩ := hstand _ (.refl _) (twf hwf)
  exact hkeeps _ _ (tflags (con.trans hon) hwf h hh)

theorem ms_pos {n : Nat} (h : 0 < n) : 0 < ms n := Nat.mul_pos (Nat.mul_pos h (by decide)) (by decide)

/-- What an abort gives (R442). -/
theorem alertAbort_gives {s : State} {f : AlertFrame} (hframe : s.sen.frame = some f)
    (hirq : Map.wf (fun _ => 0#32) s.ev.irq = true) :
    let t := s.alertAbort
    t.clock = (s.advance (f.start + min 20 ((s.now - f.start) / alertByte + 1) * alertByte)).clock ∧ t.sen.frame = none ∧
    t.sen.abort = satInc 8 s.sen.abort 1 ∧ t.sen.retryAt = some (t.now + ms 60000) ∧
    t.sen.txSusp = (s.sen.txSusp || decide (3 ≤ s.sen.aborts)) ∧
    t.sen.aborts = (if 3 ≤ s.sen.aborts then 0 else s.sen.aborts + 1) ∧
    (s.senOn = true → ∀ h, h < 4 → bitAt (t.ev.flags h 0x12) 2 = true) := by
  dsimp only
  rw [show s.alertAbort = _ from alertAbort_cut hframe]
  exact alertCut_gives f _ _ _ (ms_pos (by decide)) hirq

/-! ## A frame is tried again -/

/-- The pause after an abort is over: below SEN_TX the output waits for the next rise (R442). -/
def State.alertReady (s : State) (a : Nat) : State :=
  let s1 := (s.advance a).modSen fun q => { q with retryAt := none }
  if s1.rail.aux || decide (3700 ≤ s1.sen.vcell) then s1 else s1.modSen fun q => { q with refused := true }

theorem alertRetry_ready {s : State} {a : Nat} (h : s.sen.retryAt = some a) : s.alertRetry = (s.alertReady a).alertStart := by
  unfold State.alertRetry
  rw [h]
  rfl

/-- Neither what is pending nor what bars a frame rests on the sentinel's clock. -/
theorem advance_sentinel (s : State) (a : Nat) : ∃ rtc cold,
    (s.advance a).sen = { s.sen with rtc := rtc, sinceCold := cold } := by
  simp only [State.advance]
  split
  · exact ⟨_, _, rfl⟩
  · exact ⟨s.sen.rtc, s.sen.sinceCold, rfl⟩

theorem alertStart_retryAt {s : State} (h : s.sen.retryAt = none) : s.alertStart.sen.retryAt = none := by
  unfold State.alertStart
  dsimp only
  split
  · exact h
  · rw [apply_ite (fun x : State => x.sen.retryAt), apply_ite (fun x : State => x.sen.retryAt),
      apply_ite (fun x : State => x.sen.retryAt)]
    simp [State.modSen, h]

/-- Below SEN_TX, once refused, the output stays as it is. -/
theorem alertStart_refused {s : State} (hlow : ¬ (s.rail.aux = true ∨ 3700 ≤ s.sen.vcell)) (href : s.sen.refused = true) :
    s.alertStart = s := by
  unfold State.alertStart
  dsimp only
  split
  · rfl
  · rw [if_neg hlow, href, if_pos rfl, ite_self]

/-- ALERT_RETRY (R442). -/
theorem alertRetry_retries {s : State} {a : Nat} (halive : s.sen.alive = true) (hretry : s.sen.retryAt = some a) :
    let t := s.alertRetry
    t.clock = (s.advance a).clock ∧ t.sen.retryAt = none ∧
    (s.rail.aux = false → s.sen.vcell < 3700 → t.sen.refused = true ∧ t.sen.frame = s.sen.frame) ∧
    (s.rail.aux = true → s.sen.frame = none → s.sen.txSusp = false → s.sen.prot.testBit 3 = false →
      s.alertsPending ≠ [] → t.sen.frame.isSome = true) := by
  obtain ⟨rtc, cold, hsen⟩ := advance_sentinel s a
  obtain ⟨u, hu⟩ : ∃ u, u = s.alertReady a := ⟨_, rfl⟩
  have hclock : u.clock = (s.advance a).clock := by
    rw [hu]
    unfold State.alertReady
    dsimp only
    split <;> rfl
  have hnone : u.sen.retryAt = none := by
    rw [hu]
    unfold State.alertReady
    dsimp only
    split <;> rfl
  dsimp only
  rw [alertRetry_ready hretry, ← hu]
  refine ⟨(alertStart_clock u).trans hclock, alertStart_retryAt hnone, fun haux hlow => ?_, fun haux hframe hsusp hprot hpend => ?_⟩
  · have hwaits : u = ((s.advance a).modSen fun q => { q with retryAt := none }).modSen fun q => { q with refused := true } := by
      have hdown : (s.rail.aux || decide (3700 ≤ (s.advance a).sen.vcell)) = false := by
        rw [haux, hsen, Bool.false_or, decide_eq_false (Nat.not_le.mpr hlow)]
      rw [hu]
      exact if_neg (Bool.eq_false_iff.mp hdown)
    have hrest : u.sen = { s.sen with rtc := rtc, sinceCold := cold, retryAt := none, refused := true } := by
      rw [hwaits]
      simp only [State.modSen, hsen]
    have hrail : u.rail = s.rail := by rw [hwaits]; rfl
    rw [alertStart_refused (by rw [hrail, hrest, haux]; simpa using hlow) (by rw [hrest]), hrest]
    exact ⟨rfl, rfl⟩
  · have hgoes : u = (s.advance a).modSen fun q => { q with retryAt := none } := by
      rw [hu]
      exact if_pos (by simp [State.modSen, State.advance, haux])
    have hrest : u.sen = { s.sen with rtc := rtc, sinceCold := cold, retryAt := none } := by
      rw [hgoes]
      simp only [State.modSen, hsen]
    have hup : u.rail.aux = true := by rw [hgoes]; exact haux
    have hsame : u.alertsPending = s.alertsPending := by
      have hreg : u.reg A.SEN_CFG = s.reg A.SEN_CFG := by rw [hgoes]; rfl
      rw [State.alertsPending, State.alertsPending, Sentinel.committed_, Sentinel.committed_, hrest]
      simp only [State.alerts, hreg]
    obtain ⟨⟨i, b⟩, l, hlist⟩ := List.exists_cons_of_ne_nil hpend
    have hfree : u.alertBarred = false := alertBarred_false (by rw [hrest]; exact halive) (by rw [hrest]; exact hframe)
      (by rw [hrest]; exact hsusp) (by rw [hrest]; exact hprot) hnone (.inl hup)
    obtain ⟨hstarts, -⟩ := alertStart_starts (hsame.trans hlist) hfree (by rw [hrest]; exact hframe)
    rw [(hstarts (.inl hup)).1]
    rfl

end Sys2Proof.Machine

open Sys2Proof Sys2Proof.Machine

/-- Settles O45: a sample reads each input by itself (`senSample_samples`), the confirmation of a reading moves its baseline
(`senConfirm_confirms`), and the alert output follows its own rules (`alertStart_starts`, `alertEnded_gives`,
`alertAbort_gives`, `alertRetry_retries`). -/
theorem sentinelWatchesAndAlerts : Obligations.SentinelWatchesAndAlerts := by
  unfold Obligations.SentinelWatchesAndAlerts
  refine ⟨?sample, ?change, ?start, ?complete, ?abort, ?retry⟩
  case sample =>
    intro s no nc tamp i halive hlen hi
    exact gives_answer (f := fun s => s.senSample no nc tamp) halive (senSample_samples no nc tamp hlen hi)
  case change =>
    intro s i halive hlen hpend hr
    exact gives_answer (f := fun s => s.senConfirm i) (by rw [halive, hpend]; rfl) (senConfirm_confirms hlen hpend hr)
  case start =>
    intro s i b l halive _ hframe hsusp hprot hretry hsupply hpend
    exact gives_answer (f := State.alertStart) halive
      (alertStart_starts hpend (alertBarred_false halive hframe hsusp hprot hretry hsupply) hframe)
  case complete =>
    intro s f halive hframe
    refine gives_answer (f := State.alertComplete) halive ?_
    rw [alertComplete_ended hframe]
    exact alertEnded_gives s f _
  case abort =>
    intro s f hcanon halive haux hframe
    obtain ⟨-, -, -, hirq, -⟩ := hcanon
    exact gives_answer (f := State.alertAbort) (by rw [halive, haux]; rfl) (alertAbort_gives hframe hirq)
  case retry =>
    intro s a halive hretry
    obtain ⟨hclock, hnone, hlow, hgoes⟩ := alertRetry_retries halive hretry
    exact gives_answer (f := State.alertRetry) halive ⟨hclock, hnone, hlow, fun haux _ => hgoes haux⟩

end

section
/-! PROOFS. Posting: what an entry posted, an event and a completion leave of the hardware rings, of ring space and of the pending
flags (R350, R355, R361 to R365). -/

namespace Sys2Proof.Machine

theorem FlagsStand.trans {l m n : List (Nat × Word)} (h : FlagsStand l m) (g : FlagsStand m n) : FlagsStand l n := fun hw => by
  obtain ⟨hwm, hm⟩ := h hw
  obtain ⟨hwn, hn⟩ := g hwm
  exact ⟨hwn, fun k b hb => hn k b (hm k b hb)⟩

/-! ## What posting leaves -/

/-- Of the fabric, posting moves the producer's index of rings; ring space stays canonical, and no flag is cleared. -/
def Fabric.Posted (f g : Fabric) : Prop :=
  g.holding = f.holding ∧ g.rings.length = f.rings.length ∧ (∀ n, g.ring n = { f.ring n with tail := (g.ring n).tail }) ∧
  (Memory.wf f.mem = true → Memory.wf g.mem = true) ∧ FlagsStand f.irq g.irq

theorem Fabric.Posted.holding {f g : Fabric} (h : f.Posted g) : g.holding = f.holding := by
  obtain ⟨hholding, -⟩ := h
  exact hholding

theorem Fabric.Posted.length {f g : Fabric} (h : f.Posted g) : g.rings.length = f.rings.length := by
  obtain ⟨-, hlength, -⟩ := h
  exact hlength

theorem Fabric.Posted.ring {f g : Fabric} (h : f.Posted g) (n : Nat) : g.ring n = { f.ring n with tail := (g.ring n).tail } := by
  obtain ⟨-, -, hring, -⟩ := h
  exact hring n

theorem Fabric.Posted.mem {f g : Fabric} (h : f.Posted g) (hm : Memory.wf f.mem = true) : Memory.wf g.mem = true := by
  obtain ⟨-, -, -, hmem, -⟩ := h
  exact hmem hm

theorem Fabric.Posted.flags {f g : Fabric} (h : f.Posted g) : FlagsStand f.irq g.irq := by
  obtain ⟨-, -, -, -, hflags⟩ := h
  exact hflags

theorem Fabric.Posted.refl (f : Fabric) : f.Posted f := ⟨rfl, rfl, fun _ => rfl, id, .refl _⟩

theorem Fabric.Posted.trans {f g k : Fabric} (h : f.Posted g) (h' : g.Posted k) : f.Posted k := by
  obtain ⟨hholding, hlength, hring, hmem, hflags⟩ := h
  obtain ⟨kholding, klength, kring, kmem, kflags⟩ := h'
  refine ⟨kholding.trans hholding, klength.trans hlength, fun n => ?_, fun hm => kmem (hmem hm), hflags.trans kflags⟩
  have hstep := kring n
  rw [hring n] at hstep
  exact hstep

/-- What changes no ring, no byte of ring space and no flag. -/
theorem Fabric.Posted.of_same {f g : Fabric} (hh : g.holding = f.holding) (hr : g.rings = f.rings) (hm : g.mem = f.mem)
    (hi : g.irq = f.irq) : f.Posted g :=
  ⟨hh, by rw [hr], fun n => by rw [Fabric.ring, hr, Fabric.ring], fun h => by rw [hm]; exact h, by rw [hi]; exact .refl _⟩

theorem Fabric.Posted.foldl {α : Type} {k : Fabric → α → Fabric} (hk : ∀ (f : Fabric) (a : α), f.Posted (k f a)) (l : List α)
    (f : Fabric) : f.Posted (l.foldl k f) := by
  induction l generalizing f with
  | nil => exact .refl f
  | cons a l ih => exact (hk f a).trans (ih _)

theorem Fabric.Posted.ite {c : Bool} {f g k : Fabric} (h : f.Posted g) (h' : f.Posted k) : f.Posted (if c then g else k) := by
  split
  · exact h
  · exact h'

/-! ## Messages, entries and the log -/

theorem msix_posted (f : Fabric) (now h v : Nat) : f.Posted (f.msix now h v) := by
  have hrings : (f.msix now h v).rings = f.rings := by unfold Fabric.msix; dsimp only; (repeat' split) <;> rfl
  have hholding : (f.msix now h v).holding = f.holding := by unfold Fabric.msix; dsimp only; (repeat' split) <;> rfl
  have hmem : (f.msix now h v).mem = f.mem := by unfold Fabric.msix; dsimp only; (repeat' split) <;> rfl
  exact .of_same hholding hrings hmem (msix_irq f now h v)

/-- An entry is written and the producer's index moves. -/
def Fabric.placed (f : Fabric) (n : Nat) (b : List Byte) : Fabric :=
  { f.write ((f.ring n).base + 64 * (f.ring n).tail) (padTo 64 b) with
    rings := setAt { f.ring n with tail := ((f.ring n).tail + 1) % (f.ring n).entries } n f.rings }

theorem produce_placed (s : State) (f : Fabric) (n : Nat) (b : List Byte) :
    f.produce s n b = if (f.ring n).ien then (f.placed n b).msix s.now (s.ringOwner n) n else f.placed n b := rfl

theorem ring_placed_self {f : Fabric} {n : Nat} (b : List Byte) (hn : n < f.rings.length) :
    (f.placed n b).ring n = { f.ring n with tail := ((f.ring n).tail + 1) % (f.ring n).entries } := getD_setAt_self hn

theorem ring_placed_other (f : Fabric) {n m : Nat} (b : List Byte) (hm : m ≠ n) : (f.placed n b).ring m = f.ring m :=
  getD_setAt_other hm

theorem placed_posted (f : Fabric) (n : Nat) (b : List Byte) : f.Posted (f.placed n b) := by
  refine ⟨rfl, length_setAt _ _ _, fun m => ?_, fun hm => memStore_wf hm _ _, .refl _⟩
  by_cases hm : m = n
  · subst hm
    by_cases hlt : m < f.rings.length
    · rw [ring_placed_self b hlt]
    · have hsame : (f.placed m b).ring m = f.ring m := (getD_modAt _ _ _ _ _).trans (if_neg fun h => hlt h.2)
      rw [hsame]
  · rw [ring_placed_other f b hm]

theorem produce_posted (s : State) (f : Fabric) (n : Nat) (b : List Byte) : f.Posted (f.produce s n b) := by
  rw [produce_placed]
  exact .ite ((placed_posted f n b).trans (msix_posted _ _ _ _)) (placed_posted f n b)

theorem logItem_posted (s : State) (f : Fabric) (i : LogItem) : f.Posted (s.logItem f i).1 := by
  unfold State.logItem
  split
  · exact .of_same rfl rfl rfl rfl
  · exact .refl f

theorem postOverflow_posted (s : State) (f : Fabric) (h : Nat) : f.Posted (s.postOverflow f h) := by
  unfold State.postOverflow
  dsimp only
  split
  · exact .refl f
  · split
    · exact .refl f
    · exact ((logItem_posted s f _).trans (produce_posted s _ _ _)).trans (.of_same rfl rfl rfl rfl)

theorem postTo_posted (s : State) (f : Fabric) (h code subject : Nat) (st : Status) (first last count flags : Nat)
    (d : List Byte) : f.Posted (s.postTo f h code subject st first last count flags d) := by
  have hover := postOverflow_posted s f h
  unfold State.postTo
  dsimp only
  split
  · exact .of_same rfl rfl rfl rfl
  · split
    · exact hover
    · split
      · exact hover.trans (.of_same rfl rfl rfl rfl)
      · exact (hover.trans (produce_posted s _ _ _)).trans (.of_same rfl rfl rfl rfl)

theorem meet_posted (s : State) (f : Fabric) (h : Nat) (e : Event) (flag : Bool) : f.Posted (s.meet f h e flag).1 := by
  have hopened (c : Bool) (w : EvWindow) : f.Posted (if c then { f with windows := f.windows ++ [w] } else f) :=
    .ite (.of_same rfl rfl rfl rfl) (.refl f)
  unfold State.meet
  dsimp only
  split
  · exact .of_same rfl rfl rfl rfl
  · split
    · exact (hopened _ _).trans (logItem_posted s _ _)
    · exact (hopened _ _).trans (postTo_posted s _ _ _ _ _ _ _ _ _ _)

theorem closeWindows_posted (s : State) (f : Fabric) (code subject : Nat) : f.Posted (s.closeWindows f code subject) := by
  unfold State.closeWindows
  dsimp only
  refine Fabric.Posted.trans ?_ (.foldl (fun g w => postTo_posted s g _ _ _ _ _ _ _ _ _) _ _)
  split
  · exact .of_same rfl rfl rfl rfl
  · refine Fabric.Posted.trans ?_ (logItem_posted s _ _)
    exact .of_same rfl rfl rfl rfl

theorem closeDue_posted (s : State) (f : Fabric) : f.Posted (s.closeDue f) :=
  .foldl (k := fun (g : Fabric) (w : EvWindow) => s.closeWindows g w.code w.subject)
    (fun g w => closeWindows_posted s g w.code w.subject) f.windows f

theorem followIrq_posted (s : State) (f : Fabric) (h : Nat) : f.Posted (s.followIrq f h) := by
  unfold State.followIrq
  dsimp only
  split
  · exact (msix_posted f _ _ _).trans (.of_same rfl rfl rfl rfl)
  · exact .of_same rfl rfl rfl rfl

theorem followIrqs_posted (s : State) (f : Fabric) : f.Posted (s.followIrqs f) :=
  (((followIrq_posted s f 0).trans (followIrq_posted s _ 1)).trans (followIrq_posted s _ 2)).trans (followIrq_posted s _ 3)

theorem setFlag_posted (f : Fabric) (page bit : Nat) : f.Posted (f.setFlag page bit) := by
  refine ⟨rfl, rfl, fun _ => rfl, id, fun hw => ?_⟩
  obtain ⟨hwf, hkeeps⟩ := foldl_flagIn_keeps (page := page) (bit := bit) [0, 1, 2, 3] hw
  rw [setFlag_irq]
  exact ⟨hwf, fun k b hb => by simpa using hkeeps 0 k b (by simpa using hb)⟩

theorem postHosts_posted (s : State) (f : Fabric) (e : Event) (flag : Bool) : f.Posted (s.postHosts f e flag) := by
  have hgo (g : Fabric) (h : Nat) :
      g.Posted (if e.hosts.testBit h && s.takes g h (classOf e.page) then (s.meet g h e flag).1 else g) :=
    .ite (meet_posted s g h e flag) (.refl g)
  exact (((hgo f 0).trans (hgo _ 1)).trans (hgo _ 2)).trans (hgo _ 3)

/-! ## Events and completions -/

theorem raiseFab_posted (s : State) (e : Event) (settled : Option Bool) : s.ev.Posted (s.raiseFab e settled).1 := by
  have hraised : s.ev.Posted (if e.num < 32 then s.followIrqs ((s.closeDue s.ev).setFlag e.page e.num) else s.closeDue s.ev) := by
    have hdue := closeDue_posted s s.ev
    split
    · exact (hdue.trans (setFlag_posted _ _ _)).trans (followIrqs_posted s _)
    · exact hdue
  unfold State.raiseFab
  dsimp only
  generalize (if e.num < 32 then s.followIrqs ((s.closeDue s.ev).setFlag e.page e.num) else s.closeDue s.ev) = f at hraised ⊢
  have hposted (lg : Fabric × Bool) (hlg : f.Posted lg.1) :
      f.Posted (if e.hosts = 0 then lg else (s.postHosts lg.1 e lg.2, lg.2)).1 := by
    split
    · exact hlg
    · exact hlg.trans (postHosts_posted s _ e _)
  cases settled with
  | some b => exact hraised.trans (hposted (f, b) (.refl f))
  | none =>
    refine hraised.trans (hposted (if s.offered e.code then s.meet f 4 e false else (f, false)) ?_)
    split
    · exact meet_posted s f 4 e false
    · exact .refl f

theorem raiseAs_posted (s : State) (settled : Option Bool) (e : Event) : s.ev.Posted (s.raiseAs settled e).ev := by
  refine (raiseFab_posted s e settled).trans ?_
  simp only [State.raiseAs]
  unfold State.recTag
  split
  · exact .of_same rfl rfl rfl rfl
  · exact .refl _

theorem event_posted (s : State) (page n sub : Nat) (d : List Nat) (st : Status) : s.ev.Posted (s.event page n sub d st).ev :=
  raiseAs_posted s none _

theorem eventTo_posted (s : State) (whom page n sub : Nat) (d : List Nat) : s.ev.Posted (s.eventTo whom page n sub d).ev :=
  raiseAs_posted s none _

theorem spaceWrite_posted (s : State) (h a : Nat) (v : Word) : s.ev.Posted (s.spaceWrite h a v).ev := by
  unfold State.spaceWrite
  split
  · exact event_posted s _ _ _ _ _
  · exact ⟨rfl, rfl, fun _ => rfl, fun hm => memStore_wf hm _ _, .refl _⟩

theorem spaceWrite_frame (s : State) (h a : Nat) (v : Word) : OnlyEvents s (s.spaceWrite h a v) := by
  unfold State.spaceWrite
  split <;> rfl

theorem spaceCopy_cons (s : State) (h a : Nat) (b0 b1 b2 b3 : Byte) (rest : List Byte) :
    s.spaceCopy h a (b0 :: b1 :: b2 :: b3 :: rest) =
      (s.spaceWrite h a (wd (leNat [b0, b1, b2, b3]))).spaceCopy h (a + 4) rest := rfl

theorem OnlyEvents.trans {s t u : State} (h : OnlyEvents s t) (g : OnlyEvents t u) : OnlyEvents s u :=
  Eq.trans g (congrArg (fun x : State => { x with ev := u.ev, reco := u.reco }) h)

/-- What posting a completion changes beside the fabric and the recorder: the commands that have been taken. -/
abbrev OnlyPosted (s t : State) : Prop :=
  t = { s with ev := t.ev, reco := t.reco, hosts := { s.hosts with taken := t.hosts.taken } }

theorem OnlyPosted.trans {s t u : State} (h : OnlyPosted s t) (g : OnlyPosted t u) : OnlyPosted s u :=
  Eq.trans g (congrArg (fun x : State => { x with ev := u.ev, reco := u.reco, hosts := { x.hosts with taken := u.hosts.taken } }) h)

theorem OnlyEvents.onlyPosted {s t : State} (h : OnlyEvents s t) : OnlyPosted s t := by
  have hhosts : t.hosts = s.hosts := (congrArg State.hosts h).trans rfl
  exact Eq.trans h (by rw [hhosts])

/-- Fewer than four bytes are no word. -/
theorem spaceCopy_short {s : State} {h a : Nat} {b : List Byte}
    (hb : ∀ b0 b1 b2 b3 rest, b = b0 :: b1 :: b2 :: b3 :: rest → False) : s.spaceCopy h a b = s :=
  match b, hb with
  | [], _ => rfl
  | [_], _ => rfl
  | [_, _], _ => rfl
  | [_, _, _], _ => rfl
  | _ :: _ :: _ :: _ :: _, hb => (hb _ _ _ _ _ rfl).elim

theorem spaceCopy_posts (s : State) (h a : Nat) (b : List Byte) :
    s.ev.Posted (s.spaceCopy h a b).ev ∧ OnlyEvents s (s.spaceCopy h a b) := by
  induction s, a, b using State.spaceCopy.induct h with
  | case1 s a b0 b1 b2 b3 rest ih =>
    obtain ⟨hposted, hframe⟩ := ih
    rw [spaceCopy_cons]
    exact ⟨(spaceWrite_posted s h a _).trans hposted, (spaceWrite_frame s h a _).trans hframe⟩
  | case2 b s a hshort =>
    rw [spaceCopy_short hshort]
    exact ⟨.refl _, rfl⟩

/-- What LOG_READ copies ahead of its completion. -/
def State.copied (s : State) (t : Taken) : State :=
  match t.copy with | some (a, bytes) => s.spaceCopy t.host a bytes | none => s

theorem copied_posts (s : State) (t : Taken) : s.ev.Posted (s.copied t).ev ∧ OnlyEvents s (s.copied t) := by
  unfold State.copied
  split
  · exact spaceCopy_posts s _ _ _
  · exact ⟨.refl _, rfl⟩

/-- The completion is posted behind what is copied. -/
def State.answered (s : State) (t : Taken) (st : Status) (result : List Byte) : State :=
  { s.copied t with
    ev := Fabric.produce (s.copied t) (s.copied t).ev t.pair ((s.copied t).completion t st result),
    hosts := { (s.copied t).hosts with taken := (s.copied t).hosts.taken.filter fun x => x.ring != t.ring } }

theorem postDone_cases (s : State) (t : Taken) : s.postDone t = s ∨
    ∃ st result, t.done = some (st, result) ∧ s.ev.holding = false ∧ s.cplFree t.pair = true ∧
      s.postDone t = s.answered t st result := by
  unfold State.postDone
  split
  · exact .inl rfl
  · next st result hdone =>
    split
    · exact .inl rfl
    · next hfree =>
      simp only [Bool.or_eq_true, Bool.not_eq_true', not_or, Bool.not_eq_true, Bool.not_eq_false] at hfree
      exact .inr ⟨st, result, hdone, hfree.1, hfree.2, rfl⟩

theorem answered_posts (s : State) (t : Taken) (st : Status) (result : List Byte) :
    s.ev.Posted (s.answered t st result).ev ∧ OnlyPosted s (s.answered t st result) := by
  obtain ⟨hposted, hframe⟩ := copied_posts s t
  refine ⟨hposted.trans (produce_posted (s.copied t) _ _ _), OnlyPosted.trans hframe.onlyPosted ?_⟩
  rfl

theorem postDone_posts (s : State) (t : Taken) : s.ev.Posted (s.postDone t).ev ∧ OnlyPosted s (s.postDone t) := by
  obtain hsame | ⟨st, result, -, -, -, hposts⟩ := postDone_cases s t
  · rw [hsame]
    exact ⟨.refl _, rfl⟩
  · rw [hposts]
    exact answered_posts s t st result

theorem postOwed_posts (s : State) : s.ev.Posted s.postOwed.ev ∧ OnlyPosted s s.postOwed := by
  unfold State.postOwed
  generalize s.hosts.taken = l
  induction l generalizing s with
  | nil => exact ⟨.refl _, rfl⟩
  | cons t l ih =>
    obtain ⟨hposted, hframe⟩ := postDone_posts s t
    obtain ⟨hrest, hrestFrame⟩ := ih (s.postDone t)
    exact ⟨hposted.trans hrest, hframe.trans hrestFrame⟩

end Sys2Proof.Machine

end

section
/-! PROOFS. The registers of the hardware rings: enabling, disabling and the indices of hosts (R352 to R355). -/

namespace Sys2Proof.Machine

/-! ## The words of a ring register -/

theorem fld_or_clear {v c : Word} {lo len : Nat} (h : ∀ i, i < len → c.getLsbD (lo + i) = false) : fld (v ||| c) lo len = fld v lo len := by
  refine Nat.eq_of_testBit_eq fun i => ?_
  simp only [fld, Nat.testBit_mod_two_pow, Nat.testBit_div_two_pow, BitVec.toNat_or, Nat.testBit_or]
  by_cases hi : i < len
  · have hc : c.toNat.testBit (lo + i) = false := h i hi
    rw [Nat.add_comm i lo, hc, Bool.or_false]
  · simp [hi]

theorem fld_and_set {v c : Word} {lo len : Nat} (h : ∀ i, i < len → c.getLsbD (lo + i) = true) : fld (v &&& c) lo len = fld v lo len := by
  refine Nat.eq_of_testBit_eq fun i => ?_
  simp only [fld, Nat.testBit_mod_two_pow, Nat.testBit_div_two_pow, BitVec.toNat_and, Nat.testBit_and]
  by_cases hi : i < len
  · have hc : c.toNat.testBit (lo + i) = true := h i hi
    rw [Nat.add_comm i lo, hc, Bool.and_true]
  · simp [hi]

/-- CFG with EN set, and clear. -/
theorem withCfg_set (r : Ring) (v : Word) : r.withCfg (v ||| 0x40#32) =
    { r with size := fld v 0 4, type := fld v 4 2, en := true, ien := bitAt v 7, pair := fld v 8 6 } := by
  rw [Ring.withCfg, fld_or_clear (by decide), fld_or_clear (by decide), fld_or_clear (by decide)]
  have hen : bitAt (v ||| 0x40#32) 6 = true := by simp [bitAt]
  have hien : bitAt (v ||| 0x40#32) 7 = bitAt v 7 := by simp [bitAt]
  rw [hen, hien]

theorem withCfg_clear (r : Ring) (v : Word) : r.withCfg (v &&& ~~~ 0x40#32) =
    { r with size := fld v 0 4, type := fld v 4 2, en := false, ien := bitAt v 7, pair := fld v 8 6 } := by
  rw [Ring.withCfg, fld_and_set (by decide), fld_and_set (by decide), fld_and_set (by decide)]
  have hen : bitAt (v &&& ~~~ 0x40#32) 6 = false := by simp [bitAt]
  have hien : bitAt (v &&& ~~~ 0x40#32) 7 = bitAt v 7 := by simp [bitAt]
  rw [hen, hien]

/-! ## The write of a ring register -/

theorem rowAt_ring {n k : Nat} (hn : n < 64) (hk : k < 16) (h4 : k % 4 = 0) :
    ∃ r, rowAt (A.QUE_RING_CFG n + k) = some r ∧ r.cls = .rw := by
  have hpage : (A.QUE_RING_CFG n + k) / 0x1000 = 0xD8 := by simp only [A.QUE_RING_CFG]; omega
  have hrows : rowAt (A.QUE_RING_CFG n + k) = rowsQue.find? fun r => r.has (A.QUE_RING_CFG n + k) := by
    rw [rowAt, hpage]
    rfl
  have hcls : ∀ r ∈ rowsQue, r.cls = .rw := by simp [rowsQue]
  have hfound : (rowsQue.find? fun r => r.has (A.QUE_RING_CFG n + k)).isSome = true := by
    rw [List.find?_isSome]
    have hhas {f : Nat} {m : Word} (hf : f = A.QUE_RING_CFG 0 + k) (ok : Word → Bool) :
        ({ first := f, count := 64, stride := 0x10, mask := m, ok := ok } : Row).has (A.QUE_RING_CFG n + k) = true := by
      subst hf
      simp only [Row.has, A.QUE_RING_CFG, Bool.and_eq_true, decide_eq_true_eq]
      omega
    obtain rfl | rfl | rfl | rfl : k = 0 ∨ k = 4 ∨ k = 8 ∨ k = 12 := by omega
    · exact ⟨_, List.mem_iff_getElem?.mpr ⟨5, rfl⟩, hhas rfl _⟩
    · exact ⟨_, List.mem_iff_getElem?.mpr ⟨6, rfl⟩, hhas rfl _⟩
    · exact ⟨_, List.mem_iff_getElem?.mpr ⟨7, rfl⟩, hhas rfl _⟩
    · exact ⟨_, List.mem_iff_getElem?.mpr ⟨8, rfl⟩, hhas rfl _⟩
  obtain ⟨r, hr⟩ := Option.isSome_iff_exists.mp hfound
  exact ⟨r, hrows.trans hr, hcls r (List.mem_of_find?_eq_some hr)⟩

theorem regWrite_ring {s : State} {h n k : Nat} {v : Word} (hn : n < 64) (hk : k < 16) (h4 : k % 4 = 0) :
    s.regWrite h (A.QUE_RING_CFG n + k) v = s.ringWrite h (A.QUE_RING_CFG n + k) v := by
  obtain ⟨r, hr, hcls⟩ := rowAt_ring hn hk h4
  rw [regWrite_rw hr (by rw [hcls]; exact Cls.noConfusion)]
  simp only [State.rwWrite, State.rwHosts, A.QUE_RING_CFG, A.QUE_OWNER]
  rw [if_neg (by omega), if_neg (by omega), if_neg (by omega), if_neg (by omega), if_neg (by omega), if_neg (by omega),
    if_pos (by omega)]

theorem ringReg_at {n k : Nat} (hk : k < 16) : ringReg (A.QUE_RING_CFG n + k) = (n, k) := by
  simp only [ringReg, A.QUE_RING_CFG, Prod.mk.injEq]
  omega

/-- A host's write of a ring register that is not refused. -/
theorem hostPut_ring {s t : State} {h n k : Nat} {v : Word} (hn : n < 64) (hk : k < 16) (h4 : k % 4 = 0)
    (hw : (s.disarm h (pageOf (A.QUE_RING_CFG n + k))).ringWrite h (A.QUE_RING_CFG n + k) v = (t, .ok)) :
    s.hostPut h (A.QUE_RING_CFG n + k) v = t.mended (A.QUE_RING_CFG n + k) := by
  have hpage : (A.QUE_RING_CFG n + k) / 0x1000 = 0xD8 := by simp only [A.QUE_RING_CFG]; omega
  refine hostPut_ok ?_ ?_ (by rw [hpage]; decide) ?_ ((regWrite_ring hn hk h4).trans hw)
  all_goals simp only [A.QUE_RING_CFG]; omega

/-! ## Enabling and disabling -/

theorem ringCommon_clear {s : State} {h n : Nat} (ho : s.ringOwner n = h) (hr : s.ready 22 = true) (hw : s.wiping = false) :
    ∀ p ∈ s.ringCommon h n, p.1 = false := by
  simp [State.ringCommon, ho, hr, hw]

theorem hw_modHwRing_self {s : State} {n : Nat} (f : Ring → Ring) (hn : n < s.ev.rings.length) :
    (s.modHwRing n f).hw n = f (s.hw n) := (getD_modAt f n n _ _).trans (if_pos ⟨rfl, hn⟩)

theorem hw_modHwRing_other (s : State) {n m : Nat} (f : Ring → Ring) (hm : m ≠ n) : (s.modHwRing n f).hw m = s.hw m :=
  (getD_modAt f n m _ _).trans (if_neg fun h => hm h.1)

/-- What an enable leaves before entries that wait are posted. -/
def State.ringStarted (s : State) (n : Nat) (v : Word) : State :=
  s.modHwRing n fun r => { r.withCfg v with head := 0, tail := 0 }

/-- Entries that wait for the ring are posted. -/
def State.ringServed (s : State) (h type : Nat) : State :=
  if type = 1 then s.postOwed else if type = 2 then { s with ev := s.postOverflow s.ev h } else s

theorem ringServed_posted (s : State) (h type : Nat) : s.ev.Posted (s.ringServed h type).ev := by
  unfold State.ringServed
  split
  · exact (postOwed_posts s).1
  · split
    · exact postOverflow_posted s s.ev h
    · exact .refl _

/-- What a write of CFG is checked for (R354). -/
def State.cfgChecks (s : State) (h n : Nat) (q : Ring) : List (Bool × Status) :=
  let r := s.hw n
  [(decide (10 < q.size), Status.badArg)] ++ s.ringCommon h n ++ (if q.en && !r.en then s.enableChecks n q else []) ++
    [(r.en && (q.size != r.size || q.type != r.type || q.pair != r.pair), Status.busy),
     (r.en && !q.en && r.type == 1 && s.ringPaired n, Status.busy)]

theorem ringCfg_ok {s : State} {h n : Nat} {v : Word} (hok : firstOf (s.cfgChecks h n ((s.hw n).withCfg v)) = .ok) :
    s.ringCfg h n v =
      (let r := s.hw n
       let q := r.withCfg v
       let s1 := s.modHwRing n fun r => { r.withCfg v with
         head := if q.en && !(s.hw n).en then 0 else r.head, tail := if q.en && !(s.hw n).en then 0 else r.tail }
       if q.en && !r.en then (s1.ringServed h q.type, .ok)
       else if (r.en && !q.en) ∧ r.type = 3 then (s1.recAbandon h, .ok) else (s1, .ok)) := by
  unfold State.ringCfg
  exact (if_neg fun hne => hne hok).trans rfl

theorem ringCfg_starts {s : State} {h n : Nat} {v : Word} (hoff : (s.hw n).en = false)
    (hon : ((s.hw n).withCfg v).en = true) (hsize : ((s.hw n).withCfg v).size ≤ 10) (hc : ∀ p ∈ s.ringCommon h n, p.1 = false)
    (hchecks : ∀ p ∈ s.enableChecks n ((s.hw n).withCfg v), p.1 = false) :
    s.ringCfg h n v = ((s.ringStarted n v).ringServed h ((s.hw n).withCfg v).type, .ok) := by
  rw [ringCfg_ok]
  · simp only [hon, hoff]
    rfl
  · refine firstOf_ok fun p hp => ?_
    simp only [State.cfgChecks, hon, hoff] at hp
    rw [if_pos (by rfl)] at hp
    simp only [List.mem_append, List.mem_cons, List.not_mem_nil, or_false] at hp
    obtain ((rfl | hp) | hp) | rfl | rfl := hp
    · exact decide_eq_false (by omega)
    · exact hc p hp
    · exact hchecks p hp
    · rfl
    · rfl

theorem ringCfg_stops {s : State} {h n : Nat} {v : Word} (hon : (s.hw n).en = true)
    (hoff : ((s.hw n).withCfg v).en = false) (hlow : (s.hw n).size ≤ 10) (hc : ∀ p ∈ s.ringCommon h n, p.1 = false)
    (hsize : ((s.hw n).withCfg v).size = (s.hw n).size) (htype : ((s.hw n).withCfg v).type = (s.hw n).type)
    (hpair : ((s.hw n).withCfg v).pair = (s.hw n).pair) (hpaired : (s.hw n).type = 1 → s.ringPaired n = false) :
    s.ringCfg h n v = (let s1 := s.modHwRing n fun r => r.withCfg v
      if (s.hw n).type = 3 then s1.recAbandon h else s1, .ok) := by
  rw [ringCfg_ok]
  · simp only [hon, hoff]
    by_cases ht : (s.hw n).type = 3
    · simp only [ht]
      rfl
    · simp only [ht]
      rfl
  · refine firstOf_ok fun p hp => ?_
    simp only [State.cfgChecks, hsize, htype, hpair, hon, hoff] at hp
    rw [if_neg (by decide)] at hp
    simp only [List.mem_append, List.mem_cons, List.not_mem_nil, or_false] at hp
    obtain (rfl | hp) | rfl | rfl := hp
    · exact decide_eq_false (by omega)
    · exact hc p hp
    · simp
    · by_cases ht : (s.hw n).type = 1
      · simp [hpaired ht]
      · simp [ht]

/-! ## The indices of hosts -/

theorem ringIndex_head {s : State} {h n : Nat} {v : Word} (hon : (s.hw n).en = true) (htype : (s.hw n).type ≠ 0)
    (hfits : fld v 0 16 < (s.hw n).entries) (hc : ∀ p ∈ s.ringCommon h n, p.1 = false)
    (hdist : (fld v 0 16 + 2 * (s.hw n).entries - (s.hw n).head) % (s.hw n).entries ≤
      ((s.hw n).tail + 2 * (s.hw n).entries - (s.hw n).head) % (s.hw n).entries) :
    s.ringIndex h n true v = ((s.modHwRing n fun r => { r with head := fld v 0 16 }).ringServed h (s.hw n).type, .ok) := by
  have hok : firstOf ([(!((s.hw n).type != 0), Status.badArg),
      ((s.hw n).en && ((s.hw n).type != 0) && !(decide (fld v 0 16 < (s.hw n).entries) &&
        decide ((fld v 0 16 + 2 * (s.hw n).entries - (s.hw n).head) % (s.hw n).entries ≤
          ((s.hw n).tail + 2 * (s.hw n).entries - (s.hw n).head) % (s.hw n).entries)), Status.badArg)] ++ s.ringCommon h n ++
      [(!(s.hw n).en, Status.notReady)]) = .ok := by
    refine firstOf_ok fun p hp => ?_
    simp only [List.mem_append, List.mem_cons, List.not_mem_nil, or_false] at hp
    obtain ((rfl | rfl) | hp) | rfl := hp
    · simpa using htype
    · simp [hfits, hdist]
    · exact hc p hp
    · simp [hon]
  unfold State.ringIndex
  exact (if_pos hok).trans rfl

theorem ringIndex_tail {s : State} {h n : Nat} {v : Word} (hon : (s.hw n).en = true) (htype : (s.hw n).type = 0)
    (hfits : fld v 0 16 < (s.hw n).entries) (hc : ∀ p ∈ s.ringCommon h n, p.1 = false)
    (hdist : (fld v 0 16 + 2 * (s.hw n).entries - (s.hw n).tail) % (s.hw n).entries ≤
      ((s.hw n).head + (s.hw n).entries - 1 + 2 * (s.hw n).entries - (s.hw n).tail) % (s.hw n).entries) :
    s.ringIndex h n false v = (s.modHwRing n fun r => { r with tail := fld v 0 16 }, .ok) := by
  have hok : firstOf ([(!((s.hw n).type == 0), Status.badArg),
      ((s.hw n).en && ((s.hw n).type == 0) && !(decide (fld v 0 16 < (s.hw n).entries) &&
        decide ((fld v 0 16 + 2 * (s.hw n).entries - (s.hw n).tail) % (s.hw n).entries ≤
          ((s.hw n).head + (s.hw n).entries - 1 + 2 * (s.hw n).entries - (s.hw n).tail) % (s.hw n).entries)), Status.badArg)] ++
      s.ringCommon h n ++ [(!(s.hw n).en, Status.notReady)]) = .ok := by
    refine firstOf_ok fun p hp => ?_
    simp only [List.mem_append, List.mem_cons, List.not_mem_nil, or_false] at hp
    obtain ((rfl | rfl) | hp) | rfl := hp
    · simp [htype]
    · simp [hfits, hdist]
    · exact hc p hp
    · simp [hon]
  unfold State.ringIndex
  exact (if_pos hok).trans rfl

/-! ## Records abandoned -/

/-- Records abandoned for a host are events; no ring but a producer's index moves. -/
theorem recAbandon_posts (s : State) (h : Nat) : s.ev.Posted (s.recAbandon h).ev ∧ OnlyEvents s (s.recAbandon h) := by
  unfold State.recAbandon
  dsimp only
  generalize s.reco.held.filter (fun c => c.hosts.any fun d => d.host == h) = l
  induction l generalizing s with
  | nil => exact ⟨.refl _, rfl⟩
  | cons c l ih =>
    obtain ⟨hrest, hrestFrame⟩ := ih ((s.modReco fun r => r.doneFor c.no h).event 0xF0 2 h [c.no % 65536])
    refine ⟨(event_posted (s.modReco fun r => r.doneFor c.no h) 0xF0 2 h [c.no % 65536] .ok).trans hrest, ?_⟩
    exact OnlyEvents.trans (t := (s.modReco fun r => r.doneFor c.no h).event 0xF0 2 h [c.no % 65536]) rfl hrestFrame

/-! ## The commands -/

theorem ringWrite_cfg (s : State) (h n : Nat) (v : Word) : s.ringWrite h (A.QUE_RING_CFG n + 0) v = s.ringCfg h n v := by
  rw [State.ringWrite, ringReg_at (by decide)]
  rfl

theorem ringWrite_head (s : State) (h n : Nat) (v : Word) : s.ringWrite h (A.QUE_RING_CFG n + 8) v = s.ringIndex h n true v := by
  rw [State.ringWrite, ringReg_at (by decide)]
  rfl

theorem ringWrite_tail (s : State) (h n : Nat) (v : Word) : s.ringWrite h (A.QUE_RING_CFG n + 12) v = s.ringIndex h n false v := by
  rw [State.ringWrite, ringReg_at (by decide)]
  rfl

theorem hw_mended (s : State) (o n : Nat) : (s.mended o).hw n = s.hw n := by simp only [State.hw, State.mended_ev]

theorem hw_of_posted {f : Fabric} {s : State} (h : f.Posted s.ev) (n : Nat) : s.hw n = { f.ring n with tail := (s.hw n).tail } :=
  h.ring n

/-- RING_ENABLE (R354). -/
theorem hostPut_enable {s : State} {h n : Nat} {v : Word} (hn : n < 64) (hlen : s.ev.rings.length = 64)
    (hc : ∀ p ∈ s.ringCommon h n, p.1 = false) (hoff : (s.hw n).en = false) (hsize : fld v 0 4 ≤ 10)
    (hchecks : ∀ p ∈ s.enableChecks n ((s.hw n).withCfg (v ||| 0x40#32)), p.1 = false) :
    let t := s.hostPut h (A.QUE_RING_CFG n) (v ||| 0x40#32)
    t.hw n = { s.hw n with size := fld v 0 4, type := fld v 4 2, en := true, ien := bitAt v 7, pair := fld v 8 6, head := 0,
                           tail := (t.hw n).tail } ∧
    (fld v 4 2 = 0 → (t.hw n).tail = 0) := by
  have hcfg := withCfg_set (s.hw n) v
  have hput := hostPut_ring (s := s) (h := h) (k := 0) hn (by decide) (by decide)
    ((ringWrite_cfg _ h n _).trans (ringCfg_starts (s := s.disarm h _) hoff (by rw [show (s.disarm h _).hw n = s.hw n from rfl, hcfg])
      (by rw [show (s.disarm h _).hw n = s.hw n from rfl, hcfg]; exact hsize) hc hchecks))
  have htype : (((s.disarm h (pageOf (A.QUE_RING_CFG n + 0))).hw n).withCfg (v ||| 0x40#32)).type = fld v 4 2 :=
    congrArg Ring.type hcfg
  have hstarted : ((s.disarm h (pageOf (A.QUE_RING_CFG n + 0))).ringStarted n (v ||| 0x40#32)).hw n =
      { s.hw n with size := fld v 0 4, type := fld v 4 2, en := true, ien := bitAt v 7, pair := fld v 8 6, head := 0, tail := 0 } :=
    (hw_modHwRing_self _ (by rw [State.disarm, hlen]; exact hn)).trans (congrArg (fun r : Ring => { r with head := 0, tail := 0 }) hcfg)
  rw [htype] at hput
  dsimp only
  rw [show s.hostPut h (A.QUE_RING_CFG n) (v ||| 0x40#32) = _ from hput, hw_mended]
  generalize (s.disarm h (pageOf (A.QUE_RING_CFG n + 0))).ringStarted n (v ||| 0x40#32) = u at hstarted ⊢
  refine ⟨?_, fun hzero => ?_⟩
  · have hring := hw_of_posted (ringServed_posted u h (fld v 4 2)) n
    rw [show u.ev.ring n = u.hw n from rfl, hstarted] at hring
    exact hring
  · rw [hzero, State.ringServed, if_neg (by decide), if_neg (by decide), hstarted]

/-- RING_DISABLE (R354). -/
theorem hostPut_disable {s : State} {h n : Nat} {v : Word} (hn : n < 64) (hlen : s.ev.rings.length = 64)
    (hc : ∀ p ∈ s.ringCommon h n, p.1 = false) (hon : (s.hw n).en = true) (hsize : (s.hw n).size = fld v 0 4)
    (hlow : (s.hw n).size ≤ 10) (htype : (s.hw n).type = fld v 4 2) (hpair : (s.hw n).pair = fld v 8 6)
    (hpaired : (s.hw n).type = 1 → s.ringPaired n = false) :
    let t := s.hostPut h (A.QUE_RING_CFG n) (v &&& ~~~ 0x40#32)
    (t.hw n).en = false ∧ (t.hw n).base = (s.hw n).base ∧
    ((s.hw n).type ≠ 3 → (∀ m, m ≠ n → t.hw m = s.hw m) ∧
      t = { s with ev := { s.ev with rings := t.ev.rings }, hosts := t.hosts, mem := t.mem }) := by
  have hcfg := withCfg_clear (s.hw n) v
  obtain ⟨u, hu⟩ : ∃ u, u = s.disarm h (pageOf (A.QUE_RING_CFG n + 0)) := ⟨_, rfl⟩
  have hhw : u.hw = s.hw := by rw [hu]; rfl
  have hput := hostPut_ring (s := s) (h := h) (k := 0) hn (by decide) (by decide)
    ((ringWrite_cfg _ h n (v &&& ~~~ 0x40#32)).trans (ringCfg_stops (s := s.disarm h _) hon
      (by rw [← hu, hhw, hcfg]) hlow hc (by rw [← hu, hhw, hcfg]; exact hsize.symm) (by rw [← hu, hhw, hcfg]; exact htype.symm)
      (by rw [← hu, hhw, hcfg]; exact hpair.symm) hpaired))
  dsimp only at hput ⊢
  rw [show s.hostPut h (A.QUE_RING_CFG n) (v &&& ~~~ 0x40#32) = _ from hput, hw_mended, ← hu, hhw]
  have hself : (u.modHwRing n fun r => r.withCfg (v &&& ~~~ 0x40#32)).hw n = (s.hw n).withCfg (v &&& ~~~ 0x40#32) := by
    rw [hw_modHwRing_self _ (by rw [hu, State.disarm, hlen]; exact hn), hhw]
  by_cases hrec : (s.hw n).type = 3
  · rw [if_pos hrec]
    have hring := hw_of_posted (recAbandon_posts (u.modHwRing n fun r => r.withCfg (v &&& ~~~ 0x40#32)) h).1 n
    rw [show Fabric.ring _ n = (u.modHwRing n fun r => r.withCfg (v &&& ~~~ 0x40#32)).hw n from rfl, hself, hcfg] at hring
    rw [hring]
    exact ⟨rfl, rfl, fun hne => absurd hrec hne⟩
  · rw [if_neg hrec, hself, hcfg]
    refine ⟨rfl, rfl, fun _ => ⟨fun m hm => ?_, ?_⟩⟩
    · rw [hw_mended, hw_modHwRing_other _ _ hm, hhw]
    · rw [mended_eq, hu]
      rfl

/-- CMD_DOORBELL (R355). -/
theorem hostPut_doorbell {s : State} {h n : Nat} {v : Word} (hn : n < 64) (hlen : s.ev.rings.length = 64)
    (hc : ∀ p ∈ s.ringCommon h n, p.1 = false) (hon : (s.hw n).en = true) (htype : (s.hw n).type = 0)
    (hfits : fld v 0 16 < (s.hw n).entries)
    (hdist : (fld v 0 16 + 2 * (s.hw n).entries - (s.hw n).tail) % (s.hw n).entries ≤
      ((s.hw n).head + (s.hw n).entries - 1 + 2 * (s.hw n).entries - (s.hw n).tail) % (s.hw n).entries) :
    let t := s.hostPut h (A.QUE_RING_TAIL n) v
    t.hw n = { s.hw n with tail := fld v 0 16 } ∧ (∀ m, m ≠ n → t.hw m = s.hw m) ∧
    t = { s with ev := { s.ev with rings := t.ev.rings }, hosts := t.hosts, mem := t.mem } := by
  have hat : A.QUE_RING_TAIL n = A.QUE_RING_CFG n + 12 := by simp only [A.QUE_RING_TAIL, A.QUE_RING_CFG]; omega
  have hput := hostPut_ring (s := s) (h := h) (k := 12) hn (by decide) (by decide)
    ((ringWrite_tail _ h n v).trans (ringIndex_tail (s := s.disarm h _) hon htype hfits hc hdist))
  dsimp only
  rw [hat, hput]
  refine ⟨?_, fun m hm => ?_, ?_⟩
  · rw [hw_mended, hw_modHwRing_self _ (by rw [State.disarm, hlen]; exact hn)]
    rfl
  · rw [hw_mended, hw_modHwRing_other _ _ hm]
    rfl
  · rw [mended_eq]
    rfl

/-- RING_HEAD_WRITE (R355). -/
theorem hostPut_head {s : State} {h n : Nat} {v : Word} (hn : n < 64) (hlen : s.ev.rings.length = 64)
    (hc : ∀ p ∈ s.ringCommon h n, p.1 = false) (hon : (s.hw n).en = true) (htype : (s.hw n).type ≠ 0)
    (hfits : fld v 0 16 < (s.hw n).entries)
    (hdist : (fld v 0 16 + 2 * (s.hw n).entries - (s.hw n).head) % (s.hw n).entries ≤
      ((s.hw n).tail + 2 * (s.hw n).entries - (s.hw n).head) % (s.hw n).entries) :
    let t := s.hostPut h (A.QUE_RING_HEAD n) v
    (t.hw n).head = fld v 0 16 ∧
    ((s.hw n).type = 3 → t.hw n = { s.hw n with head := fld v 0 16 } ∧ ∀ m, m ≠ n → t.hw m = s.hw m) := by
  have hat : A.QUE_RING_HEAD n = A.QUE_RING_CFG n + 8 := by simp only [A.QUE_RING_HEAD, A.QUE_RING_CFG]; omega
  have hput := hostPut_ring (s := s) (h := h) (k := 8) hn (by decide) (by decide)
    ((ringWrite_head _ h n v).trans (ringIndex_head (s := s.disarm h _) hon htype hfits hc hdist))
  have hself : ((s.disarm h (pageOf (A.QUE_RING_CFG n + 8))).modHwRing n fun r => { r with head := fld v 0 16 }).hw n =
      { s.hw n with head := fld v 0 16 } := hw_modHwRing_self _ (by rw [State.disarm, hlen]; exact hn)
  dsimp only
  rw [hat, hput, hw_mended]
  refine ⟨?_, fun hrec => ⟨?_, fun m hm => ?_⟩⟩
  · have hring := hw_of_posted (ringServed_posted ((s.disarm h (pageOf (A.QUE_RING_CFG n + 8))).modHwRing n fun r =>
      { r with head := fld v 0 16 }) h ((s.disarm h (pageOf (A.QUE_RING_CFG n + 8))).hw n).type) n
    rw [hring]
    exact congrArg Ring.head hself
  · rw [show ((s.disarm h (pageOf (A.QUE_RING_CFG n + 8))).hw n).type = 3 from hrec, State.ringServed, if_neg (by decide),
      if_neg (by decide), hself]
  · rw [show ((s.disarm h (pageOf (A.QUE_RING_CFG n + 8))).hw n).type = 3 from hrec, State.ringServed, if_neg (by decide),
      if_neg (by decide), hw_mended, hw_modHwRing_other _ _ hm]
    rfl

end Sys2Proof.Machine

open Sys2Proof Sys2Proof.Machine

/-- Settles O31: a write of a ring register is the write of that ring's word (`hostPut_ring`), and what is posted then moves only
the producer's index (`Fabric.Posted`). -/
theorem ringsAreDriven : Obligations.RingsAreDriven := by
  unfold Obligations.RingsAreDriven
  refine ⟨?enable, ?disable, ?tail, ?head⟩
  case enable =>
    intro s h n v hlive hh hn hlen howner hready hwiping hoff hsize hchecks
    refine gives_running (f := fun s => s.hostPut h (A.QUE_RING_CFG n) (v ||| 0x40#32)) hlive (by simp [hh, hn]) ?_
    obtain ⟨hring, htail⟩ := hostPut_enable hn hlen (ringCommon_clear howner hready hwiping) hoff hsize hchecks
    refine ⟨?_, ?_, ?_, ?_, ?_, ?_, ?_, htail⟩
    all_goals rw [hring]
  case disable =>
    intro s h n v hlive hh hn hlen howner hready hwiping hon hsize hlow htype hpair hpaired
    exact gives_running (f := fun s => s.hostPut h (A.QUE_RING_CFG n) (v &&& ~~~ 0x40#32)) hlive (by simp [hh, hn])
      (hostPut_disable hn hlen (ringCommon_clear howner hready hwiping) hon hsize hlow htype hpair hpaired)
  case tail =>
    intro s h n v hlive hh hn hlen howner hready hwiping hon htype hfits hdist
    exact gives_running (f := fun s => s.hostPut h (A.QUE_RING_TAIL n) v) hlive (by simp [hh, hn])
      (hostPut_doorbell hn hlen (ringCommon_clear howner hready hwiping) hon htype hfits hdist)
  case head =>
    intro s h n v hlive hh hn hlen howner hready hwiping hon htype hfits hdist
    exact gives_running (f := fun s => s.hostPut h (A.QUE_RING_HEAD n) v) hlive (by simp [hh, hn])
      (hostPut_head hn hlen (ringCommon_clear howner hready hwiping) hon htype hfits hdist)

end
